-- ==== Sys2Proof/Word.lean ====
section
/-! DEFINITION. The word types of the part: the 16-bit word of data space (R6), the byte of a frame (R7). -/

namespace Sys2Proof

/-- The cell's data unit (R6). -/
abbrev Word := BitVec 16

/-- One byte of a frame or of an EMP frame (R7, R358). -/
abbrev Byte := BitVec 8

end Sys2Proof
end

