-- ==== Sys2Proof/Syntax.lean ====
section
/-! DEFINITION. The commands of the block: one constructor of `Instr` per row of spec/opcode_table.json. -/

namespace Sys2Proof

/-- A prefix unit joined to the instruction (R129). -/
inductive Prefix where
  | none
  | imm (k : Word)
  | rep
  deriving DecidableEq, Repr

/-- Which thread issues, under which guard field G (R127), with which prefix (R129). `tid` is the thread's master ID (R20). -/
structure Issue where
  tid : Nat
  guard : BitVec 4
  pfx : Prefix
  deriving DecidableEq, Repr

abbrev WReg := Fin 16
abbrev XReg := Fin 8
abbrev PReg := Fin 8

/-- One EMP command frame (R358), as it follows the EtherType: the raw header words, the payload words present, the tag. The
CODE word is the row's own. `avail` is the number of bytes after the EtherType; `src` and `vlan` are the Ethernet source
address and the 802.1Q tag, `port` the host port's GPN. -/
structure EmpMsg where
  port : Nat
  src : BitVec 48
  vlan : Option Word
  w0 : Word
  session : Word
  seq : BitVec 32
  w5 : Word
  len : Nat
  avail : Nat
  payload : List Word
  tag : BitVec 128
  deriving DecidableEq, Repr

/-- The clock and supply faults of R399 and R405. -/
inductive ClockSource where
  | coreRef | serdesRef | timeClk | pll
  deriving DecidableEq, Repr

/-- The time sources (R35), coded as TIME.STATUS.SOURCE. -/
inductive TimeSource where
  | none | ptp | pps | host
  deriving DecidableEq, Repr

/-- A supply of a die (R500). -/
inductive Supply where
  | core | sram | a0v9 | a1v2 | vddq | io
  deriving DecidableEq, Repr

/-- How a bank or cell test ended, as the march engine or BIST reports it (R424, R432). -/
inductive TestResult where
  | pass
  | retestPass
  | fail (rows : List Nat)
  deriving DecidableEq, Repr

/-- The start-up test result of one die (R458, R459). -/
structure BootResult where
  fwOk : Bool
  dramOk : Bool
  recordOk : Bool
  keeperOk : Bool
  enumOk : Bool
  calDone : Bool
  slotBooted : Bool
  badCells : List Nat
  badUnits : List Nat
  soft : List (Nat × Nat)
  deriving DecidableEq, Repr

/-- An accepted PTP message (R35, R45). -/
structure PtpMsg where
  gpn : Nat
  sync : Bool
  clockClass : Nat
  utcOffset : Option Int
  leap61 : Bool
  leap59 : Bool
  deriving DecidableEq, Repr

/-- One pair-control frame (R474), as it follows EtherType 0x88B6; KIND is the row's own. -/
structure PairMsg where
  gpn : Nat
  src : BitVec 48
  w0 : Word
  pairId : Word
  seq : BitVec 32
  len : Nat
  payload : List Word
  tag : BitVec 128
  deriving DecidableEq, Repr

/-- The commands. -/
inductive Instr where
  -- Jatal-16: arithmetic and logic (R134, R135)
  | add (i : Issue) (d a b : WReg)
  | adc (i : Issue) (d a b : WReg)
  | sub (i : Issue) (d a b : WReg)
  | sbb (i : Issue) (d a b : WReg)
  | and (i : Issue) (d a b : WReg)
  | or (i : Issue) (d a b : WReg)
  | xor (i : Issue) (d a b : WReg)
  | andn (i : Issue) (d a b : WReg)
  | shl (i : Issue) (d a b : WReg)
  | shr (i : Issue) (d a b : WReg)
  | sar (i : Issue) (d a b : WReg)
  | rol (i : Issue) (d a b : WReg)
  | min (i : Issue) (d a b : WReg)
  | max (i : Issue) (d a b : WReg)
  | minu (i : Issue) (d a b : WReg)
  | maxu (i : Issue) (d a b : WReg)
  | mov (i : Issue) (d a : WReg)
  | not (i : Issue) (d a : WReg)
  | neg (i : Issue) (d a : WReg)
  | bswap (i : Issue) (d a : WReg)
  | popc (i : Issue) (d a : WReg)
  | clz (i : Issue) (d a : WReg)
  | ctz (i : Issue) (d a : WReg)
  | addi (i : Issue) (d a : WReg) (imm14 : BitVec 14)
  | andi (i : Issue) (d a : WReg) (imm14 : BitVec 14)
  | ori (i : Issue) (d a : WReg) (imm14 : BitVec 14)
  | xori (i : Issue) (d a : WReg) (imm14 : BitVec 14)
  | movi (i : Issue) (d : WReg) (k : Word)
  | shiShl (i : Issue) (d a : WReg) (amt : BitVec 4)
  | shiShr (i : Issue) (d a : WReg) (amt : BitVec 4)
  | shiSar (i : Issue) (d a : WReg) (amt : BitVec 4)
  | shiRol (i : Issue) (d a : WReg) (amt : BitVec 4)
  -- comparison, predicates, bits (R136 to R138)
  | cmp (i : Issue) (pd : PReg) (a b : WReg) (cond : BitVec 4)
  | cmpi (i : Issue) (pd : PReg) (cond : BitVec 4) (a : WReg) (imm11 : BitVec 11)
  | bfx (i : Issue) (d a : WReg) (pos wm1 : BitVec 4)
  | bfxs (i : Issue) (d a : WReg) (pos wm1 : BitVec 4)
  | bfi (i : Issue) (d a : WReg) (pos wm1 : BitVec 4)
  | extb (i : Issue) (d a : WReg) (pos wm1 : BitVec 4)
  | insb (i : Issue) (d a : WReg) (pos wm1 : BitVec 4)
  -- the reckoner (R139, R140)
  | mul (i : Issue) (d a b : WReg)
  | mulh (i : Issue) (d a b : WReg)
  | mulhu (i : Issue) (d a b : WReg)
  | aclr (i : Issue) (n : Bool) (d a b : WReg) (sh : BitVec 5)
  | macS (i : Issue) (n : Bool) (d a b : WReg) (sh : BitVec 5)
  | macU (i : Issue) (n : Bool) (d a b : WReg) (sh : BitVec 5)
  | ard (i : Issue) (n : Bool) (d a b : WReg) (sh : BitVec 5)
  | ards (i : Issue) (n : Bool) (d a b : WReg) (sh : BitVec 5)
  | awr (i : Issue) (n : Bool) (d a b : WReg) (sh : BitVec 5)
  | macd (i : Issue) (n sgn : Bool) (xa xb : XReg)
  -- predicates (R137)
  | pand (i : Issue) (pd pa pb : PReg) (w : WReg)
  | por (i : Issue) (pd pa pb : PReg) (w : WReg)
  | pxor (i : Issue) (pd pa pb : PReg) (w : WReg)
  | pandn (i : Issue) (pd pa pb : PReg) (w : WReg)
  | pnot (i : Issue) (pd pa pb : PReg) (w : WReg)
  | pset (i : Issue) (pd pa pb : PReg) (w : WReg)
  | movwp (i : Issue) (pd pa pb : PReg) (w : WReg)
  | movpw (i : Issue) (pd pa pb : PReg) (w : WReg)
  | movps (i : Issue) (pd pa pb : PReg) (w : WReg)
  | movsp (i : Issue) (pd pa pb : PReg) (w : WReg)
  -- address registers, loads and stores, stack, strings (R141 to R148)
  | lea (i : Issue) (xd xa : XReg) (k : Word)
  | movxw (i : Issue) (xd xa : XReg) (w : WReg)
  | movwx (i : Issue) (xd xa : XReg) (w : WReg)
  | addxw (i : Issue) (xd xa : XReg) (w : WReg)
  | movx (i : Issue) (xd xa : XReg) (w : WReg)
  | movbc (i : Issue) (xd xa : XReg) (w : WReg)
  | movwbc (i : Issue) (xd xa : XReg) (w : WReg)
  | ld (i : Issue) (d : WReg) (x : XReg) (mode : BitVec 2) (off : BitVec 13)
  | st (i : Issue) (a : WReg) (x : XReg) (mode : BitVec 2) (off : BitVec 13)
  | push (i : Issue) (mask : Word)
  | pop (i : Issue) (mask : Word)
  | movs (i : Issue) (v : WReg) (pd : PReg)
  | cmps (i : Issue) (v : WReg) (pd : PReg)
  | scans (i : Issue) (v : WReg) (pd : PReg)
  | fills (i : Issue) (v : WReg) (pd : PReg)
  -- branches and calls (R145, R146)
  | br (i : Issue) (k : Word)
  | dbnz (i : Issue) (d : WReg) (k : Word)
  | brx (i : Issue) (x : XReg)
  | call (i : Issue) (k : Word)
  | callx (i : Issue) (k : Word)
  | ret (i : Issue) (mask : Word)
  | retx (i : Issue) (mask : Word)
  -- I/O, instruction space, events, system (R150 to R153)
  | inp (i : Issue) (d : WReg) (port : Word)
  | outp (i : Issue) (a : WReg) (port : Word)
  | inr (i : Issue) (d : WReg) (x : XReg)
  | outr (i : Issue) (a : WReg) (x : XReg)
  | ldis (i : Issue) (d : WReg) (x : XReg) (h : Bool)
  | wait (i : Issue) (d : WReg) (mask : Word)
  | signal (i : Issue) (a : WReg) (ev : BitVec 4)
  | nop (i : Issue)
  | brk (i : Issue)
  -- the digest unit (R161 to R163); `cell` is the master ID of the cell's thread 0
  | dgStart (i : Issue) (k : BitVec 4)
  | dgSeed (i : Issue) (a b : WReg)
  | dgW (i : Issue) (a : WReg)
  | dgB (i : Issue) (a : WReg)
  | dgRd (i : Issue) (d : WReg) (k : BitVec 4)
  | dgStat (i : Issue) (d : WReg)
  | dgBusy (i : Issue) (pd : PReg)
  | dgFeed (i : Issue) (x : XReg) (b : WReg)
  | dgKeys (i : Issue) (x : XReg) (b : WReg)
  | dgOpDone (cell : Nat)
  -- the bulk unit (R164 to R166); `comb` is die × 8 + comb
  | bkSrc (i : Issue) (a b : WReg)
  | bkDst (i : Issue) (a b : WReg)
  | bkCopy (i : Issue) (a : WReg)
  | bkFill (i : Issue) (a b : WReg)
  | bkCsum (i : Issue) (a : WReg)
  | bkSumset (i : Issue) (a : WReg)
  | bkRd (i : Issue) (d : WReg)
  | bkStat (i : Issue) (d : WReg)
  | bkBusy (i : Issue) (pd : PReg)
  | bkOpStart (comb : Nat)
  | bkOpDone (comb : Nat)
  -- ports: an IN or OUT of the port that the row names
  | inResult (tid : Nat)
  | ioStageWrite (i : Issue) (a : WReg) (port : Word)
  | timeLatch (i : Issue) (d : WReg)
  | cycLatch (i : Issue) (d : WReg)
  | almArm (i : Issue) (d : WReg)
  | almCancel (i : Issue) (a : WReg)
  | postGo (i : Issue) (d : WReg)
  | thrEnWrite (i : Issue) (a : WReg)
  | verdictSend (i : Issue) (d : WReg)
  | verdictDrop (i : Issue) (d : WReg)
  | verdictRecirc (i : Issue) (d : WReg)
  | verdictDefault (i : Issue) (d : WReg)
  | verdictEnd (i : Issue) (d : WReg)
  | supResume (i : Issue) (a : WReg)
  | supSkip (i : Issue) (a : WReg)
  | supKill (i : Issue) (a : WReg)
  | supReset (i : Issue) (a : WReg)
  | dbgSel (i : Issue) (a : WReg)
  | dbgCmdHalt (i : Issue) (a : WReg)
  | dbgCmdResume (i : Issue) (a : WReg)
  | dbgCmdStep (i : Issue) (a : WReg)
  | dbgCmdReset (i : Issue) (a : WReg)
  | cycleLimit (tid : Nat)
  | supFaultCellReset (cell : Nat)
  | dgClaim (i : Issue) (d : WReg)
  | dgFree (i : Issue) (a : WReg)
  | bkClaim (i : Issue) (d : WReg)
  | bkFree (i : Issue) (a : WReg)
  | lockAcq (i : Issue) (d : WReg) (n : BitVec 12)
  | lockRel (i : Issue) (a : WReg)
  | lockStat (i : Issue) (d : WReg)
  | lockBankOp (die bank : Nat) (firstComb : Nat)
  | evClr (i : Issue) (a : WReg)
  | evLocksub (i : Issue) (a : WReg)
  | evLocksubCancel (i : Issue) (a : WReg)
  | evTimerStart (i : Issue) (a : WReg)
  | evTimerStop (i : Issue) (a : WReg)
  | timerExpire (tid : Nat)
  | stall (cell : Nat) (combTest : Bool)
  -- foragers and tables (R198 to R211)
  | fgLookup (i : Issue) (a : WReg)
  | fgInsert (i : Issue) (a : WReg)
  | fgUpdate (i : Issue) (a : WReg)
  | fgDelete (i : Issue) (a : WReg)
  | fgAdd (i : Issue) (a : WReg)
  | fgGlookup (i : Issue) (a : WReg)
  | foragerResult (tid slot : Nat)
  | tableWrite (die engine : Nat)
  | stampRefresh (die engine : Nat)
  -- learning (R218 to R240)
  | lrnGo (i : Issue) (a : WReg)
  | learnPerform (die : Nat)
  | remoteRecord (die fromDie : Nat)
  | quarantineEnd (die table : Nat) (key : List Word)
  | lrnNotify (die : Nat)
  | learnAssistDeliver (die : Nat)
  | sweepRemove (die engine : Nat)
  -- tally ports and unit (R317 to R319)
  | talCountIn (i : Issue) (a : WReg)
  | talCountDrop (i : Issue) (a : WReg)
  | talPolice (i : Issue) (d : WReg)
  | tallyUpdate (die queue : Nat)
  -- buffers (R271 to R275)
  | bufAlloc (i : Issue) (d : WReg)
  | bufRelease (i : Issue) (d : WReg)
  | bufFree (i : Issue) (d : WReg)
  | bufSend (i : Issue) (d : WReg)
  -- the frame path
  | frameRx (gpn : Nat) (bytes : List Byte) (fcsOk codeErr early : Bool)
  | pauseExpire (die port cls : Nat)
  | pfcWatchdog (die port cls : Nat)
  | pauseRefresh (die port : Nat)
  | parseStart (die port : Nat)
  | parseDone (die pipe : Nat)
  | dispatchEnqueue (die pipe : Nat)
  | combDeal (die comb : Nat)
  | reorderRelease (die dom : Nat)
  | reorderTimeout (die dom : Nat)
  | bridgeFlitRx (die xfer : Nat) (crcOk : Bool) (lane : Nat)
  | bridgeAck (die xfer : Nat)
  | bridgeLinkFail (die far : Nat)
  | queueAdmission (die : Nat)
  | schedulePick (die port : Nat)
  | txComplete (die port : Nat)
  | txUnderrun (die port sent : Nat)
  | copyEngineDone (die : Nat)
  | pcsUpChange (gpn : Nat) (up : Bool)
  | linkLost (gpn : Nat)
  | linkUp (gpn : Nat)
  | holdExpire (gpn : Nat)
  -- the schedule and its actions (R47)
  | schedFire (die : Nat)
  | genCommitFire (die : Nat)
  | commitTimeReached
  | tallyClose (die : Nat)
  | ageTick (die : Nat)
  | auditStart (die : Nat)
  | inspectSlice (die : Nat)
  | pairHeartbeat (die : Nat)
  | recCheckpoint (die : Nat)
  | programAlarm (die : Nat)
  | alarmDeliver (die : Nat)
  -- external time (R34 to R45)
  | ptpMessageRx (m : PtpMsg)
  | ppsEdge (pin : Nat)
  | ppsOut (pin : Nat)
  | sourceTimeout (src : TimeSource)
  | sourceValid (src : TimeSource)
  | xcheck (diff : Int)
  | timeCorrection (offset : Int)
  | stepApply
  | freezeEnd (die : Nat)
  | leapSecond
  | alignFault (die : Nat) (err : Int)
  | alignRecover (die : Nat)
  -- dies, generations, ledger
  | dieHeartbeat (fromDie : Nat)
  | dieLost (die : Nat) (fatal : Bool)
  | slotRetire (slot : Nat)
  | slotClearDone (slot : Nat)
  | retireForced (slot : Nat)
  | digestRecomputeDone (die slot : Nat) (uncorr : Bool)
  | ledgerBatchEmit
  | retainExpire
  -- DRAM and memories
  | dramRequest (die : Nat) (flips retryFlips : Nat)
  | dramRefresh (die channel : Nat)
  | dramAlert (die channel commands : Nat) (again : Bool)
  | rankPowerDown (die channel rank : Nat)
  | patrolScrub (die flips retryFlips : Nat)
  | sramScrub (die unit row word flips : Nat)
  | bankPwrReq (m : EmpMsg) (die unit : Nat) (req : BitVec 2)
  | bankPwrDone (die unit : Nat)
  | wqHistArm (m : EmpMsg) (die queue : Nat)
  -- faults
  | keeperMismatch (die : Nat)
  | keeperRestartDone (die : Nat)
  | illegalState (cell check stage : Nat)
  | clockFault (die : Nat) (src : ClockSource)
  | supplyFault (die : Nat) (supply : Supply) (mV : Nat)
  | thermalRead (die : Nat) (t0 t1 t2 t3 : Int)
  -- inspection
  | sliceDrainDone (die lane : Nat)
  | sliceTestDone (die lane : Nat) (r : TestResult)
  | bankCopyDone (die : Nat)
  | bankTestDone (die : Nat) (r : TestResult)
  | bankReloadDone (die : Nat)
  -- recorder
  | recordForward (die : Nat)
  | recTokenRefill (die code : Nat)
  | flushDone (ok : Bool)
  | stateBlockWrite
  | pfail
  | pfailRise
  -- start and sessions
  | coldReset
  | powerOnStart (results : List BootResult)
  | sessionIdle (index : Nat)
  -- the redundant pair
  | pairHelloSend
  | pairHelloRx (m : PairMsg)
  | pairHeartbeatRx (m : PairMsg)
  | pairCheckpointRx (m : PairMsg)
  | pairDigestRx (m : PairMsg)
  | pairProposeRx (m : PairMsg)
  | pairAckRx (m : PairMsg)
  | pairWithdrawRx (m : PairMsg)
  | pairProbeRx (m : PairMsg)
  | pairProbeAckRx (m : PairMsg)
  | pairDownRx (m : PairMsg)
  | pairHbLoss
  | pairProbeSend
  | pairProbeTimeout
  | pairAckTimeout
  | pairWithdrawSend
  | groupEntryRetry
  -- EMP commands; `m` is the frame, the other operands are fields whose payload layout the manual does not give
  | timeGet (m : EmpMsg)
  | timeSrcSet (m : EmpMsg) (value : BitVec 32)
  | timeSet (m : EmpMsg) (sec : BitVec 48) (ns : BitVec 32)
  | timeUtcSet (m : EmpMsg) (offset : BitVec 16) (leap61 leap59 : Bool)
  | timeSchedSet (m : EmpMsg) (dies : BitVec 8) (index : Nat) (entry : List Word)
  | timeSchedCancel (m : EmpMsg) (dies : BitVec 8) (first count : Nat)
  | timeSchedList (m : EmpMsg) (die : Nat)
  | dbgAttach (m : EmpMsg) (cell : Word)
  | dbgDetach (m : EmpMsg) (cell : Word)
  | dbgHalt (m : EmpMsg) (thread : Word) (freeze : Bool)
  | dbgResume (m : EmpMsg) (thread : Word)
  | dbgStep (m : EmpMsg) (thread : Word)
  | dbgBreakSet (m : EmpMsg) (cell : Word) (watch image : Bool) (addr : Word) (threads : BitVec 8) (rd wr : Bool)
  | dbgBreakClr (m : EmpMsg) (cell : Word) (watch image : Bool) (addr : Word)
  | dbgRegRead (m : EmpMsg) (thread : Word)
  | dbgRegWrite (m : EmpMsg) (thread : Word) (reg : Nat) (value : BitVec 40)
  | dbgMemRead (m : EmpMsg) (thread : Word) (addr : Word) (count : Nat)
  | dbgMemWrite (m : EmpMsg) (thread : Word) (addr : Word) (words : List Word)
  | dbgThreadReset (m : EmpMsg) (thread : Word)
  | tblInfo (m : EmpMsg) (table slot : Nat) (dies : BitVec 8)
  | tblLookup (m : EmpMsg)
  | tblInsert (m : EmpMsg)
  | tblInsertStaged (m : EmpMsg)
  | tblUpdate (m : EmpMsg)
  | tblUpdateStaged (m : EmpMsg)
  | tblDelete (m : EmpMsg)
  | tblDeleteStaged (m : EmpMsg)
  | tblRead (m : EmpMsg) (die table slot cursor count : Nat)
  | tblFlush (m : EmpMsg) (dies : BitVec 8) (table : Nat)
  | tblStats (m : EmpMsg) (dies : BitVec 8) (table : Nat)
  | tblDescStage (m : EmpMsg) (gen : Word) (table : Nat) (desc : List (BitVec 32)) (masks : List Word)
  | tblGroupStage (m : EmpMsg) (gen : Word) (group : Nat) (cfg : BitVec 32) (members : List Word)
  | lrnStats (m : EmpMsg) (dies : BitVec 8) (tenants : List Word)
  | lrnAgeSet (m : EmpMsg) (periodMs passTicks : Nat)
  | lrnFlushPort (m : EmpMsg) (gpn : Nat)
  | lrnNotifySet (m : EmpMsg) (value : Word)
  | lrnGuardStage (m : EmpMsg) (gen : Word) (setId : Nat) (first : Nat) (values : List (BitVec 32))
  | lrnTenantStage (m : EmpMsg) (gen : Word) (first : Nat) (classes : List (BitVec 4))
  | lrnContestList (m : EmpMsg) (die : Nat)
  | lrnContestClear (m : EmpMsg) (dies : BitVec 8) (table : Nat) (key : List Word)
  | genStatus (m : EmpMsg)
  | genOpen (m : EmpMsg)
  | genRegStage (m : EmpMsg) (gen : Word) (setId first : Nat) (values : List (BitVec 32))
  | genGraphStage (m : EmpMsg) (gen : Word) (first : Nat) (records : List (List Word))
  | genProgStage (m : EmpMsg) (gen : Word) (pdom addr : Nat) (units : List (BitVec 32))
  | genConstStage (m : EmpMsg) (gen : Word) (pdom off : Nat) (words : List Word)
  | genSeal (m : EmpMsg) (gen : Word)
  | genCommit (m : EmpMsg) (gen : Word) (sec : BitVec 48) (ns : BitVec 32)
  | genCancel (m : EmpMsg) (gen : Word)
  | genAbort (m : EmpMsg) (gen : Word)
  | genDigestGet (m : EmpMsg) (slot : Nat)
  | genAuditNow (m : EmpMsg) (dies : BitVec 8)
  | genPolicySet (m : EmpMsg) (value : BitVec 32)
  | genRepair (m : EmpMsg) (die source : Nat)
  | bufCarve (m : EmpMsg) (dies : BitVec 8) (counts : List Nat)
  | bufOwnerSet (m : EmpMsg) (dies : BitVec 8) (cls first count pool : Nat) (value : BitVec 32)
  | bufStatus (m : EmpMsg) (dies : BitVec 8) (owners : List Nat)
  | qmQueueSet (m : EmpMsg)
  | qmProfileSet (m : EmpMsg) (die profile : Nat) (value : BitVec 32)
  | qmTgroupSet (m : EmpMsg) (die group : Nat) (value : BitVec 32)
  | qmPortSet (m : EmpMsg) (die port : Nat) (value : BitVec 64)
  | qmMcSet (m : EmpMsg)
  | qmMcGet (m : EmpMsg) (group : Nat)
  | qmFlush (m : EmpMsg) (die first count : Nat)
  | qmQueueGet (m : EmpMsg) (die first count : Nat)
  | qmStats (m : EmpMsg) (dies : BitVec 8)
  | portStatus (m : EmpMsg) (gpns : List Nat)
  | portLinkSet (m : EmpMsg) (gpn : Nat) (value : BitVec 32)
  | portFcSet (m : EmpMsg)
  | portClassSet (m : EmpMsg) (gpn cls : Nat) (value : BitVec 32)
  | portTgSet (m : EmpMsg) (die group : Nat) (value : BitVec 32)
  | portQschedSet (m : EmpMsg) (die first : Nat) (values : List (BitVec 64))
  | portEcnSet (m : EmpMsg) (die profile : Nat) (value : BitVec 64)
  | portMirrorSet (m : EmpMsg) (die session : Nat) (value : BitVec 32)
  | portSampleSet (m : EmpMsg) (die sampler : Nat) (value : BitVec 64)
  | portStats (m : EmpMsg) (gpns queues sessions samplers : List Nat)
  | talCfg (m : EmpMsg) (closeCtl : BitVec 32) (retain : BitVec 64)
  | talStatus (m : EmpMsg) (dies : BitVec 8)
  | talAck (m : EmpMsg) (seq : BitVec 32)
  | talResend (m : EmpMsg) (seq : BitVec 32)
  | talRead (m : EmpMsg) (dies : BitVec 8) (tenant : Word)
  | talPolSet (m : EmpMsg) (first count : Nat) (egress : Bool) (rate burst : Nat) (shares : List Nat)
  | talPolGet (m : EmpMsg) (dies : BitVec 8) (tenant : Word)
  | sesHello (m : EmpMsg)
  | sesOpen (m : EmpMsg)
  | sesClose (m : EmpMsg)
  | sesPing (m : EmpMsg)
  | sesSubscribe (m : EmpMsg)
  | sesList (m : EmpMsg)
  | sesEndOther (m : EmpMsg) (session : Word)
  | sesKeySet (m : EmpMsg) (slot priv : Nat) (wrapped : BitVec 256)
  | sesMgmtSet (m : EmpMsg) (value : BitVec 80)
  | regRead (m : EmpMsg)
  | regWrite (m : EmpMsg)
  | regList (m : EmpMsg) (block first : Nat)
  | claimList (m : EmpMsg)
  | claimSet (m : EmpMsg) (cls index value : Nat)
  | claimFree (m : EmpMsg) (cls index : Nat)
  | claimPolicySet (m : EmpMsg) (value : BitVec 32)
  | claimLockAcq (m : EmpMsg) (die lock : Nat)
  | claimLockRel (m : EmpMsg) (die lock : Nat)
  | claimLockList (m : EmpMsg)
  | mapGet (m : EmpMsg) (rows : List Nat)
  | mapSet (m : EmpMsg)
  | mapDigestGet (m : EmpMsg)
  | mapAuditNow (m : EmpMsg)
  | fltStatus (m : EmpMsg) (dies : BitVec 8)
  | fltThreshSet (m : EmpMsg) (kind : Nat) (value : BitVec 32)
  | fltDieRestore (m : EmpMsg) (die : Nat) (failStep : Nat)
  | inspStatus (m : EmpMsg) (dies : BitVec 8)
  | inspCfgSet (m : EmpMsg) (value : BitVec 32)
  | inspStop (m : EmpMsg) (die : Nat) (combs : BitVec 8) (groups : BitVec 3)
  | inspStart (m : EmpMsg) (die : Nat) (combs : BitVec 8) (groups : BitVec 3)
  | inspMarch (m : EmpMsg) (die unit : Nat) (preserving : Bool) (r : TestResult)
  | inspResult (m : EmpMsg) (die cursor : Nat)
  | inspRepairList (m : EmpMsg) (die : Nat)
  | inspFuse (m : EmpMsg) (die : Nat)
  | inspDram (m : EmpMsg) (die base blocks : Nat) (bad : List Nat)
  | recStatus (m : EmpMsg)
  | recRead (m : EmpMsg) (index count : Nat)
  | recClear (m : EmpMsg)
  | recFlush (m : EmpMsg)
  | recRateSet (m : EmpMsg) (codes : List Word) (rate : Word) (burst : Nat)
  | recRateGet (m : EmpMsg) (dies : BitVec 8) (codes : List Word)
  | recNvRead (m : EmpMsg) (older : Bool) (cursor : Nat)
  | recDieRead (m : EmpMsg) (die : Nat)
  | recCfgSet (m : EmpMsg) (value : BitVec 32)
  | fwStatus (m : EmpMsg)
  | fwLoad (m : EmpMsg) (offset : Nat) (words : List Word)
  | fwVerify (m : EmpMsg)
  | fwActivate (m : EmpMsg)
  | fwResetPackage (m : EmpMsg)
  | fwResetDie (m : EmpMsg)
  | fwResetComb (m : EmpMsg)
  | fwResetCell (m : EmpMsg)
  | fwBcrGet (m : EmpMsg)
  | fwBcrSet (m : EmpMsg) (record : List Word)
  | fwUnclaim (m : EmpMsg)
  | pairStatus (m : EmpMsg)
  | pairSet (m : EmpMsg) (portA portB : Nat) (secondary : Bool) (pairId : Word) (table : Nat) (wrapped : BitVec 256)
  | pairLeave (m : EmpMsg)
  | pairTakeover (m : EmpMsg)
  | pairGroupSet (m : EmpMsg) (first : Nat) (gpns : List (Option Nat))
  | pairGroupList (m : EmpMsg)
  | lanePortSet (m : EmpMsg)
  | laneStatus (m : EmpMsg) (gpns : List Nat)
  | laneTuneSet (m : EmpMsg) (die : Nat) (lanes : List Nat) (taps : List Int)
  | lanePrbs (m : EmpMsg) (gpn : Nat)
  -- JTAG
  | jtagExtest (shift : List Bool)
  | jtagIdcode
  | jtagSamplePreload (shift : List Bool)
  | jtagClamp
  | jtagHighz
  | jtagBypass (code : Byte)
  | keyClaim (key : BitVec 256) (crc : Word)
  | keyErase (bit : Bool)
  | recDump (die : BitVec 3)
  | warmReset (bit : Bool)
  -- added rows
  | slewDone
  | timeAlignError (die : Nat) (err : Int)
  | threadResetDone (tid : Nat)
  | pfcWatchdogEnd (die port cls : Nat)
  | sweeperRead (die table cursor : Nat)
  | serdesReferenceValid (die : Nat)
  | empUnknownCmd (m : EmpMsg) (code : Word)
  | fwActivateTimeout (die : Nat)
  deriving DecidableEq, Repr

end Sys2Proof
end

