-- ==== Sys2Proof/Decode.lean ====
section
/-!
DEFINITION. Reading instructions from bits. No row of the opcode table gives bits, so `decodeTableWord` spells no command. The 32-bit
instruction units of program images are another matter: `decodeUnit` reads them by R127 to R131, R137 to R148, R161 and R164; the
program images of the combs hold such units, and a debug step runs the one at the thread's PC.
-/

namespace Sys2Proof

/-- The command that a word of the opcode table spells: the table gives no row any bits. -/
def decodeTableWord (_nbits _w : Nat) : Option Instr := none

/-- Bits `[lo + n - 1 : lo]` of a unit. -/
def fieldN (u : BitVec 32) (lo n : Nat) : Nat := u.toNat / 2 ^ lo % 2 ^ n
/-- A W register field. -/
def wAt (u : BitVec 32) (lo : Nat) : WReg := ⟨fieldN u lo 4, by unfold fieldN; omega⟩
/-- An X register field. -/
def xAt (u : BitVec 32) (lo : Nat) : XReg := ⟨fieldN u lo 3, by unfold fieldN; omega⟩
/-- A predicate field. -/
def pAt (u : BitVec 32) (lo : Nat) : PReg := ⟨fieldN u lo 3, by unfold fieldN; omega⟩
/-- K16 (R130). -/
def k16At (u : BitVec 32) : Word := u.extractLsb' 0 16
/-- The major opcode (R127). -/
def opOf (u : BitVec 32) : Nat := fieldN u 22 6
/-- The guard (R127). -/
def guardOf (u : BitVec 32) : BitVec 4 := u.extractLsb' 28 4

/-- ALU, UNARY and MULT, format R (R130, R134, R139): bits [9:6] are 0. -/
def decodeR (i : Issue) (u : BitVec 32) : Option Instr :=
  let d := wAt u 18; let a := wAt u 14; let b := wAt u 10
  if fieldN u 6 4 ≠ 0 then none else
  match opOf u, fieldN u 0 6 with
  | 0x01, 0x00 => some (.add i d a b) | 0x01, 0x01 => some (.adc i d a b) | 0x01, 0x02 => some (.sub i d a b)
  | 0x01, 0x03 => some (.sbb i d a b) | 0x01, 0x04 => some (.and i d a b) | 0x01, 0x05 => some (.or i d a b)
  | 0x01, 0x06 => some (.xor i d a b) | 0x01, 0x07 => some (.andn i d a b) | 0x01, 0x08 => some (.shl i d a b)
  | 0x01, 0x09 => some (.shr i d a b) | 0x01, 0x0A => some (.sar i d a b) | 0x01, 0x0B => some (.rol i d a b)
  | 0x01, 0x0C => some (.min i d a b) | 0x01, 0x0D => some (.max i d a b) | 0x01, 0x0E => some (.minu i d a b)
  | 0x01, 0x0F => some (.maxu i d a b)
  | 0x0C, 0x00 => some (.mul i d a b) | 0x0C, 0x01 => some (.mulh i d a b) | 0x0C, 0x02 => some (.mulhu i d a b)
  | 0x02, fn =>
    if b ≠ 0 then none else
    match fn with
    | 0x00 => some (.mov i d a) | 0x01 => some (.not i d a) | 0x02 => some (.neg i d a) | 0x03 => some (.bswap i d a)
    | 0x04 => some (.popc i d a) | 0x05 => some (.clz i d a) | 0x06 => some (.ctz i d a) | _ => none
  | _, _ => none

/-- Format K (R130): bits [17:16] are 0. -/
def decodeK (i : Issue) (u : BitVec 32) : Option Instr :=
  let d := wAt u 18; let k := k16At u
  if fieldN u 16 2 ≠ 0 then none else
  match opOf u with
  | 0x08 => some (.movi i d k) | 0x19 => some (.dbnz i d k) | 0x20 => some (.inp i d k) | 0x21 => some (.outp i d k)
  | 0x25 => some (.wait i d k)
  | op =>
    if d ≠ 0 then none else
    match op with
    | 0x14 => some (.push i k) | 0x15 => some (.pop i k) | 0x18 => some (.br i k) | 0x1A => some (.call i k)
    | 0x1B => some (.callx i k) | 0x1C => some (.ret i k) | 0x1D => some (.retx i k) | _ => none

/-- SHI and BITF, formats S and F (R135, R138). -/
def decodeSF (i : Issue) (u : BitVec 32) : Option Instr :=
  let d := wAt u 18; let a := wAt u 14
  let pos : BitVec 4 := u.extractLsb' 10 4; let wm1 : BitVec 4 := u.extractLsb' 6 4
  if opOf u = 0x09 then
    if fieldN u 4 8 ≠ 0 then none else
    match fieldN u 12 2 with
    | 0 => some (.shiShl i d a (u.extractLsb' 0 4)) | 1 => some (.shiShr i d a (u.extractLsb' 0 4))
    | 2 => some (.shiSar i d a (u.extractLsb' 0 4)) | _ => some (.shiRol i d a (u.extractLsb' 0 4))
  else
    match fieldN u 0 6 with
    | 0 => some (.bfx i d a pos wm1) | 1 => some (.bfxs i d a pos wm1) | 2 => some (.bfi i d a pos wm1)
    | 3 => some (.extb i d a pos wm1) | 4 => some (.insb i d a pos wm1) | _ => none

/-- ACC and MACD, formats A and MD (R139, R140). -/
def decodeAcc (i : Issue) (u : BitVec 32) : Option Instr :=
  let d := wAt u 18; let a := wAt u 14; let b := wAt u 10; let n := u.getLsbD 9; let sh : BitVec 5 := u.extractLsb' 4 5
  if opOf u = 0x0E then
    if fieldN u 0 14 ≠ 0 then none else some (.macd i (u.getLsbD 21) (u.getLsbD 20) (xAt u 17) (xAt u 14))
  else
    match fieldN u 0 4 with
    | 0 => some (.aclr i n d a b sh) | 1 => some (.macS i n d a b sh) | 2 => some (.macU i n d a b sh)
    | 3 => some (.ard i n d a b sh) | 4 => some (.ards i n d a b sh) | 5 => some (.awr i n d a b sh) | _ => none

/-- PRED, format P (R137). -/
def decodeP (i : Issue) (u : BitVec 32) : Option Instr :=
  let pd := pAt u 19; let pa := pAt u 16; let pb := pAt u 13; let w := wAt u 9
  if fieldN u 6 3 ≠ 0 then none else
  match fieldN u 0 6 with
  | 0 => some (.pand i pd pa pb w) | 1 => some (.por i pd pa pb w) | 2 => some (.pxor i pd pa pb w)
  | 3 => some (.pandn i pd pa pb w) | 4 => some (.pnot i pd pa pb w) | 5 => some (.pset i pd pa pb w)
  | 6 => some (.movwp i pd pa pb w) | 7 => some (.movpw i pd pa pb w) | 8 => some (.movps i pd pa pb w)
  | 9 => some (.movsp i pd pa pb w) | _ => none

/-- XMOV and STRING, formats XM and ST (R141, R147). -/
def decodeXS (i : Issue) (u : BitVec 32) : Option Instr :=
  let xd := xAt u 19; let xa := xAt u 16; let w := wAt u 12
  if opOf u = 0x13 then
    if fieldN u 6 6 ≠ 0 then none else
    match fieldN u 0 6 with
    | 0 => some (.movxw i xd xa w) | 1 => some (.movwx i xd xa w) | 2 => some (.addxw i xd xa w) | 3 => some (.movx i xd xa w)
    | 4 => some (.movbc i xd xa w) | 5 => some (.movwbc i xd xa w) | _ => none
  else
    if fieldN u 6 9 ≠ 0 then none else
    match fieldN u 0 6 with
    | 0 => some (.movs i (wAt u 18) (pAt u 15)) | 1 => some (.cmps i (wAt u 18) (pAt u 15))
    | 2 => some (.scans i (wAt u 18) (pAt u 15)) | 3 => some (.fills i (wAt u 18) (pAt u 15)) | _ => none

/-- BRX, INR, OUTR, LDIS in format XR; SIGNAL in E; SYS in Z (R145, R150 to R153). -/
def decodeSys (i : Issue) (u : BitVec 32) : Option Instr :=
  let w := wAt u 18; let x := xAt u 15; let h := u.getLsbD 0
  match opOf u with
  | 0x26 =>
    if fieldN u 18 4 ≠ 0 ∨ fieldN u 4 10 ≠ 0 then none else some (.signal i (wAt u 14) (u.extractLsb' 0 4))
  | 0x27 =>
    if fieldN u 6 16 ≠ 0 then none else
    match fieldN u 0 6 with | 0 => some (.nop i) | 1 => some (.brk i) | _ => none
  | op =>
    if fieldN u 1 14 ≠ 0 then none else
    match op with
    | 0x24 => some (.ldis i w x h)
    | 0x1E => if w = 0 ∧ h = false then some (.brx i x) else none
    | 0x22 => if h then none else some (.inr i w x)
    | 0x23 => if h then none else some (.outr i w x)
    | _ => none

/-- The attached units, formats U and UX (R161, R164): fields that an instruction does not use are 0. -/
def decodeUnitOp (i : Issue) (u : BitVec 32) : Option Instr :=
  let d := wAt u 18; let a := wAt u 14; let b := wAt u 10; let k : BitVec 4 := u.extractLsb' 6 4; let pd := pAt u 19
  match opOf u, fieldN u 0 6 with
  | 0x28, 0 => if d = 0 ∧ a = 0 ∧ b = 0 then some (.dgStart i k) else none
  | 0x28, 1 => if d = 0 ∧ k = 0 then some (.dgSeed i a b) else none
  | 0x28, 2 => if d = 0 ∧ b = 0 ∧ k = 0 then some (.dgW i a) else none
  | 0x28, 3 => if d = 0 ∧ b = 0 ∧ k = 0 then some (.dgB i a) else none
  | 0x28, 4 => if a = 0 ∧ b = 0 then some (.dgRd i d k) else none
  | 0x28, 5 => if a = 0 ∧ b = 0 ∧ k = 0 then some (.dgStat i d) else none
  | 0x28, 6 => if u.getLsbD 18 = false ∧ a = 0 ∧ b = 0 ∧ k = 0 then some (.dgBusy i pd) else none
  | 0x29, 0 => if d = 0 ∧ u.getLsbD 14 = false ∧ k = 0 then some (.dgFeed i (xAt u 15) b) else none
  | 0x29, 1 => if d = 0 ∧ u.getLsbD 14 = false ∧ k = 0 then some (.dgKeys i (xAt u 15) b) else none
  | 0x2C, 0 => if d = 0 ∧ k = 0 then some (.bkSrc i a b) else none
  | 0x2C, 1 => if d = 0 ∧ k = 0 then some (.bkDst i a b) else none
  | 0x2C, 2 => if d = 0 ∧ b = 0 ∧ k = 0 then some (.bkCopy i a) else none
  | 0x2C, 3 => if d = 0 ∧ k = 0 then some (.bkFill i a b) else none
  | 0x2C, 4 => if d = 0 ∧ b = 0 ∧ k = 0 then some (.bkCsum i a) else none
  | 0x2C, 5 => if d = 0 ∧ b = 0 ∧ k = 0 then some (.bkSumset i a) else none
  | 0x2C, 6 => if a = 0 ∧ b = 0 ∧ k = 0 then some (.bkRd i d) else none
  | 0x2C, 7 => if a = 0 ∧ b = 0 ∧ k = 0 then some (.bkStat i d) else none
  | 0x2C, 8 => if u.getLsbD 18 = false ∧ a = 0 ∧ b = 0 ∧ k = 0 then some (.bkBusy i pd) else none
  | _, _ => none

/-- One instruction unit, issued as `i` says (its guard and prefix are already there): none where the unit has no defined encoding
(R128, R131). -/
def decodeUnit (i : Issue) (u : BitVec 32) : Option Instr :=
  match opOf u with
  | 0x01 | 0x02 | 0x0C => decodeR i u
  | 0x03 =>
    if u.getLsbD 18 ∨ fieldN u 0 6 ≠ 0 then none else some (.cmp i (pAt u 19) (wAt u 14) (wAt u 10) (u.extractLsb' 6 4))
  | 0x04 => some (.addi i (wAt u 18) (wAt u 14) (u.extractLsb' 0 14))
  | 0x05 => some (.andi i (wAt u 18) (wAt u 14) (u.extractLsb' 0 14))
  | 0x06 => some (.ori i (wAt u 18) (wAt u 14) (u.extractLsb' 0 14))
  | 0x07 => some (.xori i (wAt u 18) (wAt u 14) (u.extractLsb' 0 14))
  | 0x0A => some (.cmpi i (pAt u 19) (u.extractLsb' 15 4) (wAt u 11) (u.extractLsb' 0 11))
  | 0x09 | 0x0B => decodeSF i u
  | 0x0D | 0x0E => decodeAcc i u
  | 0x0F => decodeP i u
  | 0x10 => some (.ld i (wAt u 18) (xAt u 15) (u.extractLsb' 13 2) (u.extractLsb' 0 13))
  | 0x11 => some (.st i (wAt u 18) (xAt u 15) (u.extractLsb' 13 2) (u.extractLsb' 0 13))
  | 0x12 => some (.lea i (xAt u 19) (xAt u 16) (k16At u))
  | 0x13 | 0x16 => decodeXS i u
  | 0x1E | 0x22 | 0x23 | 0x24 | 0x26 | 0x27 => decodeSys i u
  | 0x28 | 0x29 | 0x2C => decodeUnitOp i u
  | 0x08 | 0x14 | 0x15 | 0x18 | 0x19 | 0x1A | 0x1B | 0x1C | 0x1D | 0x20 | 0x21 | 0x25 => decodeK i u
  | _ => none

/-- The instruction at a thread's PC, from its unit and the one after it: an IMM or REP prefix, which must have G = 0, joins the next
unit (R129). -/
def decodeFetch (tid : Nat) (u0 u1 : BitVec 32) : Option Instr :=
  if opOf u0 = 0x1F then
    if guardOf u0 = 0 ∧ fieldN u0 16 6 = 0 then decodeUnit ⟨tid, guardOf u1, .imm (k16At u0)⟩ u1 else none
  else if opOf u0 = 0x17 then
    if guardOf u0 = 0 ∧ fieldN u0 0 22 = 0 then decodeUnit ⟨tid, guardOf u1, .rep⟩ u1 else none
  else decodeUnit ⟨tid, guardOf u0, .none⟩ u0

/-! ## Writing units -/

/-- A unit: guard G, major opcode, the fields below (R127). -/
def unitAt (i : Issue) (op low : Nat) : BitVec 32 := BitVec.ofNat 32 (i.guard.toNat * 2 ^ 28 + op * 2 ^ 22 + low)
/-- Format R (R130). -/
def unitR (op : Nat) (i : Issue) (d a b : WReg) (fn : Nat) : BitVec 32 :=
  unitAt i op (d.val * 2 ^ 18 + a.val * 2 ^ 14 + b.val * 2 ^ 10 + fn)
/-- Format K (R130). -/
def unitK (op : Nat) (i : Issue) (d : WReg) (k : Word) : BitVec 32 := unitAt i op (d.val * 2 ^ 18 + k.toNat)
/-- Format F (R130). -/
def unitF (i : Issue) (d a : WReg) (pos wm1 : BitVec 4) (fn : Nat) : BitVec 32 :=
  unitAt i 0x0B (d.val * 2 ^ 18 + a.val * 2 ^ 14 + pos.toNat * 2 ^ 10 + wm1.toNat * 2 ^ 6 + fn)
/-- Format A (R130). -/
def unitA (i : Issue) (n : Bool) (d a b : WReg) (sh : BitVec 5) (fn : Nat) : BitVec 32 :=
  unitAt i 0x0D (d.val * 2 ^ 18 + a.val * 2 ^ 14 + b.val * 2 ^ 10 + n.toNat * 2 ^ 9 + sh.toNat * 2 ^ 4 + fn)
/-- Format P (R130). -/
def unitP (i : Issue) (pd pa pb : PReg) (w : WReg) (fn : Nat) : BitVec 32 :=
  unitAt i 0x0F (pd.val * 2 ^ 19 + pa.val * 2 ^ 16 + pb.val * 2 ^ 13 + w.val * 2 ^ 9 + fn)
/-- Format XR (R130). -/
def unitX (op : Nat) (i : Issue) (w : WReg) (x : XReg) (h : Bool) : BitVec 32 :=
  unitAt i op (w.val * 2 ^ 18 + x.val * 2 ^ 15 + h.toNat)
/-- Format U (R161, R164). -/
def unitU (op : Nat) (i : Issue) (d a b : WReg) (k : BitVec 4) (fn : Nat) : BitVec 32 :=
  unitAt i op (d.val * 2 ^ 18 + a.val * 2 ^ 14 + b.val * 2 ^ 10 + k.toNat * 2 ^ 6 + fn)

/-- The instruction's own unit, with its guard: none for a command that is no instruction, and for the rows that name one port of INP or OUTP,
whose unit is that of INP or OUTP. -/
def encodeUnit : Instr → Option (BitVec 32)
  | .add i d a b => some (unitR 0x01 i d a b 0)
  | .adc i d a b => some (unitR 0x01 i d a b 1)
  | .sub i d a b => some (unitR 0x01 i d a b 2)
  | .sbb i d a b => some (unitR 0x01 i d a b 3)
  | .and i d a b => some (unitR 0x01 i d a b 4)
  | .or i d a b => some (unitR 0x01 i d a b 5)
  | .xor i d a b => some (unitR 0x01 i d a b 6)
  | .andn i d a b => some (unitR 0x01 i d a b 7)
  | .shl i d a b => some (unitR 0x01 i d a b 8)
  | .shr i d a b => some (unitR 0x01 i d a b 9)
  | .sar i d a b => some (unitR 0x01 i d a b 10)
  | .rol i d a b => some (unitR 0x01 i d a b 11)
  | .min i d a b => some (unitR 0x01 i d a b 12)
  | .max i d a b => some (unitR 0x01 i d a b 13)
  | .minu i d a b => some (unitR 0x01 i d a b 14)
  | .maxu i d a b => some (unitR 0x01 i d a b 15)
  | .mov i d a => some (unitR 0x02 i d a 0 0)
  | .not i d a => some (unitR 0x02 i d a 0 1)
  | .neg i d a => some (unitR 0x02 i d a 0 2)
  | .bswap i d a => some (unitR 0x02 i d a 0 3)
  | .popc i d a => some (unitR 0x02 i d a 0 4)
  | .clz i d a => some (unitR 0x02 i d a 0 5)
  | .ctz i d a => some (unitR 0x02 i d a 0 6)
  | .addi i d a k => some (unitAt i 0x04 (d.val * 2 ^ 18 + a.val * 2 ^ 14 + k.toNat))
  | .andi i d a k => some (unitAt i 0x05 (d.val * 2 ^ 18 + a.val * 2 ^ 14 + k.toNat))
  | .ori i d a k => some (unitAt i 0x06 (d.val * 2 ^ 18 + a.val * 2 ^ 14 + k.toNat))
  | .xori i d a k => some (unitAt i 0x07 (d.val * 2 ^ 18 + a.val * 2 ^ 14 + k.toNat))
  | .shiShl i d a k => some (unitAt i 0x09 (d.val * 2 ^ 18 + a.val * 2 ^ 14 + 0 * 2 ^ 12 + k.toNat))
  | .shiShr i d a k => some (unitAt i 0x09 (d.val * 2 ^ 18 + a.val * 2 ^ 14 + 1 * 2 ^ 12 + k.toNat))
  | .shiSar i d a k => some (unitAt i 0x09 (d.val * 2 ^ 18 + a.val * 2 ^ 14 + 2 * 2 ^ 12 + k.toNat))
  | .shiRol i d a k => some (unitAt i 0x09 (d.val * 2 ^ 18 + a.val * 2 ^ 14 + 3 * 2 ^ 12 + k.toNat))
  | .cmp i pd a b c => some (unitAt i 0x03 (pd.val * 2 ^ 19 + a.val * 2 ^ 14 + b.val * 2 ^ 10 + c.toNat * 2 ^ 6))
  | .cmpi i pd c a k => some (unitAt i 0x0A (pd.val * 2 ^ 19 + c.toNat * 2 ^ 15 + a.val * 2 ^ 11 + k.toNat))
  | .bfx i d a p w => some (unitF i d a p w 0)
  | .bfxs i d a p w => some (unitF i d a p w 1)
  | .bfi i d a p w => some (unitF i d a p w 2)
  | .extb i d a p w => some (unitF i d a p w 3)
  | .insb i d a p w => some (unitF i d a p w 4)
  | .mul i d a b => some (unitR 0x0C i d a b 0)
  | .mulh i d a b => some (unitR 0x0C i d a b 1)
  | .mulhu i d a b => some (unitR 0x0C i d a b 2)
  | .aclr i n d a b sh => some (unitA i n d a b sh 0)
  | .macS i n d a b sh => some (unitA i n d a b sh 1)
  | .macU i n d a b sh => some (unitA i n d a b sh 2)
  | .ard i n d a b sh => some (unitA i n d a b sh 3)
  | .ards i n d a b sh => some (unitA i n d a b sh 4)
  | .awr i n d a b sh => some (unitA i n d a b sh 5)
  | .macd i n sgn xa xb =>
    some (unitAt i 0x0E (n.toNat * 2 ^ 21 + sgn.toNat * 2 ^ 20 + xa.val * 2 ^ 17 + xb.val * 2 ^ 14))
  | .pand i pd pa pb w => some (unitP i pd pa pb w 0)
  | .por i pd pa pb w => some (unitP i pd pa pb w 1)
  | .pxor i pd pa pb w => some (unitP i pd pa pb w 2)
  | .pandn i pd pa pb w => some (unitP i pd pa pb w 3)
  | .pnot i pd pa pb w => some (unitP i pd pa pb w 4)
  | .pset i pd pa pb w => some (unitP i pd pa pb w 5)
  | .movwp i pd pa pb w => some (unitP i pd pa pb w 6)
  | .movpw i pd pa pb w => some (unitP i pd pa pb w 7)
  | .movps i pd pa pb w => some (unitP i pd pa pb w 8)
  | .movsp i pd pa pb w => some (unitP i pd pa pb w 9)
  | .lea i xd xa k => some (unitAt i 0x12 (xd.val * 2 ^ 19 + xa.val * 2 ^ 16 + k.toNat))
  | .movxw i xd xa w => some (unitAt i 0x13 (xd.val * 2 ^ 19 + xa.val * 2 ^ 16 + w.val * 2 ^ 12 + 0))
  | .movwx i xd xa w => some (unitAt i 0x13 (xd.val * 2 ^ 19 + xa.val * 2 ^ 16 + w.val * 2 ^ 12 + 1))
  | .addxw i xd xa w => some (unitAt i 0x13 (xd.val * 2 ^ 19 + xa.val * 2 ^ 16 + w.val * 2 ^ 12 + 2))
  | .movx i xd xa w => some (unitAt i 0x13 (xd.val * 2 ^ 19 + xa.val * 2 ^ 16 + w.val * 2 ^ 12 + 3))
  | .movbc i xd xa w => some (unitAt i 0x13 (xd.val * 2 ^ 19 + xa.val * 2 ^ 16 + w.val * 2 ^ 12 + 4))
  | .movwbc i xd xa w => some (unitAt i 0x13 (xd.val * 2 ^ 19 + xa.val * 2 ^ 16 + w.val * 2 ^ 12 + 5))
  | .ld i d x m o => some (unitAt i 0x10 (d.val * 2 ^ 18 + x.val * 2 ^ 15 + m.toNat * 2 ^ 13 + o.toNat))
  | .st i a x m o => some (unitAt i 0x11 (a.val * 2 ^ 18 + x.val * 2 ^ 15 + m.toNat * 2 ^ 13 + o.toNat))
  | .movs i v pd => some (unitAt i 0x16 (v.val * 2 ^ 18 + pd.val * 2 ^ 15 + 0))
  | .cmps i v pd => some (unitAt i 0x16 (v.val * 2 ^ 18 + pd.val * 2 ^ 15 + 1))
  | .scans i v pd => some (unitAt i 0x16 (v.val * 2 ^ 18 + pd.val * 2 ^ 15 + 2))
  | .fills i v pd => some (unitAt i 0x16 (v.val * 2 ^ 18 + pd.val * 2 ^ 15 + 3))
  | .movi i d k => some (unitK 0x08 i d k)
  | .dbnz i d k => some (unitK 0x19 i d k)
  | .inp i d k => some (unitK 0x20 i d k)
  | .outp i d k => some (unitK 0x21 i d k)
  | .wait i d k => some (unitK 0x25 i d k)
  | .push i k => some (unitK 0x14 i 0 k)
  | .pop i k => some (unitK 0x15 i 0 k)
  | .br i k => some (unitK 0x18 i 0 k)
  | .call i k => some (unitK 0x1A i 0 k)
  | .callx i k => some (unitK 0x1B i 0 k)
  | .ret i k => some (unitK 0x1C i 0 k)
  | .retx i k => some (unitK 0x1D i 0 k)
  | .brx i x => some (unitX 0x1E i 0 x false)
  | .inr i d x => some (unitX 0x22 i d x false)
  | .outr i a x => some (unitX 0x23 i a x false)
  | .ldis i d x h => some (unitX 0x24 i d x h)
  | .signal i a ev => some (unitAt i 0x26 (a.val * 2 ^ 14 + ev.toNat))
  | .nop i => some (unitAt i 0x27 0)
  | .brk i => some (unitAt i 0x27 1)
  | .dgStart i k => some (unitU 0x28 i 0 0 0 k 0)
  | .dgSeed i a b => some (unitU 0x28 i 0 a b 0 1)
  | .dgW i a => some (unitU 0x28 i 0 a 0 0 2)
  | .dgB i a => some (unitU 0x28 i 0 a 0 0 3)
  | .dgRd i d k => some (unitU 0x28 i d 0 0 k 4)
  | .dgStat i d => some (unitU 0x28 i d 0 0 0 5)
  | .dgBusy i pd => some (unitAt i 0x28 (pd.val * 2 ^ 19 + 6))
  | .dgFeed i x b => some (unitAt i 0x29 (x.val * 2 ^ 15 + b.val * 2 ^ 10))
  | .dgKeys i x b => some (unitAt i 0x29 (x.val * 2 ^ 15 + b.val * 2 ^ 10 + 1))
  | .bkSrc i a b => some (unitU 0x2C i 0 a b 0 0)
  | .bkDst i a b => some (unitU 0x2C i 0 a b 0 1)
  | .bkCopy i a => some (unitU 0x2C i 0 a 0 0 2)
  | .bkFill i a b => some (unitU 0x2C i 0 a b 0 3)
  | .bkCsum i a => some (unitU 0x2C i 0 a 0 0 4)
  | .bkSumset i a => some (unitU 0x2C i 0 a 0 0 5)
  | .bkRd i d => some (unitU 0x2C i d 0 0 0 6)
  | .bkStat i d => some (unitU 0x2C i d 0 0 0 7)
  | .bkBusy i pd => some (unitAt i 0x2C (pd.val * 2 ^ 19 + 8))
  | _ => none

/-- The prefix unit of an instruction, which has G = 0 (R129). -/
def prefixUnit : Prefix → Option (BitVec 32)
  | .none => none
  | .imm k => some (BitVec.ofNat 32 (0x1F * 2 ^ 22 + k.toNat))
  | .rep => some (BitVec.ofNat 32 (0x17 * 2 ^ 22))

end Sys2Proof
end

