-- ==== Sys2Proof/Config.lean ====
section
/-! DEFINITION. What the manual leaves free: each constant below has no body, so that no proof can
see its value. Those applied to the counter `State.free` are fresh at each use: the step that uses one advances the counter. The log
entries 11 to 21 and 96 name them. -/

namespace Sys2Proof.Config

/-- The part nonce Np that a SES_HELLO carries (R366): the manual does not say how it is drawn. -/
opaque nonce : Nat → BitVec 128

/-- A word of a row whose contents a preserving march test could not restore (R421: 'undefined'). -/
opaque freeWord : Nat → BitVec 16

/-- A window word beyond the buffer chain of its frame (R269, R279 say nothing of it): applied to the counter, the MONO and the thread
with the address. -/
opaque beyondChain : Nat → Nat → Nat → BitVec 16

/-- The bytes of a copy in transmission that have left when its link is lost (R297): applied to the counter, the GPN and the MONO. -/
opaque sentAtLoss : Nat → Nat → Nat → Nat

/-- The fused VDD_CORE code of PWR.VID (R501), 0 to 20 on every part; the manual gives no number. -/
opaque vid : BitVec 6

/-- The silicon revision in IDCODE [31:28] (R509). -/
opaque siliconRevision : BitVec 4

/-- The level a boundary-scan cell captures (R509): the manual gives the cells but not their order. -/
opaque scanBit : Nat → Bool

/-- Bits in error that one PRBS run counts on a lane (LANE_PRBS, R489). -/
opaque prbsErrors : Nat → Nat

/-- AN_DONE, TRAIN_DONE, LOCAL_FAULT, REMOTE_FAULT and HI_BER of a port (PHY.PORT_STAT [5:1]) at an instant, where the manual does not say
what they are: applied to the GPN and the die's MONO. -/
opaque linkFlags : Nat → Nat → BitVec 5

/-- The expected and computed BIST signatures of a failing cell slice (R436, KIND 2). -/
opaque bistSignature : Nat → BitVec 64

/-- The spill mark of a bridge transmit queue (R15), which the manual does not number: in flits. -/
opaque spillMark : Nat

/-- Whether the ECDSA signature of a firmware image verifies against the fused public key (R456): a function of
the words the signature covers (RELEASE, IMAGE_SEQ, LENGTH, body) and of the signature. -/
opaque signatureVerifies : List (BitVec 16) → List (BitVec 16) → Bool

/-- The partner's usable-die mask that a batch emitted on its behalf carries in DIES (R485): no message brings it. -/
opaque partnerDies : Nat → BitVec 16

end Sys2Proof.Config
end

