-- ==== Sys2Proof/Machine/State.lean ====
section
/-!
DEFINITION. The state of the package: plain data, one substructure per part of the manual, the queue of waiting commands, the
faults and refusals of the model, and the machine right after a cold reset.
-/

namespace Sys2Proof.Machine

/-- A sparse map: keys strictly rising, and no entry equal to what an unlisted key reads as. -/
abbrev Map (α : Type) := List (Nat × α)

/-- The stops of the model. The manual names no behaviour that stops the block: no command raises this one (safe). -/
inductive Fault where
  /-- Raised by nothing; kept so that the type of faults is not empty. Safe. -/
  | none
  deriving DecidableEq, Repr

/-- The refusals of the model. -/
inductive Refusal where
  /-- Raised by an arm of `exec` whose command has no meaning yet. Safe: the machine stops. -/
  | notModelled (mnemonic : String)
  deriving DecidableEq, Repr

/-! ## Threads, cells and combs (05, 06, 07) -/

/-- Thread states, in the order of their codes (R98). -/
inductive ThrState where
  | disabled | free | active | stalled | waiting | faulted | halted | resetting
  deriving DecidableEq, Repr

/-- Kinds of work item, in the order of their codes (R74). -/
inductive ItemKind where
  | packet | alarm | assist | post
  deriving DecidableEq, Repr

/-- A work item (R73, R74). `args` are the words at 0x1870 upward; `frame` names the frame of a packet. -/
structure Item where
  kind : ItemKind
  level : Nat
  gslot : Nat
  pdom : Nat
  late : Bool
  args : List Word
  frame : Nat
  poster : Nat
  enq : Nat
  order : Nat
  deriving DecidableEq, Repr

/-- A thread fault (R115): cause code, instruction address, data or port address, units of the instruction. -/
structure ThrFault where
  cause : Nat
  pc : Word
  addr : Word
  units : Nat
  deriving DecidableEq, Repr

/-- An IN from a port outside the cell whose result is due (R103, R150). `value` is none until a unit has answered;
`acquire` is the lock when it is an acquire that counts under R172. -/
structure InPending where
  rd : WReg
  value : Option Word
  acquire : Option Nat
  deriving DecidableEq, Repr

/-- A WAIT in progress (R152, R177): mask and destination. -/
structure Waiting where
  mask : Word
  rd : WReg
  deriving DecidableEq, Repr

/-- The registers of a thread (R125). -/
structure Regs where
  w : Vector Word 16
  x : Vector Word 8
  p : Vector Bool 8
  acc0 : BitVec 40
  acc1 : BitVec 40
  bc : Word
  ps : Word
  pc : Word
  deriving DecidableEq, Repr

/-- The supervisor context that a cell saves while thread 0 holds a work item (R516). -/
structure Saved where
  regs : Regs
  wait : Waiting
  pend : Word
  deriving DecidableEq, Repr

/-- A forager request (R201, R202, R205): its own number, the thread, operation, table or group, result slot, generation slot and program
domain, the key and data words, FG_ARG; `bad` when a word or a length made it BADARG at its launch, `miss` when it missed the flow
cache (R211). -/
structure FgReq where
  id : Nat
  tid : Nat
  op : Nat
  tableId : Nat
  slot : Nat
  gslot : Nat
  pdom : Nat
  key : List Word
  data : List Word
  arg : Nat
  bad : Bool
  miss : Bool
  deriving DecidableEq, Repr

/-- What a thread's result slot waits for (R203, R204): a lookup that its forager has still to make, a write that a write engine has
still to perform (neither `lookup` nor `ready`), or the 32 words that are due; `poison` marks words 1 to 31. -/
structure FgResult where
  slot : Nat
  id : Nat
  lookup : Option FgReq
  ready : Bool
  words : List Word
  poison : Bool
  deriving DecidableEq, Repr

/-- One hardware thread. `stage` holds its staging words by port address. `cycBase` is the time in ns for which its present item has
counted cycles and `cycFrom` the MONO from which it has been counting since (R114). `stepping` is true while a DBG_STEP has not committed
(R120). `since` is the MONO since which its state has not made the cell test, and the comb test, false (R181, R182). -/
structure Thread where
  st : ThrState
  regs : Regs
  sb : BitVec 9
  inPend : Option InPending
  results : List FgResult
  item : Option Item
  stage : Map Word
  timeLatch : Nat × Nat
  cycLatch : BitVec 32
  cycBase : Nat
  cycFrom : Nat
  fault : Option ThrFault
  pend : Word
  wait : Option Waiting
  timer : Option Nat
  lockSub : Option Nat
  locks : List Nat
  lockOwner : Word
  handles : Map Nat
  haltFrom : Option ThrState
  freeze : Option Nat
  saved : Option Saved
  stepping : Bool
  since : Nat × Nat
  deriving DecidableEq, Repr

/-- The accumulating state of a digest unit (R160): `s` is S or the Toeplitz result or the ones'-complement sum, `n` the number of
bytes fed, `part` the bytes of an unfinished SipHash block, `v` the SipHash state. -/
structure DigestAcc where
  s : BitVec 32
  n : Nat
  part : List Byte
  v0 : BitVec 64
  v1 : BitVec 64
  v2 : BitVec 64
  v3 : BitVec 64
  deriving DecidableEq, Repr

/-- A DG.FEED or DG.KEYS in progress (R162). -/
structure DigestOp where
  keys : Bool
  addr : Word
  count : Nat
  deriving DecidableEq, Repr

/-- The digest unit of a cell (R155 to R163). -/
structure Digest where
  claim : Option Nat
  abandoned : Bool
  mode : Nat
  acc : DigestAcc
  err : Bool
  trunc : Bool
  op : Option DigestOp
  keys : List Word
  deriving DecidableEq, Repr

/-- Who debugs a cell (R118). -/
inductive Debugger where
  | session (index : Nat)
  | supervisor
  deriving DecidableEq, Repr

/-- An instruction breakpoint or a data watchpoint (R121). -/
structure BreakPt where
  watch : Bool
  image : Bool
  addr : Word
  threads : BitVec 8
  rd : Bool
  wr : Bool
  deriving DecidableEq, Repr

/-- One cell: ports, debug state, digest unit, all-wait detection (R181 to R183): `stallEpoch` is the beginning of the episode for which
STALL was last raised. `started` is true once its supervisor has left the cell
reset (R99). Its commit queue (R169) is the part of `TblS.engines` beyond an engine's FIFO. -/
structure Cell where
  thrEn : BitVec 8
  fltSel : Word
  supReason : Word
  dbg : Option Debugger
  dbgSel : Word
  breaks : List BreakPt
  digest : Digest
  supFault : Option Nat
  retired : Bool
  started : Bool
  stallEpoch : Option Nat
  stallInfo : Word
  loadNow : Nat
  deriving DecidableEq, Repr

/-- A bulk operation (R165): kind 2 copy, 3 fill, 4 sum, as the FN of its instruction; `running` once it has passed its check. -/
structure BulkOp where
  fn : Nat
  len : Nat
  fill : Byte
  running : Bool
  deriving DecidableEq, Repr

/-- The bulk unit of a comb (R155, R164 to R166), and the comb's dealing pointer (R80). -/
structure Comb where
  claim : Option Nat
  abandoned : Bool
  srcH : Word
  srcOff : Word
  dstH : Word
  dstOff : Word
  sum : Word
  err : Bool
  errCode : Nat
  op : Option BulkOp
  next : Nat
  stallEpoch : Option Nat
  deriving DecidableEq, Repr

/-- One die lock (R170, R174). -/
structure Lock where
  owner : Option Word
  abandoned : Bool
  deriving DecidableEq, Repr

/-- A request waiting at a lock bank (R171). -/
inductive LockReq where
  | acquire (tid lock : Nat)
  | stat (tid lock : Nat)
  | release (tid lock : Nat)
  | subscribe (tid lock : Nat)
  deriving DecidableEq, Repr

/-- Threads, cells, combs, their memories and locks of the whole package. `stallCfg` lists, for each die, the writes of EV.STALL_CFG: when,
and the window before. -/
structure CoreS where
  stallCfg : Map (List (Nat × Nat))
  threads : Map Thread
  cells : Map Cell
  combs : Map Comb
  mem : Map Word
  poison : List Nat
  prog : Map (BitVec 32)
  locks : Map Lock
  banks : Map (List LockReq)
  deriving DecidableEq, Repr

/-! ## Time and the schedule (02) -/

/-- The clocks of a die (R31), in ns. -/
structure Clock where
  tod : Nat
  stime : Nat
  mono : Nat
  deriving DecidableEq, Repr

/-- A time source's validity (R35): whether it is valid, since when (MONO), when last heard, and whether it is usable. -/
structure Source where
  valid : Bool
  since : Nat
  last : Nat
  deriving DecidableEq, Repr

/-- A correction in progress (R40): a slew, with what is still to be applied and the lead's MONO at its start, or a step sent, due at a
MONO instant. -/
inductive Correction where
  | idle
  | slew (rest : Int) (at_ : Nat)
  | step (offset : Int) (due : Nat)
  deriving DecidableEq, Repr

/-- A schedule entry (R46 to R50). `armer` is the cell that armed an alarm, as the master ID of its thread 0. -/
structure SchedEntry where
  action : Nat
  periodic : Bool
  late : Bool
  t : Nat
  period : Nat
  domain : Nat
  prio : Nat
  arg : Word
  armer : Nat
  deriving DecidableEq, Repr

/-- A firing that its action has not yet taken: the action, T, the STIME of the firing, LATE, the periods that fell due. -/
structure Fired where
  action : Nat
  t : Nat
  at_ : Nat
  late : Bool
  periods : Nat
  entry : SchedEntry
  deriving DecidableEq, Repr

/-- Time and the schedule (02). `alarms` are the work items that wait at the schedule, `offset` the last measured offset from the source,
`lockedSince` the MONO since which it has stayed within 100 ns, `leap` the TAI second at which a pending leap second takes effect,
`lastLeap` the second at which the last one did and the UTC offset before it, `ppsLast` the whole seconds marked by a PPS out pin, `jumped` the interval of the last forward step. -/
structure TimeS where
  clocks : Map Clock
  sched : Map (Option SchedEntry)
  fired : Map (List Fired)
  alarms : Map (List Item)
  ptp : Source
  pps : Source
  tenMHz : Source
  xfail : Nat
  xpass : Nat
  correction : Correction
  pendingSet : Option Nat
  offset : Int
  lockedSince : Option Nat
  leap : Int
  lastLeap : Int × Int
  ppsLast : Map Nat
  jumped : Map (Nat × Nat)
  deriving DecidableEq, Repr

/-! ## The frame path (03, 04, 11, 12) -/

/-- Who holds a share of a frame's buffers (R269). `packet` is the frame's own share on its way from the parser to its verdict. -/
inductive Holder where
  | packet
  | thread (tid handle : Nat)
  | copy (id : Nat)
  | switch (xfer : Nat)
  | copier (job : Nat)
  | keeper
  deriving DecidableEq, Repr

/-- A frame in the buffers of a die. `bytes` is keyed by the offset from the frame's first byte; `len` is FRAME_LEN;
`pool`, `nbuf`, `strip`, `prep` give what its chain supplies (R279); `owner` is the buffer owner index of R515; `mono` is the age origin
(R295). `xfer` is the bridge transfer that still brings it, 0 for none; `note` marks a frame that a host port sends as an EMP
notification (R311), `noCopy` a frame that the copy engine has built (R307). -/
structure Frame where
  die : Nat
  len : Nat
  bytes : Map Byte
  poison : List Nat
  pool : Nat
  nbuf : Nat
  strip : Nat
  prep : Nat
  owner : Nat
  shares : List Holder
  last : Option Holder
  gpn : Nat
  slot : Nat
  stime : Nat
  mono : Nat
  cls : Nat
  level : Nat
  pdom : Nat
  odom : Nat
  seq : Nat
  tag : Option Nat
  recirc : Nat
  parse : List Word
  carry : List Word
  badTail : Bool
  whole : Bool
  late : Bool
  startNode : Nat
  xfer : Nat
  note : Bool
  noCopy : Bool
  deriving DecidableEq, Repr

/-- A verdict (R84): KIND, the destination or reason or node, MCAST, and the staged edit (R110), with the master that gave it. -/
structure Verdict where
  kind : Nat
  dest : Nat
  mcast : Bool
  len : Nat
  strip : Nat
  pre : List Byte
  giver : Word
  deriving DecidableEq, Repr

/-- An outstanding sequence number of an order domain (R81 to R92). `dealt` is the MONO at which its timer started, `held` the time
for which it was frozen. -/
structure Outstanding where
  seq : Nat
  frame : Nat
  verdict : Option Verdict
  dealt : Option Nat
  held : Nat
  deriving DecidableEq, Repr

structure Domain where
  next : Nat
  outs : List Outstanding
  deriving DecidableEq, Repr

/-- A work queue (R76). -/
structure WorkQueue where
  items : List Item
  hold : Bool
  deriving DecidableEq, Repr

/-- A parser pipeline (R53, R76): frames recirculating to it, frames in parse, its result FIFO and its recirculation lane. -/
structure Pipe where
  recirc : List Nat
  parsing : List Nat
  fifo : List Nat
  lane : List Nat
  deriving DecidableEq, Repr

/-- A frame in an ingress FIFO (R77, R78). -/
structure IngFrame where
  bytes : List Byte
  bad : Bool
  partial_ : Bool
  stime : Nat
  mono : Nat
  slot : Nat
  deriving DecidableEq, Repr

structure PathS where
  frames : Map (Option Frame)
  nextId : Nat
  ingress : Map (List IngFrame)
  pipes : Map Pipe
  wq : Map WorkQueue
  nextOrder : Nat
  tags : Map Bool
  domains : Map Domain
  graph : Map Word
  deriving DecidableEq, Repr

/-! ## Tables and learning (08, 09) -/

/-- An entry in use (R190, R217): its slot mask and flags, its age stamp, table, masked key and action words, and whether its position
has an uncorrectable error. -/
structure Entry where
  slots : BitVec 4
  static_ : Bool
  ageable : Bool
  learned : Bool
  remote : Bool
  contested : Bool
  moves : Nat
  stamp : Word
  tableId : Nat
  key : List Word
  action : List Word
  uncorr : Bool
  deriving DecidableEq, Repr

/-- A request at a write engine (R198, R232, R236). -/
inductive WriteReq where
  | forager (r : FgReq)
  | refresh (tableId pos : Nat) (key : List Word)
  | sweep (tableId pos : Nat) (key : List Word) (stamp : Word)
  deriving DecidableEq, Repr

/-- A learn request or a remote record in the learn FIFO (R218, R226). -/
structure LearnReq where
  remote : Bool
  tid : Nat
  pdom : Nat
  tableId : Nat
  fanout : Bool
  key : List Word
  action : List Word
  deriving DecidableEq, Repr

/-- A move-tracker line (R222, R223): times are MONO. -/
structure MoveLine where
  tableId : Nat
  key : List Word
  count : Nat
  start : Nat
  quarUntil : Option Nat
  deriving DecidableEq, Repr

/-- A bucket of tokens (R228, R322), in millionths of a frame or a byte, and the MONO at which they were last computed. -/
structure TokenBucket where
  tokens : Nat
  at_ : Nat
  deriving DecidableEq, Repr

/-- The rehash request of a table on a die (R199). -/
structure Rehash where
  outstanding : Bool
  lastNote : Nat
  fails : Nat
  maxMoves : Nat
  deriving DecidableEq, Repr

/-- The sweeper's pass over one table (R234): the next bucket. -/
structure Sweep where
  active : Bool
  cursor : Nat
  deriving DecidableEq, Repr

/-- A learn notification record (R239) and the MONO at which it arrived. -/
structure NoteRec where
  words : List Word
  at_ : Nat
  deriving DecidableEq, Repr

/-- Tables and learning. `entries` is keyed by position, `deepTags` by the first row of a cache bucket; `engines` holds the requests at
and before each write engine, the first 64 in its FIFO; `noteWin` the second and the count of each kind's rate limit; `tenantClass`
the tenant class map of each slot; `flying` the remote records between two dies; `ageSet` the period in ms and the PASS_TICKS last set,
`ageIn` those in force on a die, `ticks` the ticks since a die's last pass. -/
structure TblS where
  entries : Map (Option Entry)
  deepTags : Map (Option Nat)
  engines : Map (List WriteReq)
  rehash : Map Rehash
  learnQ : Map (List LearnReq)
  tracker : Map (List MoveLine)
  storm : Map (Option TokenBucket)
  sweeps : Map Sweep
  notes : Map (List NoteRec)
  notesLost : Map Nat
  noteSeq : Map Nat
  noteWin : Map (Nat × Nat)
  assist : Map (List Item)
  tenantClass : Map Nat
  flying : Map (List LearnReq)
  ageSet : Nat × Nat
  ageIn : Map (Nat × Nat)
  ticks : Map Nat
  deriving DecidableEq, Repr

/-! ## Generations (10) -/

structure SlotDigest where
  sealed : List Word
  recomputed : List Word
  at_ : Nat
  deriving DecidableEq, Repr

structure GenS where
  lastGen : Nat
  openOwner : Option Nat
  graphStaged : Bool
  progStaged : Bool
  drainSince : Map (Option Nat)
  digests : Map SlotDigest
  audit : Map (List Nat)
  deriving DecidableEq, Repr

/-! ## Buffers, queues and egress (11, 12) -/

/-- What a frame carries from its submission (R254, R275, R295): its generation slot, its ingress stamp, its age origin on the MONO of the
die that holds it. -/
structure Stamp where
  slot : Nat
  stime : Nat
  mono : Nat
  deriving DecidableEq, Repr

/-- A copy of a frame in a queue (R278). `charge` is L; `ct` marks a cut-through copy (R292), `mark` an ECN mark (R305). -/
structure QCopy where
  id : Nat
  frame : Nat
  stamp : Stamp
  txLen : Nat
  charge : Nat
  ct : Bool
  mark : Bool
  deriving DecidableEq, Repr

/-- A bridge transfer (R517, R266) of a frame from die `src` to die `dst`: its destination, its transmit length, the bytes it supplies, its
flits and those that have arrived, its path (none for the direct link), the frame that it makes on the egress die (0 for none yet),
whether its frame was submitted by a verdict, and whether it was lost with its link (R18). -/
structure Xfer where
  frame : Nat
  stamp : Stamp
  src : Nat
  dst : Nat
  dest : Nat
  mcast : Bool
  txLen : Nat
  supply : Nat
  flits : Nat
  got : Nat
  via : Option Nat
  giver : Word
  dstFrame : Nat
  verdict : Bool
  lost : Bool
  deriving DecidableEq, Repr

/-- A frame or copy offered to a queue of a die and waiting for admission (R278). `share` is the share that ends with the last copy
(0 for a transfer), `xfer` the transfer that brings the frame (0 for a frame of this die), `group` the multicast group. -/
structure Offer where
  frame : Nat
  share : Nat
  xfer : Nat
  qid : Nat
  group : Option Nat
  stamp : Stamp
  txLen : Nat
  supply : Nat
  verdict : Bool
  lastOfGroup : Bool
  deriving DecidableEq, Repr

structure McGroup where
  dies : BitVec 8
  members : List Nat
  deriving DecidableEq, Repr

/-- A copy in transmission at a port. -/
structure Sending where
  copy : QCopy
  queue : Nat
  sent : Nat
  deriving DecidableEq, Repr

/-- Link state of a port (R297). -/
inductive LinkState where
  | down | hold | up
  deriving DecidableEq, Repr

/-- The link, the transmitter and the received pause state of a port (R289, R290, R297, R300 to R302). `deficit` and `pointer` are those of
its DWRR stages, `since` the MONO at which the port left UP. -/
structure PortS where
  pcsUp : Bool
  link : LinkState
  pcsSince : Nat
  linkUp : Bool
  holdSince : Nat
  sending : Option Sending
  pausedUntil : Map (Option Nat)
  stoppedSince : Map (Option Nat)
  ignoreUntil : Map (Option Nat)
  xoffSent : Bool
  xoffAt : Nat
  deficit : Map Int
  pointer : Map Nat
  deriving DecidableEq, Repr

/-- A copy-engine request (R307) of a mirror session or a sampler: the frame that it reads, the bytes to copy, the words of the sample
format (none for a mirror copy), the stamps and the slot of the original. -/
structure CopyJob where
  id : Nat
  mirror : Bool
  index : Nat
  frame : Nat
  bytes : List Byte
  words : List Word
  gpn : Nat
  slot : Nat
  stime : Nat
  mono : Nat
  deriving DecidableEq, Repr

structure Sampler where
  count : Nat
  seq : Nat
  skipped : Nat
  deriving DecidableEq, Repr

structure EgrS where
  queues : Map (List QCopy)
  xfers : Map (Option Xfer)
  offers : Map (List Offer)
  groups : Map McGroup
  written : Map Bool
  ports : Map PortS
  shapers : Map (Int × Nat)
  lfsr : Map Word
  jobs : Map (List CopyJob)
  samplers : Map Sampler
  excSeq : Map Nat
  suspended : Map Bool
  links : Map Nat
  paths : Map (Option Nat)
  deriving DecidableEq, Repr

/-! ## Tally (13) -/

/-- A bank of a tenant line (R315, R322): the minute that it holds, its eight counters, and whether a count was folded into it. -/
structure TallyLine where
  minute : Nat
  counts : Vector (BitVec 64) 8
  folded : Bool
  deriving DecidableEq, Repr

/-- A count in a tally queue or the egress count queue (R318): kinds 0 IN, 1 OUT, 2 DROP, 3 POL; `late` when its minute had closed
before it entered the queue (R324). -/
structure TallyReq where
  tenant : Nat
  kind : Nat
  bytes : Nat
  minute : Nat
  late : Bool
  deriving DecidableEq, Repr

/-- A record of a closed minute (R327): `back` is 0 but for a late one. -/
structure ClosedLine where
  tenant : Nat
  folded : Bool
  back : Nat
  counts : Vector (BitVec 64) 8
  deriving DecidableEq, Repr

/-- What a die has streamed and keeps for a closed minute, or for a run of skipped ones (R323, R325), with the dies usable at the close. -/
structure ClosedMin where
  minute : Nat
  span : Nat
  skipped : Bool
  usable : BitVec 8
  lines : List ClosedLine
  deriving DecidableEq, Repr

/-- A retained ledger batch (R328): its parts, the lead's MONO at its emission, its place in the retention region. -/
structure Batch where
  seq : BitVec 32
  minute : Nat
  parts : List (List Word)
  at_ : Nat
  base : Nat
  deriving DecidableEq, Repr

/-- Tally (13). `queues` is keyed by die and queue (0 to 7 the combs', 8 the egress count queue), `late` by die, tenant and minute;
`closedTo` is one more than the last minute that a die has closed; `marks` gives a minute's HOLDOVER (bit 0) and STEP (bit 1),
`holdFrom` the STIME at which the present holdover began; `cache` the tenants whose lines are in a die's tally cache, oldest first;
`resume` the first minute lost by a power loss whose batch is still to be emitted. -/
structure TalS where
  lines : Map (List TallyLine)
  queues : Map (List TallyReq)
  late : Map (Option (Vector (BitVec 64) 8))
  closed : Map (List ClosedMin)
  closedTo : Map Nat
  marks : Map Nat
  holdFrom : Option Nat
  cache : Map (List Nat)
  batches : List Batch
  nextSeq : BitVec 32
  lastMinute : Nat
  partialNext : Bool
  resume : Option Nat
  polTokens : Map (Option TokenBucket)
  deriving DecidableEq, Repr

/-! ## Memories (14) -/

/-- A DRAM read waiting at a controller port (R344, R345): the deep forager's of a bucket, or the tally unit's of a tenant's line. `at_` is
the MONO of its arrival, `block` the block address in units of 64 bytes, `blocks` their number, `tag` the cache bucket's tag or the
tenant, `bucket` the DRAM bucket. -/
structure DramReq where
  port : Nat
  at_ : Nat
  block : Nat
  blocks : Nat
  tag : Nat
  bucket : Nat
  deriving DecidableEq, Repr

/-- Shared memories and DRAM (14). `dramPoison` lists poisoned blocks as die × 2^40 + block; `used` counts the transfers of each port in
the window whose number `window` gives. -/
structure MemS where
  dramPoison : List Nat
  queue : Map (List DramReq)
  window : Map Nat
  used : Map Nat
  alerts : Map Nat
  down : Map Bool
  idleSince : Map Nat
  scrubPos : Map Nat
  deriving DecidableEq, Repr

/-! ## The Keeper (15, 16) -/

/-- One accepted sequence of a session's window (R361, R363). -/
structure SeqRec where
  seq : BitVec 32
  status : Nat
  tag : BitVec 128
  deriving DecidableEq, Repr

/-- An open session (R361 to R374). `window` records the accepted sequences of the window; `filter` is the EVENT filter. -/
structure Session where
  inc : Nat
  priv : Nat
  keySlot : Nat
  key : BitVec 256
  port : Nat
  addr : BitVec 48
  vlan : Option Word
  hi : BitVec 32
  window : List SeqRec
  seen : BitVec 64
  idleSince : Nat
  mask : Word
  filter : Word
  noteSeq : BitVec 32
  queue : List (Word × List Word)
  opened : Nat
  deriving DecidableEq, Repr

/-- A key slot of the key area (R365): privilege 0 is an empty slot. -/
structure KeySlot where
  priv : Nat
  key : BitVec 256
  deriving DecidableEq, Repr

/-- A held resource claim (R379 to R381). `holder` is a master ID; `under` is the holder that a higher rank preempted. -/
structure Claim where
  rank : Nat
  feature : Word
  holder : Word
  value : Nat
  under : Option (Nat × Word × Word × Nat)
  deriving DecidableEq, Repr

structure KprS where
  sessions : Map (Option Session)
  incs : Map Nat
  keys : Map KeySlot
  nonces : List (BitVec 128 × Nat)
  fails : List Nat
  started : Nat × Nat
  claims : Map (Option Claim)
  restarting : Map (Option Nat)
  mapRows : Map Word
  mapBad : List Nat
  mapDigests : Map (List Word × Nat)
  mapFenced : BitVec 8
  deriving DecidableEq, Repr

/-! ## Faults, inspection, recorder (17, 18, 19) -/

/-- A location of the fault tracker (R406). -/
inductive Loc where
  | word (unit row word : Nat)
  | cell (id : Nat)
  | unit (unit : Nat)
  | lane (link lane : Nat)
  | keeper
  deriving DecidableEq, Repr

/-- A tracker line (R406): the location, its kind, the MONO times of its events, and whether it is lasting. -/
structure TrackLine where
  loc : Loc
  kind : Nat
  times : List Nat
  lasting : Bool
  deriving DecidableEq, Repr

/-- The thermal history of a die (R417), in 0.1 °C and ms, with the present readings. -/
structure Thermal where
  temps : List Int
  above95 : Nat
  peak : Int
  weighted : Int
  time : Nat
  lifeGone : Bool
  lastRead : Nat
  deriving DecidableEq, Repr

structure FltS where
  track : Map (List TrackLine)
  thermal : Map Thermal
  retiredUnits : List Nat
  retiredLanes : List Nat
  replays : Map (List (Nat × Nat))
  thermTrip : Bool
  tripped : BitVec 8
  deriving DecidableEq, Repr

/-- A cell slice in progress on a die's lane (R424): the comb, the physical cell under test, its stand-in, the step reached, the MONO at
which it started; `fallback` marks a capacity-taking slice (R428). -/
structure Slice where
  comb : Nat
  cell : Nat
  spare : Nat
  step : Nat
  since : Nat
  fallback : Bool
  deriving DecidableEq, Repr

/-- A bank step in progress on a die (R431): the unit under test, the step reached (2 copy, 4 test, 5 reload), its MONO, and the unit that
waits for the spare (R433); `bad` once its failure has been counted. -/
structure BankStep where
  unit : Nat
  step : Nat
  since : Nat
  waiter : Option Nat
  bad : Bool
  deriving DecidableEq, Repr

/-- Inspection and repair (18). `places` gives the physical cell at each position of a comb (R80, R425), itself where unlisted; `clears`
the MONO, plus 1, at which a bit of FLT.GUARANTEE whose condition has ended is restored (R411); `nextCell`, `nextComb` and `nextUnit` the
cell, comb and unit that come next on a comb, a lane and a die; `soft` and `fused` the repairs as (die, unit, row); `withdrawn` the buffers
of retired banks (R408); `firedAt` the MONO of a die's last firing (R426). -/
structure InspS where
  places : Map Nat
  clears : Map Nat
  slices : Map (Option Slice)
  bank : Map (Option BankStep)
  nextCell : Map Nat
  nextComb : Map Nat
  nextUnit : Map Nat
  stopGroups : Map (BitVec 3)
  results : Map (List (List Word))
  soft : List (Nat × Nat × Nat)
  fused : List (Nat × Nat × Nat)
  fuses : Map Nat
  withdrawn : Map Nat
  firedAt : Map Nat
  deriving DecidableEq, Repr

/-- A record (R439). `time` is in ns; `fclass` is the class of the FAULT notification that it carries (R400), 0 for none. -/
structure Rec where
  fclass : Nat
  time : Nat
  code : Word
  source : Word
  seq : BitVec 24
  supp : BitVec 8
  data : List Word
  deriving DecidableEq, Repr

/-- A rate-limit bucket (R442). -/
structure RateBucket where
  rate : Nat
  burst : Nat
  tokens : Nat
  below : Nat
  supp : Nat
  deriving DecidableEq, Repr

/-- The state block of the nonvolatile store (R447): when it was written, the sequence of the next ledger batch and the minute of the last
one, the thermal history of each die. -/
structure StateBlock where
  time : Nat
  nextSeq : BitVec 32
  minute : Nat
  thermal : Map Thermal
  deriving DecidableEq, Repr

/-- A flush in progress (R448): the reason, the number of log entries it writes, REC.CNT_NOTREC, STIME and MONO at its start, the reason of
one requested meanwhile. -/
structure Flush where
  reason : Nat
  count : Nat
  notrec : Nat
  stime : Nat
  mono : Nat
  again : Option Nat
  deriving DecidableEq, Repr

/-- An image of the nonvolatile recorder area (R447). -/
structure NvImage where
  image : BitVec 32
  die : Nat
  reason : Nat
  time : Nat
  records : List Rec
  notrec : Nat
  state : StateBlock
  deriving DecidableEq, Repr

structure RecS where
  buf : Map (List Rec)
  lost : Map Nat
  buckets : Map RateBucket
  log : List Rec
  nextSeq : BitVec 24
  stopped : Bool
  nvFail : Bool
  clears : Nat
  flush : Option Flush
  images : Map (Option NvImage)
  stateBlocks : Map (Option StateBlock)
  lastImage : BitVec 32
  pfail : Option Nat
  dumpAt : Map Nat
  deriving DecidableEq, Repr

/-! ## Start-up, pair, lanes (20, 21, 22) -/

/-- A firmware slot (R466 to R470). -/
structure FwSlot where
  state : Nat
  release : Word
  imageSeq : BitVec 32
  length : Nat
  words : Map Word
  deriving DecidableEq, Repr

/-- A restart of every Keeper on another image (R470): the lead's MONO at which it began, the dies whose Keeper has reported, whether the
old image is being restored, the session and the command that asked. -/
structure Activation where
  at_ : Nat
  ready : BitVec 8
  old : Bool
  ses : Nat
  msg : EmpMsg
  deriving DecidableEq, Repr

/-- Start-up and firmware (20) and the TAP (R509). `bcr` and `slots` stand for both devices (slots by die × 2 + slot); `running` is the slot
that runs, `image` its RELEASE and IMAGE_SEQ, `fwFailed` tells that the last activation was undone, `warm` that a package warm reset waits
for its start-up timeline, with the session that caused it (0 for JTAG); `keyCap` is what KEY_CLAIM captures
next, `jtag` the TAP's instruction, `scan` the boundary register's update latches. -/
structure BootS where
  bcr : Map Word
  slots : Map FwSlot
  running : Nat
  image : Word × BitVec 32
  verified : Bool
  fwFailed : Bool
  warm : Option Word
  activating : Option Activation
  unusableCells : List Nat
  keyCap : Nat
  jtag : Nat
  scan : List Bool
  deriving DecidableEq, Repr

/-- A joint commit that waits for its ACK (R482): the slot, T, the MONO of the PROPOSE, the session that asked and its command. -/
structure Joint where
  slot : Nat
  t : Nat
  at_ : Nat
  ses : Nat
  msg : EmpMsg
  deriving DecidableEq, Repr

/-- The redundant pair (21). `partner` is the partner's MAC, role and RELEASE; `hbRun` the MONO since which heartbeats arrive on a pair
port without a gap, `hbLast` that of the last one; `lastHb` the T_TX of the last heartbeat and the STIME of its arrival; `withdraw` the T of
a joint commit being withdrawn and the MONO of the last WITHDRAW; `ckpts` the heartbeats since the last CHECKPOINT, `sent` what the
checkpoints have carried of each tenant line, `held` what those of the partner have brought, by minute and tenant; `retryAt` the MONO of the
last write of a group entry that was refused; `theirs` the sequence and
minute of the partner's last batch, `behalf` the last minute emitted on its behalf; `theirDigest` a pair digest that waits for this
package's own recomputation. -/
structure PairS where
  key : BitVec 256
  partner : Option (BitVec 48 × Bool × Word)
  hi : BitVec 32
  seen : BitVec 64
  txSeq : BitVec 32
  helloAt : Nat
  hbRun : Map Nat
  hbLast : Map Nat
  lastHb : Nat × Nat
  offsets : List Int
  members : List Nat
  groups : Map (Option Nat)
  retry : List Nat
  retryAt : Nat
  probeStart : Option Nat
  probeSent : Nat
  probeAcked : Option Nat
  downAt : Option Nat
  joint : Option Joint
  withdraw : Option (Nat × Nat)
  ckpts : Nat
  sent : Map (Vector (BitVec 64) 8)
  held : Map TallyLine
  theirs : Nat × Nat
  behalf : Nat
  theirDigest : Option (List Word)
  deriving DecidableEq, Repr

structure PhyS where
  noRef : Map Bool
  taps : Map Int
  deriving DecidableEq, Repr

/-! ## The package -/

/-- What the package shares: the number of dies, the lead, the usable, retired and fenced dies (R13, R24 to R27). -/
structure Pkg where
  n : Nat
  lead : Nat
  noLead : Bool
  leadMoved : Bool
  usable : BitVec 8
  retired : BitVec 8
  fenced : BitVec 8
  running : Bool
  heard : Map Nat
  deriving DecidableEq, Repr

/-- What the block sends. -/
inductive Output where
  /-- an EMP frame: host port, destination, 802.1Q tag, header and payload words, tag (R358) -/
  | emp (port : Nat) (dst : BitVec 48) (vlan : Option Word) (words : List Word) (tag : BitVec 128)
  /-- a frame on a port, without FCS; `bad` when it ends with a bad FCS -/
  | frame (gpn : Nat) (bytes : List Byte) (bad : Bool)
  /-- a PAUSE or PFC frame (R302, R303): classes and time -/
  | pause (gpn : Nat) (pfc : Bool) (classes : BitVec 8) (quanta : Word)
  /-- a PPS pulse on TIME0 or TIME1 at a STIME -/
  | pulse (pin : Nat) (stime : Nat)
  /-- a pair-control frame: port, words, tag (R474) -/
  | pair (gpn : Nat) (dst : BitVec 48) (words : List Word) (tag : BitVec 128)
  /-- a JTAG data register shifted out -/
  | scan (bits : List Bool)
  /-- the level of THERMTRIP_N -/
  | thermTrip (low : Bool)
  deriving DecidableEq, Repr

structure State where
  pkg : Pkg
  regs : Map (BitVec 80)
  core : CoreS
  time : TimeS
  path : PathS
  tbl : TblS
  gen : GenS
  egr : EgrS
  tal : TalS
  memo : MemS
  kpr : KprS
  flt : FltS
  insp : InspS
  log : RecS
  boot : BootS
  pair : PairS
  phy : PhyS
  out : List Output
  free : Nat
  pending : List Instr
  deriving DecidableEq, Repr

/-- The package right after RESET_N has gone low (R9, R465), before RESET_N and PWRGOOD rise and the start-up timeline runs
(POWER_ON_START). Every store lists nothing, so every register reads its reset value. DESIGN CHOICE (log entry 1): the variant, which
the manual leaves to the part, is the QN-2564. -/
def State.reset : State :=
  { pkg :=
    { n := 4, lead := 0, noLead := false, leadMoved := false, usable := 0, retired := 0, fenced := 0,
      running := false, heard := [] },
    regs := [],
    core :=
    { stallCfg := [], threads := [], cells := [], combs := [], mem := [], poison := [], prog := [], locks := [], banks := [] },
    time :=
    { clocks := [], sched := [], fired := [], alarms := [], ptp := ⟨false, 0, 0⟩, pps := ⟨false, 0, 0⟩,
      tenMHz := ⟨false, 0, 0⟩, xfail := 0, xpass := 0, correction := .idle, pendingSet := none, offset := 0, lockedSince := none,
      leap := 0, lastLeap := (0, 0), ppsLast := [], jumped := [] },
    path :=
    { frames := [], nextId := 1, ingress := [], pipes := [], wq := [], nextOrder := 1, tags := [],
      domains := [], graph := [] },
    tbl :=
    { entries := [], deepTags := [], engines := [], rehash := [], learnQ := [], tracker := [], storm := [], sweeps := [],
      notes := [], notesLost := [], noteSeq := [], noteWin := [], assist := [], tenantClass := [], flying := [], ageSet := (1000, 1),
      ageIn := [], ticks := [] },
    gen :=
    { lastGen := 0, openOwner := none, graphStaged := false, progStaged := false, drainSince := [], digests := [],
      audit := [] },
    egr :=
    { queues := [], xfers := [], offers := [], groups := [], written := [], ports := [], shapers := [], lfsr := [],
      jobs := [], samplers := [], excSeq := [], suspended := [], links := [], paths := [] },
    tal :=
    { lines := [], queues := [], late := [], closed := [], closedTo := [], marks := [], holdFrom := none, cache := [], batches := [],
      nextSeq := 0, lastMinute := 0, partialNext := true, resume := none, polTokens := [] },
    memo :=
    { dramPoison := [], queue := [], window := [], used := [], alerts := [], down := [], idleSince := [],
      scrubPos := [] },
    kpr :=
    { sessions := [], incs := [], keys := [], nonces := [], fails := [], started := (0, 0), claims := [],
      restarting := [], mapRows := [], mapBad := [], mapDigests := [], mapFenced := 0 },
    flt :=
    { track := [], thermal := [], retiredUnits := [], retiredLanes := [], replays := [], thermTrip := false, tripped := 0 },
    insp :=
    { places := [], clears := [], slices := [], bank := [], nextCell := [], nextComb := [], nextUnit := [], stopGroups := [],
      results := [], soft := [], fused := [], fuses := [], withdrawn := [], firedAt := [] },
    log :=
    { buf := [], lost := [], buckets := [], log := [], nextSeq := 0, stopped := false, nvFail := false,
      clears := 0, flush := none, images := [], stateBlocks := [], lastImage := 0, pfail := none, dumpAt := [] },
    boot :=
    { bcr := [], slots := [], running := 0, image := (0, 0), verified := false, fwFailed := false, warm := none, activating := none, unusableCells := [],
      keyCap := 0, jtag := 1, scan := [] },
    pair :=
    { key := 0, partner := none, hi := 0, seen := 0, txSeq := 0, helloAt := 0, hbRun := [], hbLast := [], lastHb := (0, 0), offsets := [],
      members := [], groups := [], retry := [], retryAt := 0, probeStart := none, probeSent := 0, probeAcked := none, downAt := none, joint := none,
      withdraw := none, ckpts := 0, sent := [], held := [], theirs := (0, 0), behalf := 0, theirDigest := none },
    phy :=
    { noRef := [], taps := [] },
    out := [], free := 0, pending := [] }

end Sys2Proof.Machine
end

