-- ==== Sys2Proof/Machine/Registers.lean ====
section
/-!
DEFINITION. The registers of the package (R376, R515): names, blocks, widths, access codes, defined bits, instances and
reset values, as the register tables of each chapter give them. Every numbered configuration register and counter has its one
home in `State.regs`, keyed by die, slot, register and instance; the registers that show other state are derived in Ops.
-/

namespace Sys2Proof.Machine

/-- The access codes of R8 that the registers use. -/
inductive Access where
  | ro | rw | rc
  deriving DecidableEq, Repr

/-- Every register of the manual that is addressed by block and number. -/
inductive RegName where
  | pkgDieIdent
  | timeSrcCtl
  | timeStatus
  | timeUtcOffset
  | parseCntPass
  | parseCntShort
  | parseCntDeep
  | parseCntNoedge
  | parseCntHalf
  | parsePortCfg
  | parsePortDef
  | dispCombDom
  | dispPortOrd
  | dispPortClass
  | dispWqCfg
  | dispWqDepth
  | dispWqHwm
  | dispWqItems
  | dispWqWaitCur
  | dispWqWaitMax
  | dispWqHist0
  | dispWqHist1
  | dispWqHist2
  | dispWqHist3
  | dispWqHist4
  | dispWqHist5
  | dispWqHist6
  | dispWqHist7
  | dispWqHist8
  | dispWqHist9
  | dispWqHist10
  | dispWqHist11
  | dispWqHist12
  | dispWqHist13
  | dispWqHist14
  | dispWqHist15
  | dispWqHistCtl
  | dispCellLoad
  | dispCntIngDrop
  | ordCntRel
  | ordCntDrop
  | ordCntLate
  | ordCntLateDiscard
  | ordCntRecircLimit
  | ordTagsInuse
  | ordTagsHwm
  | cellPdomCfg
  | cellPdomShare
  | cellThrState
  | cellCntIssue
  | cellCntItems
  | cellCntFault
  | lockCntAcq
  | lockCntBusy
  | lockCntAbandon
  | evCntStall
  | evCntSigBad
  | evCntSigLost
  | evStallCfg
  | bkCntErr
  | tblDesc0
  | tblDesc1
  | tblDesc2
  | tblDesc3
  | tblDesc4
  | tblKeyMask0
  | tblKeyMask1
  | tblKeyMask2
  | tblKeyMask3
  | tblKeyMask4
  | tblKeyMask5
  | tblKeyMask6
  | tblKeyMask7
  | tblKeyMask8
  | tblKeyMask9
  | tblKeyMask10
  | tblKeyMask11
  | tblKeyMask12
  | tblKeyMask13
  | tblKeyMask14
  | tblKeyMask15
  | tblKeyMask16
  | tblKeyMask17
  | tblKeyMask18
  | tblKeyMask19
  | tblKeyMask20
  | tblKeyMask21
  | tblKeyMask22
  | tblKeyMask23
  | tblGrpCfg
  | tblGrpMember0
  | tblGrpMember1
  | tblGrpMember2
  | tblGrpMember3
  | tblGrpMember4
  | tblGrpMember5
  | tblGrpMember6
  | tblGrpMember7
  | tblGrpMember8
  | tblGrpMember9
  | tblGrpMember10
  | tblGrpMember11
  | tblGrpMember12
  | tblGrpMember13
  | tblGrpMember14
  | tblGrpMember15
  | tblGrpMember16
  | tblGrpMember17
  | tblGrpMember18
  | tblGrpMember19
  | tblGrpMember20
  | tblGrpMember21
  | tblGrpMember22
  | tblGrpMember23
  | tblGrpMember24
  | tblGrpMember25
  | tblGrpMember26
  | tblGrpMember27
  | tblGrpMember28
  | tblGrpMember29
  | tblGrpMember30
  | tblGrpMember31
  | tblCntLookup
  | tblCntHit
  | tblCntInsert
  | tblCntRemove
  | tblCntNoRoom
  | tblCntMoves
  | tblCntDeepMiss
  | tblOccBucket
  | tblOccOvf
  | tblCntReqErr
  | lrnTblCfg
  | lrnMoveCfg
  | lrnPortGuard
  | lrnTclassLimit0
  | lrnTclassLimit1
  | lrnTclassLimit2
  | lrnTclassLimit3
  | lrnTclassLimit4
  | lrnTclassLimit5
  | lrnTclassLimit6
  | lrnTclassLimit7
  | lrnTclassLimit8
  | lrnTclassLimit9
  | lrnTclassLimit10
  | lrnTclassLimit11
  | lrnTclassLimit12
  | lrnTclassLimit13
  | lrnTclassLimit14
  | lrnTclassLimit15
  | lrnAssistCfg
  | lrnAgeNow
  | lrnNotifyCtl
  | lrnCntLearn
  | lrnCntMove
  | lrnCntRefused
  | lrnCntBad
  | lrnCntQDrop
  | lrnCntTrackFull
  | lrnCntRefreshDrop
  | lrnCntAssistLost
  | lrnContestedNow
  | pguardStorm
  | pguardCntStorm
  | pguardCntSrcBad
  | genSlot0
  | genSlot1
  | genSlot2
  | genSlot3
  | genHold0
  | genHold1
  | genHold2
  | genHold3
  | genCommitT
  | genPolicy
  | bufPoolCfg
  | bufOwnCfg
  | bufFree
  | bufFreeLow
  | bufOwnUsed
  | bufCntRefused
  | bufCntFreeRefused
  | bufCntResetRel
  | qmQCfg
  | qmProfile
  | qmTgCfg
  | qmPortCfg
  | qmQBytes
  | qmQFrames
  | qmQHwm
  | qmCntAdmit
  | qmCntAdmitB
  | qmCntRefuse
  | qmCntDiscard
  | qmCntRefBadLength
  | qmCntRefQdisabled
  | qmCntRefQMax
  | qmCntRefPortCap
  | qmCntRefTgCap
  | qmCntRefQDyn
  | qmCntRefNobuf
  | qmCntRefShares
  | qmCntDiscAged
  | qmCntDiscFlushLinkdown
  | qmCntDiscGenRetire
  | qmCntDiscQmFlush
  | qmCntMcPartial
  | qmCntMcEmpty
  | egrClassCfg
  | egrTgSched
  | egrQSched
  | egrLinkCfg
  | egrLinkStat
  | egrPortFc
  | egrEcnProf
  | egrMirCfg
  | egrSmpCfg
  | egrCntTx
  | egrCntTxB
  | egrCntUnderrun
  | egrCntTxAbort
  | egrCntLinkLoss
  | egrCntFlush
  | egrCntDownRef
  | egrCntPauseTx
  | egrCntPauseRx
  | egrCntPauseGuard
  | egrCntMacctlOther
  | egrCntPfcWd
  | egrPausedNs
  | egrCntEcnMark
  | egrCntEcnNotect
  | egrCntMir
  | egrCntMirSkip
  | egrCntSmp
  | egrCntSmpSkip
  | tallyPol
  | tallyCloseCtl
  | tallyRetainCfg
  | tallyCntDenied
  | tallyCntLate
  | tallyCntFolded
  | tallyCntMiss
  | tallyCntPolExceed
  | tallyCntRetainLost
  | memBankPwr
  | memDramCfg
  | memDramShare0
  | memDramShare1
  | memDramShare2
  | memDramShare3
  | memDramShare4
  | memDramShare5
  | memCntCollide
  | memCntDramCe
  | memCntDramUe
  | memCntDramAlert
  | memCntDramLate
  | memScrubPass
  | switchDropNodie
  | bridgeLostFrames
  | kprMgmtCfg
  | kprClaimPolicy
  | kprCntCmd
  | kprCntNotEmp
  | kprCntLength
  | kprCntAuthFail
  | kprCntSeq
  | kprCntBusy
  | kprCntNotifyDrop
  | mapCntQdeny
  | fltThresh
  | fltGuarantee
  | fltCntSramCe
  | fltCntSramUe
  | fltCntIllegal
  | fltCntKprMismatch
  | fltCntTrackFull
  | fltCntLasting
  | fltCntReplay
  | inspCfg
  | inspCombStat
  | inspRepair
  | inspCntCellPass
  | inspCntCellFail
  | inspCntBankPass
  | inspCntBankFail
  | inspCntPassover
  | inspCntAbort
  | inspCntDrainCut
  | recCfg
  | recLogStat
  | recCntSupp
  | recCntDieLost
  | recCntNotrec
  | recCntFlush
  | bootDieStat
  | bootCntPregen
  | pairCfg
  | pairStatus
  | pairCntHbTx
  | pairCntHbRx
  | pairCntAuthFail
  | pairCntCkptTx
  | pairCntCkptRx
  | phyPortCfg
  | phyPortStat
  | phyCntRxOk
  | phyCntRxB
  | phyCntRxFcs
  | phyCntRxShort
  | phyCntRxLong
  | phyCntRxErr
  | phyFecCwCorr
  | phyFecCwUncorr
  | phyFecSym
  | pwrVid
  | pwrTemp0
  | pwrTemp1
  | pwrTemp2
  | pwrTemp3
  deriving DecidableEq, Repr

/-- What a register table gives: block ID (R376), name after the block prefix, width, access, number of instances, whether it is held
per generation slot, whether REG_WRITE may write it, and its defined bits (the others are reserved, R10). -/
structure RegSpec where
  block : Nat
  name : String
  width : Nat
  access : Access
  insts : Nat
  perSlot : Bool
  writable : Bool
  mask : Nat
  deriving DecidableEq, Repr

/-- The register tables. -/
def RegName.spec : RegName → RegSpec
  | .pkgDieIdent => ⟨0x01, "DIE_IDENT", 32, .ro, 1, false, false, 0xFF0F77⟩
  | .timeSrcCtl => ⟨0x02, "SRC_CTL", 32, .rw, 1, false, false, 0xFF7F⟩
  | .timeStatus => ⟨0x02, "STATUS", 32, .ro, 1, false, false, 0xFFFF03FF⟩
  | .timeUtcOffset => ⟨0x02, "UTC_OFFSET", 32, .ro, 1, false, false, 0xFFFF⟩
  | .parseCntPass => ⟨0x03, "CNT_PASS", 64, .ro, 33, false, false, 0xFFFFFFFFFFFFFFFF⟩
  | .parseCntShort => ⟨0x03, "CNT_SHORT", 64, .ro, 33, false, false, 0xFFFFFFFFFFFFFFFF⟩
  | .parseCntDeep => ⟨0x03, "CNT_DEEP", 64, .ro, 33, false, false, 0xFFFFFFFFFFFFFFFF⟩
  | .parseCntNoedge => ⟨0x03, "CNT_NOEDGE", 64, .ro, 33, false, false, 0xFFFFFFFFFFFFFFFF⟩
  | .parseCntHalf => ⟨0x03, "CNT_HALF", 64, .ro, 33, false, false, 0xFFFFFFFFFFFFFFFF⟩
  | .parsePortCfg => ⟨0x03, "PORT_CFG", 32, .rw, 33, true, false, 0x1FF0FFF⟩
  | .parsePortDef => ⟨0x03, "PORT_DEF", 32, .rw, 33, true, false, 0x1FF000F⟩
  | .dispCombDom => ⟨0x04, "COMB_DOM", 32, .rw, 8, true, false, 0xF⟩
  | .dispPortOrd => ⟨0x04, "PORT_ORD", 32, .rw, 33, true, false, 0x3FFF07FF⟩
  | .dispPortClass => ⟨0x04, "PORT_CLASS", 32, .rw, 33, true, false, 0xF3FFF⟩
  | .dispWqCfg => ⟨0x04, "WQ_CFG", 32, .rw, 128, true, false, 0xFFFFFFFF⟩
  | .dispWqDepth => ⟨0x04, "WQ_DEPTH", 17, .ro, 128, false, false, 0x1FFFF⟩
  | .dispWqHwm => ⟨0x04, "WQ_HWM", 17, .rc, 128, false, false, 0x1FFFF⟩
  | .dispWqItems => ⟨0x04, "WQ_ITEMS", 64, .ro, 128, false, false, 0xFFFFFFFFFFFFFFFF⟩
  | .dispWqWaitCur => ⟨0x04, "WQ_WAIT_CUR", 32, .ro, 128, false, false, 0xFFFFFFFF⟩
  | .dispWqWaitMax => ⟨0x04, "WQ_WAIT_MAX", 32, .rc, 128, false, false, 0xFFFFFFFF⟩
  | .dispWqHist0 => ⟨0x04, "WQ_HIST0", 11, .ro, 128, false, false, 0x7FF⟩
  | .dispWqHist1 => ⟨0x04, "WQ_HIST1", 11, .ro, 128, false, false, 0x7FF⟩
  | .dispWqHist2 => ⟨0x04, "WQ_HIST2", 11, .ro, 128, false, false, 0x7FF⟩
  | .dispWqHist3 => ⟨0x04, "WQ_HIST3", 11, .ro, 128, false, false, 0x7FF⟩
  | .dispWqHist4 => ⟨0x04, "WQ_HIST4", 11, .ro, 128, false, false, 0x7FF⟩
  | .dispWqHist5 => ⟨0x04, "WQ_HIST5", 11, .ro, 128, false, false, 0x7FF⟩
  | .dispWqHist6 => ⟨0x04, "WQ_HIST6", 11, .ro, 128, false, false, 0x7FF⟩
  | .dispWqHist7 => ⟨0x04, "WQ_HIST7", 11, .ro, 128, false, false, 0x7FF⟩
  | .dispWqHist8 => ⟨0x04, "WQ_HIST8", 11, .ro, 128, false, false, 0x7FF⟩
  | .dispWqHist9 => ⟨0x04, "WQ_HIST9", 11, .ro, 128, false, false, 0x7FF⟩
  | .dispWqHist10 => ⟨0x04, "WQ_HIST10", 11, .ro, 128, false, false, 0x7FF⟩
  | .dispWqHist11 => ⟨0x04, "WQ_HIST11", 11, .ro, 128, false, false, 0x7FF⟩
  | .dispWqHist12 => ⟨0x04, "WQ_HIST12", 11, .ro, 128, false, false, 0x7FF⟩
  | .dispWqHist13 => ⟨0x04, "WQ_HIST13", 11, .ro, 128, false, false, 0x7FF⟩
  | .dispWqHist14 => ⟨0x04, "WQ_HIST14", 11, .ro, 128, false, false, 0x7FF⟩
  | .dispWqHist15 => ⟨0x04, "WQ_HIST15", 11, .ro, 128, false, false, 0x7FF⟩
  | .dispWqHistCtl => ⟨0x04, "WQ_HIST_CTL", 32, .rw, 128, false, true, 0x1FFF⟩
  | .dispCellLoad => ⟨0x04, "CELL_LOAD", 32, .ro, 136, false, false, 0xFFFFFFFF⟩
  | .dispCntIngDrop => ⟨0x04, "CNT_ING_DROP", 64, .ro, 33, false, false, 0xFFFFFFFFFFFFFFFF⟩
  | .ordCntRel => ⟨0x05, "CNT_REL", 64, .ro, 4096, false, false, 0xFFFFFFFFFFFFFFFF⟩
  | .ordCntDrop => ⟨0x05, "CNT_DROP", 64, .ro, 4096, false, false, 0xFFFFFFFFFFFFFFFF⟩
  | .ordCntLate => ⟨0x05, "CNT_LATE", 64, .ro, 4096, false, false, 0xFFFFFFFFFFFFFFFF⟩
  | .ordCntLateDiscard => ⟨0x05, "CNT_LATE_DISCARD", 64, .ro, 4096, false, false, 0xFFFFFFFFFFFFFFFF⟩
  | .ordCntRecircLimit => ⟨0x05, "CNT_RECIRC_LIMIT", 64, .ro, 4096, false, false, 0xFFFFFFFFFFFFFFFF⟩
  | .ordTagsInuse => ⟨0x05, "TAGS_INUSE", 17, .ro, 1, false, false, 0x1FFFF⟩
  | .ordTagsHwm => ⟨0x05, "TAGS_HWM", 17, .rc, 1, false, false, 0x1FFFF⟩
  | .cellPdomCfg => ⟨0x06, "PDOM_CFG", 32, .rw, 16, true, false, 0xFFF3FFF⟩
  | .cellPdomShare => ⟨0x06, "PDOM_SHARE", 32, .rw, 16, true, false, 0xFFFF⟩
  | .cellThrState => ⟨0x06, "THR_STATE", 32, .ro, 1088, false, false, 0xFFFFFFFF⟩
  | .cellCntIssue => ⟨0x06, "CNT_ISSUE", 64, .ro, 136, false, false, 0xFFFFFFFFFFFFFFFF⟩
  | .cellCntItems => ⟨0x06, "CNT_ITEMS", 64, .ro, 136, false, false, 0xFFFFFFFFFFFFFFFF⟩
  | .cellCntFault => ⟨0x06, "CNT_FAULT", 32, .ro, 136, false, false, 0xFFFFFFFF⟩
  | .lockCntAcq => ⟨0x08, "CNT_ACQ", 64, .ro, 1, false, false, 0xFFFFFFFFFFFFFFFF⟩
  | .lockCntBusy => ⟨0x08, "CNT_BUSY", 64, .ro, 1, false, false, 0xFFFFFFFFFFFFFFFF⟩
  | .lockCntAbandon => ⟨0x08, "CNT_ABANDON", 32, .ro, 1, false, false, 0xFFFFFFFF⟩
  | .evCntStall => ⟨0x07, "CNT_STALL", 32, .ro, 136, false, false, 0xFFFFFFFF⟩
  | .evCntSigBad => ⟨0x07, "CNT_SIG_BAD", 32, .ro, 136, false, false, 0xFFFFFFFF⟩
  | .evCntSigLost => ⟨0x07, "CNT_SIG_LOST", 32, .ro, 136, false, false, 0xFFFFFFFF⟩
  | .evStallCfg => ⟨0x07, "STALL_CFG", 32, .rw, 1, false, true, 0xFFFF⟩
  | .bkCntErr => ⟨0x09, "CNT_ERR", 32, .ro, 8, false, false, 0xFFFFFFFF⟩
  | .tblDesc0 => ⟨0x0a, "DESC0", 32, .rw, 64, true, false, 0x3F1F1FFF⟩
  | .tblDesc1 => ⟨0x0a, "DESC1", 32, .rw, 64, true, false, 0x3FFF00FF⟩
  | .tblDesc2 => ⟨0x0a, "DESC2", 32, .rw, 64, true, false, 0xFFFFFFFF⟩
  | .tblDesc3 => ⟨0x0a, "DESC3", 32, .rw, 64, true, false, 0xFFFFFFFF⟩
  | .tblDesc4 => ⟨0x0a, "DESC4", 32, .rw, 64, true, false, 0xFFFFFFFF⟩
  | .tblKeyMask0 => ⟨0x0a, "KEY_MASK0", 32, .rw, 64, true, false, 0xFFFF⟩
  | .tblKeyMask1 => ⟨0x0a, "KEY_MASK1", 32, .rw, 64, true, false, 0xFFFF⟩
  | .tblKeyMask2 => ⟨0x0a, "KEY_MASK2", 32, .rw, 64, true, false, 0xFFFF⟩
  | .tblKeyMask3 => ⟨0x0a, "KEY_MASK3", 32, .rw, 64, true, false, 0xFFFF⟩
  | .tblKeyMask4 => ⟨0x0a, "KEY_MASK4", 32, .rw, 64, true, false, 0xFFFF⟩
  | .tblKeyMask5 => ⟨0x0a, "KEY_MASK5", 32, .rw, 64, true, false, 0xFFFF⟩
  | .tblKeyMask6 => ⟨0x0a, "KEY_MASK6", 32, .rw, 64, true, false, 0xFFFF⟩
  | .tblKeyMask7 => ⟨0x0a, "KEY_MASK7", 32, .rw, 64, true, false, 0xFFFF⟩
  | .tblKeyMask8 => ⟨0x0a, "KEY_MASK8", 32, .rw, 64, true, false, 0xFFFF⟩
  | .tblKeyMask9 => ⟨0x0a, "KEY_MASK9", 32, .rw, 64, true, false, 0xFFFF⟩
  | .tblKeyMask10 => ⟨0x0a, "KEY_MASK10", 32, .rw, 64, true, false, 0xFFFF⟩
  | .tblKeyMask11 => ⟨0x0a, "KEY_MASK11", 32, .rw, 64, true, false, 0xFFFF⟩
  | .tblKeyMask12 => ⟨0x0a, "KEY_MASK12", 32, .rw, 64, true, false, 0xFFFF⟩
  | .tblKeyMask13 => ⟨0x0a, "KEY_MASK13", 32, .rw, 64, true, false, 0xFFFF⟩
  | .tblKeyMask14 => ⟨0x0a, "KEY_MASK14", 32, .rw, 64, true, false, 0xFFFF⟩
  | .tblKeyMask15 => ⟨0x0a, "KEY_MASK15", 32, .rw, 64, true, false, 0xFFFF⟩
  | .tblKeyMask16 => ⟨0x0a, "KEY_MASK16", 32, .rw, 64, true, false, 0xFFFF⟩
  | .tblKeyMask17 => ⟨0x0a, "KEY_MASK17", 32, .rw, 64, true, false, 0xFFFF⟩
  | .tblKeyMask18 => ⟨0x0a, "KEY_MASK18", 32, .rw, 64, true, false, 0xFFFF⟩
  | .tblKeyMask19 => ⟨0x0a, "KEY_MASK19", 32, .rw, 64, true, false, 0xFFFF⟩
  | .tblKeyMask20 => ⟨0x0a, "KEY_MASK20", 32, .rw, 64, true, false, 0xFFFF⟩
  | .tblKeyMask21 => ⟨0x0a, "KEY_MASK21", 32, .rw, 64, true, false, 0xFFFF⟩
  | .tblKeyMask22 => ⟨0x0a, "KEY_MASK22", 32, .rw, 64, true, false, 0xFFFF⟩
  | .tblKeyMask23 => ⟨0x0a, "KEY_MASK23", 32, .rw, 64, true, false, 0xFFFF⟩
  | .tblGrpCfg => ⟨0x0a, "GRP_CFG", 32, .rw, 16, true, false, 0x3F03⟩
  | .tblGrpMember0 => ⟨0x0a, "GRP_MEMBER0", 32, .rw, 16, true, false, 0x3F⟩
  | .tblGrpMember1 => ⟨0x0a, "GRP_MEMBER1", 32, .rw, 16, true, false, 0x3F⟩
  | .tblGrpMember2 => ⟨0x0a, "GRP_MEMBER2", 32, .rw, 16, true, false, 0x3F⟩
  | .tblGrpMember3 => ⟨0x0a, "GRP_MEMBER3", 32, .rw, 16, true, false, 0x3F⟩
  | .tblGrpMember4 => ⟨0x0a, "GRP_MEMBER4", 32, .rw, 16, true, false, 0x3F⟩
  | .tblGrpMember5 => ⟨0x0a, "GRP_MEMBER5", 32, .rw, 16, true, false, 0x3F⟩
  | .tblGrpMember6 => ⟨0x0a, "GRP_MEMBER6", 32, .rw, 16, true, false, 0x3F⟩
  | .tblGrpMember7 => ⟨0x0a, "GRP_MEMBER7", 32, .rw, 16, true, false, 0x3F⟩
  | .tblGrpMember8 => ⟨0x0a, "GRP_MEMBER8", 32, .rw, 16, true, false, 0x3F⟩
  | .tblGrpMember9 => ⟨0x0a, "GRP_MEMBER9", 32, .rw, 16, true, false, 0x3F⟩
  | .tblGrpMember10 => ⟨0x0a, "GRP_MEMBER10", 32, .rw, 16, true, false, 0x3F⟩
  | .tblGrpMember11 => ⟨0x0a, "GRP_MEMBER11", 32, .rw, 16, true, false, 0x3F⟩
  | .tblGrpMember12 => ⟨0x0a, "GRP_MEMBER12", 32, .rw, 16, true, false, 0x3F⟩
  | .tblGrpMember13 => ⟨0x0a, "GRP_MEMBER13", 32, .rw, 16, true, false, 0x3F⟩
  | .tblGrpMember14 => ⟨0x0a, "GRP_MEMBER14", 32, .rw, 16, true, false, 0x3F⟩
  | .tblGrpMember15 => ⟨0x0a, "GRP_MEMBER15", 32, .rw, 16, true, false, 0x3F⟩
  | .tblGrpMember16 => ⟨0x0a, "GRP_MEMBER16", 32, .rw, 16, true, false, 0x3F⟩
  | .tblGrpMember17 => ⟨0x0a, "GRP_MEMBER17", 32, .rw, 16, true, false, 0x3F⟩
  | .tblGrpMember18 => ⟨0x0a, "GRP_MEMBER18", 32, .rw, 16, true, false, 0x3F⟩
  | .tblGrpMember19 => ⟨0x0a, "GRP_MEMBER19", 32, .rw, 16, true, false, 0x3F⟩
  | .tblGrpMember20 => ⟨0x0a, "GRP_MEMBER20", 32, .rw, 16, true, false, 0x3F⟩
  | .tblGrpMember21 => ⟨0x0a, "GRP_MEMBER21", 32, .rw, 16, true, false, 0x3F⟩
  | .tblGrpMember22 => ⟨0x0a, "GRP_MEMBER22", 32, .rw, 16, true, false, 0x3F⟩
  | .tblGrpMember23 => ⟨0x0a, "GRP_MEMBER23", 32, .rw, 16, true, false, 0x3F⟩
  | .tblGrpMember24 => ⟨0x0a, "GRP_MEMBER24", 32, .rw, 16, true, false, 0x3F⟩
  | .tblGrpMember25 => ⟨0x0a, "GRP_MEMBER25", 32, .rw, 16, true, false, 0x3F⟩
  | .tblGrpMember26 => ⟨0x0a, "GRP_MEMBER26", 32, .rw, 16, true, false, 0x3F⟩
  | .tblGrpMember27 => ⟨0x0a, "GRP_MEMBER27", 32, .rw, 16, true, false, 0x3F⟩
  | .tblGrpMember28 => ⟨0x0a, "GRP_MEMBER28", 32, .rw, 16, true, false, 0x3F⟩
  | .tblGrpMember29 => ⟨0x0a, "GRP_MEMBER29", 32, .rw, 16, true, false, 0x3F⟩
  | .tblGrpMember30 => ⟨0x0a, "GRP_MEMBER30", 32, .rw, 16, true, false, 0x3F⟩
  | .tblGrpMember31 => ⟨0x0a, "GRP_MEMBER31", 32, .rw, 16, true, false, 0x3F⟩
  | .tblCntLookup => ⟨0x0a, "CNT_LOOKUP", 64, .ro, 64, false, false, 0xFFFFFFFFFFFFFFFF⟩
  | .tblCntHit => ⟨0x0a, "CNT_HIT", 64, .ro, 64, false, false, 0xFFFFFFFFFFFFFFFF⟩
  | .tblCntInsert => ⟨0x0a, "CNT_INSERT", 64, .ro, 64, false, false, 0xFFFFFFFFFFFFFFFF⟩
  | .tblCntRemove => ⟨0x0a, "CNT_REMOVE", 64, .ro, 64, false, false, 0xFFFFFFFFFFFFFFFF⟩
  | .tblCntNoRoom => ⟨0x0a, "CNT_NO_ROOM", 32, .ro, 64, false, false, 0xFFFFFFFF⟩
  | .tblCntMoves => ⟨0x0a, "CNT_MOVES", 64, .ro, 64, false, false, 0xFFFFFFFFFFFFFFFF⟩
  | .tblCntDeepMiss => ⟨0x0a, "CNT_DEEP_MISS", 64, .ro, 64, false, false, 0xFFFFFFFFFFFFFFFF⟩
  | .tblOccBucket => ⟨0x0a, "OCC_BUCKET", 27, .ro, 64, false, false, 0x7FFFFFF⟩
  | .tblOccOvf => ⟨0x0a, "OCC_OVF", 11, .ro, 64, false, false, 0x7FF⟩
  | .tblCntReqErr => ⟨0x0a, "CNT_REQ_ERR", 32, .ro, 1, false, false, 0xFFFFFFFF⟩
  | .lrnTblCfg => ⟨0x0b, "TBL_CFG", 32, .rw, 64, true, false, 0x7FFF0FFF⟩
  | .lrnMoveCfg => ⟨0x0b, "MOVE_CFG", 32, .rw, 1, true, false, 0xFFFFFFFF⟩
  | .lrnPortGuard => ⟨0x0b, "PORT_GUARD", 32, .rw, 33, true, false, 0x3FFFFF⟩
  | .lrnTclassLimit0 => ⟨0x0b, "TCLASS_LIMIT0", 32, .rw, 1, true, false, 0xFFFFF⟩
  | .lrnTclassLimit1 => ⟨0x0b, "TCLASS_LIMIT1", 32, .rw, 1, true, false, 0xFFFFF⟩
  | .lrnTclassLimit2 => ⟨0x0b, "TCLASS_LIMIT2", 32, .rw, 1, true, false, 0xFFFFF⟩
  | .lrnTclassLimit3 => ⟨0x0b, "TCLASS_LIMIT3", 32, .rw, 1, true, false, 0xFFFFF⟩
  | .lrnTclassLimit4 => ⟨0x0b, "TCLASS_LIMIT4", 32, .rw, 1, true, false, 0xFFFFF⟩
  | .lrnTclassLimit5 => ⟨0x0b, "TCLASS_LIMIT5", 32, .rw, 1, true, false, 0xFFFFF⟩
  | .lrnTclassLimit6 => ⟨0x0b, "TCLASS_LIMIT6", 32, .rw, 1, true, false, 0xFFFFF⟩
  | .lrnTclassLimit7 => ⟨0x0b, "TCLASS_LIMIT7", 32, .rw, 1, true, false, 0xFFFFF⟩
  | .lrnTclassLimit8 => ⟨0x0b, "TCLASS_LIMIT8", 32, .rw, 1, true, false, 0xFFFFF⟩
  | .lrnTclassLimit9 => ⟨0x0b, "TCLASS_LIMIT9", 32, .rw, 1, true, false, 0xFFFFF⟩
  | .lrnTclassLimit10 => ⟨0x0b, "TCLASS_LIMIT10", 32, .rw, 1, true, false, 0xFFFFF⟩
  | .lrnTclassLimit11 => ⟨0x0b, "TCLASS_LIMIT11", 32, .rw, 1, true, false, 0xFFFFF⟩
  | .lrnTclassLimit12 => ⟨0x0b, "TCLASS_LIMIT12", 32, .rw, 1, true, false, 0xFFFFF⟩
  | .lrnTclassLimit13 => ⟨0x0b, "TCLASS_LIMIT13", 32, .rw, 1, true, false, 0xFFFFF⟩
  | .lrnTclassLimit14 => ⟨0x0b, "TCLASS_LIMIT14", 32, .rw, 1, true, false, 0xFFFFF⟩
  | .lrnTclassLimit15 => ⟨0x0b, "TCLASS_LIMIT15", 32, .rw, 1, true, false, 0xFFFFF⟩
  | .lrnAssistCfg => ⟨0x0b, "ASSIST_CFG", 32, .rw, 1, true, false, 0x7FFFFF⟩
  | .lrnAgeNow => ⟨0x0b, "AGE_NOW", 16, .ro, 1, false, false, 0xFFFF⟩
  | .lrnNotifyCtl => ⟨0x0b, "NOTIFY_CTL", 32, .rw, 1, false, false, 0xFFFE⟩
  | .lrnCntLearn => ⟨0x0b, "CNT_LEARN", 64, .ro, 1, false, false, 0xFFFFFFFFFFFFFFFF⟩
  | .lrnCntMove => ⟨0x0b, "CNT_MOVE", 64, .ro, 1, false, false, 0xFFFFFFFFFFFFFFFF⟩
  | .lrnCntRefused => ⟨0x0b, "CNT_REFUSED", 64, .ro, 1, false, false, 0xFFFFFFFFFFFFFFFF⟩
  | .lrnCntBad => ⟨0x0b, "CNT_BAD", 32, .ro, 1, false, false, 0xFFFFFFFF⟩
  | .lrnCntQDrop => ⟨0x0b, "CNT_Q_DROP", 32, .ro, 1, false, false, 0xFFFFFFFF⟩
  | .lrnCntTrackFull => ⟨0x0b, "CNT_TRACK_FULL", 32, .ro, 1, false, false, 0xFFFFFFFF⟩
  | .lrnCntRefreshDrop => ⟨0x0b, "CNT_REFRESH_DROP", 64, .ro, 1, false, false, 0xFFFFFFFFFFFFFFFF⟩
  | .lrnCntAssistLost => ⟨0x0b, "CNT_ASSIST_LOST", 32, .ro, 1, false, false, 0xFFFFFFFF⟩
  | .lrnContestedNow => ⟨0x0b, "CONTESTED_NOW", 11, .ro, 1, false, false, 0x7FF⟩
  | .pguardStorm => ⟨0x0c, "STORM", 32, .rw, 32, true, false, 0x7FFFFFFF⟩
  | .pguardCntStorm => ⟨0x0c, "CNT_STORM", 64, .ro, 33, false, false, 0xFFFFFFFFFFFFFFFF⟩
  | .pguardCntSrcBad => ⟨0x0c, "CNT_SRC_BAD", 64, .ro, 33, false, false, 0xFFFFFFFFFFFFFFFF⟩
  | .genSlot0 => ⟨0x0d, "SLOT0", 32, .ro, 1, false, false, 0xFFFF003F⟩
  | .genSlot1 => ⟨0x0d, "SLOT1", 32, .ro, 1, false, false, 0xFFFF003F⟩
  | .genSlot2 => ⟨0x0d, "SLOT2", 32, .ro, 1, false, false, 0xFFFF003F⟩
  | .genSlot3 => ⟨0x0d, "SLOT3", 32, .ro, 1, false, false, 0xFFFF003F⟩
  | .genHold0 => ⟨0x0d, "HOLD0", 32, .ro, 1, false, false, 0xFFFFFFFF⟩
  | .genHold1 => ⟨0x0d, "HOLD1", 32, .ro, 1, false, false, 0xFFFFFFFF⟩
  | .genHold2 => ⟨0x0d, "HOLD2", 32, .ro, 1, false, false, 0xFFFFFFFF⟩
  | .genHold3 => ⟨0x0d, "HOLD3", 32, .ro, 1, false, false, 0xFFFFFFFF⟩
  | .genCommitT => ⟨0x0d, "COMMIT_T", 80, .ro, 1, false, false, 0xFFFFFFFFFFFFFFFFFFFF⟩
  | .genPolicy => ⟨0x0d, "POLICY", 32, .rw, 1, false, false, 0xFFFF0003⟩
  | .bufPoolCfg => ⟨0x0e, "POOL_CFG", 32, .ro, 4, false, false, 0x3FFFF⟩
  | .bufOwnCfg => ⟨0x0e, "OWN_CFG", 32, .rw, 16584, false, false, 0x3FFFFF⟩
  | .bufFree => ⟨0x0e, "FREE", 18, .ro, 4, false, false, 0x3FFFF⟩
  | .bufFreeLow => ⟨0x0e, "FREE_LOW", 18, .rc, 4, false, false, 0x3FFFF⟩
  | .bufOwnUsed => ⟨0x0e, "OWN_USED", 18, .ro, 16584, false, false, 0x3FFFF⟩
  | .bufCntRefused => ⟨0x0e, "CNT_REFUSED", 32, .ro, 16584, false, false, 0xFFFFFFFF⟩
  | .bufCntFreeRefused => ⟨0x0e, "CNT_FREE_REFUSED", 32, .ro, 1, false, false, 0xFFFFFFFF⟩
  | .bufCntResetRel => ⟨0x0e, "CNT_RESET_REL", 32, .ro, 1, false, false, 0xFFFFFFFF⟩
  | .qmQCfg => ⟨0x0f, "Q_CFG", 64, .rw, 262144, false, false, 0xFFFF3FFFFFFF⟩
  | .qmProfile => ⟨0x0f, "PROFILE", 32, .rw, 256, false, false, 0xFFFFFFFF⟩
  | .qmTgCfg => ⟨0x0f, "TG_CFG", 32, .rw, 4096, false, false, 0x7FFFFF⟩
  | .qmPortCfg => ⟨0x0f, "PORT_CFG", 64, .rw, 33, false, false, 0x1FFFF000FFFFF⟩
  | .qmQBytes => ⟨0x0f, "Q_BYTES", 27, .ro, 262144, false, false, 0x7FFFFFF⟩
  | .qmQFrames => ⟨0x0f, "Q_FRAMES", 18, .ro, 262144, false, false, 0x3FFFF⟩
  | .qmQHwm => ⟨0x0f, "Q_HWM", 27, .rc, 262144, false, false, 0x7FFFFFF⟩
  | .qmCntAdmit => ⟨0x0f, "CNT_ADMIT", 64, .ro, 262144, false, false, 0xFFFFFFFFFFFFFFFF⟩
  | .qmCntAdmitB => ⟨0x0f, "CNT_ADMIT_B", 64, .ro, 262144, false, false, 0xFFFFFFFFFFFFFFFF⟩
  | .qmCntRefuse => ⟨0x0f, "CNT_REFUSE", 64, .ro, 262144, false, false, 0xFFFFFFFFFFFFFFFF⟩
  | .qmCntDiscard => ⟨0x0f, "CNT_DISCARD", 64, .ro, 262144, false, false, 0xFFFFFFFFFFFFFFFF⟩
  | .qmCntRefBadLength => ⟨0x0f, "CNT_REF_BAD_LENGTH", 64, .ro, 33, false, false, 0xFFFFFFFFFFFFFFFF⟩
  | .qmCntRefQdisabled => ⟨0x0f, "CNT_REF_QDISABLED", 64, .ro, 33, false, false, 0xFFFFFFFFFFFFFFFF⟩
  | .qmCntRefQMax => ⟨0x0f, "CNT_REF_Q_MAX", 64, .ro, 33, false, false, 0xFFFFFFFFFFFFFFFF⟩
  | .qmCntRefPortCap => ⟨0x0f, "CNT_REF_PORT_CAP", 64, .ro, 33, false, false, 0xFFFFFFFFFFFFFFFF⟩
  | .qmCntRefTgCap => ⟨0x0f, "CNT_REF_TG_CAP", 64, .ro, 33, false, false, 0xFFFFFFFFFFFFFFFF⟩
  | .qmCntRefQDyn => ⟨0x0f, "CNT_REF_Q_DYN", 64, .ro, 33, false, false, 0xFFFFFFFFFFFFFFFF⟩
  | .qmCntRefNobuf => ⟨0x0f, "CNT_REF_NOBUF", 64, .ro, 33, false, false, 0xFFFFFFFFFFFFFFFF⟩
  | .qmCntRefShares => ⟨0x0f, "CNT_REF_SHARES", 64, .ro, 33, false, false, 0xFFFFFFFFFFFFFFFF⟩
  | .qmCntDiscAged => ⟨0x0f, "CNT_DISC_AGED", 64, .ro, 33, false, false, 0xFFFFFFFFFFFFFFFF⟩
  | .qmCntDiscFlushLinkdown => ⟨0x0f, "CNT_DISC_FLUSH_LINKDOWN", 64, .ro, 33, false, false, 0xFFFFFFFFFFFFFFFF⟩
  | .qmCntDiscGenRetire => ⟨0x0f, "CNT_DISC_GEN_RETIRE", 64, .ro, 33, false, false, 0xFFFFFFFFFFFFFFFF⟩
  | .qmCntDiscQmFlush => ⟨0x0f, "CNT_DISC_QM_FLUSH", 64, .ro, 33, false, false, 0xFFFFFFFFFFFFFFFF⟩
  | .qmCntMcPartial => ⟨0x0f, "CNT_MC_PARTIAL", 64, .ro, 33, false, false, 0xFFFFFFFFFFFFFFFF⟩
  | .qmCntMcEmpty => ⟨0x0f, "CNT_MC_EMPTY", 32, .ro, 1, false, false, 0xFFFFFFFF⟩
  | .egrClassCfg => ⟨0x10, "CLASS_CFG", 32, .rw, 264, false, false, 0x3FF⟩
  | .egrTgSched => ⟨0x10, "TG_SCHED", 32, .rw, 4096, false, false, 0xFF⟩
  | .egrQSched => ⟨0x10, "Q_SCHED", 64, .rw, 262144, false, false, 0xFFFFFFFF1FFFFFFF⟩
  | .egrLinkCfg => ⟨0x10, "LINK_CFG", 32, .rw, 33, false, false, 0x3FF0001⟩
  | .egrLinkStat => ⟨0x10, "LINK_STAT", 32, .ro, 33, false, false, 0x7⟩
  | .egrPortFc => ⟨0x10, "PORT_FC", 64, .rw, 33, false, false, 0x7FF07FF03FFFF7F⟩
  | .egrEcnProf => ⟨0x10, "ECN_PROF", 64, .rw, 16, false, false, 0xFFFFFFFFFF01⟩
  | .egrMirCfg => ⟨0x10, "MIR_CFG", 32, .rw, 8, false, false, 0xFFFFFFFF⟩
  | .egrSmpCfg => ⟨0x10, "SMP_CFG", 64, .rw, 64, false, false, 0xFFFF000F1FFF⟩
  | .egrCntTx => ⟨0x10, "CNT_TX", 64, .ro, 264, false, false, 0xFFFFFFFFFFFFFFFF⟩
  | .egrCntTxB => ⟨0x10, "CNT_TX_B", 64, .ro, 264, false, false, 0xFFFFFFFFFFFFFFFF⟩
  | .egrCntUnderrun => ⟨0x10, "CNT_UNDERRUN", 32, .ro, 33, false, false, 0xFFFFFFFF⟩
  | .egrCntTxAbort => ⟨0x10, "CNT_TX_ABORT", 32, .ro, 33, false, false, 0xFFFFFFFF⟩
  | .egrCntLinkLoss => ⟨0x10, "CNT_LINK_LOSS", 32, .ro, 33, false, false, 0xFFFFFFFF⟩
  | .egrCntFlush => ⟨0x10, "CNT_FLUSH", 32, .ro, 33, false, false, 0xFFFFFFFF⟩
  | .egrCntDownRef => ⟨0x10, "CNT_DOWN_REF", 64, .ro, 33, false, false, 0xFFFFFFFFFFFFFFFF⟩
  | .egrCntPauseTx => ⟨0x10, "CNT_PAUSE_TX", 64, .ro, 33, false, false, 0xFFFFFFFFFFFFFFFF⟩
  | .egrCntPauseRx => ⟨0x10, "CNT_PAUSE_RX", 64, .ro, 33, false, false, 0xFFFFFFFFFFFFFFFF⟩
  | .egrCntPauseGuard => ⟨0x10, "CNT_PAUSE_GUARD", 64, .ro, 33, false, false, 0xFFFFFFFFFFFFFFFF⟩
  | .egrCntMacctlOther => ⟨0x10, "CNT_MACCTL_OTHER", 32, .ro, 33, false, false, 0xFFFFFFFF⟩
  | .egrCntPfcWd => ⟨0x10, "CNT_PFC_WD", 32, .ro, 264, false, false, 0xFFFFFFFF⟩
  | .egrPausedNs => ⟨0x10, "PAUSED_NS", 64, .ro, 264, false, false, 0xFFFFFFFFFFFFFFFF⟩
  | .egrCntEcnMark => ⟨0x10, "CNT_ECN_MARK", 64, .ro, 262144, false, false, 0xFFFFFFFFFFFFFFFF⟩
  | .egrCntEcnNotect => ⟨0x10, "CNT_ECN_NOTECT", 64, .ro, 262144, false, false, 0xFFFFFFFFFFFFFFFF⟩
  | .egrCntMir => ⟨0x10, "CNT_MIR", 64, .ro, 8, false, false, 0xFFFFFFFFFFFFFFFF⟩
  | .egrCntMirSkip => ⟨0x10, "CNT_MIR_SKIP", 64, .ro, 8, false, false, 0xFFFFFFFFFFFFFFFF⟩
  | .egrCntSmp => ⟨0x10, "CNT_SMP", 64, .ro, 64, false, false, 0xFFFFFFFFFFFFFFFF⟩
  | .egrCntSmpSkip => ⟨0x10, "CNT_SMP_SKIP", 64, .ro, 64, false, false, 0xFFFFFFFFFFFFFFFF⟩
  | .tallyPol => ⟨0x11, "POL", 64, .rw, 131072, false, false, 0xFFFFFFFFFF01⟩
  | .tallyCloseCtl => ⟨0x11, "CLOSE_CTL", 32, .rw, 1, false, false, 0xFFFF0007⟩
  | .tallyRetainCfg => ⟨0x11, "RETAIN_CFG", 64, .rw, 1, false, false, 0xFFFFFFFFFFFF⟩
  | .tallyCntDenied => ⟨0x11, "CNT_DENIED", 64, .ro, 1, false, false, 0xFFFFFFFFFFFFFFFF⟩
  | .tallyCntLate => ⟨0x11, "CNT_LATE", 64, .ro, 1, false, false, 0xFFFFFFFFFFFFFFFF⟩
  | .tallyCntFolded => ⟨0x11, "CNT_FOLDED", 64, .ro, 1, false, false, 0xFFFFFFFFFFFFFFFF⟩
  | .tallyCntMiss => ⟨0x11, "CNT_MISS", 64, .ro, 1, false, false, 0xFFFFFFFFFFFFFFFF⟩
  | .tallyCntPolExceed => ⟨0x11, "CNT_POL_EXCEED", 64, .ro, 1, false, false, 0xFFFFFFFFFFFFFFFF⟩
  | .tallyCntRetainLost => ⟨0x11, "CNT_RETAIN_LOST", 64, .ro, 1, false, false, 0xFFFFFFFFFFFFFFFF⟩
  | .memBankPwr => ⟨0x12, "BANK_PWR", 32, .rw, 339, false, true, 0x1F⟩
  | .memDramCfg => ⟨0x12, "DRAM_CFG", 32, .rw, 1, false, true, 0xFFFF01⟩
  | .memDramShare0 => ⟨0x12, "DRAM_SHARE0", 32, .ro, 1, false, false, 0x3F⟩
  | .memDramShare1 => ⟨0x12, "DRAM_SHARE1", 32, .ro, 1, false, false, 0x3F⟩
  | .memDramShare2 => ⟨0x12, "DRAM_SHARE2", 32, .ro, 1, false, false, 0x3F⟩
  | .memDramShare3 => ⟨0x12, "DRAM_SHARE3", 32, .ro, 1, false, false, 0x3F⟩
  | .memDramShare4 => ⟨0x12, "DRAM_SHARE4", 32, .ro, 1, false, false, 0x3F⟩
  | .memDramShare5 => ⟨0x12, "DRAM_SHARE5", 32, .ro, 1, false, false, 0x3F⟩
  | .memCntCollide => ⟨0x12, "CNT_COLLIDE", 32, .ro, 145, false, false, 0xFFFFFFFF⟩
  | .memCntDramCe => ⟨0x12, "CNT_DRAM_CE", 64, .ro, 2, false, false, 0xFFFFFFFFFFFFFFFF⟩
  | .memCntDramUe => ⟨0x12, "CNT_DRAM_UE", 32, .ro, 2, false, false, 0xFFFFFFFF⟩
  | .memCntDramAlert => ⟨0x12, "CNT_DRAM_ALERT", 32, .ro, 2, false, false, 0xFFFFFFFF⟩
  | .memCntDramLate => ⟨0x12, "CNT_DRAM_LATE", 64, .ro, 6, false, false, 0xFFFFFFFFFFFFFFFF⟩
  | .memScrubPass => ⟨0x12, "SCRUB_PASS", 32, .ro, 1, false, false, 0xFFFFFFFF⟩
  | .switchDropNodie => ⟨0x13, "DROP_NODIE", 64, .ro, 1, false, false, 0xFFFFFFFFFFFFFFFF⟩
  | .bridgeLostFrames => ⟨0x14, "LOST_FRAMES", 64, .ro, 1, false, false, 0xFFFFFFFFFFFFFFFF⟩
  | .kprMgmtCfg => ⟨0x15, "MGMT_CFG", 80, .rw, 1, false, false, 0xFFFFFFFFFFFFFFFFFFF⟩
  | .kprClaimPolicy => ⟨0x15, "CLAIM_POLICY", 32, .rw, 1, false, false, 0xFF⟩
  | .kprCntCmd => ⟨0x15, "CNT_CMD", 32, .ro, 1, false, false, 0xFFFFFFFF⟩
  | .kprCntNotEmp => ⟨0x15, "CNT_NOT_EMP", 32, .ro, 1, false, false, 0xFFFFFFFF⟩
  | .kprCntLength => ⟨0x15, "CNT_LENGTH", 32, .ro, 1, false, false, 0xFFFFFFFF⟩
  | .kprCntAuthFail => ⟨0x15, "CNT_AUTH_FAIL", 32, .ro, 1, false, false, 0xFFFFFFFF⟩
  | .kprCntSeq => ⟨0x15, "CNT_SEQ", 32, .ro, 1, false, false, 0xFFFFFFFF⟩
  | .kprCntBusy => ⟨0x15, "CNT_BUSY", 32, .ro, 1, false, false, 0xFFFFFFFF⟩
  | .kprCntNotifyDrop => ⟨0x15, "CNT_NOTIFY_DROP", 32, .ro, 1, false, false, 0xFFFFFFFF⟩
  | .mapCntQdeny => ⟨0x20, "CNT_QDENY", 64, .ro, 1, false, false, 0xFFFFFFFFFFFFFFFF⟩
  | .fltThresh => ⟨0x21, "THRESH", 32, .rw, 5, false, false, 0xFFFFFFFF⟩
  | .fltGuarantee => ⟨0x21, "GUARANTEE", 32, .ro, 1, false, false, 0x3FFF⟩
  | .fltCntSramCe => ⟨0x21, "CNT_SRAM_CE", 32, .ro, 1, false, false, 0xFFFFFFFF⟩
  | .fltCntSramUe => ⟨0x21, "CNT_SRAM_UE", 32, .ro, 1, false, false, 0xFFFFFFFF⟩
  | .fltCntIllegal => ⟨0x21, "CNT_ILLEGAL", 32, .ro, 1, false, false, 0xFFFFFFFF⟩
  | .fltCntKprMismatch => ⟨0x21, "CNT_KPR_MISMATCH", 32, .ro, 1, false, false, 0xFFFFFFFF⟩
  | .fltCntTrackFull => ⟨0x21, "CNT_TRACK_FULL", 32, .ro, 1, false, false, 0xFFFFFFFF⟩
  | .fltCntLasting => ⟨0x21, "CNT_LASTING", 32, .ro, 1, false, false, 0xFFFFFFFF⟩
  | .fltCntReplay => ⟨0x21, "CNT_REPLAY", 32, .ro, 224, false, false, 0xFFFFFFFF⟩
  | .inspCfg => ⟨0x22, "CFG", 32, .rw, 1, false, false, 0x7FFFFF⟩
  | .inspCombStat => ⟨0x22, "COMB_STAT", 32, .ro, 8, false, false, 0x1FFF⟩
  | .inspRepair => ⟨0x22, "REPAIR", 32, .ro, 339, false, false, 0xFF3F⟩
  | .inspCntCellPass => ⟨0x22, "CNT_CELL_PASS", 32, .ro, 1, false, false, 0xFFFFFFFF⟩
  | .inspCntCellFail => ⟨0x22, "CNT_CELL_FAIL", 32, .ro, 1, false, false, 0xFFFFFFFF⟩
  | .inspCntBankPass => ⟨0x22, "CNT_BANK_PASS", 32, .ro, 1, false, false, 0xFFFFFFFF⟩
  | .inspCntBankFail => ⟨0x22, "CNT_BANK_FAIL", 32, .ro, 1, false, false, 0xFFFFFFFF⟩
  | .inspCntPassover => ⟨0x22, "CNT_PASSOVER", 32, .ro, 1, false, false, 0xFFFFFFFF⟩
  | .inspCntAbort => ⟨0x22, "CNT_ABORT", 32, .ro, 1, false, false, 0xFFFFFFFF⟩
  | .inspCntDrainCut => ⟨0x22, "CNT_DRAIN_CUT", 32, .ro, 1, false, false, 0xFFFFFFFF⟩
  | .recCfg => ⟨0x23, "CFG", 32, .rw, 1, false, false, 0xFFF⟩
  | .recLogStat => ⟨0x23, "LOG_STAT", 32, .ro, 1, false, false, 0xFFFFFFFF⟩
  | .recCntSupp => ⟨0x23, "CNT_SUPP", 64, .ro, 1, false, false, 0xFFFFFFFFFFFFFFFF⟩
  | .recCntDieLost => ⟨0x23, "CNT_DIE_LOST", 32, .ro, 1, false, false, 0xFFFFFFFF⟩
  | .recCntNotrec => ⟨0x23, "CNT_NOTREC", 32, .ro, 1, false, false, 0xFFFFFFFF⟩
  | .recCntFlush => ⟨0x23, "CNT_FLUSH", 32, .ro, 1, false, false, 0xFFFFFFFF⟩
  | .bootDieStat => ⟨0x24, "DIE_STAT", 32, .ro, 8, false, false, 0x1FFFF1F⟩
  | .bootCntPregen => ⟨0x24, "CNT_PREGEN", 64, .ro, 1, false, false, 0xFFFFFFFFFFFFFFFF⟩
  | .pairCfg => ⟨0x25, "CFG", 80, .ro, 1, false, false, 0xFFFF003F01FF01FF0003⟩
  | .pairStatus => ⟨0x25, "STATUS", 32, .ro, 1, false, false, 0xFFFF001F⟩
  | .pairCntHbTx => ⟨0x25, "CNT_HB_TX", 64, .ro, 1, false, false, 0xFFFFFFFFFFFFFFFF⟩
  | .pairCntHbRx => ⟨0x25, "CNT_HB_RX", 64, .ro, 1, false, false, 0xFFFFFFFFFFFFFFFF⟩
  | .pairCntAuthFail => ⟨0x25, "CNT_AUTH_FAIL", 64, .ro, 1, false, false, 0xFFFFFFFFFFFFFFFF⟩
  | .pairCntCkptTx => ⟨0x25, "CNT_CKPT_TX", 64, .ro, 1, false, false, 0xFFFFFFFFFFFFFFFF⟩
  | .pairCntCkptRx => ⟨0x25, "CNT_CKPT_RX", 64, .ro, 1, false, false, 0xFFFFFFFFFFFFFFFF⟩
  | .phyPortCfg => ⟨0x26, "PORT_CFG", 32, .rw, 32, false, false, 0xFFFF00FF⟩
  | .phyPortStat => ⟨0x26, "PORT_STAT", 32, .ro, 33, false, false, 0x3F⟩
  | .phyCntRxOk => ⟨0x26, "CNT_RX_OK", 64, .ro, 33, false, false, 0xFFFFFFFFFFFFFFFF⟩
  | .phyCntRxB => ⟨0x26, "CNT_RX_B", 64, .ro, 33, false, false, 0xFFFFFFFFFFFFFFFF⟩
  | .phyCntRxFcs => ⟨0x26, "CNT_RX_FCS", 64, .ro, 33, false, false, 0xFFFFFFFFFFFFFFFF⟩
  | .phyCntRxShort => ⟨0x26, "CNT_RX_SHORT", 64, .ro, 33, false, false, 0xFFFFFFFFFFFFFFFF⟩
  | .phyCntRxLong => ⟨0x26, "CNT_RX_LONG", 64, .ro, 33, false, false, 0xFFFFFFFFFFFFFFFF⟩
  | .phyCntRxErr => ⟨0x26, "CNT_RX_ERR", 64, .ro, 33, false, false, 0xFFFFFFFFFFFFFFFF⟩
  | .phyFecCwCorr => ⟨0x26, "FEC_CW_CORR", 64, .ro, 33, false, false, 0xFFFFFFFFFFFFFFFF⟩
  | .phyFecCwUncorr => ⟨0x26, "FEC_CW_UNCORR", 64, .ro, 33, false, false, 0xFFFFFFFFFFFFFFFF⟩
  | .phyFecSym => ⟨0x26, "FEC_SYM", 64, .ro, 36, false, false, 0xFFFFFFFFFFFFFFFF⟩
  | .pwrVid => ⟨0x27, "VID", 32, .ro, 1, false, false, 0x3F⟩
  | .pwrTemp0 => ⟨0x27, "TEMP0", 32, .ro, 1, false, false, 0xFFFF⟩
  | .pwrTemp1 => ⟨0x27, "TEMP1", 32, .ro, 1, false, false, 0xFFFF⟩
  | .pwrTemp2 => ⟨0x27, "TEMP2", 32, .ro, 1, false, false, 0xFFFF⟩
  | .pwrTemp3 => ⟨0x27, "TEMP3", 32, .ro, 1, false, false, 0xFFFF⟩

/-- The Reset column (R9), for the registers whose reset value does not depend on the instance. -/
def RegName.resetCol : RegName → Nat
  | .timeSrcCtl => 0x640C
  | .dispPortOrd => 0x1900000
  | .dispWqCfg => 0x14001C0
  | .cellPdomCfg => 0x8002040
  | .cellPdomShare => 0x408
  | .evStallCfg => 0x6AB
  | .tblKeyMask0 => 0xFFFF
  | .tblKeyMask1 => 0xFFFF
  | .tblKeyMask2 => 0xFFFF
  | .tblKeyMask3 => 0xFFFF
  | .tblKeyMask4 => 0xFFFF
  | .tblKeyMask5 => 0xFFFF
  | .tblKeyMask6 => 0xFFFF
  | .tblKeyMask7 => 0xFFFF
  | .tblKeyMask8 => 0xFFFF
  | .tblKeyMask9 => 0xFFFF
  | .tblKeyMask10 => 0xFFFF
  | .tblKeyMask11 => 0xFFFF
  | .tblKeyMask12 => 0xFFFF
  | .tblKeyMask13 => 0xFFFF
  | .tblKeyMask14 => 0xFFFF
  | .tblKeyMask15 => 0xFFFF
  | .tblKeyMask16 => 0xFFFF
  | .tblKeyMask17 => 0xFFFF
  | .tblKeyMask18 => 0xFFFF
  | .tblKeyMask19 => 0xFFFF
  | .tblKeyMask20 => 0xFFFF
  | .tblKeyMask21 => 0xFFFF
  | .tblKeyMask22 => 0xFFFF
  | .tblKeyMask23 => 0xFFFF
  | .lrnTblCfg => 0x12C0000
  | .lrnMoveCfg => 0x3E80644
  | .lrnPortGuard => 0xFFFFF
  | .lrnTclassLimit0 => 0xFFFFF
  | .lrnTclassLimit1 => 0xFFFFF
  | .lrnTclassLimit2 => 0xFFFFF
  | .lrnTclassLimit3 => 0xFFFFF
  | .lrnTclassLimit4 => 0xFFFFF
  | .lrnTclassLimit5 => 0xFFFFF
  | .lrnTclassLimit6 => 0xFFFFF
  | .lrnTclassLimit7 => 0xFFFFF
  | .lrnTclassLimit8 => 0xFFFFF
  | .lrnTclassLimit9 => 0xFFFFF
  | .lrnTclassLimit10 => 0xFFFFF
  | .lrnTclassLimit11 => 0xFFFFF
  | .lrnTclassLimit12 => 0xFFFFF
  | .lrnTclassLimit13 => 0xFFFFF
  | .lrnTclassLimit14 => 0xFFFFF
  | .lrnTclassLimit15 => 0xFFFFF
  | .lrnNotifyCtl => 0x2D8
  | .genPolicy => 0x140003
  | .qmProfile => 0xFFF80028
  | .qmTgCfg => 0x400000
  | .qmPortCfg => 0x1000000040000
  | .egrClassCfg => 0x2
  | .egrTgSched => 0x1
  | .egrQSched => 0x20000000000FA01
  | .egrLinkCfg => 0xA0000
  | .egrEcnProf => 0x10000204000
  | .egrSmpCfg => 0x100000000
  | .tallyPol => 0x1000000000
  | .tallyCloseCtl => 0x1F40006
  | .memDramCfg => 0x1401
  | .kprMgmtCfg => 0x3C88B5000000000000
  | .inspCfg => 0x6FA320
  | .inspCombStat => 0x3F0
  | .recCfg => 0x83C
  | .phyPortCfg => 0x28640020
  | _ => 0

/-- The registers of a block in the order of R376: the ASCII order of the names after the prefix; the position is the register
number. -/
def blockRegs (block : Nat) : List RegName :=
  match block with
  | 0x01 => [.pkgDieIdent]
  | 0x02 => [.timeSrcCtl, .timeStatus, .timeUtcOffset]
  | 0x03 => [.parseCntDeep, .parseCntHalf, .parseCntNoedge, .parseCntPass, .parseCntShort, .parsePortCfg, .parsePortDef]
  | 0x04 => [.dispCellLoad, .dispCntIngDrop, .dispCombDom, .dispPortClass, .dispPortOrd, .dispWqCfg, .dispWqDepth,
      .dispWqHist0, .dispWqHist1, .dispWqHist10, .dispWqHist11, .dispWqHist12, .dispWqHist13, .dispWqHist14,
      .dispWqHist15, .dispWqHist2, .dispWqHist3, .dispWqHist4, .dispWqHist5, .dispWqHist6, .dispWqHist7, .dispWqHist8,
      .dispWqHist9, .dispWqHistCtl, .dispWqHwm, .dispWqItems, .dispWqWaitCur, .dispWqWaitMax]
  | 0x05 => [.ordCntDrop, .ordCntLate, .ordCntLateDiscard, .ordCntRecircLimit, .ordCntRel, .ordTagsHwm, .ordTagsInuse]
  | 0x06 => [.cellCntFault, .cellCntIssue, .cellCntItems, .cellPdomCfg, .cellPdomShare, .cellThrState]
  | 0x07 => [.evCntSigBad, .evCntSigLost, .evCntStall, .evStallCfg]
  | 0x08 => [.lockCntAbandon, .lockCntAcq, .lockCntBusy]
  | 0x09 => [.bkCntErr]
  | 0x0a => [.tblCntDeepMiss, .tblCntHit, .tblCntInsert, .tblCntLookup, .tblCntMoves, .tblCntNoRoom, .tblCntRemove,
      .tblCntReqErr, .tblDesc0, .tblDesc1, .tblDesc2, .tblDesc3, .tblDesc4, .tblGrpCfg, .tblGrpMember0, .tblGrpMember1,
      .tblGrpMember10, .tblGrpMember11, .tblGrpMember12, .tblGrpMember13, .tblGrpMember14, .tblGrpMember15,
      .tblGrpMember16, .tblGrpMember17, .tblGrpMember18, .tblGrpMember19, .tblGrpMember2, .tblGrpMember20,
      .tblGrpMember21, .tblGrpMember22, .tblGrpMember23, .tblGrpMember24, .tblGrpMember25, .tblGrpMember26,
      .tblGrpMember27, .tblGrpMember28, .tblGrpMember29, .tblGrpMember3, .tblGrpMember30, .tblGrpMember31,
      .tblGrpMember4, .tblGrpMember5, .tblGrpMember6, .tblGrpMember7, .tblGrpMember8, .tblGrpMember9, .tblKeyMask0,
      .tblKeyMask1, .tblKeyMask10, .tblKeyMask11, .tblKeyMask12, .tblKeyMask13, .tblKeyMask14, .tblKeyMask15,
      .tblKeyMask16, .tblKeyMask17, .tblKeyMask18, .tblKeyMask19, .tblKeyMask2, .tblKeyMask20, .tblKeyMask21,
      .tblKeyMask22, .tblKeyMask23, .tblKeyMask3, .tblKeyMask4, .tblKeyMask5, .tblKeyMask6, .tblKeyMask7, .tblKeyMask8,
      .tblKeyMask9, .tblOccBucket, .tblOccOvf]
  | 0x0b => [.lrnAgeNow, .lrnAssistCfg, .lrnCntAssistLost, .lrnCntBad, .lrnCntLearn, .lrnCntMove, .lrnCntQDrop,
      .lrnCntRefreshDrop, .lrnCntRefused, .lrnCntTrackFull, .lrnContestedNow, .lrnMoveCfg, .lrnNotifyCtl, .lrnPortGuard,
      .lrnTblCfg, .lrnTclassLimit0, .lrnTclassLimit1, .lrnTclassLimit10, .lrnTclassLimit11, .lrnTclassLimit12,
      .lrnTclassLimit13, .lrnTclassLimit14, .lrnTclassLimit15, .lrnTclassLimit2, .lrnTclassLimit3, .lrnTclassLimit4,
      .lrnTclassLimit5, .lrnTclassLimit6, .lrnTclassLimit7, .lrnTclassLimit8, .lrnTclassLimit9]
  | 0x0c => [.pguardCntSrcBad, .pguardCntStorm, .pguardStorm]
  | 0x0d => [.genCommitT, .genHold0, .genHold1, .genHold2, .genHold3, .genPolicy, .genSlot0, .genSlot1, .genSlot2, .genSlot3]
  | 0x0e => [.bufCntFreeRefused, .bufCntRefused, .bufCntResetRel, .bufFree, .bufFreeLow, .bufOwnCfg, .bufOwnUsed,
      .bufPoolCfg]
  | 0x0f => [.qmCntAdmit, .qmCntAdmitB, .qmCntDiscard, .qmCntDiscAged, .qmCntDiscFlushLinkdown, .qmCntDiscGenRetire,
      .qmCntDiscQmFlush, .qmCntMcEmpty, .qmCntMcPartial, .qmCntRefuse, .qmCntRefBadLength, .qmCntRefNobuf,
      .qmCntRefPortCap, .qmCntRefQdisabled, .qmCntRefQDyn, .qmCntRefQMax, .qmCntRefShares, .qmCntRefTgCap, .qmPortCfg,
      .qmProfile, .qmQBytes, .qmQCfg, .qmQFrames, .qmQHwm, .qmTgCfg]
  | 0x10 => [.egrClassCfg, .egrCntDownRef, .egrCntEcnMark, .egrCntEcnNotect, .egrCntFlush, .egrCntLinkLoss,
      .egrCntMacctlOther, .egrCntMir, .egrCntMirSkip, .egrCntPauseGuard, .egrCntPauseRx, .egrCntPauseTx, .egrCntPfcWd,
      .egrCntSmp, .egrCntSmpSkip, .egrCntTx, .egrCntTxAbort, .egrCntTxB, .egrCntUnderrun, .egrEcnProf, .egrLinkCfg,
      .egrLinkStat, .egrMirCfg, .egrPausedNs, .egrPortFc, .egrQSched, .egrSmpCfg, .egrTgSched]
  | 0x11 => [.tallyCloseCtl, .tallyCntDenied, .tallyCntFolded, .tallyCntLate, .tallyCntMiss, .tallyCntPolExceed,
      .tallyCntRetainLost, .tallyPol, .tallyRetainCfg]
  | 0x12 => [.memBankPwr, .memCntCollide, .memCntDramAlert, .memCntDramCe, .memCntDramLate, .memCntDramUe, .memDramCfg,
      .memDramShare0, .memDramShare1, .memDramShare2, .memDramShare3, .memDramShare4, .memDramShare5, .memScrubPass]
  | 0x13 => [.switchDropNodie]
  | 0x14 => [.bridgeLostFrames]
  | 0x15 => [.kprClaimPolicy, .kprCntAuthFail, .kprCntBusy, .kprCntCmd, .kprCntLength, .kprCntNotifyDrop, .kprCntNotEmp,
      .kprCntSeq, .kprMgmtCfg]
  | 0x20 => [.mapCntQdeny]
  | 0x21 => [.fltCntIllegal, .fltCntKprMismatch, .fltCntLasting, .fltCntReplay, .fltCntSramCe, .fltCntSramUe,
      .fltCntTrackFull, .fltGuarantee, .fltThresh]
  | 0x22 => [.inspCfg, .inspCntAbort, .inspCntBankFail, .inspCntBankPass, .inspCntCellFail, .inspCntCellPass,
      .inspCntDrainCut, .inspCntPassover, .inspCombStat, .inspRepair]
  | 0x23 => [.recCfg, .recCntDieLost, .recCntFlush, .recCntNotrec, .recCntSupp, .recLogStat]
  | 0x24 => [.bootCntPregen, .bootDieStat]
  | 0x25 => [.pairCfg, .pairCntAuthFail, .pairCntCkptRx, .pairCntCkptTx, .pairCntHbRx, .pairCntHbTx, .pairStatus]
  | 0x26 => [.phyCntRxB, .phyCntRxErr, .phyCntRxFcs, .phyCntRxLong, .phyCntRxOk, .phyCntRxShort, .phyFecCwCorr,
      .phyFecCwUncorr, .phyFecSym, .phyPortCfg, .phyPortStat]
  | 0x27 => [.pwrTemp0, .pwrTemp1, .pwrTemp2, .pwrTemp3, .pwrVid]
  | _ => []

end Sys2Proof.Machine
end

