-- ==== Sys2Proof/Machine/Store.lean ====
section
/-!
DEFINITION. Sparse maps: a list of (key, value) pairs in one canonical form, keys strictly rising and no entry equal to what an
unlisted key reads as. Every store of the package (registers, memory, threads, tables, queues) is held in this form.
-/

namespace Sys2Proof.Machine

/-- What key `k` reads as: its entry, or `d` where none is listed. -/
def kget {α : Type} (m : Map α) (k : Nat) (d : α) : α :=
  match m with
  | [] => d
  | (k', v) :: t => if k = k' then v else kget t k d

/-- Drop the entry of key `k`. -/
def kdel {α : Type} (m : Map α) (k : Nat) : Map α :=
  match m with
  | [] => []
  | (k', v) :: t => if k = k' then kdel t k else (k', v) :: kdel t k

/-- Put the entry `(k, v)` at its place in a list that has no entry of `k`. -/
def kput {α : Type} (m : Map α) (k : Nat) (v : α) : Map α :=
  match m with
  | [] => [(k, v)]
  | (k', v') :: t => if k < k' then (k, v) :: (k', v') :: t else (k', v') :: kput t k v

/-- Write `v` at key `k`, where an unlisted `k` reads as `d`: writing `d` removes the entry. -/
def kset {α : Type} [DecidableEq α] (m : Map α) (k : Nat) (v d : α) : Map α :=
  if v = d then kdel m k else kput (kdel m k) k v

/-- Keys strictly rising. -/
def kSorted {α : Type} : Map α → Bool
  | [] => true
  | [_] => true
  | (k, _) :: (k', v') :: t => decide (k < k') && kSorted ((k', v') :: t)

/-- The canonical form: keys strictly rising, no entry equal to what an unlisted key reads as. -/
def kwf {α : Type} [DecidableEq α] (m : Map α) (d : Nat → α) : Bool :=
  kSorted m && m.all (fun e => decide (e.2 ≠ d e.1))

/-- The sum of a list of numbers. -/
def sumN (l : List Nat) : Nat := l.foldl (· + ·) 0

/-- The numbers `a`, `a + 1`, …, `a + n - 1`. -/
def range' (a n : Nat) : List Nat := (List.range n).map (a + ·)

/-- `n` added to a counter of `w` bits that stops at its maximum. -/
def satAdd (w v n : Nat) : Nat := if v + n ≥ 2 ^ w then 2 ^ w - 1 else v + n

/-- Bits `[lo + w - 1 : lo]` of `v`. -/
def bitsOf (v lo w : Nat) : Nat := v / 2 ^ lo % 2 ^ w

/-- `v` with bits `[lo + w - 1 : lo]` replaced by `x`. -/
def putBits (v lo w x : Nat) : Nat :=
  v / 2 ^ (lo + w) * 2 ^ (lo + w) + x % 2 ^ w * 2 ^ lo + v % 2 ^ lo

/-- Words of an `n`-word value, most significant word first (R6). -/
def wordsOf (n v : Nat) : List Word :=
  match n with
  | 0 => []
  | k + 1 => BitVec.ofNat 16 (v / 65536 ^ k) :: wordsOf k (v % 65536 ^ k)

/-- The value of words held most significant word first (R6). -/
def valOf (ws : List Word) : Nat := ws.foldl (fun a w => a * 65536 + w.toNat) 0

/-- The bytes of words, bits [15:8] of each first (R7). -/
def bytesOf (ws : List Word) : List Byte :=
  ws.flatMap (fun w => [w.extractLsb' 8 8, w.extractLsb' 0 8])

/-- Words made of bytes, two to a word, the first in bits [15:8]; an odd last byte is completed with 0x00 (R7). -/
def wordsOfBytes : List Byte → List Word
  | [] => []
  | [a] => [a ++ (0 : Byte)]
  | a :: b :: t => (a ++ b) :: wordsOfBytes t

/-- `l` cut or padded with `d` to `n` elements. -/
def fitTo {α : Type} (n : Nat) (d : α) (l : List α) : List α := (l ++ List.replicate n d).take n

/-- Element `i` of a list of words; 0 beyond its end. -/
def wordAt (l : List Word) (i : Nat) : Word := (l[i]?).getD 0

/-- A two's-complement number in `w` bits. -/
def encInt (w : Nat) (v : Int) : Nat := (v % (2 ^ w : Nat)).toNat

/-- `v` held within ±(2^(w-1) − 1). -/
def clampInt (w : Nat) (v : Int) : Int :=
  let m : Int := (2 ^ (w - 1) : Nat) - 1
  if v > m then m else if v < -m then -m else v

/-- Add `x` to a list unless it is there. -/
def addNew {α : Type} [DecidableEq α] (x : α) (l : List α) : List α := if x ∈ l then l else l ++ [x]

/-- The lowest number from `k` on, among the next `fuel`, that `p` admits. -/
def findFrom (p : Nat → Bool) (k fuel : Nat) : Option Nat :=
  match fuel with
  | 0 => none
  | f + 1 => if p k then some k else findFrom p (k + 1) f

/-- `q` rounded up: the least number of `n`s that hold `v`. -/
def ceilDiv (v n : Nat) : Nat := (v + n - 1) / n

end Sys2Proof.Machine
end

