-- ==== Sys2Proof/Machine/Ops.lean ====
section
/-!
DEFINITION. The named operations over the state: registers and counters, dies and clocks, records and notifications, threads and
events, locks' owners. Every command reads and writes the state through these.
-/

namespace Sys2Proof.Machine

/-! ## Registers (R8, R9, R376) -/

/-- The key of a register instance. Slot 7 is that of a register not held per generation slot (R376). -/
def rkey (r : RegName) (die slot inst : Nat) : Nat := ((r.ctorIdx * 8 + die) * 8 + slot) * 1048576 + inst

/-- The value of a register after a cold reset (R9), where it depends on the die or the instance. -/
def resetValue (r : RegName) (die inst : Nat) : Nat :=
  match r with
  | .bufPoolCfg => match inst with | 0 => 32768 | 1 => 8192 | 2 => 4096 | _ => 3653
  | .bufFreeLow => match inst with | 0 => 32768 | 1 => 8192 | 2 => 4096 | _ => 3653
  | .bufOwnCfg =>
    let owner := inst / 4
    if owner ≥ 50 then 8 * 262144
    else if owner = 32 ∧ die ≥ 2 then 0 else 16 + 8 * 262144
  | .egrLinkCfg => if inst = 32 ∧ die < 2 then 10 * 65536 + 1 else 10 * 65536
  | .fltThresh =>
    match inst with
    | 0 => 3 + 86400 * 256
    | 1 => 2 + 3600 * 256
    | 2 => 8 + 10 * 256
    | 3 => 3 + 3600 * 256
    | _ => 2 + 3600 * 256
  | .memBankPwr => if inst = 64 ∨ inst = 193 ∨ inst = 194 ∨ (195 ≤ inst ∧ inst < 331 ∧ (inst - 195) % 17 = 16) then 10 else 0
  | .memDramShare0 => 48
  | .memDramShare1 => 4
  | .memDramShare2 => 4
  | .memDramShare3 => 2
  | .memDramShare4 => 2
  | .memDramShare5 => 2
  | .inspRepair => if inst < 195 then 40 else 20
  | .pkgDieIdent => die
  | .pwrVid => Config.vid.toNat
  | r => r.resetCol

/-- The stored value of a register instance. -/
def getRS (s : State) (r : RegName) (die slot inst : Nat) : Nat :=
  (kget s.regs (rkey r die slot inst) (BitVec.ofNat 80 (resetValue r die inst))).toNat

/-- The stored value of an instance of a register that is not held per slot. -/
def getR (s : State) (r : RegName) (die inst : Nat) : Nat := getRS s r die 7 inst

/-- Write a register instance, cut to its width. -/
def setRS (s : State) (r : RegName) (die slot inst v : Nat) : State :=
  let regs := kset s.regs (rkey r die slot inst) (BitVec.ofNat 80 (v % 2 ^ r.spec.width)) (BitVec.ofNat 80 (resetValue r die inst))
  { s with regs := regs }

def setR (s : State) (r : RegName) (die inst v : Nat) : State := setRS s r die 7 inst v

/-- Add to a counter, which saturates at the maximum of its width. -/
def cntN (s : State) (r : RegName) (die inst n : Nat) : State :=
  setR s r die inst (satAdd r.spec.width (getR s r die inst) n)

def cnt (s : State) (r : RegName) (die inst : Nat) : State := cntN s r die inst 1

/-- Add to a counter that wraps. -/
def cntWrap (s : State) (r : RegName) (die inst : Nat) : State :=
  setR s r die inst ((getR s r die inst + 1) % 2 ^ r.spec.width)

/-- Field `[lo + w - 1 : lo]` of a register that is not held per slot. -/
def fieldR (s : State) (r : RegName) (die inst lo w : Nat) : Nat := bitsOf (getR s r die inst) lo w

/-- Write one field of a register. -/
def setField (s : State) (r : RegName) (die inst lo w x : Nat) : State :=
  setR s r die inst (putBits (getR s r die inst) lo w x)

/-- Apply `f` for each element of a list, in order. -/
def forEach {α : Type} (l : List α) (f : State → α → State) (s : State) : State := l.foldl f s

/-- The dies of the package. -/
def allDies (s : State) : List Nat := List.range s.pkg.n

/-- Write a register on every die: a register that is held by the lead and copied to the followers. -/
def setAll (s : State) (r : RegName) (inst v : Nat) : State :=
  forEach (allDies s) (fun s d => setR s r d inst v) s

def setFieldAll (s : State) (r : RegName) (inst lo w x : Nat) : State :=
  forEach (allDies s) (fun s d => setField s r d inst lo w x) s

/-! ## Dies and numbers (R13, R20 to R23, R355) -/

/-- Whether die `d` exists and is usable (R13). -/
def usable (s : State) (d : Nat) : Bool := decide (d < s.pkg.n) && s.pkg.usable.getLsbD d

def usableDies (s : State) : List Nat := (allDies s).filter (usable s)

/-- The dies that a mask names. -/
def diesOf (m : BitVec 8) : List Nat := (List.range 8).filter (fun d => m.getLsbD d)

def thrDie (t : Nat) : Nat := t / 2048 % 8
def thrComb (t : Nat) : Nat := t / 256
def thrCell (t : Nat) : Nat := t / 8
/-- The cell index of R515 of the cell with key `c` (its master ID / 8). -/
def cellInst (c : Nat) : Nat := c / 32 % 8 * 17 + c % 32
def cellDie (c : Nat) : Nat := c / 256
def combDie (k : Nat) : Nat := k / 8

/-- The master ID of a cell thread (R20). -/
def thrMaster (t : Nat) : Word := BitVec.ofNat 16 t
/-- The Keeper's master ID (R355). -/
def keeperId (d : Nat) : Word := BitVec.ofNat 16 (0x4000 + d * 2048)
/-- A host session's master ID (R355). -/
def sessionId (i : Nat) : Word := BitVec.ofNat 16 (0x8000 + i)

/-- The die of a GPN (R20). -/
def gpnDie (g : Nat) : Nat := if g < 256 then g / 32 else g - 256
/-- The port index of a GPN on its die: the first lane, or 32 for the host port (R515). -/
def gpnPort (g : Nat) : Nat := if g < 256 then g % 32 else 32
/-- The GPN of a port index of a die. -/
def gpnOf (die port : Nat) : Nat := if port < 32 then die * 32 + port else 256 + die
/-- Whether a GPN exists in this variant (R21). -/
def gpnExists (s : State) (g : Nat) : Bool := decide (g < s.pkg.n * 32) || decide (g = 256) || decide (g = 257)
def qidDie (q : Nat) : Nat := q / 262144
def qidLocal (q : Nat) : Nat := q % 262144
def qidExists (s : State) (q : Nat) : Bool := decide (qidDie q < s.pkg.n)
/-- The key of port index `p` of die `d`. -/
def portKey (d p : Nat) : Nat := d * 64 + p
/-- Port indexes of a die (R515): 32 only where it has a host port. -/
def portsOf (d : Nat) : List Nat := List.range (if d < 2 then 33 else 32)

/-- Whether the Keeper of a die is restarting (R403, R469). -/
def keeperDown (s : State) (d : Nat) : Bool := (kget s.kpr.restarting d none).isSome || s.boot.activating.isSome

/-- Whether a die is in service or fenced: its Keeper, its monitors and its engines run. -/
def dieAlive (s : State) (d : Nat) : Bool := decide (d < s.pkg.n) && (usable s d || s.pkg.fenced.getLsbD d)

/-! ## Clocks (R31) -/

def clock (s : State) (d : Nat) : Clock := kget s.time.clocks d ⟨0, 0, 0⟩
def setClock (s : State) (d : Nat) (c : Clock) : State :=
  { s with time := { s.time with clocks := kset s.time.clocks d c ⟨0, 0, 0⟩ } }
def mono (s : State) (d : Nat) : Nat := (clock s d).mono
def stime (s : State) (d : Nat) : Nat := (clock s d).stime
def tod (s : State) (d : Nat) : Nat := (clock s d).tod
/-- Nanoseconds in a second. -/
def nsPerS : Nat := 1000000000
/-- Seconds (3 words) then nanoseconds (2 words) of a time. -/
def timeWords (t : Nat) : List Word := wordsOf 3 (t / nsPerS) ++ wordsOf 2 (t % nsPerS)

/-! ## Sessions' notifications (R373, R374) -/

def session (s : State) (i : Nat) : Option Session := kget s.kpr.sessions i none
def setSession (s : State) (i : Nat) (x : Option Session) : State :=
  { s with kpr := { s.kpr with sessions := kset s.kpr.sessions i x none } }

/-- Queue a notification for one session; one that finds 256 frames queued is discarded and counted (R374). -/
def noteTo (s : State) (i : Nat) (code : Word) (payload : List Word) : State :=
  match session s i with
  | none => s
  | some x =>
    if x.queue.length ≥ 256 then cnt s .kprCntNotifyDrop s.pkg.lead 0
    else setSession s i (some { x with queue := x.queue ++ [(code, payload)] })

/-- Send a notification to every session that `sel` admits and that subscribes to its kind (R373). -/
def notifyWhere (s : State) (sel : Session → Bool) (code : Word) (payload : List Word) : State :=
  if s.pkg.noLead then s
  else forEach (range' 1 41) (fun s i =>
    match session s i with
    | some x => if x.mask.getLsbD (code.toNat % 16) && sel x then noteTo s i code payload else s
    | none => s) s

def notify (s : State) (code : Word) (payload : List Word) : State := notifyWhere s (fun _ => true) code payload

/-! ## The claim table (R379) -/

def claimKey (cls idx : Nat) : Nat := cls * 65536 + idx
/-- Who holds a resource. -/
def getClaim (s : State) (cls idx : Nat) : Option Claim := kget s.kpr.claims (claimKey cls idx) none
def setClaim (s : State) (cls idx : Nat) (x : Option Claim) : State :=
  { s with kpr := { s.kpr with claims := kset s.kpr.claims (claimKey cls idx) x none } }
/-- The value held for a resource; 0 where it is free. -/
def claimValue (s : State) (cls idx : Nat) : Nat := ((getClaim s cls idx).map (·.value)).getD 0

/-! ## Records (R439 to R445) -/

/-- The 16 words of a record (R439). -/
def recWords (r : Rec) : List Word :=
  wordsOf 4 (r.time / nsPerS % 2 ^ 34 * 2 ^ 30 + r.time % nsPerS) ++ [r.code, r.source] ++
    wordsOf 2 (r.seq.toNat * 256 + r.supp.toNat) ++ fitTo 8 0 r.data

/-- The next package sequence: it wraps from 0xFF_FFFE to 0 (R444). -/
def nextRecSeq (q : BitVec 24) : BitVec 24 := if q.toNat ≥ 0xFFFFFE then 0 else q + 1

/-- Offer a record that has reached the lead to EVENT and FAULT notifications (R445, R400). -/
def offerRecord (s : State) (r : Rec) : State :=
  let s := notifyWhere s (fun x => x.filter.getLsbD (r.code.toNat / 4096)) 0x8001 (1 :: recWords r)
  if r.fclass = 0 then s else notify s 0x8002 (BitVec.ofNat 16 r.fclass :: recWords r)

/-- Append to the package log with the next SEQ (R444). -/
def appendLog (s : State) (r : Rec) : State :=
  let l := s.log.log ++ [{ r with seq := s.log.nextSeq }]
  { s with log := { s.log with log := l, nextSeq := nextRecSeq s.log.nextSeq } }

/-- A record reaches the lead (R444, R445). -/
def logRecord (s : State) (r : Rec) : State :=
  let r := { r with seq := s.log.nextSeq }
  let s :=
    if s.log.stopped then
      cnt { s with log := { s.log with nextSeq := nextRecSeq s.log.nextSeq } } .recCntNotrec s.pkg.lead 0
    else if s.log.log.length ≥ 65535 then
      let s := cnt { s with log := { s.log with nextSeq := nextRecSeq s.log.nextSeq } } .recCntNotrec s.pkg.lead 0
      let stop : Rec := ⟨0, stime s s.pkg.lead, 0xF002, keeperId s.pkg.lead, 0, 0, wordsOf 2 r.seq.toNat⟩
      let s := appendLog s stop
      { s with log := { s.log with stopped := true } }
    else appendLog s r
  offerRecord s r

/-- Enter a record into a die buffer in order of TIME, then of SOURCE (R440). -/
def insertRec (r : Rec) : List Rec → List Rec
  | [] => [r]
  | x :: t => if x.time < r.time ∨ (x.time = r.time ∧ x.source.toNat ≤ r.source.toNat) then x :: insertRec r t else r :: x :: t

def dieBuf (s : State) (d : Nat) : List Rec := kget s.log.buf d []

/-- Keep an admitted record: on the lead it is logged at once, on another die it enters the die buffer, or is lost when that is full
(R440, R443). -/
def keepRecord (s : State) (d : Nat) (r : Rec) : State :=
  if d = s.pkg.lead ∧ s.pkg.noLead = false ∧ dieBuf s d = [] then logRecord s r
  else if (dieBuf s d).length ≥ 8192 then
    cnt { s with log := { s.log with lost := kset s.log.lost d (kget s.log.lost d 0 + 1) 0 } } .recCntDieLost d 0
  else
    let lost := kget s.log.lost d 0
    let lostRec : Rec := ⟨0, stime s d, 0xF003, keeperId d, 0, 0, BitVec.ofNat 16 d :: wordsOf 2 lost⟩
    let b := if lost = 0 then dieBuf s d else insertRec lostRec (dieBuf s d)
    { s with log := { s.log with buf := kset s.log.buf d (insertRec r b) [], lost := kset s.log.lost d 0 0 } }

/-- The rate-limit bucket of a code on a die (R442): 16 records/s and 64 by default. -/
def rateBucket (s : State) (d : Nat) (code : Word) : RateBucket := kget s.log.buckets (d * 65536 + code.toNat) ⟨16, 64, 64, 0, 0⟩
def setRateBucket (s : State) (d : Nat) (code : Word) (b : RateBucket) : State :=
  { s with log := { s.log with buckets := kset s.log.buckets (d * 65536 + code.toNat) b ⟨16, 64, 64, 0, 0⟩ } }

/-- Make a record on die `d` under the rate limit of its code (R442). `cls` is its fault class, 0 for none (R400). -/
def recordF (s : State) (cls d : Nat) (code src : Word) (data : List Word) : State :=
  let r : Rec := ⟨cls, stime s d, code, src, 0, 0, fitTo 8 0 data⟩
  let b := rateBucket s d code
  if code.toNat ≥ 0xF000 ∨ code = 0x0005 ∨ b.rate = 0xFFFF then
    keepRecord (setRateBucket s d code { b with supp := 0 }) d { r with supp := BitVec.ofNat 8 (min 255 b.supp) }
  else if b.rate = 0 ∨ b.tokens = 0 then
    cnt (setRateBucket s d code { b with supp := b.supp + 1 }) .recCntSupp d 0
  else
    let below := if b.tokens ≥ b.burst then mono s d else b.below
    keepRecord (setRateBucket s d code { b with tokens := b.tokens - 1, below := below, supp := 0 }) d
      { r with supp := BitVec.ofNat 8 (min 255 b.supp) }

def record (s : State) (d : Nat) (code src : Word) (data : List Word) : State := recordF s 0 d code src data

/-- A record whose source is the die's Keeper, as of a block with no master of its own (R439). -/
def recordK (s : State) (d : Nat) (code : Word) (data : List Word) : State := record s d code (keeperId d) data

/-- A word that holds a number. -/
def nw (n : Nat) : Word := BitVec.ofNat 16 n

/-! ## Threads, cells and combs -/

/-- The registers as a work item finds them (R100); also what a thread holds at reset. -/
def freshRegs (pc : Word) : Regs :=
  ⟨Vector.replicate 16 0, (Vector.replicate 8 0).set 7 0x1000, (Vector.replicate 8 false).set 0 true, 0, 0, 0, 0, pc⟩

def idleThread : Thread :=
  { st := .disabled, regs := freshRegs 0, sb := 0, inPend := none, results := [], item := none, stage := [], timeLatch := (0, 0),
    cycLatch := 0, cycBase := 0, cycFrom := 0, fault := none, pend := 0, wait := none, timer := none, lockSub := none, locks := [],
    lockOwner := 0, handles := [], haltFrom := none, freeze := none, saved := none,
    stepping := false, since := (0, 0) }

def freshDigest : Digest := ⟨none, false, 0, ⟨0xFFFFFFFF, 0, [], 0, 0, 0, 0⟩, false, false, none, List.replicate 32 0⟩

def freshCell : Cell :=
  { thrEn := 0, fltSel := 0, supReason := 0, dbg := none, dbgSel := 0, breaks := [], digest := freshDigest,
    supFault := none, retired := false, started := false, stallEpoch := none,
    stallInfo := 0, loadNow := 0 }

def freshComb : Comb :=
  { claim := none, abandoned := false, srcH := 0, srcOff := 0, dstH := 0, dstOff := 0, sum := 0, err := false, errCode := 0,
    op := none, next := 0, stallEpoch := none }

def getT (s : State) (t : Nat) : Thread := kget s.core.threads t idleThread
def setT (s : State) (t : Nat) (x : Thread) : State :=
  { s with core := { s.core with threads := kset s.core.threads t x idleThread } }
def modT (s : State) (t : Nat) (f : Thread → Thread) : State := setT s t (f (getT s t))
def getCell (s : State) (c : Nat) : Cell := kget s.core.cells c freshCell
def setCell (s : State) (c : Nat) (x : Cell) : State :=
  { s with core := { s.core with cells := kset s.core.cells c x freshCell } }
def modCell (s : State) (c : Nat) (f : Cell → Cell) : State := setCell s c (f (getCell s c))
def getComb (s : State) (k : Nat) : Comb := kget s.core.combs k freshComb
def setComb (s : State) (k : Nat) (x : Comb) : State :=
  { s with core := { s.core with combs := kset s.core.combs k x freshComb } }
def modComb (s : State) (k : Nat) (f : Comb → Comb) : State := setComb s k (f (getComb s k))

/-- The threads of cell `c`, in order. -/
def cellThreads (c : Nat) : List Nat := (List.range 8).map (c * 8 + ·)
/-- The 17 physical cells of comb `k`. -/
def combCells (k : Nat) : List Nat := (List.range 17).map (k * 32 + ·)
def dieCombs (d : Nat) : List Nat := (List.range 8).map (d * 8 + ·)
/-- The physical cell at position `p` of a comb (R80, R425). -/
def cellAt (s : State) (k p : Nat) : Nat := k * 32 + kget s.insp.places (k * 16 + p) p
/-- Put a physical cell at a position. -/
def setCellAt (s : State) (k p cell : Nat) : State :=
  { s with insp := { s.insp with places := kset s.insp.places (k * 16 + p) cell p } }
/-- The position of a physical cell, none for a spare. -/
def placeOf (s : State) (c : Nat) : Option Nat := (List.range 16).find? (fun p => decide (cellAt s (c / 32) p = c))

/-- States in which a thread counts cycles (R114). -/
def counting (st : ThrState) : Bool := st = .active || st = .stalled || st = .waiting

/-- The time in ns for which the present item of thread `t` has counted cycles (R114). -/
def cycNs (s : State) (t : Nat) : Nat :=
  let x := getT s t
  x.cycBase + if counting x.st then mono s (thrDie t) - x.cycFrom else 0

/-- Cycles of CCLK (2.4 GHz) in a time. -/
def cclk (ns : Nat) : Nat := ns * 12 / 5

/-- The cycle count of the present item, 32 bits (R114). -/
def cycles (s : State) (t : Nat) : BitVec 32 := BitVec.ofNat 32 (cclk (cycNs s t))

/-- Whether thread `t` is its cell's supervisor (R99). -/
def isSup (t : Nat) : Bool := t % 8 = 0

/-- Whether a thread in state `st` that waits with mask `m` leaves the all-wait tests true (R181, R182): `sup` for a thread 0
without an item; `comb` allows bit 15. -/
def quiet (sup comb : Bool) (st : ThrState) (w : Option Waiting) : Bool :=
  match st with
  | .free | .disabled | .halted => true
  | .waiting =>
    match w with
    | some v => v.mask &&& ~~~ ((if sup then 0x39FF else 0x01FF) ||| (if comb then (0x8000 : Word) else 0)) = 0
    | none => false
  | _ => false

/-- The times since which a thread has left the two tests true, when it goes from `x` to state `st`. -/
def sinceAt (now t : Nat) (x : Thread) (st : ThrState) (w : Option Waiting) : Nat × Nat :=
  let keep (comb : Bool) : Bool := quiet (isSup t && x.item.isNone) comb x.st x.wait && quiet (isSup t && x.item.isNone) comb st w
  (if keep false then x.since.1 else now, if keep true then x.since.2 else now)

/-- Move a thread to a state, stopping or starting its cycle count (R98, R114). -/
def setSt (s : State) (t : Nat) (st : ThrState) : State :=
  let b := cycNs s t
  let now := mono s (thrDie t)
  modT s t (fun x => { x with st := st, cycBase := b, cycFrom := now, since := sinceAt now t x st x.wait })

/-! ## Generation slots (R244, R254) -/

def slotReg (n : Nat) : RegName :=
  match n with | 0 => .genSlot0 | 1 => .genSlot1 | 2 => .genSlot2 | _ => .genSlot3
def holdReg (n : Nat) : RegName :=
  match n with | 0 => .genHold0 | 1 => .genHold1 | 2 => .genHold2 | _ => .genHold3

/-- STATE of slot `n` on die `d`. -/
def slotState (s : State) (d n : Nat) : Nat := fieldR s (slotReg n) d 0 0 3
def slotGen (s : State) (d n : Nat) : Nat := fieldR s (slotReg n) d 0 16 16
def slotPimg (s : State) (d n : Nat) : Nat := fieldR s (slotReg n) d 0 3 1
def slotGimg (s : State) (d n : Nat) : Nat := fieldR s (slotReg n) d 0 4 1

/-- The first slot of a die in a state. -/
def slotIn (s : State) (d st : Nat) : Option Nat := (List.range 4).find? (fun n => slotState s d n = st)
/-- The CURRENT slot of a die. -/
def curSlot (s : State) (d : Nat) : Option Nat := slotIn s d 4

/-- The commit time T of the PENDING slot (GEN.COMMIT_T), in ns. -/
def commitT (s : State) (d : Nat) : Nat := getR s .genCommitT d 0 / 2 ^ 32 * nsPerS + getR s .genCommitT d 0 % 2 ^ 32

/-- The slot that a frame or item stamped at STIME `t` carries (R254). -/
def slotAt (s : State) (d t : Nat) : Option Nat :=
  match slotIn s d 3 with
  | some p => if t ≥ commitT s d then some p else curSlot s d
  | none => curSlot s d

/-- The program domain that comb `k` serves in slot `g` (R71). -/
def combDom (s : State) (k g : Nat) : Nat := getRS s .dispCombDom (combDie k) g (k % 8) % 16

/-- The generation slot of a thread: its item's, or the CURRENT slot for thread 0 without an item (R99). -/
def thrSlot (s : State) (t : Nat) : Nat :=
  match (getT s t).item with
  | some it => it.gslot
  | none => (curSlot s (thrDie t)).getD 0

/-- The program domain of a thread: its item's, or its cell's for thread 0 without an item (R386). -/
def thrDom (s : State) (t : Nat) : Nat :=
  match (getT s t).item with
  | some it => it.pdom
  | none => combDom s (thrComb t) (thrSlot s t)

/-- CELL.PDOM_CFG of a thread. -/
def pdomCfg (s : State) (t : Nat) : Nat := getRS s .cellPdomCfg (thrDie t) (thrSlot s t) (thrDom s t)
/-- The lowest private word of the stack (R107). -/
def stkLo (s : State) (t : Nat) : Nat := bitsOf (pdomCfg s t) 16 12

/-! ## Events (R176, R177) -/

/-- The bit that a WAIT takes: thread 0 takes STALL first, whatever its mask; otherwise the lowest-numbered pending bit of the mask. -/
def takenBit (sup : Bool) (pend mask : Word) : Option Nat :=
  if sup && pend.getLsbD 13 then some 13
  else (List.range 16).find? (fun n => pend.getLsbD n && mask.getLsbD n)

/-- `w` with bit `n` set, or cleared. -/
def setBit (w : Word) (n : Nat) : Word := w ||| BitVec.ofNat 16 (2 ^ n)
def clrBit (w : Word) (n : Nat) : Word := w &&& ~~~ BitVec.ofNat 16 (2 ^ n)

/-- Let a WAITING thread take a pending bit of its mask: its WAIT, at which its PC stands, commits (R123, R177). A step of the debugger then
halts it again (R120). -/
def tryWake (s : State) (t : Nat) : State :=
  let x := getT s t
  match x.st, x.wait with
  | .waiting, some w =>
    match takenBit (isSup t) x.pend w.mask with
    | some n =>
      let r := { x.regs with w := x.regs.w.set w.rd (nw n), pc := x.regs.pc + 1 }
      let s := setSt s t (if x.stepping then .halted else .active)
      let s := modT s t (fun y => { y with pend := clrBit x.pend n, wait := none, regs := r, stepping := false,
                                           haltFrom := if x.stepping then some .active else y.haltFrom })
      cnt s .cellCntIssue (thrDie t) (cellInst (thrCell t))
    | none => s
  | _, _ => s

/-- Raise event `n` on thread `t` (R177). -/
def raiseEvent (s : State) (t n : Nat) : State :=
  tryWake (modT s t (fun x => { x with pend := setBit x.pend n })) t

/-! ## Faults of threads (R115, R117) -/

def faultAt (s : State) (t cause : Nat) (pc addr : Word) (units : Nat) : State :=
  let c := cells s t
  let words := [nw t, nw cause, pc, addr] ++ wordsOf 2 c
  let s := setSt s t .faulted
  let s := modT s t (fun x => { x with fault := some ⟨cause, pc, addr, units⟩, wait := none, stepping := false })
  let s := cnt s .cellCntFault (thrDie t) (cellInst (thrCell t))
  if isSup t then
    let s := record s (thrDie t) 0x4002 (thrMaster t) words
    modCell s (thrCell t) (fun x => { x with supFault := some (mono s (thrDie t)) })
  else
    raiseEvent (record s (thrDie t) 0x4001 (thrMaster t) words) (t / 8 * 8) 12
where cells (s : State) (t : Nat) : Nat := (cycles s t).toNat

end Sys2Proof.Machine
end

