-- ==== Sys2Proof/Machine/Access.lean ====
section
/-! DEFINITION. The access map (R386 to R391): 18 rows of 48 words on every die, and the rights that each word grants. -/

namespace Sys2Proof.Machine

/-- Word `w` of row `row` after a cold reset (R387, R388). -/
def mapReset (row w : Nat) : Word :=
  if w = 0 then nw (256 + row)
  else if w ≤ 4 then 0xFFFF
  else if w ≤ 8 then (if row = 17 then 0 else 0xFFFF)
  else if w ≤ 24 then
    match w with
    | 11 => 0x001F
    | 12 => 0xFFFF
    | 14 | 18 | 22 => 1
    | _ => 0
  else if w ≤ 32 then (match w with | 26 => 0xFFFF | 27 | 29 | 31 => 1 | _ => 0)
  else if w = 33 then (if row < 16 then 0x00FF else 0)
  else if w ≤ 39 then (if row < 16 then 0xFFFF else 0)
  else if w = 42 ∧ row ≥ 16 then 0x0200 else 0

def mapKey (d row w : Nat) : Nat := (d * 18 + row) * 48 + w

/-- Word `w` of row `row` as die `d` holds it. -/
def mapWord (s : State) (d row w : Nat) : Word := kget s.kpr.mapRows (mapKey d row w) (mapReset row w)

/-- Install one word of a row on a die. -/
def setMapWord (s : State) (d row w : Nat) (v : Word) : State :=
  { s with kpr := { s.kpr with mapRows := kset s.kpr.mapRows (mapKey d row w) v (mapReset row w) } }

/-- The 48 words of a row. -/
def mapRow (s : State) (d row : Nat) : List Word := (List.range 48).map (mapWord s d row)

/-- Whether a check that reads words `a` to `a + n - 1` of a row meets an uncorrectable one: it then denies the request (R395). -/
def mapMeets (s : State) (d row a n : Nat) : Bool := s.kpr.mapBad.any (fun k => decide (mapKey d row a ≤ k) && decide (k < mapKey d row a + n))

/-- Bit `b` of a field that starts at word `w0` and is `n` words long, most significant word first. -/
def mapBit (s : State) (d row w0 n b : Nat) : Bool :=
  (mapWord s d row (w0 + (n - 1 - b / 16))).getLsbD (b % 16) && !mapMeets s d row (w0 + (n - 1 - b / 16)) 1

/-- The lookup right on a table (R387). -/
def mayLookup (s : State) (d row t : Nat) : Bool := mapBit s d row 1 4 t
/-- The write right on a table. -/
def mayWriteTbl (s : State) (d row t : Nat) : Bool := mapBit s d row 5 4 t
/-- The right to multicast groups. -/
def mayMc (s : State) (d row : Nat) : Bool := mapBit s d row 0 1 8

def map2 (s : State) (d row w : Nat) : Nat := (mapWord s d row w).toNat * 65536 + (mapWord s d row (w + 1)).toNat

/-- Whether a QID lies in one of the four queue ranges of a row. -/
def mayQueue (s : State) (d row q : Nat) : Bool :=
  !mapMeets s d row 9 16 && (List.range 4).any (fun k => decide (map2 s d row (9 + 4 * k) ≤ q) && decide (q ≤ map2 s d row (11 + 4 * k)))

/-- Whether a tenant lies in one of the four tenant ranges of a row. -/
def mayTenant (s : State) (d row t : Nat) : Bool :=
  !mapMeets s d row 25 8 && (List.range 4).any (fun k =>
    decide ((mapWord s d row (25 + 2 * k)).toNat ≤ t) && decide (t ≤ (mapWord s d row (26 + 2 * k)).toNat))

/-- Whether a span of 4 KiB units lies in one of the two DRAM regions of a row. -/
def mayDram (s : State) (d row base size : Nat) : Bool :=
  !mapMeets s d row 40 8 && (List.range 2).any (fun g =>
    let b := map2 s d row (40 + 4 * g)
    let z := map2 s d row (42 + 4 * g)
    decide (z ≠ 0) && decide (b ≤ base) && decide (base + size ≤ b + z))

/-- The bit of the IO mask that grants a port (R389); none for the ports that are always granted. -/
def ioBit (port : Nat) : Option Nat :=
  if port = 0x2000 ∨ port = 0x2004 ∨ port = 0x2011 ∨ port = 0x2013 then none
  else if port = 0x0602 ∨ port = 0x0603 ∨ port = 0x0604 ∨ port = 0x0609 then none
  else if 0x0100 ≤ port ∧ port ≤ 0x01FF then some 0
  else if 0x0300 ≤ port ∧ port ≤ 0x03FF then some 1
  else if 0x0400 ≤ port ∧ port ≤ 0x04FF then some 2
  else if 0x0500 ≤ port ∧ port ≤ 0x05FF then some 3
  else if 0x0600 ≤ port ∧ port ≤ 0x06FF then some 4
  else if 0x0700 ≤ port ∧ port ≤ 0x07FF then some 5
  else if (0x1000 ≤ port ∧ port ≤ 0x1FFF) ∨ (0x2000 ≤ port ∧ port ≤ 0x20FF) then some 6
  else if 0x3000 ≤ port ∧ port ≤ 0x30FF then some 7
  else none

/-- Whether the map grants thread `t` a port (R389). -/
def mayPort (s : State) (t port : Nat) : Bool :=
  match ioBit port with
  | none => true
  | some b => mapBit s (thrDie t) (thrDom s t) 33 1 b

/-- The scratch rights (R387): whether thread `t` may read or write scratch word `a` of its data space. -/
def mayScratch (s : State) (t a : Nat) (wr : Bool) : Bool :=
  let d := thrDie t
  let row := thrDom s t
  if a < 0x6000 then mapBit s d row (if wr then 35 else 34) 1 ((a - 0x2000) / 1024)
  else mapBit s d row (if wr then 38 else 36) 2 ((a - 0x6000) / 1024)

end Sys2Proof.Machine
end

