-- ==== Sys2Proof/Machine/DataSpace.lean ====
section
/-!
DEFINITION. A thread's data space (R104 to R107, R142, R143): the flat word store, the frames' bytes, the descriptor; who may read and
write which word.
-/

namespace Sys2Proof.Machine

/-! ## Frames -/

def getFrame (s : State) (f : Nat) : Option Frame := kget s.path.frames f none
def setFrame (s : State) (f : Nat) (x : Option Frame) : State :=
  { s with path := { s.path with frames := kset s.path.frames f x none } }
def modFrame (s : State) (f : Nat) (g : Frame → Frame) : State :=
  match getFrame s f with
  | some x => setFrame s f (some (g x))
  | none => s

/-- Buffer sizes of the pools (R262). -/
def poolSize (p : Nat) : Nat := match p with | 0 => 512 | 1 => 1024 | 2 => 1792 | _ => 9472

/-- The bytes that a frame's chain supplies from its first byte (R279). -/
def supplyOf (f : Frame) : Nat := f.nbuf * (poolSize f.pool - 64) - 128 - f.strip + f.prep

/-- Byte `k` of a frame: bytes that nothing has written read 0 (R7, R105). -/
def frameByte (f : Frame) (k : Nat) : Byte := kget f.bytes k 0
def setFrameByte (f : Frame) (k : Nat) (b : Byte) : Frame :=
  { f with bytes := kset f.bytes k b 0, poison := f.poison.filter (· ≠ k) }

/-- Word `n` of a packet window (R7). -/
def windowWord (f : Frame) (n : Nat) : Word := frameByte f (2 * n) ++ frameByte f (2 * n + 1)

/-- The first `n` bytes of a frame from offset `a`. -/
def frameBytes (f : Frame) (a n : Nat) : List Byte := (List.range n).map (fun k => frameByte f (a + k))

/-- The frame of the packet that thread `t` holds. -/
def thrFrame (s : State) (t : Nat) : Option Frame :=
  match (getT s t).item with
  | some it => if it.kind = .packet then getFrame s it.frame else none
  | none => none

/-! ## The descriptor (R63, R74, R106) -/

def kindCode (k : ItemKind) : Nat := match k with | .packet => 0 | .alarm => 1 | .assist => 2 | .post => 3

/-- The dispatch part and frame information of an item: words 0x1860 to 0x188F. -/
def dispatchWord (s : State) (it : Item) (a : Nat) : Word :=
  let f := if it.kind = .packet then getFrame s it.frame else none
  let pk (g : Frame → Nat) : Nat := (f.map g).getD 0
  if a = 0x1860 then
    nw (kindCode it.kind * 8192 + (if it.kind = .alarm ∧ it.late then 4096 else 0) + it.level * 512 + pk (·.gpn))
  else if a = 0x1861 then nw (pk (·.cls) * 8192 + pk (·.recirc) * 1024 + it.gslot * 256 + it.pdom)
  else if a = 0x1862 then nw (pk (·.odom))
  else if a = 0x1863 then nw (pk (·.seq))
  else if a = 0x1864 then nw (pk (fun x => x.tag.getD 0))
  else if 0x1866 ≤ a ∧ a ≤ 0x1868 then wordAt (wordsOf 3 (pk (·.stime) / nsPerS)) (a - 0x1866)
  else if a = 0x1869 ∨ a = 0x186A then wordAt (wordsOf 2 (pk (·.stime) % nsPerS)) (a - 0x1869)
  else if 0x1870 ≤ a ∧ a ≤ 0x187F then (if it.kind = .packet then 0 else wordAt it.args (a - 0x1870))
  else if a = 0x1880 then nw (pk (·.len))
  else if a = 0x1881 then nw (pk (·.pool))
  else 0

/-- A word of the descriptor below the carry words; a thread without an item reads 0. -/
def descWord (s : State) (t a : Nat) : Word :=
  match (getT s t).item with
  | none => 0
  | some it =>
    if a < 0x1860 then
      (if it.kind = .packet then (match getFrame s it.frame with | some f => wordAt f.parse (a - 0x1800) | none => 0) else 0)
    else dispatchWord s it a

/-! ## The flat store -/

/-- The flat address of a word of thread `t`'s data space that lies in no frame: the thread's own words, its cell's scratch, its
comb's scratch, its slot's constant store. -/
def flatAddr (s : State) (t a : Nat) : Nat :=
  if a < 0x2000 then t * 0x2000 + a
  else if a < 0x6000 then 0x10000000 + thrCell t * 0x4000 + (a - 0x2000)
  else if a < 0xE000 then 0x20000000 + thrComb t * 0x8000 + (a - 0x6000)
  else 0x30000000 + (thrComb t * 4 + thrSlot s t) * 0x2000 + (a - 0xE000)

/-- The flat address of word `off` of the constant store of comb `k` in slot `g`. -/
def constAddr (k g off : Nat) : Nat := 0x30000000 + (k * 4 + g) * 0x2000 + off

/-- A word of the flat store; unwritten words read 0 (DESIGN CHOICE, log entry 4). -/
def memAt (s : State) (a : Nat) : Word := kget s.core.mem a 0
/-- Write a word of the flat store, which ends its poison (R401). -/
def setMem (s : State) (a : Nat) (v : Word) : State :=
  { s with core := { s.core with mem := kset s.core.mem a v 0, poison := s.core.poison.filter (· ≠ a) } }

/-- The canonical form of the flat store. -/
def Memory.wf (m : Map Word) : Bool := kwf m (fun _ => 0)

/-! ## Rights (R104, R105) -/

/-- Whether the packet window of `t` may be accessed (R105). -/
def hasWindow (s : State) (t : Nat) : Bool := (thrFrame s t).isSome

/-- Whether thread `t` may read word `a`. -/
def readable (s : State) (t a : Nat) : Bool :=
  if a < 0x1000 then true
  else if a < 0x1800 then hasWindow s t
  else if a < 0x1A00 then true
  else if a < 0x2000 then false
  else if a < 0xE000 then mayScratch s t a false
  else true

/-- Whether thread `t` may write word `a`: a window word wholly beyond the frame's buffer chain may not be (R105). -/
def writable (s : State) (t a : Nat) : Bool :=
  if a < 0x1000 then true
  else if a < 0x1800 then
    match thrFrame s t with
    | some f => 2 * (a - 0x1000) < supplyOf f
    | none => false
  else if 0x1890 ≤ a ∧ a < 0x18A0 then true
  else if a < 0x2000 then false
  else if a < 0xE000 then mayScratch s t a true
  else false

/-! ## Reading and writing -/

/-- The word that thread `t` reads at `a`. A window word beyond the buffer chain, of which the manual says nothing, is a free value
(log entry 5). -/
def readW (s : State) (t a : Nat) : Word :=
  if 0x1000 ≤ a ∧ a < 0x1800 then
    match thrFrame s t with
    | some f => if 2 * (a - 0x1000) < supplyOf f then windowWord f (a - 0x1000) else Config.beyondChain s.free (mono s (thrDie t)) (t * 65536 + a)
    | none => 0
  else if 0x1800 ≤ a ∧ a < 0x1890 then descWord s t a
  else if 0x18A0 ≤ a ∧ a < 0x1900 then 0
  else memAt s (flatAddr s t a)

/-- Whether the word at `a` is poisoned or has an uncorrectable error. -/
def poisonedW (s : State) (t a : Nat) : Bool :=
  if 0x1000 ≤ a ∧ a < 0x1800 then
    match thrFrame s t with
    | some f => f.poison.any (fun k => k / 2 = a - 0x1000)
    | none => false
  else if 0x1800 ≤ a ∧ a < 0x1890 then false
  else decide (flatAddr s t a ∈ s.core.poison)

/-- Write `v` at word `a` of thread `t`'s data space. -/
def writeW (s : State) (t a : Nat) (v : Word) : State :=
  if 0x1000 ≤ a ∧ a < 0x1800 then
    match (getT s t).item with
    | some it =>
      modFrame s it.frame (fun f =>
        setFrameByte (setFrameByte f (2 * (a - 0x1000)) (v.extractLsb' 8 8)) (2 * (a - 0x1000) + 1) (v.extractLsb' 0 8))
    | none => s
  else setMem s (flatAddr s t a) v

/-- Write consecutive words from `a` upward. -/
def writeWs (s : State) (t a : Nat) : List Word → State
  | [] => s
  | w :: ws => writeWs (writeW s t a w) t (a + 1) ws

/-- The forager result slot that word `a` lies in (R104). -/
def resultSlot (a : Nat) : Option Nat := if 0x1900 ≤ a ∧ a < 0x1A00 then some ((a - 0x1900) / 32) else none

/-- Whether an access to word `a` waits for a forager result (R103). -/
def waitsSlot (s : State) (t a : Nat) : Bool :=
  match resultSlot a with
  | some k => (getT s t).sb.getLsbD k
  | none => false

end Sys2Proof.Machine
end

