-- ==== Sys2Proof/Machine/Flags.lean ====
section
/-! DEFINITION. The status word PS (R126) and every rule that computes its fields (R134, R135, R139). -/

namespace Sys2Proof.Machine

/-- PS with field bit `n` set to `b` (R126). -/
def psBit (ps : Word) (n : Nat) (b : Bool) : Word :=
  if b then ps ||| BitVec.ofNat 16 (2 ^ n) else ps &&& ~~~ BitVec.ofNat 16 (2 ^ n)

/-- Carry C (bit 0), AV of accumulator `n` (bits 4 and 5), RPT (bit 6). -/
def psC (ps : Word) : Bool := ps.getLsbD 0
def avBit (n : Bool) : Nat := if n then 5 else 4
def rptBit : Nat := 6

/-- Z and N of a result (R126). -/
def psZN (ps r : Word) : Word := psBit (psBit ps 1 (r = 0)) 2 r.msb
/-- C, Z and N, as of a shift: V is unchanged (R135). -/
def psCZN (ps r : Word) (c : Bool) : Word := psZN (psBit ps 0 c) r
/-- C, Z, N and V, as of an addition or subtraction. -/
def psCZNV (ps r : Word) (c v : Bool) : Word := psBit (psCZN ps r c) 3 v

/-- The signed value lies outside 16 bits. -/
def overflows (v : Int) : Bool := v < -32768 || v > 32767

/-- a + b + carry: the result and PS (R134). -/
def addWord (ps a b : Word) (cin : Bool) : Word × Word :=
  let n := a.toNat + b.toNat + cin.toNat
  let r := BitVec.ofNat 16 n
  (r, psCZNV ps r (n ≥ 65536) (overflows (a.toInt + b.toInt + cin.toNat)))

/-- a − b − borrow: the result and PS; C is 1 on borrow (R134). -/
def subWord (ps a b : Word) (bin : Bool) : Word × Word :=
  let r := a - b - BitVec.ofNat 16 bin.toNat
  (r, psCZNV ps r (a.toNat < b.toNat + bin.toNat) (overflows (a.toInt - b.toInt - bin.toNat)))

/-- A logical result: Z and N. -/
def logicWord (ps r : Word) : Word × Word := (r, psZN ps r)

/-- The four shifts of R135. -/
inductive Shift where
  | shl | shr | sar | rol
  deriving DecidableEq, Repr

/-- The result of a shift by `n` places (R135). -/
def shiftResult (k : Shift) (a : Word) (n : Nat) : Word :=
  match k with
  | .shl => a <<< n
  | .shr => a >>> n
  | .sar => a.sshiftRight n
  | .rol => a.rotateLeft (n % 16)

/-- C after a shift by `n` places (R135). -/
def shiftCarry (k : Shift) (a : Word) (n : Nat) : Bool :=
  match k with
  | .shl => decide (1 ≤ n ∧ n ≤ 16) && a.getLsbD (16 - n)
  | .shr => decide (1 ≤ n ∧ n ≤ 16) && a.getLsbD (n - 1)
  | .sar => if n = 0 then false else if n ≤ 16 then a.getLsbD (n - 1) else a.msb
  | .rol => decide (n % 16 ≠ 0) && (a.rotateLeft (n % 16)).getLsbD 0

/-- A shift: the result and PS, V unchanged (R135). -/
def shiftWord (k : Shift) (ps a : Word) (n : Nat) : Word × Word :=
  (shiftResult k a n, psCZN ps (shiftResult k a n) (shiftCarry k a n))

/-- The conditions of CMP and CMPI (R136); 12 to 15 are ILLEGAL before they get here. -/
def condHolds (cond : Nat) (a b : Word) : Bool :=
  match cond with
  | 0 => a = b
  | 1 => a ≠ b
  | 2 => a.toInt < b.toInt
  | 3 => a.toInt ≥ b.toInt
  | 4 => a.toInt ≤ b.toInt
  | 5 => a.toInt > b.toInt
  | 6 => a.toNat < b.toNat
  | 7 => a.toNat ≥ b.toNat
  | 8 => a.toNat ≤ b.toNat
  | 9 => a.toNat > b.toNat
  | 10 => a &&& b ≠ 0
  | _ => a &&& b = 0

/-- An accumulation: the sum modulo 2^40, and whether the exact sum lies outside the accumulator's range (R139). -/
def accumulate (sgn : Bool) (acc : BitVec 40) (a b : Word) : BitVec 40 × Bool :=
  if sgn then
    let v : Int := acc.toInt + a.toInt * b.toInt
    (BitVec.ofInt 40 v, decide (v < -(2 ^ 39 : Nat)) || decide (v ≥ (2 ^ 39 : Nat)))
  else
    let v : Nat := acc.toNat + a.toNat * b.toNat
    (BitVec.ofNat 40 v, decide (v ≥ 2 ^ 40))

/-- ARDS: the accumulator shifted right arithmetically and clamped to 16 bits, and whether it was clamped (R139). -/
def clampRead (acc : BitVec 40) (sh : Nat) : Word × Bool :=
  let v : Int := (acc.sshiftRight sh).toInt
  if v > 32767 then (0x7FFF, true) else if v < -32768 then (0x8000, true) else (BitVec.ofInt 16 v, false)

end Sys2Proof.Machine
end

