-- ==== Sys2Proof/Machine/Forms.lean ====
section
/-!
DEFINITION. The encoding rules of Jatal-16 that an operand can break (R127 to R131, R137 to R148, R152, R160, R161, R164): an
instruction whose operands do not satisfy them faults ILLEGAL.
-/

namespace Sys2Proof.Machine

/-- No prefix stands before the instruction (R129). -/
def noPfx (i : Issue) : Bool := i.pfx = .none

/-- G is not the inverted P0 (R127, R128). -/
def okGuard (i : Issue) : Bool := i.guard ≠ 8

/-- A plain instruction: any guard but the reserved one, no prefix. -/
def okPlain (i : Issue) : Bool := okGuard i && noPfx i

/-- An instruction with a short immediate: with an IMM prefix the short field must be 0 (R129). -/
def okImm (i : Issue) (short : Nat) : Bool :=
  okGuard i && match i.pfx with | .none => true | .imm _ => short = 0 | .rep => false

/-- A string instruction may carry REP (R129). -/
def okString (i : Issue) : Bool := okGuard i && match i.pfx with | .imm _ => false | _ => true

/-- CALL and CALLX may carry IMM, which is their register mask (R129, R146). -/
def okCall (i : Issue) : Bool := okGuard i && match i.pfx with | .rep => false | _ => true

/-- CMP and CMPI: PD is not 0 and COND is 0 to 11 (R128, R136). -/
def okCond (pd : PReg) (cond : BitVec 4) : Bool := pd ≠ 0 && cond.toNat < 12

/-- BFX, BFXS and BFI: POS + w at most 16 (R138). -/
def okField (pos wm1 : BitVec 4) : Bool := pos.toNat + wm1.toNat + 1 ≤ 16

/-- EXTB and INSB: POS 0 or 1, WM1 0 (R138). -/
def okByte (pos wm1 : BitVec 4) : Bool := pos.toNat ≤ 1 && wm1 = 0

/-- ACLR: D, A, B and SH are 0 (R139). -/
def okAclr (d a b : WReg) (sh : BitVec 5) : Bool := d = 0 && a = 0 && b = 0 && sh = 0
/-- MAC and AWR: D and SH are 0 (R130, R139). -/
def okMac (d : WReg) (sh : BitVec 5) : Bool := d = 0 && sh = 0
/-- ARD and ARDS: A and B are 0, SH 0 to 24 (R130, R139). -/
def okArd (a b : WReg) (sh : BitVec 5) : Bool := a = 0 && b = 0 && sh.toNat ≤ 24

/-- PAND, POR, PXOR, PANDN: PD not 0, W 0 (R128, R137). -/
def okPred2 (pd : PReg) (w : WReg) : Bool := pd ≠ 0 && w = 0
/-- PNOT: PB must be 0 (R137). -/
def okPnot (pd pb : PReg) (w : WReg) : Bool := pd ≠ 0 && pb = 0 && w = 0
/-- PSET: k, the PA field, is 0 or 1 (R137). -/
def okPset (pd pa pb : PReg) (w : WReg) : Bool := pd ≠ 0 && pa.val ≤ 1 && pb = 0 && w = 0
/-- MOVWP, MOVPW, MOVPS, MOVSP: PD, PA and PB are 0 (R137). -/
def okPmove (pd pa pb : PReg) : Bool := pd = 0 && pa = 0 && pb = 0

/-- LD and ST (R129, R142): OFF13 is 0 in modes 1 and 2 and under an IMM prefix, which only modes 0 and 3 take; X is 0 in mode 3. -/
def okMem (i : Issue) (x : XReg) (mode : BitVec 2) (off : BitVec 13) : Bool :=
  okGuard i &&
  (match i.pfx with | .none => true | .imm _ => (mode = 0 || mode = 3) && off = 0 | .rep => false) &&
  (if mode = 1 ∨ mode = 2 then off = 0 else true) && (if mode = 3 then x = 0 else true)

/-- SIGNAL: EV 8 to 14 are ILLEGAL (R178). -/
def okSignal (ev : BitVec 4) : Bool := ev.toNat < 8 || ev.toNat = 15

/-- Well-formed Jatal-16 instructions; a command that is no instruction satisfies it. -/
def formOk : Instr → Bool
  | .add i _ _ _ | .adc i _ _ _ | .sub i _ _ _ | .sbb i _ _ _ | .and i _ _ _ | .or i _ _ _ | .xor i _ _ _ | .andn i _ _ _
  | .shl i _ _ _ | .shr i _ _ _ | .sar i _ _ _ | .rol i _ _ _ | .min i _ _ _ | .max i _ _ _ | .minu i _ _ _ | .maxu i _ _ _
  | .mul i _ _ _ | .mulh i _ _ _ | .mulhu i _ _ _ => okPlain i
  | .mov i _ _ | .not i _ _ | .neg i _ _ | .bswap i _ _ | .popc i _ _ | .clz i _ _ | .ctz i _ _ => okPlain i
  | .addi i _ _ k | .andi i _ _ k | .ori i _ _ k | .xori i _ _ k => okImm i k.toNat
  | .movi i _ _ => okPlain i
  | .shiShl i _ _ _ | .shiShr i _ _ _ | .shiSar i _ _ _ | .shiRol i _ _ _ => okPlain i
  | .cmp i pd _ _ c => okPlain i && okCond pd c
  | .cmpi i pd c _ k => okImm i k.toNat && okCond pd c
  | .bfx i _ _ p w | .bfxs i _ _ p w | .bfi i _ _ p w => okPlain i && okField p w
  | .extb i _ _ p w | .insb i _ _ p w => okPlain i && okByte p w
  | .aclr i _ d a b sh => okPlain i && okAclr d a b sh
  | .macS i _ d _ _ sh | .macU i _ d _ _ sh | .awr i _ d _ _ sh => okPlain i && okMac d sh
  | .ard i _ _ a b sh | .ards i _ _ a b sh => okPlain i && okArd a b sh
  | .macd i _ _ xa xb => okPlain i && xa ≠ xb
  | .pand i pd _ _ w | .por i pd _ _ w | .pxor i pd _ _ w | .pandn i pd _ _ w => okPlain i && okPred2 pd w
  | .pnot i pd _ pb w => okPlain i && okPnot pd pb w
  | .pset i pd pa pb w => okPlain i && okPset pd pa pb w
  | .movwp i pd pa pb _ | .movpw i pd pa pb _ | .movps i pd pa pb _ | .movsp i pd pa pb _ => okPlain i && okPmove pd pa pb
  | .lea i _ _ _ | .addxw i _ _ _ => okPlain i
  | .movxw i _ xa _ => okPlain i && xa = 0
  | .movwx i xd _ _ => okPlain i && xd = 0
  | .movx i _ _ w => okPlain i && w = 0
  | .movbc i xd xa _ | .movwbc i xd xa _ => okPlain i && xd = 0 && xa = 0
  | .ld i _ x m o | .st i _ x m o => okMem i x m o
  | .push i m | .pop i m => okPlain i && m ≠ 0
  | .movs i v pd => okString i && v = 0 && pd = 0
  | .cmps i v pd => okString i && v = 0 && pd ≠ 0
  | .scans i _ pd => okString i && pd ≠ 0
  | .fills i _ pd => okString i && pd = 0
  | .br i _ | .dbnz i _ _ | .brx i _ | .ret i _ | .retx i _ => okPlain i
  | .call i _ | .callx i _ => okCall i
  | .inp i _ _ | .outp i _ _ | .inr i _ _ | .outr i _ _ | .ldis i _ _ _ => okPlain i
  | .wait i _ m => okPlain i && m ≠ 0
  | .signal i _ ev => okPlain i && okSignal ev
  | .nop i | .brk i => okPlain i
  | .dgStart i k => okPlain i && k.toNat < 5
  | .dgRd i _ k => okPlain i && k.toNat < 4
  | .dgSeed i _ _ | .dgW i _ | .dgB i _ | .dgStat i _ | .dgFeed i _ _ => okPlain i
  | .dgKeys i _ b => okPlain i && b = 0
  | .dgBusy i pd | .bkBusy i pd => okPlain i && pd ≠ 0
  | .bkSrc i _ _ | .bkDst i _ _ | .bkCopy i _ | .bkFill i _ _ | .bkCsum i _ | .bkSumset i _ | .bkRd i _ | .bkStat i _ => okPlain i
  | .ioStageWrite i _ _ | .timeLatch i _ | .cycLatch i _ | .almArm i _ | .almCancel i _ | .postGo i _ | .thrEnWrite i _ => okPlain i
  | .verdictSend i _ | .verdictDrop i _ | .verdictRecirc i _ | .verdictDefault i _ | .verdictEnd i _ => okPlain i
  | .supResume i _ | .supSkip i _ | .supKill i _ | .supReset i _ | .dbgSel i _ | .dbgCmdHalt i _ | .dbgCmdResume i _
  | .dbgCmdStep i _ | .dbgCmdReset i _ => okPlain i
  | .dgClaim i _ | .dgFree i _ | .bkClaim i _ | .bkFree i _ | .lockAcq i _ _ | .lockRel i _ | .lockStat i _ => okPlain i
  | .evClr i _ | .evLocksub i _ | .evLocksubCancel i _ | .evTimerStart i _ | .evTimerStop i _ => okPlain i
  | .fgLookup i _ | .fgInsert i _ | .fgUpdate i _ | .fgDelete i _ | .fgAdd i _ | .fgGlookup i _ | .lrnGo i _ => okPlain i
  | .talCountIn i _ | .talCountDrop i _ | .talPolice i _ | .bufAlloc i _ | .bufRelease i _ | .bufFree i _ | .bufSend i _ => okPlain i
  | _ => true

end Sys2Proof.Machine
end

