-- ==== Sys2Proof/Machine/Operands.lean ====
section
/-!
DEFINITION. Issuing an instruction of a thread (R101, R103, R115, R119 to R121, R127 to R129, R132): form, guard, scoreboard, commit,
fault, breakpoints and watchpoints; reading and writing its operands.
-/

namespace Sys2Proof.Machine

/-- What an instruction does once it issues: it faults with a cause and an address, it does not issue yet, or it commits, with its
issue cycles and the data-space words it accessed (true for a write). The forms with a state keep what a repeat has committed so far;
`sleep` is a WAIT that waits, which commits when it takes its event. -/
inductive Act where
  | fault (cause : Nat) (addr : Word)
  | faultKeep (s : State) (cause : Nat) (addr : Word)
  | stall
  | stallKeep (s : State)
  | sleep (s : State)
  | done (s : State) (cycles : Nat) (accs : List (Nat × Bool))

/-- The units of an instruction: two with a prefix (R129). -/
def unitsOf (i : Issue) : Nat := if i.pfx = .none then 1 else 2

/-- The guard: P[G[2:0]] xor G[3] (R127). P0 reads 1. -/
def guardTrue (r : Regs) (g : BitVec 4) : Bool :=
  let k := g.toNat % 8
  (if h : k < 8 then (decide (k = 0) || r.p[k]) else true) ^^ g.getLsbD 3

/-- Predicate `p` as a source: P0 reads 1 (R125, R137). -/
def predOf (r : Regs) (p : PReg) : Bool := decide (p = 0) || r.p[p]

def mapRegs (s : State) (t : Nat) (f : Regs → Regs) : State := modT s t (fun x => { x with regs := f x.regs })
def regsOf (s : State) (t : Nat) : Regs := (getT s t).regs
/-- Write a word register. -/
def setW (s : State) (t : Nat) (d : WReg) (v : Word) : State := mapRegs s t (fun r => { r with w := r.w.set d v })
/-- Write an address register. -/
def setX (s : State) (t : Nat) (d : XReg) (v : Word) : State := mapRegs s t (fun r => { r with x := r.x.set d v })
/-- Write a predicate; a write to P0 has no effect, since P0 always reads 1 (R125). -/
def setP (s : State) (t : Nat) (d : PReg) (v : Bool) : State :=
  if d = 0 then s else mapRegs s t (fun r => { r with p := r.p.set d v })
def setPs (s : State) (t : Nat) (v : Word) : State := mapRegs s t (fun r => { r with ps := v })
def setPc (s : State) (t : Nat) (v : Word) : State := mapRegs s t (fun r => { r with pc := v })
def setBc (s : State) (t : Nat) (v : Word) : State := mapRegs s t (fun r => { r with bc := v })

/-- Halt a thread, keeping the state it was in (R119). -/
def haltThread (s : State) (t : Nat) : State :=
  let st := (getT s t).st
  modT (setSt s t .halted) t (fun x => { x with haltFrom := some st, stepping := false })

/-- EV_DBG_HALT and EV_DBG_BREAK (R124). -/
def dbgRecord (s : State) (code : Word) (t : Nat) : State := record s (thrDie t) code (thrMaster t) [nw t, (regsOf s t).pc]

/-- The program image letter that thread `t` runs. -/
def thrImage (s : State) (t : Nat) : Nat := slotPimg s (thrDie t) (thrSlot s t)

/-- The key of unit `a` of a comb's program image. -/
def progKey (comb image a : Nat) : Nat := (comb * 2 + image) * 65536 + a

/-- Whether a unit of the image that thread `t` runs is uncorrectable: its fetch faults (R401). -/
def fetchPoison (s : State) (t a : Nat) : Bool := decide (0x40000000 + progKey (thrComb t) (thrImage s t) a ∈ s.core.poison)

/-- Whether a breakpoint stops thread `t` before the instruction at its PC (R121). -/
def breakHit (s : State) (t : Nat) : Bool :=
  !(getT s t).stepping &&
  (getCell s (thrCell t)).breaks.any (fun b => !b.watch && b.threads.getLsbD (t % 8) && decide (b.addr = (regsOf s t).pc) &&
    (b.image == decide (thrImage s t = 1)))

/-- Whether a watchpoint of the cell names one of the accesses of thread `t` (R121). -/
def watchHit (s : State) (t : Nat) (accs : List (Nat × Bool)) : Bool :=
  (getCell s (thrCell t)).breaks.any (fun b => b.watch && b.threads.getLsbD (t % 8) &&
    accs.any (fun a => decide (b.addr.toNat = a.1) && (if a.2 then b.wr else b.rd)))

/-- After a commit: the issue cycles count in CELL.CNT_ISSUE (R123, R132); a watchpoint that was hit halts the thread, and a step of the
debugger is done (R120, R121). -/
def afterCommit (s : State) (t n : Nat) (accs : List (Nat × Bool)) : State :=
  let s := cntN s .cellCntIssue (thrDie t) (cellInst (thrCell t)) n
  if (getT s t).st ≠ .active then s
  else if watchHit s t accs then dbgRecord (haltThread s t) 0x4005 t
  else if (getT s t).stepping then haltThread s t
  else s

/-- The thread with its PC past the instruction. -/
def advance (s : State) (t units : Nat) : State := setPc s t ((regsOf s t).pc + nw units)

/-- The thread's next instruction waits for the result of a pending IN into one of `reads` (R103). -/
def waitsIn (s : State) (t : Nat) (reads : List WReg) : Bool :=
  match (getT s t).inPend with
  | some p => decide (p.rd ∈ reads)
  | none => false

/-- Whether an instruction at `pc` breaks the rule of address 0xFFFF (R128): only an unguarded BR, BRX, RET or RETX may stand there. -/
def badEnd (i : Issue) (pc : Word) (branch : Bool) : Bool :=
  (decide (pc = 0xFFFF) || (decide (pc = 0xFFFE) && decide (unitsOf i = 2))) &&
    !(branch && decide (i.guard = 0) && decide (i.pfx = .none))

/-- Issue one instruction of thread `i.tid`. `ok` says that its form is legal, `reads` are the word registers it needs, `branch` marks
BR, BRX, RET and RETX, `body` is its effect on the thread whose PC has moved past it. A thread that is neither ACTIVE nor STALLED
issues nothing (R98). -/
def issue (s : State) (i : Issue) (ok : Bool) (reads : List WReg) (branch : Bool) (body : State → Act) : State :=
  let x := getT s i.tid
  if x.st ≠ .active ∧ x.st ≠ .stalled then s
  else if breakHit s i.tid then dbgRecord (haltThread s i.tid) 0x4005 i.tid
  else
    let s := if x.st = .stalled then setSt s i.tid .active else s
    if fetchPoison s i.tid x.regs.pc.toNat || (decide (unitsOf i = 2) && fetchPoison s i.tid (x.regs.pc + 1).toNat) then
      faultAt s i.tid 9 x.regs.pc 0 (unitsOf i)
    else if !ok || badEnd i x.regs.pc branch then faultAt s i.tid 1 x.regs.pc 0 (unitsOf i)
    else if !guardTrue x.regs i.guard then afterCommit (advance s i.tid (unitsOf i)) i.tid 1 []
    else if waitsIn s i.tid reads then setSt s i.tid .stalled
    else
      match body (advance s i.tid (unitsOf i)) with
      | .fault cause addr => faultAt s i.tid cause x.regs.pc addr (unitsOf i)
      | .faultKeep s' cause addr => faultAt (setPc s' i.tid x.regs.pc) i.tid cause x.regs.pc addr (unitsOf i)
      | .stall => setSt s i.tid .stalled
      | .stallKeep s' => setSt (setPc s' i.tid x.regs.pc) i.tid .stalled
      | .sleep s' => setSt (setPc s' i.tid x.regs.pc) i.tid .waiting
      | .done s' n accs => afterCommit s' i.tid n accs

/-- An instruction that only writes registers: `f` gives the new registers from those read. -/
def issueRegs (s : State) (i : Issue) (ok : Bool) (reads : List WReg) (f : Regs → Regs) : State :=
  issue s i ok reads false (fun s => .done (mapRegs s i.tid f) 1 [])

/-- An ALU form: the result and PS from the registers read. -/
def issueAlu (s : State) (i : Issue) (ok : Bool) (d : WReg) (reads : List WReg) (f : Regs → Word × Word) : State :=
  issueRegs s i ok reads (fun r => { r with w := r.w.set d (f r).1, ps := (f r).2 })

/-- A form that writes a word register and leaves PS unchanged. -/
def issueW (s : State) (i : Issue) (ok : Bool) (d : WReg) (reads : List WReg) (f : Regs → Word) : State :=
  issueRegs s i ok reads (fun r => { r with w := r.w.set d (f r) })

/-- The immediate: IMM's 16 bits where the prefix is there, else the short field as `ext` extends it (R129, R134). -/
def immOf (i : Issue) (short : Word) : Word :=
  match i.pfx with
  | .imm k => k
  | _ => short

/-- The predicate word: bit 0 is 1, bits [7:1] are P1 to P7 (R137). -/
def predWord (r : Regs) : Word :=
  (List.range 7).foldl (fun w k => if h : k + 1 < 8 then (if r.p[k + 1] then setBit w (k + 1) else w) else w) 1

/-- P1 to P7 from bits [7:1] of a word (R137). -/
def unpackPreds (r : Regs) (w : Word) : Regs :=
  { r with p := Vector.ofFn (fun k : Fin 8 => decide (k = 0) || w.getLsbD k) }

/-- The accumulator `n`. -/
def accOf (r : Regs) (n : Bool) : BitVec 40 := if n then r.acc1 else r.acc0
def setAcc (r : Regs) (n : Bool) (v : BitVec 40) : Regs := if n then { r with acc1 := v } else { r with acc0 := v }

/-- Registers named by a mask, in ascending order (R144). -/
def maskRegs (m : Word) : List WReg := (List.finRange 16).filter (fun k => m.getLsbD k)

/-- An access that must be readable, whole and present: otherwise the instruction waits or faults (R103, R142). -/
def checkRead (s : State) (t : Nat) (a : Nat) (k : Word → Act) : Act :=
  if !readable s t a then .fault 3 (nw a)
  else if waitsSlot s t a then .stall
  else if poisonedW s t a then .fault 9 (nw a)
  else k (readW s t a)

end Sys2Proof.Machine
end

