-- ==== Sys2Proof/Machine/Alu.lean ====
section
/-! DEFINITION. Arithmetic, logic, shifts, comparison, predicates, bits and the reckoner (R134 to R141). -/

namespace Sys2Proof.Machine

/-- ADD: d ← a + b; C Z N V (R134). -/
def execAdd (i : Issue) (d a b : WReg) (s : State) : Host.Outcome State Fault Refusal :=
  .next (issueAlu s i (okPlain i) d [a, b] (fun r => addWord r.ps r.w[a] r.w[b] false))

/-- ADC: d ← a + b + C; C Z N V (R134). -/
def execAdc (i : Issue) (d a b : WReg) (s : State) : Host.Outcome State Fault Refusal :=
  .next (issueAlu s i (okPlain i) d [a, b] (fun r => addWord r.ps r.w[a] r.w[b] (psC r.ps)))

/-- SUB: d ← a − b; C on borrow, Z N V (R134). -/
def execSub (i : Issue) (d a b : WReg) (s : State) : Host.Outcome State Fault Refusal :=
  .next (issueAlu s i (okPlain i) d [a, b] (fun r => subWord r.ps r.w[a] r.w[b] false))

/-- SBB: d ← a − b − C; C on borrow, Z N V (R134). -/
def execSbb (i : Issue) (d a b : WReg) (s : State) : Host.Outcome State Fault Refusal :=
  .next (issueAlu s i (okPlain i) d [a, b] (fun r => subWord r.ps r.w[a] r.w[b] (psC r.ps)))

/-- AND; Z N (R134). -/
def execAnd (i : Issue) (d a b : WReg) (s : State) : Host.Outcome State Fault Refusal :=
  .next (issueAlu s i (okPlain i) d [a, b] (fun r => logicWord r.ps (r.w[a] &&& r.w[b])))

/-- OR; Z N (R134). -/
def execOr (i : Issue) (d a b : WReg) (s : State) : Host.Outcome State Fault Refusal :=
  .next (issueAlu s i (okPlain i) d [a, b] (fun r => logicWord r.ps (r.w[a] ||| r.w[b])))

/-- XOR; Z N (R134). -/
def execXor (i : Issue) (d a b : WReg) (s : State) : Host.Outcome State Fault Refusal :=
  .next (issueAlu s i (okPlain i) d [a, b] (fun r => logicWord r.ps (r.w[a] ^^^ r.w[b])))

/-- ANDN: a and not b; Z N (R134). -/
def execAndn (i : Issue) (d a b : WReg) (s : State) : Host.Outcome State Fault Refusal :=
  .next (issueAlu s i (okPlain i) d [a, b] (fun r => logicWord r.ps (r.w[a] &&& ~~~r.w[b])))

/-- SHL by b[4:0]; C Z N (R134, R135). -/
def execShl (i : Issue) (d a b : WReg) (s : State) : Host.Outcome State Fault Refusal :=
  .next (issueAlu s i (okPlain i) d [a, b] (fun r => shiftWord .shl r.ps r.w[a] (r.w[b].toNat % 32)))

/-- SHR by b[4:0]; C Z N (R134, R135). -/
def execShr (i : Issue) (d a b : WReg) (s : State) : Host.Outcome State Fault Refusal :=
  .next (issueAlu s i (okPlain i) d [a, b] (fun r => shiftWord .shr r.ps r.w[a] (r.w[b].toNat % 32)))

/-- SAR by b[4:0]; C Z N (R134, R135). -/
def execSar (i : Issue) (d a b : WReg) (s : State) : Host.Outcome State Fault Refusal :=
  .next (issueAlu s i (okPlain i) d [a, b] (fun r => shiftWord .sar r.ps r.w[a] (r.w[b].toNat % 32)))

/-- ROL by b[4:0]; C Z N (R134, R135). -/
def execRol (i : Issue) (d a b : WReg) (s : State) : Host.Outcome State Fault Refusal :=
  .next (issueAlu s i (okPlain i) d [a, b] (fun r => shiftWord .rol r.ps r.w[a] (r.w[b].toNat % 32)))

/-- MIN, signed; PS unchanged (R134). -/
def execMin (i : Issue) (d a b : WReg) (s : State) : Host.Outcome State Fault Refusal :=
  .next (issueW s i (okPlain i) d [a, b] (fun r => if r.w[a].toInt ≤ r.w[b].toInt then r.w[a] else r.w[b]))

/-- MAX, signed; PS unchanged (R134). -/
def execMax (i : Issue) (d a b : WReg) (s : State) : Host.Outcome State Fault Refusal :=
  .next (issueW s i (okPlain i) d [a, b] (fun r => if r.w[a].toInt ≥ r.w[b].toInt then r.w[a] else r.w[b]))

/-- MINU, unsigned; PS unchanged (R134). -/
def execMinu (i : Issue) (d a b : WReg) (s : State) : Host.Outcome State Fault Refusal :=
  .next (issueW s i (okPlain i) d [a, b] (fun r => if r.w[a].toNat ≤ r.w[b].toNat then r.w[a] else r.w[b]))

/-- MAXU, unsigned; PS unchanged (R134). -/
def execMaxu (i : Issue) (d a b : WReg) (s : State) : Host.Outcome State Fault Refusal :=
  .next (issueW s i (okPlain i) d [a, b] (fun r => if r.w[a].toNat ≥ r.w[b].toNat then r.w[a] else r.w[b]))

/-- MOV; PS unchanged (R134). -/
def execMov (i : Issue) (d a : WReg) (s : State) : Host.Outcome State Fault Refusal :=
  .next (issueW s i (okPlain i) d [a] (fun r => r.w[a]))

/-- NOT; Z N (R134). -/
def execNot (i : Issue) (d a : WReg) (s : State) : Host.Outcome State Fault Refusal :=
  .next (issueAlu s i (okPlain i) d [a] (fun r => logicWord r.ps (~~~r.w[a])))

/-- NEG: 0 − a; C Z N V as for SUB (R134). -/
def execNeg (i : Issue) (d a : WReg) (s : State) : Host.Outcome State Fault Refusal :=
  .next (issueAlu s i (okPlain i) d [a] (fun r => subWord r.ps 0 r.w[a] false))

/-- BSWAP: the two bytes exchanged (R134). -/
def execBswap (i : Issue) (d a : WReg) (s : State) : Host.Outcome State Fault Refusal :=
  .next (issueW s i (okPlain i) d [a] (fun r => r.w[a].rotateLeft 8))

/-- The number of 1 bits of a word. -/
def popCount (w : Word) : Nat := (List.range 16).countP (fun k => w.getLsbD k)
/-- Leading zeros, 16 for 0. -/
def leadZeros (w : Word) : Nat := ((List.range 16).find? (fun k => w.getLsbD (15 - k))).getD 16
/-- Trailing zeros, 16 for 0. -/
def trailZeros (w : Word) : Nat := ((List.range 16).find? (fun k => w.getLsbD k)).getD 16

/-- POPC (R134). -/
def execPopc (i : Issue) (d a : WReg) (s : State) : Host.Outcome State Fault Refusal :=
  .next (issueW s i (okPlain i) d [a] (fun r => nw (popCount r.w[a])))

/-- CLZ (R134). -/
def execClz (i : Issue) (d a : WReg) (s : State) : Host.Outcome State Fault Refusal :=
  .next (issueW s i (okPlain i) d [a] (fun r => nw (leadZeros r.w[a])))

/-- CTZ (R134). -/
def execCtz (i : Issue) (d a : WReg) (s : State) : Host.Outcome State Fault Refusal :=
  .next (issueW s i (okPlain i) d [a] (fun r => nw (trailZeros r.w[a])))

/-- ADDI: IMM14 sign-extended, or IMM's 16 bits; C Z N V (R134). -/
def execAddi (i : Issue) (d a : WReg) (imm14 : BitVec 14) (s : State) : Host.Outcome State Fault Refusal :=
  .next (issueAlu s i (okImm i imm14.toNat) d [a]
    (fun r => addWord r.ps r.w[a] (immOf i (imm14.signExtend 16)) false))

/-- ANDI: IMM14 zero-extended, or IMM's 16 bits; Z N (R134). -/
def execAndi (i : Issue) (d a : WReg) (imm14 : BitVec 14) (s : State) : Host.Outcome State Fault Refusal :=
  .next (issueAlu s i (okImm i imm14.toNat) d [a]
    (fun r => logicWord r.ps (r.w[a] &&& immOf i (imm14.zeroExtend 16))))

/-- ORI: IMM14 zero-extended, or IMM's 16 bits; Z N (R134). -/
def execOri (i : Issue) (d a : WReg) (imm14 : BitVec 14) (s : State) : Host.Outcome State Fault Refusal :=
  .next (issueAlu s i (okImm i imm14.toNat) d [a]
    (fun r => logicWord r.ps (r.w[a] ||| immOf i (imm14.zeroExtend 16))))

/-- XORI: IMM14 zero-extended, or IMM's 16 bits; Z N (R134). -/
def execXori (i : Issue) (d a : WReg) (imm14 : BitVec 14) (s : State) : Host.Outcome State Fault Refusal :=
  .next (issueAlu s i (okImm i imm14.toNat) d [a]
    (fun r => logicWord r.ps (r.w[a] ^^^ immOf i (imm14.zeroExtend 16))))

/-- MOVI: d ← K16; PS unchanged (R134). -/
def execMovi (i : Issue) (d : WReg) (k : Word) (s : State) : Host.Outcome State Fault Refusal :=
  .next (issueW s i (okPlain i) d [] (fun _ => k))

/-- SHI SHL by AMT; C Z N (R135). -/
def execShiShl (i : Issue) (d a : WReg) (amt : BitVec 4) (s : State) : Host.Outcome State Fault Refusal :=
  .next (issueAlu s i (okPlain i) d [a] (fun r => shiftWord .shl r.ps r.w[a] amt.toNat))

/-- SHI SHR by AMT; C Z N (R135). -/
def execShiShr (i : Issue) (d a : WReg) (amt : BitVec 4) (s : State) : Host.Outcome State Fault Refusal :=
  .next (issueAlu s i (okPlain i) d [a] (fun r => shiftWord .shr r.ps r.w[a] amt.toNat))

/-- SHI SAR by AMT; C Z N (R135). -/
def execShiSar (i : Issue) (d a : WReg) (amt : BitVec 4) (s : State) : Host.Outcome State Fault Refusal :=
  .next (issueAlu s i (okPlain i) d [a] (fun r => shiftWord .sar r.ps r.w[a] amt.toNat))

/-- SHI ROL by AMT; C Z N (R135). -/
def execShiRol (i : Issue) (d a : WReg) (amt : BitVec 4) (s : State) : Host.Outcome State Fault Refusal :=
  .next (issueAlu s i (okPlain i) d [a] (fun r => shiftWord .rol r.ps r.w[a] amt.toNat))

/-- CMP: Pd ← condition; PS unchanged (R136). -/
def execCmp (i : Issue) (pd : PReg) (a b : WReg) (cond : BitVec 4) (s : State) : Host.Outcome State Fault Refusal :=
  .next (issueRegs s i (okPlain i && okCond pd cond) [a, b]
    (fun r => { r with p := r.p.set pd (condHolds cond.toNat r.w[a] r.w[b]) }))

/-- CMPI: IMM11 sign-extended for conditions 0 to 5, zero-extended for 6 to 11, or IMM's 16 bits (R136). -/
def execCmpi (i : Issue) (pd : PReg) (cond : BitVec 4) (a : WReg) (imm11 : BitVec 11) (s : State) : Host.Outcome State Fault Refusal :=
  .next (issueRegs s i (okImm i imm11.toNat && okCond pd cond) [a]
    (fun r =>
      let k := immOf i (if cond.toNat ≤ 5 then imm11.signExtend 16 else imm11.zeroExtend 16)
      { r with p := r.p.set pd (condHolds cond.toNat r.w[a] k) }))

/-- The low `n` bits of a word, as a mask (n from 1 to 16). -/
def lowMask (n : Nat) : Word := BitVec.ofNat 16 (2 ^ n - 1)
/-- BFX: bits [pos + w − 1 : pos] of a, zero-extended (R138). -/
def extractBits (a : Word) (pos w : Nat) : Word := (a >>> pos) &&& lowMask w
/-- BFI: a[w − 1 : 0] placed at `pos` of d (R138). -/
def insertBits (d a : Word) (pos w : Nat) : Word := (d &&& ~~~(lowMask w <<< pos)) ||| ((a &&& lowMask w) <<< pos)

/-- BFX (R138). -/
def execBfx (i : Issue) (d a : WReg) (pos wm1 : BitVec 4) (s : State) : Host.Outcome State Fault Refusal :=
  .next (issueW s i (okPlain i && okField pos wm1) d [a] (fun r => extractBits r.w[a] pos.toNat (wm1.toNat + 1)))

/-- BFXS: bit w − 1 copied into bits [15:w] (R138). -/
def execBfxs (i : Issue) (d a : WReg) (pos wm1 : BitVec 4) (s : State) : Host.Outcome State Fault Refusal :=
  .next (issueW s i (okPlain i && okField pos wm1) d [a] (fun r =>
    let f := extractBits r.w[a] pos.toNat (wm1.toNat + 1)
    if f.getLsbD wm1.toNat then f ||| ~~~lowMask (wm1.toNat + 1) else f))

/-- BFI: the other bits of d are kept (R138). -/
def execBfi (i : Issue) (d a : WReg) (pos wm1 : BitVec 4) (s : State) : Host.Outcome State Fault Refusal :=
  .next (issueW s i (okPlain i && okField pos wm1) d [a, d]
    (fun r => insertBits r.w[d] r.w[a] pos.toNat (wm1.toNat + 1)))

/-- EXTB: byte POS of a, zero-extended; byte 0 is bits [15:8] (R138). -/
def execExtb (i : Issue) (d a : WReg) (pos wm1 : BitVec 4) (s : State) : Host.Outcome State Fault Refusal :=
  .next (issueW s i (okPlain i && okByte pos wm1) d [a]
    (fun r => if pos = 0 then extractBits r.w[a] 8 8 else extractBits r.w[a] 0 8))

/-- INSB: a[7:0] into byte POS of d; the other byte is kept (R138). -/
def execInsb (i : Issue) (d a : WReg) (pos wm1 : BitVec 4) (s : State) : Host.Outcome State Fault Refusal :=
  .next (issueW s i (okPlain i && okByte pos wm1) d [a, d]
    (fun r => if pos = 0 then insertBits r.w[d] r.w[a] 8 8 else insertBits r.w[d] r.w[a] 0 8))

/-- MUL: (a × b)[15:0] (R139). -/
def execMul (i : Issue) (d a b : WReg) (s : State) : Host.Outcome State Fault Refusal :=
  .next (issueW s i (okPlain i) d [a, b] (fun r => r.w[a] * r.w[b]))

/-- MULH: bits [31:16] of the signed product (R139). -/
def execMulh (i : Issue) (d a b : WReg) (s : State) : Host.Outcome State Fault Refusal :=
  .next (issueW s i (okPlain i) d [a, b] (fun r => (BitVec.ofInt 32 (r.w[a].toInt * r.w[b].toInt)).extractLsb' 16 16))

/-- MULHU: bits [31:16] of the unsigned product (R139). -/
def execMulhu (i : Issue) (d a b : WReg) (s : State) : Host.Outcome State Fault Refusal :=
  .next (issueW s i (okPlain i) d [a, b] (fun r => (BitVec.ofNat 32 (r.w[a].toNat * r.w[b].toNat)).extractLsb' 16 16))

/-- ACLR: acc ← 0, AVn ← 0 (R139). -/
def execAclr (i : Issue) (n : Bool) (d a b : WReg) (sh : BitVec 5) (s : State) : Host.Outcome State Fault Refusal :=
  .next (issueRegs s i (okPlain i && okAclr d a b sh) []
    (fun r => { setAcc r n 0 with ps := psBit r.ps (avBit n) false }))

/-- An accumulation into accumulator `n`: AVn is set when it overflows, and stays set otherwise (R126, R139). -/
def accumRegs (r : Regs) (n sgn : Bool) (a b : Word) : Regs :=
  let v := accumulate sgn (accOf r n) a b
  { setAcc r n v.1 with ps := if v.2 then psBit r.ps (avBit n) true else r.ps }

/-- MAC.S: acc ← acc + signed a × b (R139). -/
def execMacS (i : Issue) (n : Bool) (d a b : WReg) (sh : BitVec 5) (s : State) : Host.Outcome State Fault Refusal :=
  .next (issueRegs s i (okPlain i && okMac d sh) [a, b] (fun r => accumRegs r n true r.w[a] r.w[b]))

/-- MAC.U: acc ← acc + unsigned a × b (R139). -/
def execMacU (i : Issue) (n : Bool) (d a b : WReg) (sh : BitVec 5) (s : State) : Host.Outcome State Fault Refusal :=
  .next (issueRegs s i (okPlain i && okMac d sh) [a, b] (fun r => accumRegs r n false r.w[a] r.w[b]))

/-- ARD: bits [sh + 15 : sh] of acc sign-extended (R139). -/
def execArd (i : Issue) (n : Bool) (d a b : WReg) (sh : BitVec 5) (s : State) : Host.Outcome State Fault Refusal :=
  .next (issueW s i (okPlain i && okArd a b sh) d []
    (fun r => ((accOf r n).sshiftRight sh.toNat).extractLsb' 0 16))

/-- ARDS: acc shifted right arithmetically and clamped; V is 1 when it clamps (R139). -/
def execArds (i : Issue) (n : Bool) (d a b : WReg) (sh : BitVec 5) (s : State) : Host.Outcome State Fault Refusal :=
  .next (issueAlu s i (okPlain i && okArd a b sh) d []
    (fun r => ((clampRead (accOf r n) sh.toNat).1, psBit r.ps 3 (clampRead (accOf r n) sh.toNat).2)))

/-- AWR: acc ← (a : b) sign-extended from bit 31 (R139). -/
def execAwr (i : Issue) (n : Bool) (d a b : WReg) (sh : BitVec 5) (s : State) : Host.Outcome State Fault Refusal :=
  .next (issueRegs s i (okPlain i && okMac d sh) [a, b] (fun r => setAcc r n ((r.w[a] ++ r.w[b]).signExtend 40)))

/-- The regions of data space (R104), for the bank rule of MACD (R140). -/
def regionOf (a : Nat) : Nat :=
  if a < 0x1000 then 0 else if a < 0x1800 then 1 else if a < 0x1890 then 2 else if a < 0x18A0 then 3 else if a < 0x1900 then 4
  else if a < 0x1A00 then 5 else if a < 0x2000 then 6 else if a < 0x6000 then 7 else if a < 0xE000 then 8 else 9

/-- MACD: two words of data space multiplied and accumulated; both X registers advance (R140). Operands in one bank cost one more issue
cycle. -/
def execMacd (i : Issue) (n sgn : Bool) (xa xb : XReg) (s : State) : Host.Outcome State Fault Refusal :=
  .next (issue s i (okPlain i && decide (xa ≠ xb)) [] false (fun s =>
    let r := regsOf s i.tid
    let pa := r.x[xa].toNat
    let pb := r.x[xb].toNat
    let bad (a : Nat) : Bool := !readable s i.tid a
    if bad pa || bad pb then .fault 3 (nw (if bad pa then pa else pb))
    else checkRead s i.tid pa (fun a => checkRead s i.tid pb (fun b =>
      let r := accumRegs r n sgn a b
      let r := { r with x := (r.x.set xa (r.x[xa] + 1)).set xb (r.x[xb] + 1) }
      let oneBank := decide (regionOf pa = regionOf pb) && decide (pa % 8 = pb % 8)
      .done (mapRegs s i.tid (fun _ => r)) (if oneBank then 2 else 1) [(pa, false), (pb, false)]))))

/-- PAND (R137). -/
def execPand (i : Issue) (pd pa pb : PReg) (w : WReg) (s : State) : Host.Outcome State Fault Refusal :=
  .next (issueRegs s i (okPlain i && okPred2 pd w) [] (fun r => { r with p := r.p.set pd (predOf r pa && predOf r pb) }))

/-- POR (R137). -/
def execPor (i : Issue) (pd pa pb : PReg) (w : WReg) (s : State) : Host.Outcome State Fault Refusal :=
  .next (issueRegs s i (okPlain i && okPred2 pd w) [] (fun r => { r with p := r.p.set pd (predOf r pa || predOf r pb) }))

/-- PXOR (R137). -/
def execPxor (i : Issue) (pd pa pb : PReg) (w : WReg) (s : State) : Host.Outcome State Fault Refusal :=
  .next (issueRegs s i (okPlain i && okPred2 pd w) [] (fun r => { r with p := r.p.set pd (predOf r pa ^^ predOf r pb) }))

/-- PANDN (R137). -/
def execPandn (i : Issue) (pd pa pb : PReg) (w : WReg) (s : State) : Host.Outcome State Fault Refusal :=
  .next (issueRegs s i (okPlain i && okPred2 pd w) [] (fun r => { r with p := r.p.set pd (predOf r pa && !predOf r pb) }))

/-- PNOT (R137). -/
def execPnot (i : Issue) (pd pa pb : PReg) (w : WReg) (s : State) : Host.Outcome State Fault Refusal :=
  .next (issueRegs s i (okPlain i && okPnot pd pb w) [] (fun r => { r with p := r.p.set pd (!predOf r pa) }))

/-- PSET: Pd ← k, the PA field (R137). -/
def execPset (i : Issue) (pd pa pb : PReg) (w : WReg) (s : State) : Host.Outcome State Fault Refusal :=
  .next (issueRegs s i (okPlain i && okPset pd pa pb w) []
    (fun r => { r with p := r.p.set pd (decide (pa = 1)) }))

/-- MOVWP: the predicate word (R137). -/
def execMovwp (i : Issue) (pd pa pb : PReg) (w : WReg) (s : State) : Host.Outcome State Fault Refusal :=
  .next (issueW s i (okPlain i && okPmove pd pa pb) w [] predWord)

/-- MOVPW: P1 to P7 from bits [7:1] (R137). -/
def execMovpw (i : Issue) (pd pa pb : PReg) (w : WReg) (s : State) : Host.Outcome State Fault Refusal :=
  .next (issueRegs s i (okPlain i && okPmove pd pa pb) [w] (fun r => unpackPreds r r.w[w]))

/-- MOVPS: Wd ← PS (R137). -/
def execMovps (i : Issue) (pd pa pb : PReg) (w : WReg) (s : State) : Host.Outcome State Fault Refusal :=
  .next (issueW s i (okPlain i && okPmove pd pa pb) w [] (fun r => r.ps))

/-- MOVSP: PS ← Wa; RPT and the reserved bits are unchanged (R126, R137). -/
def execMovsp (i : Issue) (pd pa pb : PReg) (w : WReg) (s : State) : Host.Outcome State Fault Refusal :=
  .next (issueRegs s i (okPlain i && okPmove pd pa pb) [w]
    (fun r => { r with ps := (r.ps &&& 0xFFC0) ||| (r.w[w] &&& 0x003F) }))

/-- LEA: Xd ← Xa + K16 (R141). -/
def execLea (i : Issue) (xd xa : XReg) (k : Word) (s : State) : Host.Outcome State Fault Refusal :=
  .next (issueRegs s i (okPlain i) [] (fun r => { r with x := r.x.set xd (r.x[xa] + k) }))

/-- MOVXW: Xd ← Wa (R141). -/
def execMovxw (i : Issue) (xd xa : XReg) (w : WReg) (s : State) : Host.Outcome State Fault Refusal :=
  .next (issueRegs s i (okPlain i && decide (xa = 0)) [w] (fun r => { r with x := r.x.set xd r.w[w] }))

/-- MOVWX: Wd ← Xa (R141). -/
def execMovwx (i : Issue) (xd xa : XReg) (w : WReg) (s : State) : Host.Outcome State Fault Refusal :=
  .next (issueW s i (okPlain i && decide (xd = 0)) w [] (fun r => r.x[xa]))

/-- ADDXW: Xd ← Xa + Wb (R141). -/
def execAddxw (i : Issue) (xd xa : XReg) (w : WReg) (s : State) : Host.Outcome State Fault Refusal :=
  .next (issueRegs s i (okPlain i) [w] (fun r => { r with x := r.x.set xd (r.x[xa] + r.w[w]) }))

/-- MOVX: Xd ← Xa (R141). -/
def execMovx (i : Issue) (xd xa : XReg) (w : WReg) (s : State) : Host.Outcome State Fault Refusal :=
  .next (issueRegs s i (okPlain i && decide (w = 0)) [] (fun r => { r with x := r.x.set xd r.x[xa] }))

/-- MOVBC: BC ← Wa (R141). -/
def execMovbc (i : Issue) (xd xa : XReg) (w : WReg) (s : State) : Host.Outcome State Fault Refusal :=
  .next (issueRegs s i (okPlain i && decide (xd = 0) && decide (xa = 0)) [w] (fun r => { r with bc := r.w[w] }))

/-- MOVWBC: Wd ← BC (R141). -/
def execMovwbc (i : Issue) (xd xa : XReg) (w : WReg) (s : State) : Host.Outcome State Fault Refusal :=
  .next (issueW s i (okPlain i && decide (xd = 0) && decide (xa = 0)) w [] (fun r => r.bc))

end Sys2Proof.Machine
end

