-- ==== Sys2Proof/Machine/Crypto.lean ====
section
/-!
DEFINITION. The digests of the part: CRC32, CRC32C, Toeplitz, SipHash-2-4 and the ones'-complement sum of the digest unit (R160), and
SHA-256 with HMAC (R251, R359).
-/

namespace Sys2Proof.Machine

/-! ## CRC (R160, R192) -/

/-- Polynomials in the bit order of the result. -/
def polyCrc32 : BitVec 32 := 0xEDB88320#32
def polyCrc32c : BitVec 32 := 0x82F63B78#32

def crcBits (poly : BitVec 32) (n : Nat) (s : BitVec 32) : BitVec 32 :=
  match n with
  | 0 => s
  | k + 1 => crcBits poly k (if s.getLsbD 0 then (s >>> 1) ^^^ poly else s >>> 1)

/-- The running state after one more byte. -/
def crcByte (poly : BitVec 32) (s : BitVec 32) (b : Byte) : BitVec 32 := crcBits poly 8 (s ^^^ b.zeroExtend 32)

def crcFeed (poly : BitVec 32) (s : BitVec 32) (l : List Byte) : BitVec 32 := l.foldl (crcByte poly) s

/-- CRC-32C of bytes, from a seed, with the final XOR. -/
def crc32c (seed : BitVec 32) (l : List Byte) : BitVec 32 := crcFeed polyCrc32c seed l ^^^ 0xFFFFFFFF#32

/-! ## Toeplitz (R160) -/

/-- Bit `j` of the key, modulo 512. -/
def keyBit (keys : List Word) (j : Nat) : Bool := (wordAt keys (j % 512 / 16)).getLsbD (15 - j % 16)

/-- The 32 key bits from bit `i` on, the first most significant. -/
def keySpan (keys : List Word) (i : Nat) : BitVec 32 :=
  (List.range 32).foldl (fun a k => (a <<< 1) ||| (if keyBit keys (i + k) then 1#32 else 0#32)) 0#32

/-- The result after byte number `n`. -/
def toepByte (keys : List Word) (n : Nat) (s : BitVec 32) (b : Byte) : BitVec 32 :=
  (List.range 8).foldl (fun a k => if b.getLsbD (7 - k) then a ^^^ keySpan keys (8 * n + k) else a) s

/-! ## SipHash-2-4 (R160) -/

structure Sip where
  v0 : BitVec 64
  v1 : BitVec 64
  v2 : BitVec 64
  v3 : BitVec 64

def sipRound (x : Sip) : Sip :=
  let v0 := x.v0 + x.v1
  let v1 := (x.v1.rotateLeft 13) ^^^ v0
  let v0 := v0.rotateLeft 32
  let v2 := x.v2 + x.v3
  let v3 := (x.v3.rotateLeft 16) ^^^ v2
  let v0 := v0 + v3
  let v3 := (v3.rotateLeft 21) ^^^ v0
  let v2 := v2 + v1
  let v1 := (v1.rotateLeft 17) ^^^ v2
  let v2 := v2.rotateLeft 32
  ⟨v0, v1, v2, v3⟩

/-- A 64-bit number of bytes, the first least significant. -/
def leNat (l : List Byte) : Nat := l.foldr (fun b a => b.toNat + 256 * a) 0

/-- The state derived from a 16-byte key. -/
def sipStart (key : List Byte) : Sip :=
  let k0 := BitVec.ofNat 64 (leNat (key.take 8))
  let k1 := BitVec.ofNat 64 (leNat ((key.drop 8).take 8))
  ⟨k0 ^^^ 0x736f6d6570736575#64, k1 ^^^ 0x646f72616e646f6d#64, k0 ^^^ 0x6c7967656e657261#64, k1 ^^^ 0x7465646279746573#64⟩

/-- Absorb one block. -/
def sipBlock (x : Sip) (m : BitVec 64) : Sip :=
  let y := sipRound (sipRound { x with v3 := x.v3 ^^^ m })
  { y with v0 := y.v0 ^^^ m }

/-- The output for `n` bytes in all, of which `part` are not yet absorbed. -/
def sipEnd (x : Sip) (n : Nat) (part : List Byte) : BitVec 64 :=
  let x := sipBlock x (BitVec.ofNat 64 (n % 256 * 2 ^ 56 + leNat part))
  let x := sipRound (sipRound (sipRound (sipRound { x with v2 := x.v2 ^^^ 0xFF#64 })))
  x.v0 ^^^ x.v1 ^^^ x.v2 ^^^ x.v3

/-! ## The ones'-complement sum (R160) -/

/-- Add a byte at an even or odd position of the stream; the sum is kept unfolded in 32 bits with its carries folded back. -/
def onesAdd (s : BitVec 32) (odd : Bool) (b : Byte) : BitVec 32 :=
  let v := s.toNat + (if odd then b.toNat else b.toNat * 256)
  BitVec.ofNat 32 (if v ≥ 2 ^ 32 then v - 2 ^ 32 + 1 else v)

/-- A sum folded to 16 bits. -/
def onesFold (s : BitVec 32) : Word :=
  let a := s.toNat / 65536 + s.toNat % 65536
  let b := a / 65536 + a % 65536
  BitVec.ofNat 16 (b / 65536 + b % 65536)

/-! ## SHA-256 (FIPS 180-4) and HMAC -/

/-- The round constants. -/
def shaK : List (BitVec 32) :=
  [0x428a2f98#32, 0x71374491#32, 0xb5c0fbcf#32, 0xe9b5dba5#32, 0x3956c25b#32, 0x59f111f1#32, 0x923f82a4#32, 0xab1c5ed5#32] ++
  [0xd807aa98#32, 0x12835b01#32, 0x243185be#32, 0x550c7dc3#32, 0x72be5d74#32, 0x80deb1fe#32, 0x9bdc06a7#32, 0xc19bf174#32] ++
  [0xe49b69c1#32, 0xefbe4786#32, 0x0fc19dc6#32, 0x240ca1cc#32, 0x2de92c6f#32, 0x4a7484aa#32, 0x5cb0a9dc#32, 0x76f988da#32] ++
  [0x983e5152#32, 0xa831c66d#32, 0xb00327c8#32, 0xbf597fc7#32, 0xc6e00bf3#32, 0xd5a79147#32, 0x06ca6351#32, 0x14292967#32] ++
  [0x27b70a85#32, 0x2e1b2138#32, 0x4d2c6dfc#32, 0x53380d13#32, 0x650a7354#32, 0x766a0abb#32, 0x81c2c92e#32, 0x92722c85#32] ++
  [0xa2bfe8a1#32, 0xa81a664b#32, 0xc24b8b70#32, 0xc76c51a3#32, 0xd192e819#32, 0xd6990624#32, 0xf40e3585#32, 0x106aa070#32] ++
  [0x19a4c116#32, 0x1e376c08#32, 0x2748774c#32, 0x34b0bcb5#32, 0x391c0cb3#32, 0x4ed8aa4a#32, 0x5b9cca4f#32, 0x682e6ff3#32] ++
  [0x748f82ee#32, 0x78a5636f#32, 0x84c87814#32, 0x8cc70208#32, 0x90befffa#32, 0xa4506ceb#32, 0xbef9a3f7#32, 0xc67178f2#32]

/-- The eight working variables or hash words. -/
structure Sha where
  a : BitVec 32
  b : BitVec 32
  c : BitVec 32
  d : BitVec 32
  e : BitVec 32
  f : BitVec 32
  g : BitVec 32
  h : BitVec 32

def shaInit : Sha :=
  ⟨0x6a09e667#32, 0xbb67ae85#32, 0x3c6ef372#32, 0xa54ff53a#32, 0x510e527f#32, 0x9b05688c#32, 0x1f83d9ab#32, 0x5be0cd19#32⟩

def shaRound (x : Sha) (kw : BitVec 32) : Sha :=
  let s1 := x.e.rotateRight 6 ^^^ x.e.rotateRight 11 ^^^ x.e.rotateRight 25
  let ch := (x.e &&& x.f) ^^^ (~~~x.e &&& x.g)
  let t1 := x.h + s1 + ch + kw
  let s0 := x.a.rotateRight 2 ^^^ x.a.rotateRight 13 ^^^ x.a.rotateRight 22
  let mj := (x.a &&& x.b) ^^^ (x.a &&& x.c) ^^^ (x.b &&& x.c)
  ⟨t1 + (s0 + mj), x.a, x.b, x.c, x.d + t1, x.e, x.f, x.g⟩

/-- The next word of the message schedule, from the last sixteen. -/
def shaNext (w : List (BitVec 32)) : BitVec 32 :=
  let at_ (k : Nat) : BitVec 32 := (w[k]?).getD 0
  let s0 := (at_ 1).rotateRight 7 ^^^ (at_ 1).rotateRight 18 ^^^ (at_ 1 >>> 3)
  let s1 := (at_ 14).rotateRight 17 ^^^ (at_ 14).rotateRight 19 ^^^ (at_ 14 >>> 10)
  at_ 0 + s0 + at_ 9 + s1

/-- The rounds of one block: `w` holds the sixteen schedule words from the present one on. -/
def shaRounds : List (BitVec 32) → List (BitVec 32) → Sha → Sha
  | [], _, x => x
  | k :: ks, w, x => shaRounds ks (w.drop 1 ++ [shaNext w]) (shaRound x (k + (w[0]?).getD 0))

/-- Absorb one block of sixteen words. -/
def shaBlock (x : Sha) (w : List (BitVec 32)) : Sha :=
  let y := shaRounds shaK w x
  ⟨x.a + y.a, x.b + y.b, x.c + y.c, x.d + y.d, x.e + y.e, x.f + y.f, x.g + y.g, x.h + y.h⟩

/-- Bytes as 32-bit words, the first byte most significant. -/
def beWords : List Byte → List (BitVec 32)
  | a :: b :: c :: d :: t => (a ++ b ++ c ++ d) :: beWords t
  | _ => []

/-- Absorb whole blocks; `n` bounds their number. -/
def shaBlocks (n : Nat) (w : List (BitVec 32)) (x : Sha) : Sha :=
  match n with
  | 0 => x
  | k + 1 => shaBlocks k (w.drop 16) (shaBlock x (w.take 16))

/-- The bytes of a number, `n` of them, the first most significant. -/
def beBytes (n v : Nat) : List Byte :=
  match n with
  | 0 => []
  | k + 1 => BitVec.ofNat 8 (v / 256 ^ k) :: beBytes k (v % 256 ^ k)

/-- The padding of a message of `n` bytes. -/
def shaPad (n : Nat) : List Byte := [0x80] ++ List.replicate ((119 - n % 64) % 64) 0 ++ beBytes 8 (8 * n)

/-- SHA-256 of a message: a 256-bit number. -/
def sha256 (m : List Byte) : BitVec 256 :=
  let p := m ++ shaPad m.length
  let x := shaBlocks (p.length / 64) (beWords p) shaInit
  x.a ++ x.b ++ x.c ++ x.d ++ x.e ++ x.f ++ x.g ++ x.h

/-- HMAC-SHA-256 (RFC 2104) under a 256-bit key. -/
def hmac (key : BitVec 256) (m : List Byte) : BitVec 256 :=
  let k := beBytes 32 key.toNat ++ List.replicate 32 0
  sha256 (k.map (· ^^^ 0x5c) ++ beBytes 32 (sha256 (k.map (· ^^^ 0x36) ++ m)).toNat)

/-- The first 128 bits of a digest. -/
def first128 (x : BitVec 256) : BitVec 128 := x.extractLsb' 128 128

end Sys2Proof.Machine
end

