-- ==== Sys2Proof/Machine/Frames.lean ====
section
/-! DEFINITION. EMP frames that the part sends (R358, R359, R371, R374): header, tag, notifications of a session. -/

namespace Sys2Proof.Machine

/-- The seven header words (R358). -/
def empHeader (type frag status len : Nat) (more dup : Bool) (ses : Word) (seq : BitVec 32) (code : Word) : List Word :=
  [nw (0x1000 + (if more then 2048 else 0) + (if dup then 1024 else 0) + type), ses] ++ wordsOf 2 seq.toNat ++
    [code, nw (frag * 256 + status), nw len]

/-- The tag over a header and a payload under a key (R359). -/
def empTag (key : BitVec 256) (ws : List Word) : BitVec 128 := first128 (hmac key (bytesOf ws))

/-- The session ID of a session in place `i` (R358). -/
def sesIdOf (i : Nat) (x : Session) : Word := nw (x.inc * 64 + i)

/-- Send the next notification of a session (R373, R374). -/
def sendNote (s : State) (i : Nat) (x : Session) (code : Word) (payload : List Word) : State :=
  let ws := empHeader 3 0 0 payload.length false false (sesIdOf i x) x.noteSeq code ++ payload
  let s := setSession s i (some { x with noteSeq := x.noteSeq + 1 })
  { s with out := s.out ++ [.emp x.port x.addr x.vlan ws (empTag x.key ws)] }

/-- Drain the oldest notification of a session's queue onto its host port. -/
def drainNote (s : State) (i : Nat) : State :=
  match session s i with
  | some x =>
    match x.queue with
    | (code, payload) :: rest => sendNote s i { x with queue := rest } code payload
    | [] => s
  | none => s

/-- The newest session subscribed to SAMPLE that is bound to a host port (R374). -/
def sampleSession (s : State) (g : Nat) : Option (Nat × Session) :=
  (range' 1 41).foldl (fun best i =>
    match session s i, best with
    | some x, none => if x.mask.getLsbD 3 ∧ x.port = g then some (i, x) else none
    | some x, some b => if x.mask.getLsbD 3 ∧ x.port = g ∧ x.opened > b.2.opened then some (i, x) else best
    | none, _ => best) none

end Sys2Proof.Machine
end

