-- ==== Sys2Proof/Machine/Buffers.lean ====
section
/-!
DEFINITION. Buffers of the packet store (R262 to R273): pools, owners and their thresholds, shares and the last owner.
-/

namespace Sys2Proof.Machine

/-- Every frame that the buffers hold. -/
def liveFrames (s : State) : List (Nat × Frame) := s.path.frames.filterMap (fun e => e.2.map (fun f => (e.1, f)))

/-- Frames of die `d` in pool `p`. -/
def poolFrames (s : State) (d p : Nat) : List Frame :=
  (liveFrames s).filterMap (fun e => if e.2.die = d ∧ e.2.pool = p then some e.2 else none)

/-- BUF.OWN_USED: the buffers of pool `p` charged to an owner of die `d`. -/
def ownUsed (s : State) (d owner p : Nat) : Nat :=
  sumN ((poolFrames s d p).filterMap (fun f => if f.owner = owner then some f.nbuf else none))

/-- COUNT of a pool (BUF.POOL_CFG). -/
def poolCount (s : State) (d p : Nat) : Nat := fieldR s .bufPoolCfg d p 0 18

/-- BUF.FREE of a pool: the buffers that hold no frame. -/
def poolFree (s : State) (d p : Nat) : Nat := poolCount s d p - kget s.insp.withdrawn (d * 4 + p) 0 - sumN ((poolFrames s d p).map (·.nbuf))

def ownMin (s : State) (d owner p : Nat) : Nat := fieldR s .bufOwnCfg d (owner * 4 + p) 0 18
def ownAlpha (s : State) (d owner p : Nat) : Nat := fieldR s .bufOwnCfg d (owner * 4 + p) 18 4

/-- The sum of the minima of a pool over all owners: owners of class 3 (index 50 on) have MIN 0 unless their register is listed. -/
def minSum (s : State) (d p : Nat) : Nat :=
  sumN ((List.range 50).map (fun o => ownMin s d o p)) +
    sumN (s.regs.filterMap (fun e =>
      let base := rkey .bufOwnCfg d 7 0
      if base + 200 ≤ e.1 ∧ e.1 < base + 16584 ∧ (e.1 - base) % 4 = p then some (e.2.toNat % 262144) else none))

/-- The shared remainder S of a pool (R267); it may be negative when minima were raised over use. -/
def poolS (s : State) (d p : Nat) : Int := (poolCount s d p : Int) - minSum s d p

/-- Buffer owners of a pool that use some of it. -/
def poolOwners (s : State) (d p : Nat) : List Nat := (poolFrames s d p).foldl (fun l f => addNew f.owner l) []

/-- The free shared count F of a pool (R267). -/
def poolF (s : State) (d p : Nat) : Int :=
  poolS s d p - sumN ((poolOwners s d p).map (fun o => ownUsed s d o p - ownMin s d o p))

/-- `u − min ≥ 2^(alpha − 8) × f` over the integers (R267). -/
def overShare (ex : Nat) (alpha : Nat) (f : Int) : Bool :=
  if alpha ≥ 8 then decide ((ex : Int) ≥ f * (2 ^ (alpha - 8) : Nat)) else decide ((ex * 2 ^ (8 - alpha) : Nat) ≥ f)

/-- Whether an allocation of `n` buffers is granted, evaluated buffer by buffer (R267): `k` have been granted so far, of which `shared`
count as shared. -/
def grantFrom (min alpha used : Nat) (f : Int) (n k shared : Nat) : Bool :=
  match n with
  | 0 => true
  | m + 1 =>
    let u := used + k
    if u < min then grantFrom min alpha used f m (k + 1) shared
    else if alpha = 0 ∨ f - shared ≤ 0 then false
    else if overShare (u - min) alpha (f - shared) then false
    else grantFrom min alpha used f m (k + 1) (shared + 1)

/-- R267 for an owner of a die. -/
def granted (s : State) (d owner p n : Nat) : Bool :=
  grantFrom (ownMin s d owner p) (ownAlpha s d owner p) (ownUsed s d owner p) (poolF s d p) n 0 0

/-- A refused allocation counts in BUF.CNT_REFUSED (R285). -/
def countRefused (s : State) (d owner p : Nat) : State := cnt s .bufCntRefused d (owner * 4 + p)

/-- Owner indexes of R515. -/
def ownerPort (p : Nat) : Nat := p
def ownerDomain (d : Nat) : Nat := 33 + d
def ownerKeeper : Nat := 49
def ownerGroup (g : Nat) : Nat := 50 + g

/-- The pool of a frame of known length (R263): the smallest with room and a count that is not 0. -/
def fitPool (s : State) (d len : Nat) : Nat :=
  ((List.range 4).find? (fun p => decide (poolSize p ≥ len + 192) && decide (poolCount s d p ≠ 0))).getD 3

/-- Buffers of pool `p` that `len` frame bytes take: a first buffer and its continuations (R262). -/
def chainLen (p len : Nat) : Nat :=
  if len + 192 ≤ poolSize p then 1 else 1 + (len - (poolSize p - 192) + (poolSize p - 64) - 1) / (poolSize p - 64)

/-- Keep BUF.FREE_LOW at the lowest BUF.FREE since its last read (R285). A read has cleared it to zero (R8); the next change samples
afresh. The value 1 at instance `4 + p`, which no command addresses, says that it has been read. -/
def noteFree (s : State) (d p : Nat) : State :=
  let f := poolFree s d p
  if getR s .bufFreeLow d (4 + p) = 1 then setR (setR s .bufFreeLow d p f) .bufFreeLow d (4 + p) (resetValue .bufFreeLow d (4 + p))
  else if f < getR s .bufFreeLow d p then setR s .bufFreeLow d p f else s

/-! ## Shares (R269 to R273) -/

/-- A new frame object: its number and the state with it. -/
def newFrame (s : State) (f : Frame) : Nat × State :=
  let n := s.path.nextId
  let s := setFrame { s with path := { s.path with nextId := n + 1 } } n (some f)
  (n, noteFree s f.die f.pool)

/-- A fresh identity number. -/
def newId (s : State) : Nat × State := (s.path.nextId, { s with path := { s.path with nextId := s.path.nextId + 1 } })

/-- Add a share; the named last owner stays (R269). -/
def addShare (s : State) (f : Nat) (h : Holder) : State := modFrame s f (fun x => { x with shares := x.shares ++ [h] })

/-- Drop one share of `h` (R271, R273): last ownership passes to the most recent share that remains; without shares the buffers return
to their pool. -/
def endShare (s : State) (f : Nat) (h : Holder) : State :=
  match getFrame s f with
  | none => s
  | some x =>
    if h ∈ x.shares then
      let rest := x.shares.erase h
      if rest = [] then setFrame s f none
      else
        let last := if x.last = some h then rest.getLast? else x.last
        setFrame s f (some { x with shares := rest, last := last })
    else s

/-- Exchange one holder for another, keeping its place and its name as last owner. -/
def moveShare (s : State) (f : Nat) (h h' : Holder) : State :=
  modFrame s f (fun x =>
    { x with shares := x.shares.map (fun y => if y = h then h' else y), last := if x.last = some h then some h' else x.last })

/-- Name a share as last owner (R283). -/
def nameLast (s : State) (f : Nat) (h : Holder) : State := modFrame s f (fun x => { x with last := some h })

/-- FREE is accepted from the named last owner with the only share (R272). -/
def mayFree (f : Frame) (h : Holder) : Bool := decide (f.last = some h) && decide (f.shares = [h])

end Sys2Proof.Machine
end

