-- ==== Sys2Proof/Machine/Switch.lean ====
section
/-!
DEFINITION. The switch core and the die bridge (R14 to R22, R282, R517): which path a frame takes to its egress die, and what happens to a
frame without one.
-/

namespace Sys2Proof.Machine

/-! ## Ports (R289, R297) -/

/-- A port after a reset of its die. -/
def freshPort : PortS :=
  { pcsUp := false, link := .down, pcsSince := 0, linkUp := false, holdSince := 0, sending := none, pausedUntil := [],
    stoppedSince := [], ignoreUntil := [], xoffSent := false, xoffAt := 0, deficit := [], pointer := [] }

def getPort (s : State) (g : Nat) : PortS := kget s.egr.ports g freshPort
def setPort (s : State) (g : Nat) (x : PortS) : State := { s with egr := { s.egr with ports := kset s.egr.ports g x freshPort } }
def modPort (s : State) (g : Nat) (f : PortS → PortS) : State := setPort s g (f (getPort s g))
/-- Whether the link of a GPN is UP. -/
def portIsUp (s : State) (g : Nat) : Bool := decide ((getPort s g).link = .up)

/-! ## Links between dies (R14) -/

/-- Links of each die pair in this variant. -/
def pairLinks (s : State) : Nat := if s.pkg.n = 2 then 6 else if s.pkg.n = 4 then 2 else 1

/-- Links in service from die `a` to die `b`; `egr.links` counts those withdrawn. -/
def linksUp (s : State) (a b : Nat) : Nat :=
  if a = b ∨ !usable s a ∨ !usable s b then 0 else pairLinks s - kget s.egr.links (a * 8 + b) 0

def xfersOf (s : State) : List (Nat × Xfer) := s.egr.xfers.filterMap (fun e => e.2.map (fun x => (e.1, x)))

def getXfer (s : State) (k : Nat) : Option Xfer := kget s.egr.xfers k none
def setXfer (s : State) (k : Nat) (x : Option Xfer) : State :=
  { s with egr := { s.egr with xfers := kset s.egr.xfers k x none } }

/-- Whether a transfer uses the links from die `a` to die `b`. -/
def usesLink (x : Xfer) (a b : Nat) : Bool :=
  match x.via with
  | none => decide (x.src = a) && decide (x.dst = b)
  | some m => (decide (x.src = a) && decide (m = b)) || (decide (m = a) && decide (x.dst = b))

/-- Flits that wait for the links from die `a` to die `b`. -/
def linkLoad (s : State) (a b : Nat) : Nat :=
  sumN ((xfersOf s).map (fun e => if usesLink e.2 a b && !e.2.lost then e.2.flits - e.2.got else 0))

/-- Intermediate dies with links in service to both dies. -/
def middles (s : State) (a b : Nat) : List Nat :=
  (allDies s).filter (fun m => decide (m ≠ a) && decide (m ≠ b) && decide (linksUp s a m ≠ 0) && decide (linksUp s m b ≠ 0))

/-- The element with the least value of `f`; the first of several. -/
def leastOf (f : Nat → Nat) : List Nat → Option Nat
  | [] => none
  | a :: t => match leastOf f t with | none => some a | some b => if f a ≤ f b then some a else some b

/-- The path that a frame of an egress queue takes when no earlier frame of the queue is in flight (R15): `none` when there is none. -/
def freshPath (s : State) (a b : Nat) : Option (Option Nat) :=
  if linksUp s a b ≠ 0 ∧ linkLoad s a b < Config.spillMark then some none
  else
    match leastOf (fun m => linkLoad s a m + linkLoad s m b) (middles s a b) with
    | some m => some (some m)
    | none => if linksUp s a b ≠ 0 then some none else none

/-- The path of a unicast frame (R15, R16): while frames of its queue are in flight, the path last chosen. -/
def unicastPath (s : State) (a q : Nat) : Option (Option Nat) :=
  match (xfersOf s).find? (fun e => e.2.src = a && e.2.dest = q && !e.2.mcast && !e.2.lost) with
  | some e => some (kget s.egr.paths (a * 2097152 + q) e.2.via)
  | none => freshPath s a (qidDie q)

/-- The path of multicast transfers and of frames of reserved classes (R19, R282). -/
def directPath (s : State) (a b : Nat) : Option (Option Nat) :=
  match (xfersOf s).find? (fun e => e.2.src = a && e.2.dst = b && e.2.mcast && e.2.via.isSome && !e.2.lost) with
  | some e => some e.2.via
  | none =>
    if linksUp s a b ≠ 0 then some none
    else match middles s a b with
      | m :: _ => some (some m)
      | [] => none

/-- Whether the frames of a dispatch class have a reservation from die `a` to die `b` (R19, R379). -/
def reservedClass (s : State) (a b cls : Nat) : Bool :=
  match getClaim s 7 (a * 8 + b) with
  | some c => decide (c.value / 65536 % 8 = cls)
  | none => false

/-! ## Frames that cannot be sent (R22) -/

/-- The source of a switch core record: the thread that gave the verdict, or the die's Keeper where the dispatcher gave it (DEDUCED, log
entry 119). -/
def giverSource (d : Nat) (giver : Word) : Word := if giver = 0 then keeperId d else giver

/-- The switch core discards a frame whose destination does not exist or is not usable. -/
def dropNodie (s : State) (d gpn dest : Nat) (mcast : Bool) (giver : Word) : State :=
  let w := if mcast then [(0x8000 : Word), nw dest] else wordsOf 2 dest
  record (cnt s .switchDropNodie d 0) d 0x3006 (giverSource d giver) ([nw gpn] ++ w ++ [giver])

/-- Whether the access map denies a program domain the queue or group that a SEND verdict or a submission names (R391). -/
def queueDenied (s : State) (d row dest : Nat) (mcast : Bool) : Bool := if mcast then !mayMc s d row else !mayQueue s d row dest

/-- The switch core discards a frame that the map denies: counted and recorded (R391, R397). -/
def countDenied (s : State) (d row dest : Nat) (mcast : Bool) (giver : Word) : State :=
  let w := if mcast then [(0x8000 : Word), nw dest] else wordsOf 2 dest
  record (cnt s .mapCntQdeny d 0) d 0xE003 (giverSource d giver) ([giver] ++ w ++ [nw row])

/-! ## Submission to the switch core (R84, R275, R282) -/

def offersOf (s : State) (d : Nat) : List Offer := kget s.egr.offers d []
def addOffer (s : State) (d : Nat) (o : Offer) : State :=
  { s with egr := { s.egr with offers := kset s.egr.offers d (offersOf s d ++ [o]) [] } }

def getGroup (s : State) (d g : Nat) : McGroup := kget s.egr.groups (d * 65536 + g) ⟨0, []⟩

/-- What a frame carries at its submission. -/
def stampOf (x : Frame) : Stamp := ⟨x.slot, x.stime, x.mono⟩

/-- Offers to each member of a group on one die, in list order (R283). -/
def offerMembers (s : State) (d frame share xfer g : Nat) (st : Stamp) (txLen supply : Nat) (v : Bool) : List Nat → State
  | [] => s
  | q :: t =>
    offerMembers (addOffer s d ⟨frame, share, xfer, q, some g, st, txLen, supply, v, t.isEmpty⟩) d frame share xfer g st txLen supply v t

/-- Offer a frame of die `d` to its local queues: `share` ends with the last copy (R283). -/
def offerLocal (s : State) (d f share dest txLen : Nat) (mcast v : Bool) : State :=
  match getFrame s f with
  | none => s
  | some x =>
    if mcast then
      match (getGroup s d dest).members with
      | [] => endShare (cnt s .qmCntMcEmpty d 0) f (.switch share)
      | ms => offerMembers s d f share 0 dest (stampOf x) txLen (supplyOf x) v ms
    else addOffer s d ⟨f, share, 0, dest, none, stampOf x, txLen, supplyOf x, v, true⟩

/-- Start a bridge transfer (R517) that holds the share `k` of the frame. -/
def startXfer (s : State) (k f src dst dest txLen : Nat) (mcast v : Bool) (via : Option Nat) (giver : Word) : State :=
  match getFrame s f with
  | none => s
  | some x =>
    let bytes := min txLen (supplyOf x)
    setXfer s k (some ⟨f, stampOf x, src, dst, dest, mcast, txLen, bytes, max 1 (ceilDiv bytes 64), 0, via, giver, 0, v, false⟩)

/-- Submit the frame to one die of a multicast group: its own die offers it, another takes a transfer with a share of its own. -/
def submitToDie (f src g txLen : Nat) (v : Bool) (giver : Word) (s : State) (d : Nat) : State :=
  let gpn := ((getFrame s f).map (·.gpn)).getD 0
  let (k, s) := newId s
  if d = src then offerLocal (addShare s f (.switch k)) d f k g txLen true v
  else if !usable s d then dropNodie s src gpn g true giver
  else
    match directPath s src d with
    | none => dropNodie s src gpn g true giver
    | some via => startXfer (addShare s f (.switch k)) k f src d g txLen true v via giver

/-- Submit a frame to a queue or a multicast group (R84, R275): the share `h` passes to the switch core. `v` says that a verdict released
it. -/
def submit (s : State) (f : Nat) (h : Holder) (dest : Nat) (mcast v : Bool) (txLen : Nat) (giver : Word) : State :=
  match getFrame s f with
  | none => s
  | some x =>
    let src := x.die
    if mcast then
      let mask := (getGroup s src dest).dies
      if mask = 0 then endShare (cnt s .qmCntMcEmpty src 0) f h
      else endShare (forEach (diesOf mask) (submitToDie f src dest txLen v giver) s) f h
    else if !qidExists s dest || !usable s (qidDie dest) then endShare (dropNodie s src x.gpn dest false giver) f h
    else
      let (k, s) := newId s
      if qidDie dest = src then offerLocal (moveShare s f h (.switch k)) src f k dest txLen false v
      else
        match (if reservedClass s src (qidDie dest) x.cls then directPath s src (qidDie dest) else unicastPath s src dest) with
        | none => endShare (dropNodie s src x.gpn dest false giver) f h
        | some via =>
          let paths := kset s.egr.paths (src * 2097152 + dest) via none
          startXfer (moveShare { s with egr := { s.egr with paths := paths } } f h (.switch k)) k f src (qidDie dest) dest txLen
            false v via giver

/-! ## Edits (R110) -/

/-- A frame with `strip` bytes removed from its front and `pre` put before it; its length becomes `len` (R84, R110). -/
def editFrame (x : Frame) (strip : Nat) (pre : List Byte) (len : Nat) : Frame :=
  let n := pre.length
  let moved : Map Byte := x.bytes.filterMap (fun e => if e.1 ≥ strip then some (e.1 - strip + n, e.2) else none)
  let front : Map Byte := (pre.zipIdx).filterMap (fun e => if e.1 = 0 then none else some (e.2, e.1))
  let poison := x.poison.filterMap (fun k => if k ≥ strip then some (k - strip + n) else none)
  { x with bytes := front ++ moved, poison := poison, strip := x.strip + strip, prep := x.prep + n, len := len }

end Sys2Proof.Machine
end

