-- ==== Sys2Proof/Machine/Copier.lean ====
section
/-!
DEFINITION. The copy engine (R307 to R311): mirror and sample requests, the sampled-frame format, exception frames (R312).
-/

namespace Sys2Proof.Machine

/-- One step of the die's LFSR, x^16 + x^14 + x^13 + x^11 + 1 (R305), in the form that shifts right and feeds bit 15 from the taps
(PRESUMED, log entry 31). -/
def lfsrStep (w : Word) : Word :=
  let b := w ^^^ (w >>> 2) ^^^ (w >>> 3) ^^^ (w >>> 5)
  (w >>> 1) ||| (b <<< 15)

/-- The die's LFSR; 0xACE1 after a reset (R305). -/
def lfsr (s : State) (d : Nat) : Word := kget s.egr.lfsr d 0xACE1

/-- The LFSR after `n` TCLK. -/
def lfsrSteps (n : Nat) (w : Word) : Word :=
  match n with
  | 0 => w
  | k + 1 => lfsrSteps k (lfsrStep w)

def setLfsr (s : State) (d : Nat) (w : Word) : State := { s with egr := { s.egr with lfsr := kset s.egr.lfsr d w 0xACE1 } }

/-! ## The sampled-frame format (R311) -/

/-- What words 0 to 23 of a sample or exception frame are made of, but for SEQ and SKIPPED. -/
structure SampleInfo where
  kind : Nat
  trunc : Bool
  sampler : Nat
  gpn : Nat
  outGpn : Nat
  w3 : Word
  qid : Nat
  tenant : Nat
  slot : Nat
  inTime : Nat
  evTime : Nat
  len : Nat
  bytes : Nat
  die : Nat

/-- The 24 words before the frame bytes. -/
def sampleWords (x : SampleInfo) (seq skipped : Nat) : List Word :=
  [nw (x.kind * 4096 + (if x.trunc then 2048 else 0) + x.sampler), nw x.gpn, nw x.outGpn, x.w3] ++ wordsOf 2 x.qid ++
    [nw x.tenant, nw x.slot] ++ timeWords x.inTime ++ timeWords x.evTime ++ [nw x.len, nw x.bytes] ++ wordsOf 2 seq ++
    [nw skipped, nw x.die]

/-- The words of a request, whose words 20 to 22 the engine fills in when it makes the frame. -/
def withSeq (ws : List Word) (seq skipped : Nat) : List Word := ws.take 20 ++ wordsOf 2 seq ++ [nw skipped] ++ ws.drop 23

/-- The port-default queue of a port (R276, R280). -/
def defQueue (s : State) (d port : Nat) : Nat := d * 262144 + fieldR s .qmPortCfg d port 0 18

/-! ## Requests (R307, R309, R310) -/

def jobsOf (s : State) (d : Nat) : List CopyJob := kget s.egr.jobs d []
def setJobs (s : State) (d : Nat) (l : List CopyJob) : State := { s with egr := { s.egr with jobs := kset s.egr.jobs d l [] } }

def sampler (s : State) (d i : Nat) : Sampler := kget s.egr.samplers (d * 64 + i) ⟨0, 0, 0⟩
def setSampler (s : State) (d i : Nat) (x : Sampler) : State :=
  { s with egr := { s.egr with samplers := kset s.egr.samplers (d * 64 + i) x ⟨0, 0, 0⟩ } }

/-- Queue a request that holds a share of the frame's buffers. -/
def addJob (s : State) (d f : Nat) (mk : Nat → CopyJob) : State :=
  let (k, s) := newId s
  addShare (setJobs s d (jobsOf s d ++ [mk k])) f (.copier k)

/-- The first `n` bytes that leave: the frame's bytes cut to `n`, or all of them where `n` is 0. -/
def cutLen (n len : Nat) : Nat := if n = 0 then len else min n len

/-- A mirror request of session `i` (R309), skipped when the FIFO is full. -/
def mirrorRequest (s : State) (d i f : Nat) (bytes : List Byte) : State :=
  match getFrame s f with
  | none => s
  | some x =>
    let n := cutLen (64 * fieldR s .egrMirCfg d i 8 3) bytes.length
    if (jobsOf s d).length ≥ 256 then cnt s .egrCntMirSkip d i
    else addJob s d f (fun k => ⟨k, true, i, f, bytes.take n, [], x.gpn, x.slot, x.stime, x.mono⟩)

/-- Mirror requests of a port of die `d` in direction `dir` (R309): the state, and whether any session made a request. -/
def mirrorAll (s : State) (d dir port f : Nat) (bytes : List Byte) : State × Bool :=
  if kget s.egr.suspended d false then (s, false)
  else
    let on := (List.range 8).filter (fun i =>
      fieldR s .egrMirCfg d i 0 1 = 1 && fieldR s .egrMirCfg d i 1 1 = dir && fieldR s .egrMirCfg d i 2 6 = port)
    (forEach on (fun s i => mirrorRequest s d i f bytes) s, !on.isEmpty)

/-- A skipped sample (R307): it makes no frame and takes no number. -/
def skipSample (s : State) (d i : Nat) : State :=
  let x := sampler s d i
  cnt (setSampler s d i { x with skipped := min 65535 (x.skipped + 1) }) .egrCntSmpSkip d i

/-- One candidate frame of sampler `i` (R310). `mir` says that a mirror request has arrived in the same TCLK. -/
def sampleCandidate (s : State) (d i f : Nat) (bytes : List Byte) (mir : Bool) (info : SampleInfo) : State :=
  let x := sampler s d i
  let n := getR s .egrSmpCfg d i / 2 ^ 32 % 65536
  if x.count > 1 then setSampler s d i { x with count := x.count - 1 }
  else
    let s := setSampler s d i { x with count := n }
    if mir ∨ (jobsOf s d).length ≥ 192 then skipSample s d i
    else
      match getFrame s f with
      | none => s
      | some fr =>
        let m := min (64 * (fieldR s .egrSmpCfg d i 10 2 + 1)) bytes.length
        let info := { info with sampler := i, trunc := decide (m < bytes.length), bytes := m }
        addJob s d f (fun k => ⟨k, false, i, f, bytes.take m, sampleWords info 0 0, fr.gpn, fr.slot, fr.stime, fr.mono⟩)

/-- Candidates of every sampler of a port at a point; `vk` is the verdict kind at POINT 0. -/
def sampleAll (s : State) (d point port vk f : Nat) (bytes : List Byte) (mir : Bool) (info : SampleInfo) : State :=
  if kget s.egr.suspended d false then s
  else
    let on := (List.range 64).filter (fun i =>
      fieldR s .egrSmpCfg d i 0 1 = 1 && fieldR s .egrSmpCfg d i 1 2 = point && fieldR s .egrSmpCfg d i 3 6 = port &&
        (point = 1 || fieldR s .egrSmpCfg d i (16 + vk) 1 = 1))
    forEach on (fun s i => sampleCandidate s d i f bytes mir info) s

/-- Mirror and sample requests at the release of a verdict (R309, R310): kinds 0 SEND, 1 DROP, 2 RECIRC, 3 DEFAULT. -/
def copiesAtRelease (s : State) (d f kind reason : Nat) : State :=
  match getFrame s f with
  | none => s
  | some x =>
    let port := gpnPort x.gpn
    let bytes := frameBytes x 0 x.len
    let (s, mir) := if kind = 2 then (s, false) else mirrorAll s d 0 port f bytes
    sampleAll s d 0 port kind f bytes mir
      { kind := 1, trunc := false, sampler := 0, gpn := x.gpn, outGpn := 0x1FF, w3 := nw (kind * 8192 + reason), qid := 0x1FFFFF,
        tenant := 0, slot := x.slot, inTime := x.stime, evTime := stime s d, len := x.len, bytes := 0, die := d }

/-! ## Making frames -/

/-- A frame that hardware or the Keeper builds on die `d` (R263, R266): none when its buffers are refused. -/
def buildFrame (s : State) (d owner gpn slot st mo : Nat) (bytes : List Byte) (h : Holder) (note : Bool) : Option (Nat × State) :=
  let p := fitPool s d (bytes.length + 4)
  let n := chainLen p (bytes.length + 4)
  if !granted s d owner p n then none
  else
    let data : Map Byte := (bytes.zipIdx).filterMap (fun e => if e.1 = 0 then none else some (e.2, e.1))
    some (newFrame s
      { die := d, len := bytes.length, bytes := data, poison := [], pool := p, nbuf := n, strip := 0, prep := 0, owner := owner,
        shares := [h], last := some h, gpn := gpn, slot := slot, stime := st, mono := mo, cls := 0, level := 0, pdom := 0, odom := 0,
        seq := 0, tag := none, recirc := 0, parse := [], carry := [], badTail := false, whole := true, late := false, startNode := 0,
        xfer := 0, note := note, noCopy := true })

/-- The engine completes its oldest request (R307 to R311): the copy is written into new buffers and submitted, or skipped when they are
refused; the share of the frame that it read ends. -/
def copyDone (s : State) (d : Nat) : State :=
  match jobsOf s d with
  | [] => s
  | j :: rest =>
    let s := setJobs s d rest
    let x := sampler s d j.index
    let bytes := if j.mirror then j.bytes else bytesOf (withSeq j.words x.seq x.skipped) ++ bytesOf (wordsOfBytes j.bytes)
    let mo := if j.mirror then j.mono else mono s d
    let s := endShare s j.frame (.copier j.id)
    match buildFrame s d ownerKeeper j.gpn j.slot j.stime mo bytes (.copier j.id) (!j.mirror) with
    | none =>
      let s := countRefused s d ownerKeeper (fitPool s d (bytes.length + 4))
      if j.mirror then cnt s .egrCntMirSkip d j.index else skipSample s d j.index
    | some (f, s) =>
      let s :=
        if j.mirror then cnt s .egrCntMir d j.index
        else cnt (setSampler s d j.index { x with seq := (x.seq + 1) % 2 ^ 32, skipped := 0 }) .egrCntSmp d j.index
      let host := fieldR s .egrSmpCfg d j.index 12 1
      let dest := if j.mirror then fieldR s .egrMirCfg d j.index 11 21 else defQueue s host 32
      submit s f (.copier j.id) dest false false bytes.length 0

/-- COPY_ENGINE_DONE. -/
def execCopyEngineDone (die : Nat) (s : State) : Host.Outcome State Fault Refusal := .next (copyDone s die)

/-- Send a frame as an exception frame to a host port (R67, R312): the format's 24 words are prepended to the frame itself. -/
def exception (s : State) (f : Nat) (h : Holder) (host kind : Nat) (giver : Word) : State :=
  match getFrame s f with
  | none => s
  | some x =>
    let seq := kget s.egr.excSeq host 0
    let m := min 8192 x.len
    let w := wordAt x.parse 0
    let info : SampleInfo :=
      { kind := kind, trunc := decide (m < x.len), sampler := 0, gpn := x.gpn, outGpn := 0x1FF,
        w3 := if kind = 3 then nw (w.toNat % 256 * 256 + w.toNat / 8192) else 0, qid := 0x1FFFFF, tenant := 0, slot := x.slot,
        inTime := x.stime, evTime := stime s x.die, len := x.len, bytes := m, die := x.die }
    let len := 48 + 2 * ((m + 1) / 2)
    let s := { s with egr := { s.egr with excSeq := kset s.egr.excSeq host ((seq + 1) % 2 ^ 32) 0 } }
    let data := frameBytes x 0 m
    let y := editFrame { x with bytes := (data.zipIdx).filterMap (fun e => if e.1 = 0 then none else some (e.2, e.1)) } 0
      (bytesOf (sampleWords info seq 0)) len
    submit (setFrame s f (some { y with note := true })) f h (defQueue s host 32) false false len giver

end Sys2Proof.Machine
end

