-- ==== Sys2Proof/Machine/Order.lean ====
section
/-!
DEFINITION. Order domains, sequence numbers, tags, verdicts and their release (R81 to R92).
-/

namespace Sys2Proof.Machine

/-! ## Domains and tags (R81) -/

def domKey (d dom : Nat) : Nat := d * 4096 + dom
def getDom (s : State) (d dom : Nat) : Domain := kget s.path.domains (domKey d dom) ⟨0, []⟩
def setDom (s : State) (d dom : Nat) (x : Domain) : State :=
  { s with path := { s.path with domains := kset s.path.domains (domKey d dom) x ⟨0, []⟩ } }

/-- Sequence numbers of a domain that are assigned and not yet released or LATE. -/
def outstanding (s : State) (d dom : Nat) : Nat := (getDom s d dom).outs.length

/-- ORD.TAGS_INUSE. -/
def tagsInUse (s : State) (d : Nat) : Nat := (s.path.tags.filter (fun e => e.1 / 65536 = d)).length

/-- A free reorder tag: the lowest (DESIGN CHOICE, log entry 32). -/
def freeTag (s : State) (d : Nat) : Option Nat := findFrom (fun k => !kget s.path.tags (d * 65536 + k) false) 0 65536

/-- Take a tag, and keep ORD.TAGS_HWM (R95). -/
def takeTag (s : State) (d k : Nat) : State :=
  let s := { s with path := { s.path with tags := kset s.path.tags (d * 65536 + k) true false } }
  if tagsInUse s d > getR s .ordTagsHwm d 0 then setR s .ordTagsHwm d 0 (tagsInUse s d) else s

def dropTag (s : State) (d : Nat) : Option Nat → State
  | some k => { s with path := { s.path with tags := kset s.path.tags (d * 65536 + k) false false } }
  | none => s

/-- Free the tag of a frame. -/
def freeFrameTag (s : State) (f : Nat) : State :=
  match getFrame s f with
  | some x => modFrame (dropTag s x.die x.tag) f (fun y => { y with tag := none })
  | none => s

/-- Whether a packet may take its sequence number now (R81). -/
def mayAssign (s : State) (d dom : Nat) (hasTag : Bool) : Bool :=
  decide (outstanding s d dom < 4096) && (hasTag || (freeTag s d).isSome)

/-- Assign the next sequence number of `dom` to frame `f`, and a tag with its first number (R81, R88). -/
def assignSeq (s : State) (d dom f : Nat) (v : Option Verdict) : State :=
  let q := getDom s d dom
  let s := setDom s d dom ⟨(q.next + 1) % 65536, q.outs ++ [⟨q.next, f, v, none, 0⟩]⟩
  let s := modFrame s f (fun x => { x with odom := dom, seq := q.next })
  match (getFrame s f).bind (·.tag) with
  | some _ => s
  | none =>
    match freeTag s d with
    | some k => modFrame (takeTag s d k) f (fun x => { x with tag := some k })
    | none => s

/-- Change the outstanding number of frame `f`. -/
def modOut (s : State) (f : Nat) (g : Outstanding → Outstanding) : State :=
  match getFrame s f with
  | none => s
  | some x =>
    let q := getDom s x.die x.odom
    setDom s x.die x.odom { q with outs := q.outs.map (fun o => if o.frame = f then g o else o) }

/-! ## Records of the dispatch and order block (R97) -/

def orderWords (x : Frame) : List Word := [nw x.odom, nw x.seq, nw (x.tag.getD 0), nw x.gpn]

def orderRecord (s : State) (x : Frame) (code : Word) (src : Word) (extra : List Word) : State :=
  record s x.die code src (orderWords x ++ extra)

/-! ## Entering a verdict (R83 to R86, R91) -/

/-- A DROP with a reason. -/
def dropVerdict (reason : Nat) (giver : Word) : Verdict := ⟨1, reason, false, 0, 0, [], giver⟩

def reasonThreadReset : Nat := 0xF0
def reasonCellReset : Nat := 0xF1
def reasonRecircLimit : Nat := 0xF2
def reasonBadVerdict : Nat := 0xF3
def reasonParseFail : Nat := 0xF4

/-- Discard the verdict of a LATE number (R91). -/
def discardLate (s : State) (f : Nat) (x : Frame) : State :=
  let s := cnt s .ordCntLateDiscard x.die x.odom
  let s := orderRecord s x 0x3002 (keeperId x.die) []
  endShare (freeFrameTag s f) f .packet

/-- Enter a verdict for a packet: a LATE packet's is discarded, and a RECIRC on the fifth pass becomes DROP (R88, R91). -/
def enterVerdict (s : State) (f : Nat) (v : Verdict) : State :=
  match getFrame s f with
  | none => s
  | some x =>
    if x.late then discardLate s f x
    else if v.kind = 2 ∧ x.recirc ≥ 4 then
      let s := cnt s .ordCntRecircLimit x.die x.odom
      let s := orderRecord s x 0x3003 v.giver [v.giver]
      modOut s f (fun o => { o with verdict := some (dropVerdict reasonRecircLimit v.giver) })
    else modOut s f (fun o => { o with verdict := some v })

/-! ## Release (R84, R87, R88) -/

/-- The transmit length after the verdict's edit: CH_LEN, or the frame's length after strip and prepend (DEDUCED, log entry 33). -/
def editedLen (x : Frame) (v : Verdict) : Nat := if v.len ≠ 0 then v.len else x.len - v.strip + v.pre.length

def getPipe (s : State) (k : Nat) : Pipe := kget s.path.pipes k ⟨[], [], [], []⟩
def setPipe (s : State) (k : Nat) (x : Pipe) : State :=
  { s with path := { s.path with pipes := kset s.path.pipes k x ⟨[], [], [], []⟩ } }

/-- The pipeline that parses the frames of a port (R53): pipeline 0 for a host port, and for a port of eight lanes its first. -/
def portPipe (gpn : Nat) : Nat := gpnDie gpn * 8 + (if gpnPort gpn = 32 then 0 else gpnPort gpn / 4)

/-- PARSE.PORT_DEF of a frame's ingress port in its slot. -/
def portDef (s : State) (x : Frame) : Nat := getRS s .parsePortDef x.die x.slot (gpnPort x.gpn)

/-- Offer a frame to the port-default queue of a GPN (R67, R280). -/
def toPort (s : State) (f : Nat) (x : Frame) (gpn : Nat) (giver : Word) : State :=
  if !gpnExists s gpn || !usable s (gpnDie gpn) then endShare (dropNodie s x.die x.gpn gpn false giver) f .packet
  else submit s f .packet (defQueue s (gpnDie gpn) (gpnPort gpn)) false true x.len giver

/-- Carry words at the release of a RECIRC are those of the frame (R106); the edit is applied and the packet returns to the parser. -/
def recirculate (s : State) (f : Nat) (x : Frame) (v : Verdict) : State :=
  let y := editFrame x v.strip v.pre (editedLen x v)
  let s := setFrame s f (some { y with recirc := x.recirc + 1, startNode := v.dest })
  let p := getPipe s (portPipe x.gpn)
  setPipe s (portPipe x.gpn) { p with recirc := p.recirc ++ [f] }

/-- The effect of a verdict at its release. Kinds 8 and 9 are the Host and Port actions of a failed parse (R66, R67). -/
def applyVerdict (s : State) (f : Nat) (x : Frame) (v : Verdict) : State :=
  let d := x.die
  match v.kind with
  | 0 =>
    let s := freeFrameTag (copiesAtRelease s d f 0 0) f
    match getFrame s f with
    | none => s
    | some y =>
      let len := editedLen y v
      if queueDenied s d x.pdom v.dest v.mcast then endShare (countDenied s d x.pdom v.dest v.mcast v.giver) f .packet
      else submit (setFrame s f (some (editFrame y v.strip v.pre len))) f .packet v.dest v.mcast true len v.giver
  | 2 =>
    let s := copiesAtRelease s d f 2 0
    match getFrame s f with
    | none => s
    | some y => recirculate s f y v
  | 3 =>
    let s := freeFrameTag (copiesAtRelease s d f 3 0) f
    let r := portDef s x
    match r % 8 with
    | 1 => exception s f .packet (r / 8 % 2) 4 v.giver
    | 2 => toPort s f x (r / 65536 % 512) v.giver
    | _ => endShare s f .packet
  | 8 => exception (freeFrameTag (copiesAtRelease s d f 0 0) f) f .packet v.dest 3 v.giver
  | 9 => toPort (freeFrameTag (copiesAtRelease s d f 0 0) f) f x v.dest v.giver
  | _ =>
    let s := cnt s .ordCntDrop d x.odom
    endShare (freeFrameTag (copiesAtRelease s d f 1 v.dest) f) f .packet

/-- Release the next verdict of a domain, when it is present (R87). -/
def releaseOne (d dom : Nat) (s : State) : State :=
  let q := getDom s d dom
  match q.outs with
  | [] => s
  | o :: rest =>
    match o.verdict, getFrame s o.frame with
    | some v, some x =>
      applyVerdict (cnt (setDom s d dom { q with outs := rest }) .ordCntRel d dom) o.frame x v
    | some _, none => setDom s d dom { q with outs := rest }
    | none, _ => s

/-- REORDER_RELEASE: up to 2 verdicts of the domain (R87). -/
def execReorderRelease (die dom : Nat) (s : State) : Host.Outcome State Fault Refusal :=
  .next (releaseOne die dom (releaseOne die dom s))

/-! ## The reorder timeout (R89 to R92) -/

/-- The timer of the thread that holds frame `f` is frozen (R92): the MONO from which it is. -/
def frozenFrom (s : State) (f : Nat) : Option Nat :=
  (s.core.threads.find? (fun e =>
    match e.2.item, e.2.freeze with
    | some it, some _ => it.kind = .packet && it.frame = f
    | _, _ => false)).bind (fun e => e.2.freeze)

/-- DISP.PORT_ORD.TMO of a frame, in ns. -/
def timeoutNs (s : State) (x : Frame) : Nat := bitsOf (getRS s .dispPortOrd x.die x.slot (gpnPort x.gpn)) 16 14 * 100

/-- Whether the timer of an outstanding number has expired without a verdict. -/
def expired (s : State) (d : Nat) (o : Outstanding) (x : Frame) : Bool :=
  match o.verdict, o.dealt with
  | none, some t => (frozenFrom s o.frame).isNone && decide (mono s d ≥ t + o.held + timeoutNs s x)
  | _, _ => false

/-- REORDER_TIMEOUT: the oldest outstanding number of the domain is declared LATE (R90). -/
def execReorderTimeout (die dom : Nat) (s : State) : Host.Outcome State Fault Refusal :=
  .next (
    let q := getDom s die dom
    match q.outs with
    | [] => s
    | o :: rest =>
      match getFrame s o.frame with
      | none => s
      | some x =>
        if expired s die o x then
          let s := cnt (setDom s die dom { q with outs := rest }) .ordCntLate die dom
          orderRecord (modFrame s o.frame (fun y => { y with late := true })) x 0x3001 (keeperId die) []
        else s)

/-- Supply the verdict of a packet whose thread is reset (R86). -/
def resetVerdict (s : State) (f reason : Nat) (giver : Word) : State := enterVerdict s f (dropVerdict reason giver)

end Sys2Proof.Machine
end

