-- ==== Sys2Proof/Machine/Units.lean ====
section
/-!
DEFINITION. Who holds what: die locks (R170 to R174), unit claims (R155 to R159), subscriptions (R179), and the result words of each.
-/

namespace Sys2Proof.Machine

/-! ## Locks (R170 to R174) -/

def lockKey (d n : Nat) : Nat := d * 4096 + n
def getLock (s : State) (d n : Nat) : Lock := kget s.core.locks (lockKey d n) ⟨none, false⟩
def setLock (s : State) (d n : Nat) (x : Lock) : State :=
  { s with core := { s.core with locks := kset s.core.locks (lockKey d n) x ⟨none, false⟩ } }

/-- OWNER of a master ID (R170). -/
def ownerCode (m : Word) : Word :=
  match m.toNat / 16384 with
  | 0 => m
  | 1 => nw (m.toNat / 2048 % 8 * 2048 + 25 * 8)
  | 2 => nw (26 * 8)
  | _ => nw (27 * 8)

/-- The word of an acquire that finds `owner` (R170): GOT with the mark, or the holder. -/
def gotWord (abandoned : Bool) : Word := if abandoned then 0xC000 else 0x8000

/-- Raise LOCK on every subscriber of a lock, once (R179). -/
def wakeSubscribers (s : State) (d n : Nat) : State :=
  forEach (s.core.threads.filterMap (fun e => if thrDie e.1 = d ∧ e.2.lockSub = some n then some e.1 else none))
    (fun s t => raiseEvent (modT s t (fun x => { x with lockSub := none })) t 8) s

/-- Free a lock: by a release, or by a reset of its holder, which marks it (R173, R174). -/
def freeLock (s : State) (d n : Nat) (mark : Bool) : State :=
  let l := getLock s d n
  wakeSubscribers (setLock s d n ⟨none, l.abandoned || mark⟩) d n

/-- Free one lock of a master that is reset (R174). -/
def abandonLock (s : State) (d n : Nat) (holder : Word) : State :=
  freeLock (recordK (cnt s .lockCntAbandon d 0) d 0x4010 [nw n, holder]) d n true

/-- An acquire at the lock's bank (R170): the word returned. -/
def acquireLock (s : State) (d n : Nat) (who : Word) : Word × State :=
  let l := getLock s d n
  match l.owner with
  | none => (gotWord l.abandoned, cnt (setLock s d n ⟨some who, false⟩) .lockCntAcq d 0)
  | some o => (ownerCode o, cnt s .lockCntBusy d 0)

/-- Locks of a die that a master holds. -/
def locksOf (s : State) (d : Nat) (who : Word) : List Nat :=
  s.core.locks.filterMap (fun e => if e.1 / 4096 = d ∧ e.2.owner = some who then some (e.1 % 4096) else none)

/-- Requests waiting at a bank. -/
def bankReqs (s : State) (d b : Nat) : List LockReq := kget s.core.banks (d * 8 + b) []
def setBank (s : State) (d b : Nat) (l : List LockReq) : State :=
  { s with core := { s.core with banks := kset s.core.banks (d * 8 + b) l [] } }
def bankAdd (s : State) (d n : Nat) (r : LockReq) : State := setBank s d (n % 8) (bankReqs s d (n % 8) ++ [r])

def reqTid : LockReq → Nat
  | .acquire t _ => t
  | .stat t _ => t
  | .release t _ => t
  | .subscribe t _ => t

/-- Drop the requests of a thread from the banks of its die, all of them or its subscriptions. -/
def dropReqs (s : State) (t : Nat) (subsOnly : Bool) : State :=
  forEach (List.range 8) (fun s b =>
    setBank s (thrDie t) b ((bankReqs s (thrDie t) b).filter (fun r =>
      match r with
      | .subscribe u _ => decide (u ≠ t)
      | r => subsOnly || decide (reqTid r ≠ t)))) s

/-- Cancel a thread's subscription (R177, R179). -/
def cancelSub (s : State) (t : Nat) : State := dropReqs (modT s t (fun x => { x with lockSub := none })) t true

/-! ## Unit claims (R155 to R159) -/

def dgHolder (s : State) (t : Nat) : Option Nat := (getCell s (thrCell t)).digest.claim
def bkHolder (s : State) (t : Nat) : Option Nat := (getComb s (thrComb t)).claim
def holdsDg (s : State) (t : Nat) : Bool := decide (dgHolder s t = some t)
def holdsBk (s : State) (t : Nat) : Bool := decide (bkHolder s t = some t)

/-- A free of the digest unit (R157): every state but the key store returns to its cell-reset value. -/
def freeDg (s : State) (c : Nat) (mark : Bool) : State :=
  modCell s c (fun x => { x with digest := { freshDigest with keys := x.digest.keys, abandoned := x.digest.abandoned || mark } })

/-- A free of the bulk unit (R157). The dealing pointer and the stall test of the comb are no part of it. -/
def freeBk (s : State) (k : Nat) (mark : Bool) : State :=
  modComb s k (fun x =>
    { freshComb with abandoned := x.abandoned || mark, next := x.next, stallEpoch := x.stallEpoch })

/-- EV_CLAIM_ABANDON (R186). -/
def claimAbandoned (s : State) (t unit : Nat) (running : Bool) : State :=
  record s (thrDie t) 0x4012 (thrMaster t) [nw unit, nw t, if running then 1 else 0]

/-- Free the claims of a thread that is reset (R159). -/
def abandonClaims (s : State) (t : Nat) : State :=
  let s :=
    if holdsDg s t then claimAbandoned (freeDg s (thrCell t) true) t 0 (getCell s (thrCell t)).digest.op.isSome else s
  if holdsBk s t then claimAbandoned (freeBk s (thrComb t) true) t 1 (getComb s (thrComb t)).op.isSome else s

/-- Claim the digest unit (R155, R156): the word returned. -/
def claimDg (s : State) (t : Nat) : Word × State :=
  let x := getCell s (thrCell t)
  match x.digest.claim with
  | none =>
    (gotWord x.digest.abandoned, setCell s (thrCell t) { x with digest := { x.digest with claim := some t, abandoned := false } })
  | some u => (ownerCode (thrMaster u), s)

/-- Claim the bulk unit (R155, R156). -/
def claimBk (s : State) (t : Nat) : Word × State :=
  let x := getComb s (thrComb t)
  match x.claim with
  | none => (gotWord x.abandoned, setComb s (thrComb t) { x with claim := some t, abandoned := false })
  | some u => (ownerCode (thrMaster u), s)

end Sys2Proof.Machine
end

