-- ==== Sys2Proof/Machine/Threads.lean ====
section
/-!
DEFINITION. A thread's work item from the deal to its end (R99, R100, R111, R112, R177, R516), thread and cell resets (R86, R122, R465).
-/

namespace Sys2Proof.Machine

/-! ## Staging words -/

/-- The staging word of a port. -/
def stage (s : State) (t p : Nat) : Word := kget (getT s t).stage p 0
def setStage (s : State) (t p : Nat) (v : Word) : State := modT s t (fun x => { x with stage := kset x.stage p v 0 })

/-- The staged channel words, io:CH_KIND to io:CH_PRE_LEN (R110). -/
def chanWord (s : State) (t k : Nat) : Word := stage s t (0x0200 + k)
def chanDirty (s : State) (t : Nat) : Bool := (List.range 8).any (fun k => decide (chanWord s t k ≠ 0))
def clearChan (s : State) (t : Nat) : State :=
  modT s t (fun x => { x with stage := x.stage.filter (fun e => e.1 < 0x0200 || e.1 > 0x0207) })

/-! ## The end of an item -/

/-- Whether thread `t` is enabled for work: its bit of io:THR_EN, or SUP_WORK for thread 0 (R99, R109). -/
def thrEnabled (s : State) (t : Nat) : Bool :=
  if isSup t then bitsOf (pdomCfg s t) 12 1 = 1 else (getCell s (thrCell t)).thrEn.getLsbD (t % 8)

/-- FREE or DISABLED, by the enable bit. -/
def idleState (s : State) (t : Nat) : ThrState := if thrEnabled s t then .free else .disabled

/-- Thread 0 returns to the supervisor's WAIT (R516): the saved context is restored, with bits 11 to 13 raised meanwhile. -/
def restoreSup (s : State) (t : Nat) : State :=
  let x := getT s t
  match x.saved with
  | some v =>
    let pend := v.pend ||| (x.pend &&& 0x3800)
    let s := setSt s t .waiting
    tryWake (modT s t (fun y => { y with regs := v.regs, wait := some v.wait, pend := pend, saved := none })) t
  | none => setSt s t .disabled

/-- The work item of a thread ends (R111): the staged channel words become 0, and the thread FREE, or for thread 0 its supervisor code
goes on. -/
def endItem (s : State) (t : Nat) : State :=
  let s := cnt s .cellCntItems (thrDie t) (cellInst (thrCell t))
  let s := modT (clearChan s t) t (fun x => { x with item := none, wait := none, fault := none, haltFrom := none, freeze := none,
                                                     stepping := false })
  if isSup t then restoreSup s t else setSt s t (idleState s t)

/-! ## Committing a verdict (R84, R85, R111, R112) -/

/-- The bytes to prepend: CH_PRE_LEN bytes of private words from CH_PRE_ADDR (R110). -/
def prependBytes (s : State) (t addr len : Nat) : List Byte :=
  (bytesOf ((List.range ((len + 1) / 2)).map (fun k => memAt s (flatAddr s t (addr + k))))).take len

/-- Whether R112 makes the staged verdict of a packet a BAD_VERDICT. -/
def badVerdict (s : State) (t : Nat) (x : Frame) : Bool :=
  let kind := (chanWord s t 0).toNat % 8
  let strip := (chanWord s t 5).toNat
  let addr := (chanWord s t 6).toNat
  let len := (chanWord s t 7).toNat
  decide (kind ≥ 4) || (decide (kind = 1) && decide ((chanWord s t 3).toNat % 256 ≥ 0xF0)) || decide (len > 128) ||
    decide (strip > x.len) || (decide (len ≠ 0) && decide (addr + (len + 1) / 2 > 0x1000))

/-- The verdict that thread `t` has staged for a packet. -/
def stagedVerdict (s : State) (t : Nat) : Verdict :=
  let kind := (chanWord s t 0).toNat % 8
  let edits := kind = 0 ∨ kind = 2
  { kind := kind
    dest :=
      if kind = 0 then
        (if (chanWord s t 0).getLsbD 8 then (chanWord s t 2).toNat
         else (chanWord s t 1).toNat % 32 * 65536 + (chanWord s t 2).toNat)
      else if kind = 3 then 0 else (chanWord s t 3).toNat % 256
    mcast := decide (kind = 0) && (chanWord s t 0).getLsbD 8
    len := if edits then (chanWord s t 4).toNat else 0
    strip := if edits then (chanWord s t 5).toNat else 0
    pre := if edits then prependBytes s t (chanWord s t 6).toNat (chanWord s t 7).toNat else []
    giver := thrMaster t }

/-- The carry words of a thread's descriptor, words 0x1890 to 0x189F (R106). -/
def carryWords (s : State) (t : Nat) : List Word := (List.range 16).map (fun k => memAt s (flatAddr s t (0x1890 + k)))

/-- Commit the staged verdict of a thread that holds an item, and end the item (R85, R111, R112). -/
def commitVerdict (s : State) (t : Nat) : State :=
  match (getT s t).item with
  | none => s
  | some it =>
    if it.kind = .packet then
      match getFrame s it.frame with
      | none => endItem s t
      | some x =>
        let bad := badVerdict s t x
        let v := if bad then dropVerdict reasonBadVerdict (thrMaster t) else stagedVerdict s t
        let s := if bad then orderRecord s x 0x3004 (thrMaster t) [thrMaster t] else s
        let s := modFrame s it.frame (fun y => { y with carry := carryWords s t })
        endItem (enterVerdict s it.frame v) t
    else
      let s :=
        if (chanWord s t 0).toNat % 8 = 4 then s
        else record s (thrDie t) 0x3004 (thrMaster t) [0, 0, 0, 0, thrMaster t]
      endItem s t

/-! ## Thread reset (R86, R122, R159, R174, R273) -/

/-- EV_CH_DISCARD (R124). -/
def chDiscard (s : State) (t : Nat) : State :=
  let f := thrFrame s t
  let kind := (chanWord s t 0).toNat
  record s (thrDie t) 0x4003 (thrMaster t)
    [nw ((f.map (·.odom)).getD 0 + kind % 8 * 4096 + kind / 256 % 2 * 32768), nw ((f.map (·.seq)).getD 0),
     nw ((chanWord s t 1).toNat % 32 * 256 + (chanWord s t 3).toNat % 256), chanWord s t 2, chanWord s t 4, chanWord s t 5,
     chanWord s t 6, chanWord s t 7]

/-- Release every buffer that a thread holds by handle (R273). -/
def releaseHandles (s : State) (t : Nat) : State :=
  let s := forEach (getT s t).handles (fun s e => cnt (endShare s e.2 (.thread t e.1)) .bufCntResetRel (thrDie t) 0) s
  modT s t (fun x => { x with handles := [] })

/-- What every reset of a thread does: locks, claims, staged words, scoreboard, results, its item and its handles. `quiet` discards the
staged words without a record (KILL, R116). -/
def clearThread (s : State) (t reason : Nat) (quiet : Bool) : State :=
  let d := thrDie t
  let x := getT s t
  let s := dropReqs s t false
  let s := forEach x.locks (fun s n => abandonLock s d n (thrMaster t)) s
  let s := abandonClaims s t
  let s := if x.item.isSome ∧ chanDirty s t ∧ !quiet then chDiscard s t else s
  let s := clearChan s t
  let s :=
    match x.item with
    | some it =>
      let s := if it.kind = .packet then resetVerdict s it.frame reason (thrMaster t) else s
      cnt s .cellCntItems d (cellInst (thrCell t))
    | none => s
  let s := releaseHandles s t
  modT s t (fun y => { y with item := none, sb := 0, inPend := none, results := [], wait := none, fault := none, haltFrom := none,
                              freeze := none, stepping := false, locks := [], lockSub := none, timer := none, saved := none,
                              pend := y.pend &&& 0x3800 })

/-- A thread reset (R122): threads 1 to 7 only; the thread is RESETTING until THREAD_RESET_DONE. -/
def threadReset (s : State) (t reason : Nat) (quiet : Bool) : State :=
  if isSup t then s else setSt (clearThread s t reason quiet) t .resetting

/-! ## Cell reset (R99, R117, R465) -/

/-- The counters of a cell (R123, R185) after a reset of it. -/
def clearCellCounters (s : State) (c : Nat) : State :=
  forEach [RegName.cellCntIssue, .cellCntItems, .cellCntFault, .evCntStall, .evCntSigBad, .evCntSigLost]
    (fun s r => setR s r (cellDie c) (cellInst c) 0) s

/-- Start thread 0 of a cell at instruction unit 0x0004 (R99). -/
def startSup (s : State) (c : Nat) : State :=
  let s := modCell s c (fun x => { x with started := true })
  modT (setSt s (c * 8) .active) (c * 8) (fun x => { x with regs := freshRegs 4 })

/-- Remove the alarms that a cell has armed (R50). -/
def dropAlarms (s : State) (c : Nat) : State :=
  let sched := s.time.sched.filter (fun e =>
    match e.2 with
    | some x => !(decide (e.1 / 256 = cellDie c) && decide (e.1 % 256 ≥ 192) && decide (x.armer / 8 = c))
    | none => true)
  { s with time := { s.time with sched := sched } }

/-- Reset a cell (R465): its threads, registers, events, alarms, scoreboard, digest unit and key store; then R99. -/
def cellReset (s : State) (c : Nat) : State :=
  let s := forEach (cellThreads c) (fun s t => clearThread s t reasonCellReset false) s
  let s := forEach (cellThreads c) (fun s t => setT s t { idleThread with st := .disabled }) s
  let s := dropAlarms s c
  let s := modCell s c (fun x => { freshCell with retired := x.retired,
                                                  digest := { freshDigest with abandoned := x.digest.abandoned } })
  let s := clearCellCounters s c
  if (curSlot s (cellDie c)).isSome ∧ !(getCell s c).retired ∧ (placeOf s c).isSome then startSup s c else s

end Sys2Proof.Machine
end

