-- ==== Sys2Proof/Machine/Work.lean ====
section
/-!
DEFINITION. Work queues, hold-back, selection and dealing (R71 to R80, R95, R96, R100, R516), and posted work (R75).
-/

namespace Sys2Proof.Machine

/-! ## Work queues (R76, R77) -/

def wqIndex (pdom level : Nat) : Nat := pdom * 8 + level
def getWq (s : State) (d q : Nat) : WorkQueue := kget s.path.wq (d * 128 + q) ⟨[], false⟩
def setWq (s : State) (d q : Nat) (x : WorkQueue) : State :=
  { s with path := { s.path with wq := kset s.path.wq (d * 128 + q) x ⟨[], false⟩ } }

/-- DISP.WQ_CFG of a queue, as the CURRENT slot holds it (R94). -/
def wqCfg (s : State) (d q : Nat) : Nat := getRS s .dispWqCfg d ((curSlot s d).getD 0) q
def wqHigh (s : State) (d q : Nat) : Nat := wqCfg s d q % 65536
def wqLow (s : State) (d q : Nat) : Nat := wqCfg s d q / 65536

/-- Whether a queue holds back its sources: from the moment its depth reaches HIGH until it has fallen to LOW (R77). -/
def heldBack (s : State) (d q : Nat) : Bool :=
  let x := getWq s d q
  decide (x.items.length ≥ wqHigh s d q) || (x.hold && decide (x.items.length > wqLow s d q))

/-- Whether a recirculated packet may be added (R76). -/
def recircRoom (s : State) (d q : Nat) : Bool :=
  !heldBack s d q || (decide (wqHigh s d q ≠ 0) && decide ((getWq s d q).items.length < wqHigh s d q + 64))

/-- Store the hold-back of a queue after its depth has changed. -/
def noteHold (s : State) (d q : Nat) : State := setWq s d q { getWq s d q with hold := heldBack s d q }

/-- Keep DISP.WQ_HWM (R95). -/
def noteHwm (s : State) (d q : Nat) : State :=
  let n := (getWq s d q).items.length
  if n > getR s .dispWqHwm d q then setR s .dispWqHwm d q n else s

/-- Add an item at the end of its queue. -/
def enqueue (s : State) (d : Nat) (it : Item) : State :=
  let q := wqIndex it.pdom it.level
  let s := noteHold s d q
  let x := getWq s d q
  let it := { it with enq := mono s d, order := s.path.nextOrder }
  let s := setWq { s with path := { s.path with nextOrder := s.path.nextOrder + 1 } } d q { x with items := x.items ++ [it] }
  noteHwm (noteHold s d q) d q

/-! ## Combs and cells that take work (R71, R79, R80) -/

/-- Whether a cell can be used at all: its die is usable, and neither a test nor the fault tracker has taken it out. -/
def cellUsable (s : State) (c : Nat) : Bool :=
  usable s (cellDie c) && !(getCell s c).retired && decide (c ∉ s.boot.unusableCells)

/-- Whether any cell of a comb can be used. -/
def combUsable (s : State) (k : Nat) : Bool := (combCells k).any (cellUsable s)

/-- Whether a usable comb of die `d` serves a program domain in slot `g` (R72, R75). -/
def domServed (s : State) (d g pdom : Nat) : Bool := (dieCombs d).any (fun k => combUsable s k && decide (combDom s k g = pdom))

/-- The cell that inspection tests in a comb now (R423). -/
def underTest (s : State) (c : Nat) : Bool :=
  s.insp.slices.any (fun e =>
    match e.2 with
    | some x => decide (x.comb * 32 + x.cell = c)
    | none => false)

/-- Whether a cell is in dispatch: its supervisor has started and not faulted, and it is not under inspection (R80, R99, R117). -/
def inDispatch (s : State) (c : Nat) : Bool :=
  let x := getCell s c
  cellUsable s c && x.started && x.supFault.isNone && !underTest s c

/-- Whether a thread is free for a work item (R80, R98, R516). -/
def freeThread (s : State) (t : Nat) : Bool :=
  let x := getT s t
  if isSup t then
    thrEnabled s t && x.item.isNone && decide (x.st = .waiting) && x.locks.isEmpty && !holdsDg s t && !holdsBk s t
  else decide (x.st = .free)

/-- The lowest-numbered free thread of a cell. -/
def firstFree (s : State) (c : Nat) : Option Nat :=
  if inDispatch s c then (cellThreads c).find? (freeThread s) else none

/-- The next position of a comb in round-robin order whose cell has a free thread, with that thread. -/
def nextFree (s : State) (k : Nat) : Option (Nat × Nat) :=
  ((List.range 16).map (fun j => ((getComb s k).next + j) % 16)).findSome? (fun p => (firstFree s (cellAt s k p)).map (fun t => (p, t)))

/-! ## The deal (R79, R80, R95, R96, R100, R177) -/

/-- The heads of a level that a comb may take, with their queues (R79). -/
def eligibleHeads (s : State) (k level : Nat) : List (Nat × Item) :=
  (List.range 16).filterMap (fun p =>
    match (getWq s (combDie k) (wqIndex p level)).items with
    | it :: _ => if combDom s k it.gslot = it.pdom then some (wqIndex p level, it) else none
    | [] => none)

/-- The earlier of two heads. -/
def earliest : List (Nat × Item) → Option (Nat × Item)
  | [] => none
  | a :: t => match earliest t with | none => some a | some b => if a.2.order ≤ b.2.order then some a else some b

/-- The item that a comb takes: the highest level with an eligible head, and of several heads the one enqueued first. -/
def selectItem (s : State) (k : Nat) : Option (Nat × Item) :=
  [7, 6, 5, 4, 3, 2, 1, 0].findSome? (fun l => earliest (eligibleHeads s k l))

/-- The bin of a wait (R96). -/
def histBin (w : Nat) : Nat := if w < 16 then 0 else if w ≥ 262144 then 15 else Nat.log2 w - 3

def histReg (b : Nat) : RegName :=
  match b with
  | 0 => .dispWqHist0 | 1 => .dispWqHist1 | 2 => .dispWqHist2 | 3 => .dispWqHist3 | 4 => .dispWqHist4 | 5 => .dispWqHist5
  | 6 => .dispWqHist6 | 7 => .dispWqHist7 | 8 => .dispWqHist8 | 9 => .dispWqHist9 | 10 => .dispWqHist10 | 11 => .dispWqHist11
  | 12 => .dispWqHist12 | 13 => .dispWqHist13 | 14 => .dispWqHist14 | _ => .dispWqHist15

/-- Sample a wait in the histogram of a queue that samples (R96). Bit 0 of the stored register says that it samples. -/
def histSample (s : State) (d q w : Nat) : State :=
  let c := getR s .dispWqHistCtl d q
  if c % 2 = 0 then s
  else
    let n := c / 4 % 2048 + 1
    let s := cnt s (histReg (histBin w)) d q
    setR s .dispWqHistCtl d q (if n ≥ 1024 then n * 4 + 2 else n * 4 + 1)

/-- The counters of a deal (R95). -/
def dealCounters (s : State) (d q wait : Nat) : State :=
  let s := cnt s .dispWqItems d q
  let w := min wait (2 ^ 32 - 1)
  let s := setR s .dispWqWaitCur d q w
  let s := if w > getR s .dispWqWaitMax d q then setR s .dispWqWaitMax d q w else s
  histSample s d q wait

/-- The supervisor context that the cell saves (R516). -/
def saveSup (t : Nat) (x : Thread) : Option Saved :=
  if isSup t then (match x.wait with | some w => some ⟨x.regs, w, x.pend⟩ | none => none) else none

/-- Write the carry words of a new item (R106). -/
def writeCarry (s : State) (t : Nat) (ws : List Word) : State :=
  forEach (List.range 16) (fun s k => setMem s (flatAddr s t (0x1890 + k)) (wordAt ws k)) s

/-- Thread `t` receives an item (R100, R177, R516). -/
def giveItem (s : State) (t : Nat) (it : Item) : State :=
  let s := cancelSub (clearChan s t) t
  let s := setSt s t .active
  let s := modT s t (fun x =>
    { x with item := some it, saved := saveSup t x, regs := freshRegs (nw (kindCode it.kind)), wait := none, timer := none,
             pend := x.pend &&& 0x3800, cycBase := 0, cycFrom := mono s (thrDie t) })
  let s :=
    if it.kind = .packet then
      let s := modOut s it.frame (fun o => { o with dealt := some (mono s (thrDie t)) })
      writeCarry s t (((getFrame s it.frame).map (·.carry)).getD [])
    else writeCarry s t []
  raiseEvent s (t / 8 * 8) 11

/-- COMB_DEAL (R79, R80). -/
def execCombDeal (die comb : Nat) (s : State) : Host.Outcome State Fault Refusal :=
  .next (
    let k := die * 8 + comb
    match nextFree s k with
    | none => s
    | some (p, t) =>
      match selectItem s k with
      | none => s
      | some (q, it) =>
        let s := noteHold s die q
        let x := getWq s die q
        let s := noteHold (setWq s die q { x with items := x.items.drop 1 }) die q
        let s := dealCounters s die q (mono s die - it.enq)
        giveItem (modComb s k (fun y => { y with next := (p + 1) % 16 })) t it)

/-! ## Posting (R75) -/

/-- An item of a kind that carries no frame; it carries the slot current at the STIME at which it enters its queue (R74). -/
def plainItem (s : State) (d : Nat) (k : ItemKind) (pdom level : Nat) (late : Bool) (args : List Word) (poster : Nat) : Item :=
  { kind := k, level := level, gslot := (slotAt s d (stime s d)).getD 0, pdom := pdom, late := late, args := args, frame := 0,
    poster := poster, enq := 0, order := 0 }

/-- Posted items of a thread that wait in work queues (R113). -/
def postsWaiting (s : State) (t : Nat) : Nat :=
  sumN ((s.path.wq.filter (fun e => e.1 / 128 = thrDie t)).map (fun e =>
    (e.2.items.filter (fun i => i.kind = .post && i.poster = t)).length))

/-- A read of io:POST_GO: the word returned (R75, R113). -/
def postGo (s : State) (t : Nat) : Word × State :=
  let d := thrDie t
  let ctl := (stage s t 0x0708).toNat
  let pdom := ctl / 4096
  let level := ctl / 256 % 8
  let share := bitsOf (getRS s .cellPdomShare d (thrSlot s t) (thrDom s t)) 8 8
  if !domServed s d ((curSlot s d).getD 0) pdom then (0x2000, s)
  else if heldBack s d (wqIndex pdom level) then (0x4000, s)
  else if bitsOf (pdomCfg s t) 13 1 = 0 ∧ postsWaiting s t ≥ share then (0x4000, s)
  else (0x8000, enqueue s d (plainItem s d .post pdom level false ((List.range 8).map (fun k => stage s t (0x0700 + k))) t))

end Sys2Proof.Machine
end

