-- ==== Sys2Proof/Machine/Tables.lean ====
section
/-!
DEFINITION. Exact-match tables (R187 to R214): descriptors, placement, lookups, insertion in every mode, the write engines, mask groups,
and the requests and results of foragers.
-/

namespace Sys2Proof.Machine

/-! ## Descriptors (R188, R209) -/

/-- A table descriptor with its key mask. -/
structure Desc where
  en : Bool
  mode : Nat
  width : Nat
  keyWords : Nat
  dyn : Bool
  age : Bool
  maskEn : Bool
  ovfSeg : Nat
  ovfEn : Bool
  bankBase : Nat
  bankLog : Nat
  bucketLog : Nat
  rowBase : Nat
  seed1 : BitVec 32
  seed2 : BitVec 32
  deepLog : Nat
  dramBase : Nat
  masks : List Word
  deriving DecidableEq, Repr

/-- The fields of TBL.DESC0 to TBL.DESC4. -/
def descOf (d0 d1 d2 d3 d4 : Nat) (masks : List Word) : Desc :=
  { en := bitsOf d0 0 1 = 1, mode := bitsOf d0 1 2, width := bitsOf d0 3 2, keyWords := bitsOf d0 5 5, dyn := bitsOf d0 10 1 = 1,
    age := bitsOf d0 11 1 = 1, maskEn := bitsOf d0 12 1 = 1, ovfSeg := bitsOf d0 16 4, ovfEn := bitsOf d0 20 1 = 1,
    bankBase := bitsOf d0 24 6, bankLog := bitsOf d1 0 3, bucketLog := bitsOf d1 3 5, rowBase := bitsOf d1 16 14,
    seed1 := BitVec.ofNat 32 d2, seed2 := BitVec.ofNat 32 d3, deepLog := bitsOf d4 0 5, dramBase := bitsOf d4 8 24, masks := masks }

def keyMaskRegs : List RegName :=
  [
    .tblKeyMask0, .tblKeyMask1, .tblKeyMask2, .tblKeyMask3, .tblKeyMask4, .tblKeyMask5, .tblKeyMask6, .tblKeyMask7, .tblKeyMask8,
    .tblKeyMask9, .tblKeyMask10, .tblKeyMask11, .tblKeyMask12, .tblKeyMask13, .tblKeyMask14, .tblKeyMask15, .tblKeyMask16,
    .tblKeyMask17, .tblKeyMask18, .tblKeyMask19, .tblKeyMask20, .tblKeyMask21, .tblKeyMask22, .tblKeyMask23 ]

def grpMemberRegs : List RegName :=
  [
    .tblGrpMember0, .tblGrpMember1, .tblGrpMember2, .tblGrpMember3, .tblGrpMember4, .tblGrpMember5, .tblGrpMember6,
    .tblGrpMember7, .tblGrpMember8, .tblGrpMember9, .tblGrpMember10, .tblGrpMember11, .tblGrpMember12, .tblGrpMember13,
    .tblGrpMember14, .tblGrpMember15, .tblGrpMember16, .tblGrpMember17, .tblGrpMember18, .tblGrpMember19, .tblGrpMember20,
    .tblGrpMember21, .tblGrpMember22, .tblGrpMember23, .tblGrpMember24, .tblGrpMember25, .tblGrpMember26, .tblGrpMember27,
    .tblGrpMember28, .tblGrpMember29, .tblGrpMember30, .tblGrpMember31 ]

/-- The descriptor of table `t` in a slot of die `d`. -/
def tblDesc (s : State) (d slot t : Nat) : Desc :=
  descOf (getRS s .tblDesc0 d slot t) (getRS s .tblDesc1 d slot t) (getRS s .tblDesc2 d slot t) (getRS s .tblDesc3 d slot t)
    (getRS s .tblDesc4 d slot t) (keyMaskRegs.map (fun r => nw (getRS s r d slot t)))

/-- Rows per bucket, banks, buckets and action words of a descriptor. -/
def descRows (x : Desc) : Nat := 2 ^ x.width
def descNb (x : Desc) : Nat := 2 ^ x.bankLog
def descB (x : Desc) : Nat := 2 ^ x.bucketLog
def descA (x : Desc) : Nat := 8 * descRows x - 2 - x.keyWords
/-- Rows that the region takes in each of its banks. -/
def descSpan (x : Desc) : Nat := 2 ^ (x.bucketLog - x.bankLog) * descRows x
/-- Buckets of a table: in DRAM for a deep table, else on chip. -/
def descBuckets (x : Desc) : Nat := if x.mode = 2 then 2 ^ x.deepLog else descB x

/-- The key as it is hashed and compared (R193). -/
def maskKey (x : Desc) (key : List Word) : List Word :=
  if x.maskEn then (key.zip x.masks).map (fun e => e.1 &&& e.2) else key

/-- Whether a key has a 1 where the mask has a 0 (R193). -/
def keyOutsideMask (x : Desc) (key : List Word) : Bool := decide (maskKey x key ≠ key)

/-! ## Placement (R192) -/

def tblHash (seed : BitVec 32) (key : List Word) : Nat := (crc32c seed (bytesOf key)).toNat

/-- Positions: a 16-byte unit of a row of a table bank; a way of an overflow bucket; a way of a DRAM bucket. -/
def posChip (d bank row sub : Nat) : Nat := ((d * 64 + bank) * 16384 + row) * 4 + sub
def posOvf (d seg o way : Nat) : Nat := 67108864 + ((d * 16 + seg) * 256 + o) * 4 + way
def posDeep (d unit : Nat) : Nat := (d + 1) * 1099511627776 + unit
def isDeepPos (p : Nat) : Bool := decide (p ≥ 1099511627776)
def isOvfPos (p : Nat) : Bool := decide (p ≥ 67108864) && !isDeepPos p

/-- Way `w` of a bucket whose first row is `row`. -/
def wayPos (d width bank row w : Nat) : Nat :=
  match width with
  | 0 => posChip d bank row w
  | 1 => posChip d bank (row + w / 2) (2 * (w % 2))
  | _ => posChip d bank (row + w) 0

/-- Bank and first row of on-chip bucket `b`: in cuckoo mode the second candidates follow the first ones. -/
def bucketRow (x : Desc) (b : Nat) : Nat × Nat :=
  if x.mode = 1 then
    let half := descB x / 2
    let hn := descNb x / 2
    let i := b % half
    (x.bankBase + b / half * hn + i % hn, x.rowBase + i / hn * descRows x)
  else (x.bankBase + b % descNb x, x.rowBase + b / descNb x * descRows x)

/-- The four ways of bucket `b`. -/
def bucketPos (d : Nat) (x : Desc) (b : Nat) : List Nat :=
  if x.mode = 2 then
    (List.range 4).map (fun w => posDeep d ((x.dramBase * 8192 + b * 64 * descRows x) / 16 + w * descRows x))
  else
    let (bank, row) := bucketRow x b
    (List.range 4).map (wayPos d x.width bank row)

/-- The candidate buckets of a key, the home first. -/
def candidates (x : Desc) (key : List Word) : List Nat :=
  match x.mode with
  | 1 => [tblHash x.seed1 key % (descB x / 2), descB x / 2 + tblHash x.seed2 key % (descB x / 2)]
  | 2 => [tblHash x.seed1 key % 2 ^ x.deepLog]
  | _ => [tblHash x.seed1 key % descB x]

def homeOf (x : Desc) (key : List Word) : Nat := (candidates x key).headD 0

/-- The ways of the overflow bucket of a key. -/
def ovfPos (d : Nat) (x : Desc) (key : List Word) : List Nat :=
  (List.range 4).map (posOvf d x.ovfSeg (tblHash x.seed1 key / 16777216))

/-! ## Entries (R190, R191) -/

def getEntry (s : State) (p : Nat) : Option Entry := kget s.tbl.entries p none
def setEntry (s : State) (p : Nat) (e : Option Entry) : State :=
  { s with tbl := { s.tbl with entries := kset s.tbl.entries p e none } }

/-- Word 0 of an entry. -/
def entryHeader (e : Entry) : Word :=
  nw (0x8000 + (if e.static_ then 0x4000 else 0) + (if e.ageable then 0x2000 else 0) + (if e.learned then 0x1000 else 0) +
    (if e.remote then 0x0800 else 0) + (if e.contested then 0x0400 else 0) + e.moves % 4 * 256 + e.slots.toNat)

/-- The words of an entry. -/
def entryWords (e : Entry) : List Word := [entryHeader e, e.stamp] ++ e.key ++ e.action

def ageNow (s : State) (d : Nat) : Word := nw (getR s .lrnAgeNow d 0)

/-- A dynamic entry as INSERT writes it (R205). -/
def dynEntry (s : State) (d t : Nat) (x : Desc) (key action : List Word) : Entry :=
  { slots := 15, static_ := false, ageable := x.age, learned := false, remote := false, contested := false, moves := 0,
    stamp := ageNow s d, tableId := t, key := key, action := action, uncorr := false }

/-- Whether the overflow flag of the home bucket of a key is 1 (R194): an entry of its overflow bucket has that home. -/
def ovfFlag (s : State) (d : Nat) (x : Desc) (key : List Word) : Bool :=
  x.ovfEn && (ovfPos d x key).any (fun p =>
    match getEntry s p with
    | some e => decide (homeOf x e.key = homeOf x key)
    | none => false)

/-- The positions that a search for a key reads (R194, R196). -/
def searched (s : State) (d : Nat) (x : Desc) (key : List Word) : List Nat :=
  (candidates x key).flatMap (bucketPos d x) ++ if ovfFlag s d x key then ovfPos d x key else []

/-- Entries of a key at the positions searched. -/
def foundAt (s : State) (d : Nat) (x : Desc) (key : List Word) : List (Nat × Entry) :=
  (searched s d x key).filterMap (fun p =>
    match getEntry s p with
    | some e => if e.key = key then some (p, e) else none
    | none => none)

def uncorrAt (s : State) (p : Nat) : Bool := match getEntry s p with | some e => e.uncorr | none => false

/-- Bank, row and way of a position (R215). An overflow position has bank 64 + segment and its overflow bucket as row (DESIGN CHOICE, log
entry 36). -/
def posWords (x : Desc) (p : Nat) : List Word :=
  if isDeepPos p then
    let u := p % 1099511627776
    [0xFFFF, nw (u / (4 * descRows x)), nw (u / descRows x % 4)]
  else if isOvfPos p then
    let u := p - 67108864
    [nw (64 + u / 1024 % 16), nw (u / 4 % 256), nw (u % 4)]
  else
    let row := p / 4 % 16384
    let k := (row - x.rowBase) % descRows x
    [nw (p / 65536 % 64), nw row, nw (match x.width with | 0 => p % 4 | 1 => 2 * k + p % 4 / 2 | _ => k)]

/-- EV_TBL_UNCORR (R215). -/
def recordUncorr (s : State) (d t : Nat) (x : Desc) (p : Nat) : State := recordK s d 0x5004 (nw t :: posWords x p)

/-! ## The outcome of a search or a write -/

/-- What a request found or did (R203, R204). -/
structure TblRes where
  status : Nat
  hit : Bool
  ovf : Bool
  deepMiss : Bool
  tableId : Nat
  entry : Option Entry
  moves : Nat
  pos : Nat
  deriving DecidableEq, Repr

def tblRes (status t : Nat) : TblRes := ⟨status, false, false, false, t, none, 0, 0⟩

def stOk : Nat := 0
def stExists : Nat := 1
def stNotFound : Nat := 2
def stNoRoom : Nat := 3
def stBadArg : Nat := 4
def stKeyLen : Nat := 5
def stDenied : Nat := 6
def stReadOnly : Nat := 7
def stUncorr : Nat := 8

/-! ## Lookups (R191, R193, R194, R196, R210, R211, R214) -/

/-- The cache tag of a deep table's bucket: the DRAM bucket that it holds (R211). -/
def deepTagKey (d : Nat) (x : Desc) (b : Nat) : Nat :=
  let (bank, row) := bucketRow { x with mode := 0 } (b % descB x)
  (d * 64 + bank) * 16384 + row

/-- Whether a deep lookup misses the flow cache (R211). -/
def deepMiss (s : State) (d : Nat) (x : Desc) (key : List Word) : Bool :=
  decide (x.mode = 2) && decide (kget s.tbl.deepTags (deepTagKey d x (homeOf x key)) none ≠ some (homeOf x key))

/-- The blocks of a bucket in DRAM are poisoned (R349). -/
def blockPoison (s : State) (d block n : Nat) : Bool := (List.range n).any (fun k => decide (d * 1099511627776 + block + k ∈ s.memo.dramPoison))

def poisonKey (d block : Nat) : Nat := d * 1099511627776 + block

/-- A written block is no longer poisoned (R349). -/
def cleanBlocks (s : State) (d block n : Nat) : State :=
  let keep (k : Nat) : Bool := decide (k < poisonKey d block) || decide (k ≥ poisonKey d block + n)
  { s with memo := { s.memo with dramPoison := s.memo.dramPoison.filter keep } }

/-- The first DRAM block of a bucket. -/
def deepBlock (x : Desc) (b : Nat) : Nat := x.dramBase * 128 + b * descRows x

/-- The bucket of a key in DRAM has uncorrectable data. -/
def deepPoison (s : State) (d : Nat) (x : Desc) (key : List Word) : Bool := blockPoison s d (deepBlock x (homeOf x key)) (descRows x)

/-- The first position searched that has an uncorrectable error (R204): in a deep table, when its bucket does. -/
def metUncorr (s : State) (d : Nat) (x : Desc) (key : List Word) : Option Nat :=
  if x.mode = 2 then (if deepPoison s d x key then (searched s d x key).head? else none) else (searched s d x key).find? (uncorrAt s)

/-- A bucket read from DRAM replaces what its cache bucket held (R211). -/
def setTag (s : State) (k b : Nat) : State := { s with tbl := { s.tbl with deepTags := kset s.tbl.deepTags k (some b) none } }

/-- A forager or an engine meets an uncorrectable entry: it is recorded, and a dynamic one is freed, so that it is learned again (R401). -/
def meetUncorr (s : State) (d t : Nat) (x : Desc) (p : Nat) : State :=
  let s := recordUncorr s d t x p
  match getEntry s p with
  | some e => if e.uncorr && !e.static_ then setEntry s p none else s
  | none => s

/-- Look a masked key up in a slot (R191). `miss` says that a deep lookup missed the flow cache. The counters are those of R214. -/
def lookupKey (s : State) (d slot t : Nat) (x : Desc) (key : List Word) (miss : Bool) : TblRes × State :=
  let s := if miss then cnt s .tblCntDeepMiss d t else s
  match (if x.mode = 2 ∧ !miss then none else metUncorr s d x key) with
  | some p => ({ tblRes stUncorr t with deepMiss := miss }, meetUncorr s d t x p)
  | none =>
    let s := cnt s .tblCntLookup d t
    let s := if miss then setTag s (deepTagKey d x (homeOf x key)) (homeOf x key) else s
    match (foundAt s d x key).find? (fun e => e.2.slots.getLsbD slot) with
    | some (p, e) =>
      ({ tblRes stOk t with hit := true, ovf := isOvfPos p, deepMiss := miss, entry := some e, pos := p }, cnt s .tblCntHit d t)
    | none => ({ tblRes stOk t with deepMiss := miss }, s)

/-- The engine of a table (R198). -/
def engKey (d t : Nat) : Nat := d * 4 + t % 4
def engineOf (s : State) (k : Nat) : List WriteReq := kget s.tbl.engines k []
def setEngine (s : State) (k : Nat) (l : List WriteReq) : State :=
  { s with tbl := { s.tbl with engines := kset s.tbl.engines k l [] } }
def sendWrite (s : State) (k : Nat) (r : WriteReq) : State := setEngine s k (engineOf s k ++ [r])

/-- A lookup that hits an AGEABLE entry with an older stamp sends a refresh; a full FIFO discards it (R232). -/
def refreshHit (s : State) (d t : Nat) (r : TblRes) : State :=
  match r.entry with
  | some e =>
    if e.ageable ∧ e.stamp ≠ ageNow s d then
      if (engineOf s (engKey d t)).length ≥ 64 then cnt s .lrnCntRefreshDrop d 0
      else sendWrite s (engKey d t) (.refresh t r.pos e.key)
    else s
  | none => s

/-- A forager's probe of one table. -/
def probe (s : State) (d slot t : Nat) (key : List Word) (miss : Bool) : TblRes × State :=
  let x := tblDesc s d slot t
  let (r, s) := lookupKey s d slot t x (maskKey x key) miss
  (r, refreshHit s d t r)

/-- The tables of a group (R209). -/
def groupMembers (s : State) (d slot g : Nat) : List Nat :=
  (grpMemberRegs.take (bitsOf (getRS s .tblGrpCfg d slot g) 8 6)).map (fun r => getRS s r d slot g % 64)

/-- Ordered mode (R210): the first hit, or the last member on a miss. -/
def groupOrdered (s : State) (d slot : Nat) (key : List Word) (last : Nat) : List Nat → TblRes × State
  | [] => (tblRes stOk last, s)
  | t :: rest =>
    let (r, s) := probe s d slot t key false
    if r.status = stUncorr ∨ r.hit then (r, s) else groupOrdered s d slot key t rest

/-- PRIO of a hit: action word 0. -/
def prioOf (r : TblRes) : Nat := match r.entry with | some e => (wordAt e.action 0).toNat | none => 0

/-- Best-priority mode (R210): `best` is the winner so far. -/
def groupBest (s : State) (d slot : Nat) (key : List Word) (last : Nat) (best : Option TblRes) : List Nat → TblRes × State
  | [] => (best.getD (tblRes stOk last), s)
  | t :: rest =>
    let (r, s) := probe s d slot t key false
    if r.status = stUncorr then (r, s)
    else
      let best :=
        if r.hit then (match best with | some b => if prioOf r < prioOf b then some r else some b | none => some r) else best
      groupBest s d slot key t best rest

/-- GLOOKUP (R210). -/
def groupLookup (s : State) (d slot g : Nat) (key : List Word) : TblRes × State :=
  let ms := groupMembers s d slot g
  if bitsOf (getRS s .tblGrpCfg d slot g) 1 1 = 1 then groupBest s d slot key 0 none ms else groupOrdered s d slot key 0 ms

/-! ## Insertion (R195, R196) -/

/-- The lowest free way of bucket `b`. -/
def freeWay (s : State) (d : Nat) (x : Desc) (b : Nat) : Option Nat := (bucketPos d x b).find? (fun p => (getEntry s p).isNone)

/-- The candidate bucket of an entry that is not `b`. -/
def otherCand (x : Desc) (b : Nat) (key : List Word) : Nat :=
  match candidates x key with
  | [c1, c2] => if c1 = b then c2 else c1
  | _ => b

/-- What the cuckoo search has reached: a bucket with a free way, an uncorrectable entry, or a queue to go on with; `par` gives each visited
bucket with the bucket and way from which it was reached. -/
inductive Search where
  | free (b : Nat) (par : Map (Option (Nat × Nat)))
  | uncorr (p : Nat)
  | more (queue : List (Nat × Nat)) (par : Map (Option (Nat × Nat))) (reads : Nat)

def visited (par : Map (Option (Nat × Nat))) (b : Nat) : Bool := par.any (fun e => e.1 = b)

/-- Visit the ways of bucket `b`, at depth `n` (R196). -/
def visitWays (s : State) (d : Nat) (x : Desc) (b n : Nat) (queue : List (Nat × Nat)) (par : Map (Option (Nat × Nat)))
    (reads : Nat) : List Nat → Search
  | [] => .more queue par reads
  | p :: ps =>
    match getEntry s p with
    | none => visitWays s d x b n queue par reads ps
    | some e =>
      let a := otherCand x b e.key
      if visited par a ∨ n + 1 > 32 ∨ reads = 512 then visitWays s d x b n queue par reads ps
      else
        let par := par ++ [(a, some (b, p))]
        match (bucketPos d x a).find? (uncorrAt s) with
        | some q => .uncorr q
        | none =>
          if (freeWay s d x a).isSome then .free a par
          else visitWays s d x b n (queue ++ [(a, n + 1)]) par (reads + 1) ps

/-- Breadth first, bucket by bucket. -/
def cuckooSearch (s : State) (d : Nat) (x : Desc) (fuel : Nat) (queue : List (Nat × Nat)) (par : Map (Option (Nat × Nat)))
    (reads : Nat) : Search :=
  match fuel, queue with
  | 0, _ => .more [] par reads
  | _, [] => .more [] par reads
  | f + 1, (b, n) :: rest =>
    match visitWays s d x b n rest par reads (bucketPos d x b) with
    | .more q par r => cuckooSearch s d x f q par r
    | r => r

/-- Perform the moves from bucket `a` back to a candidate, last move first: the state, the way freed and the moves made. -/
def moveBack (s : State) (d : Nat) (x : Desc) (par : Map (Option (Nat × Nat))) (fuel a p n : Nat) : State × Nat × Nat :=
  match fuel, kget par a none with
  | f + 1, some (b, from_) => moveBack (setEntry (setEntry s p (getEntry s from_)) from_ none) d x par f b from_ (n + 1)
  | _, _ => (s, p, n)

/-- Where a new entry goes. -/
inductive Place where
  | at_ (s : State) (p moves : Nat)
  | uncorr (p : Nat)
  | full

/-- The overflow segment takes the entry, or there is no room (R195). -/
def placeOvf (s : State) (d : Nat) (x : Desc) (key : List Word) : Place :=
  if x.ovfEn then
    match (ovfPos d x key).find? (fun p => (getEntry s p).isNone) with
    | some p => .at_ s p 0
    | none => .full
  else .full

/-- Find a place for a key (R195, R196). -/
def placeFor (s : State) (d : Nat) (x : Desc) (key : List Word) : Place :=
  match (candidates x key).findSome? (freeWay s d x) with
  | some p => .at_ s p 0
  | none =>
    if x.mode = 1 then
      let cs := candidates x key
      match cuckooSearch s d x 1024 (cs.map (fun c => (c, 0))) (cs.map (fun c => (c, none))) 2 with
      | .uncorr p => .uncorr p
      | .more _ _ _ => placeOvf s d x key
      | .free a par =>
        match freeWay s d x a with
        | some p =>
          let (s, p, n) := moveBack s d x par 40 a p 0
          .at_ s p n
        | none => placeOvf s d x key
    else placeOvf s d x key

/-! ## Rehash requests (R199) -/

def rehashOf (s : State) (d t : Nat) : Rehash := kget s.tbl.rehash (d * 64 + t) ⟨false, 0, 0, 0⟩
def setRehash (s : State) (d t : Nat) (x : Rehash) : State :=
  { s with tbl := { s.tbl with rehash := kset s.tbl.rehash (d * 64 + t) x ⟨false, 0, 0, 0⟩ } }

/-- Whether a position lies in the banks and rows of a region. -/
def inRegion (d : Nat) (x : Desc) (p : Nat) : Bool :=
  if x.mode = 2 then
    isDeepPos p && decide (p / 1099511627776 = d + 1) &&
      (let u := p % 1099511627776
       let base := x.dramBase * 512
       decide (base ≤ u) && decide (u < base + 2 ^ x.deepLog * 4 * descRows x))
  else
    let bank := p / 65536 % 64
    let row := p / 4 % 16384
    decide (p / 4194304 = d) && decide (x.bankBase ≤ bank) && decide (bank < x.bankBase + descNb x) &&
      decide (x.rowBase ≤ row) && decide (row < x.rowBase + descSpan x)

/-- Whether a position lies in an overflow segment of a die. -/
def inSegment (d seg p : Nat) : Bool := isOvfPos p && decide ((p - 67108864) / 1024 = d * 16 + seg)

/-- Whether a position is one of the table's: in its buckets, on chip or in DRAM, or in its overflow segment. -/
def inTable (d : Nat) (x : Desc) (p : Nat) : Bool := inRegion d x p || (x.ovfEn && inSegment d x.ovfSeg p)

/-- Every entry in use, with its position. -/
def liveEntries (s : State) : List (Nat × Entry) := s.tbl.entries.filterMap (fun e => e.2.map (fun x => (e.1, x)))

/-- The descriptor of a table in the newest committed slot of a die (R200). -/
def curDesc (s : State) (d t : Nat) : Desc :=
  match curSlot s d with
  | some n => tblDesc s d n t
  | none => descOf 0 0 0 0 0 []

/-- TBL.OCC_BUCKET: valid entries in the table's buckets. -/
def occBucket (s : State) (d t : Nat) : Nat :=
  let x := curDesc s d t
  if x.en then ((liveEntries s).filter (fun e => e.2.tableId = t && inRegion d x e.1)).length else 0

/-- TBL.OCC_OVF: valid entries in its overflow segment. -/
def occOvf (s : State) (d t : Nat) : Nat :=
  let x := curDesc s d t
  if x.en ∧ x.ovfEn then ((liveEntries s).filter (fun e => e.2.tableId = t && inSegment d x.ovfSeg e.1)).length else 0

/-- A REHASH_REQUEST notification and its record. -/
def sendRehash (s : State) (d t : Nat) (fails moves : Nat) : State :=
  let x := curDesc s d t
  let body := wordsOf 2 (occBucket s d t) ++ [nw (occOvf s d t)] ++ wordsOf 2 (4 * descBuckets x) ++ wordsOf 2 fails
  let s := recordK s d 0x5002 (nw t :: body)
  notify s 0x8005 ([nw (d * 256 + t), nw ((curSlot s d).getD 0)] ++ body ++ [nw moves])

/-- An insertion has found no room: it counts and is recorded (R199). `src` is the master ID of its source. -/
def countNoRoom (s : State) (d t : Nat) (x : Desc) (key : List Word) (src : Word) : State :=
  record (cnt s .tblCntNoRoom d t) d 0x5001 src ([nw t, src] ++ wordsOf 2 (tblHash x.seed1 key))

/-- A dynamic insertion has found no room: the Keeper asks for a rehash (R199). -/
def noRoom (s : State) (d t : Nat) (x : Desc) (key : List Word) (src : Word) : State :=
  let s := countNoRoom s d t x key src
  let r := rehashOf s d t
  let fails := if r.outstanding then satAdd 32 r.fails 1 else 1
  if r.outstanding ∧ mono s d < r.lastNote + 10 * nsPerS then setRehash s d t { r with fails := fails }
  else sendRehash (setRehash s d t ⟨true, mono s d, fails, 0⟩) d t fails r.maxMoves

/-- Write an entry into a free place (R195, R196), counting it and its moves: none where there is no room. -/
def writeEntry (s : State) (d t : Nat) (x : Desc) (e : Entry) : Option (TblRes × State) :=
  match placeFor s d x e.key with
  | .uncorr p => some (tblRes stUncorr t, meetUncorr s d t x p)
  | .full => none
  | .at_ s p n =>
    let r := rehashOf s d t
    let s := if n > r.maxMoves then setRehash s d t { r with maxMoves := n } else s
    let s := cntN (cnt (setEntry s p (some e)) .tblCntInsert d t) .tblCntMoves d t n
    some ({ tblRes stOk t with ovf := isOvfPos p, entry := some e, moves := n, pos := p }, s)

/-- Insert an entry whose key is masked (R195, R196, R204): every source of writes follows this. -/
def insertEntry (s : State) (d t : Nat) (x : Desc) (e : Entry) (src : Word) : TblRes × State :=
  match metUncorr s d x e.key with
  | some p => (tblRes stUncorr t, meetUncorr s d t x p)
  | none =>
    let fs := foundAt s d x e.key
    match fs.find? (fun f => f.2.static_ && !e.static_), fs.find? (fun f => decide (f.2.slots &&& e.slots ≠ 0)) with
    | some (p, _), _ => ({ tblRes stReadOnly t with hit := true, ovf := isOvfPos p }, s)
    | none, some (p, _) => ({ tblRes stExists t with hit := true, ovf := isOvfPos p }, s)
    | none, none =>
      match writeEntry s d t x e with
      | some r => r
      | none => (tblRes stNoRoom t, noRoom s d t x e.key src)

/-! ## Removal (R194, R214, R223) -/

def trackerOf (s : State) (d : Nat) : List MoveLine := kget s.tbl.tracker d []
def setTracker (s : State) (d : Nat) (l : List MoveLine) : State :=
  { s with tbl := { s.tbl with tracker := kset s.tbl.tracker d l [] } }

/-- Free the entry at a position: it counts, and ends a quarantine of its key (R223). -/
def removeEntry (s : State) (d p : Nat) : State :=
  match getEntry s p with
  | none => s
  | some e =>
    let s := cnt (setEntry s p none) .tblCntRemove d e.tableId
    if e.contested then setTracker s d ((trackerOf s d).filter (fun l => !(l.tableId = e.tableId && l.key = e.key))) else s

/-- Change the entry at a position. -/
def modEntry (s : State) (p : Nat) (f : Entry → Entry) : State :=
  match getEntry s p with
  | some e => setEntry s p (some (f e))
  | none => s

/-! ## Requests (R201 to R206) -/

/-- Words `i` and `i + 1` of an action taken as a counter, with `v` added modulo 2^32 (R205). -/
def addCounter (action : List Word) (i v : Nat) : List Word :=
  let n := (valOf [wordAt action i, wordAt action (i + 1)] + v) % 4294967296
  action.take i ++ wordsOf 2 n ++ action.drop (i + 2)

/-- The writes that find a key (R205): UPDATE, DELETE and ADD of the matching dynamic entry. -/
def writeFound (s : State) (d t op : Nat) (x : Desc) (key data : List Word) (arg : Nat) : TblRes × State :=
  match metUncorr s d x key with
  | some p => (tblRes stUncorr t, meetUncorr s d t x p)
  | none =>
    let fs := foundAt s d x key
    match fs.find? (fun f => f.2.static_), fs with
    | some (p, _), _ => ({ tblRes stReadOnly t with hit := true, ovf := isOvfPos p }, s)
    | none, [] => (tblRes stNotFound t, s)
    | none, (p, e) :: _ =>
      let ok (e : Entry) : TblRes := { tblRes stOk t with hit := true, ovf := isOvfPos p, entry := some e, pos := p }
      match op with
      | 2 =>
        let e' := { e with action := data }
        (ok e', setEntry s p (some e'))
      | 4 =>
        let e' := { e with action := addCounter e.action arg (valOf data) }
        (ok e', setEntry s p (some e'))
      | _ => (ok e, removeEntry s d p)

/-- The checks of a request that its descriptor decides (R204, first stage): `lenA` is the number of data words that the operation gives. -/
def descCheck (x : Desc) (op keyLen lenA arg : Nat) : Option Nat :=
  if !x.en then some stBadArg
  else if (op = 1 ∨ op = 2) ∧ lenA ≠ descA x then some stBadArg
  else if op = 4 ∧ (lenA ≠ 2 ∨ arg + 2 > descA x) then some stBadArg
  else if keyLen = 0 ∨ keyLen > 24 ∨ keyLen ≠ x.keyWords then some stKeyLen
  else none

/-- Perform a dynamic write of any source on a die: it goes to the region of the newest committed slot (R200, R205). -/
def dynWrite (s : State) (d t op : Nat) (key data : List Word) (arg : Nat) (src : Word) : TblRes × State :=
  let x := curDesc s d t
  match descCheck x op key.length data.length arg with
  | some st => (tblRes st t, s)
  | none =>
    if !x.dyn then (tblRes stReadOnly t, s)
    else if op = 1 then insertEntry s d t x (dynEntry s d t x (maskKey x key) data) src
    else writeFound s d t op x (maskKey x key) data arg

/-- The first stage of R204 for a forager request: none where it passes. -/
def reqCheck (s : State) (r : FgReq) : Option Nat :=
  let d := thrDie r.tid
  if r.bad ∨ r.op > 5 then some stBadArg
  else if r.op = 5 then
    let g := r.tableId % 16
    let ms := groupMembers s d r.gslot g
    if getRS s .tblGrpCfg d r.gslot g % 2 = 0 then some stBadArg
    else if r.key.length = 0 ∨ r.key.length > 24 ∨ ms.any (fun t => (tblDesc s d r.gslot t).keyWords ≠ r.key.length) then some stKeyLen
    else if ms.any (fun t => !mayLookup s d r.pdom t) then some stDenied
    else none
  else
    let x := tblDesc s d r.gslot r.tableId
    match descCheck x r.op r.key.length r.data.length r.arg with
    | some st => some st
    | none =>
      if r.op = 0 then (if mayLookup s d r.pdom r.tableId then none else some stDenied)
      else if !mayWriteTbl s d r.pdom r.tableId then some stDenied
      else if !x.dyn then some stReadOnly
      else none

/-- The 32 words of a result slot (R203). -/
def resultWords (r : TblRes) (insert : Bool) : List Word :=
  let st := match r.entry with | some e => e.static_ | none => false
  let w0 := nw (r.status * 4096 + (if r.hit then 2048 else 0) + (if r.ovf then 1024 else 0) + (if r.deepMiss then 512 else 0) +
    (if st then 256 else 0) + r.tableId)
  match r.entry with
  | some e =>
    if r.status = stOk then
      w0 :: (if insert then nw r.moves else entryHeader e) :: fitTo 30 0 (e.key ++ e.action)
    else w0 :: List.replicate 31 0
  | none => w0 :: List.replicate 31 0

/-- A request with STATUS 4 or above counts and is recorded (R204). -/
def countReqErr (s : State) (q : FgReq) (r : TblRes) : State :=
  if r.status ≥ 4 then
    let d := thrDie q.tid
    record (cnt s .tblCntReqErr d 0) d 0x5003 (thrMaster q.tid) [nw q.tid, nw r.status, nw q.op, nw q.tableId]
  else s

/-- The outcome of a request goes to the result slot that waits for it; one whose thread has been reset is discarded. -/
def answer (s : State) (q : FgReq) (r : TblRes) : State :=
  modT s q.tid (fun x =>
    { x with results := x.results.map (fun y =>
        if y.id = q.id then
          { y with lookup := none, ready := true, words := resultWords r (q.op = 1), poison := decide (r.status = stUncorr) }
        else y) })

/-- Perform a lookup (R205, R210). -/
def performLookup (s : State) (q : FgReq) : State :=
  let d := thrDie q.tid
  let named := if q.op = 5 then 0 else q.tableId
  let (r, s) :=
    match reqCheck s q with
    | some st => (tblRes st named, s)
    | none => if q.op = 5 then groupLookup s d q.gslot (q.tableId % 16) q.key else probe s d q.gslot q.tableId q.key q.miss
  answer (countReqErr s q r) q r

/-- Reads waiting at the DRAM controller of a die (R345). -/
def dramReqs (s : State) (d : Nat) : List DramReq := kget s.memo.queue d []
def setDramReqs (s : State) (d : Nat) (l : List DramReq) : State :=
  { s with memo := { s.memo with queue := kset s.memo.queue d l [] } }

/-- GiB of a rank of an organisation (R341). -/
def rankGib (s : State) (d : Nat) : Nat :=
  match fieldR s .memDramCfg d 0 18 3 with
  | 0 => 16 | 1 => 24 | 2 => 32 | 3 => 32 | 4 => 48 | _ => 64

/-- The channel of a block (R342) and its rank: the second rank holds the upper half of its channel (PRESUMED, log entry 75). -/
def blockChan (block : Nat) : Nat := block / 64 % 2
def blockRank (s : State) (d block : Nat) : Nat :=
  if fieldR s .memDramCfg d 0 21 1 = 1 ∧ block / 128 * 64 + block % 64 ≥ rankGib s d * 16777216 then 1 else 0
/-- The key of the rank of a block. -/
def rankKey (s : State) (d block : Nat) : Nat := (d * 2 + blockChan block) * 2 + blockRank s d block

/-- A request arrives at the controller: its rank leaves power-down (R351). -/
def addDramReq (s : State) (d : Nat) (r : DramReq) : State :=
  let s := setDramReqs s d (dramReqs s d ++ [r])
  { s with memo := { s.memo with down := kset s.memo.down (rankKey s d r.block) false false } }

/-- A deep lookup that misses asks DRAM for its bucket; misses to one bucket share one read (R211). -/
def deepRead (s : State) (d : Nat) (x : Desc) (key : List Word) : State :=
  let b := homeOf x key
  let blk := deepBlock x b
  if (dramReqs s d).any (fun r => r.port = 0 && r.block = blk) then s
  else addDramReq s d ⟨0, mono s d, blk, descRows x, deepTagKey d x b, b⟩

/-- Whether the DRAM read of a lookup is still to come. -/
def awaitsDram (s : State) (q : FgReq) : Bool :=
  q.miss && (let x := tblDesc s (thrDie q.tid) q.gslot q.tableId
             (dramReqs s (thrDie q.tid)).any (fun r => r.port = 0 && r.block = deepBlock x (homeOf x (maskKey x q.key))))

/-- A lookup as it reaches its forager: one that misses the flow cache waits for DRAM. -/
def startLookup (s : State) (q : FgReq) : FgReq × State :=
  let d := thrDie q.tid
  let x := tblDesc s d q.gslot q.tableId
  let key := maskKey x q.key
  if q.op = 0 ∧ (reqCheck s q).isNone ∧ deepMiss s d x key then ({ q with miss := true }, deepRead s d x key) else (q, s)

/-- Launch a request of a thread into a result slot: the scoreboard bit is set; a write that passes the first stage goes to its engine. -/
def launch (s : State) (q : FgReq) : State :=
  let (q, s) := startLookup s q
  let s := modT s q.tid (fun x =>
    { x with sb := x.sb ||| BitVec.ofNat 9 (2 ^ q.slot),
             results := x.results.filter (fun y => y.slot ≠ q.slot) ++
               [⟨q.slot, q.id, if q.op = 0 ∨ q.op = 5 then some q else none, false, [], false⟩] })
  if q.op = 0 ∨ q.op = 5 then s
  else
    match reqCheck s q with
    | some st =>
      let r := tblRes st q.tableId
      answer (countReqErr s q r) q r
    | none => sendWrite s (engKey (thrDie q.tid) q.tableId) (.forager q)

/-- FORAGER_RESULT: the result arrives at its slot, clears the scoreboard bit and raises FORAGER (R202, R203). -/
def deliverResult (s : State) (tid slot : Nat) : State :=
  match (getT s tid).results.find? (fun y => y.slot = slot) with
  | none => s
  | some y =>
    let s := match y.lookup with | some q => if awaitsDram s q then s else performLookup s q | none => s
    match (getT s tid).results.find? (fun y => y.slot = slot) with
    | none => s
    | some y =>
      if y.ready then
        let base := tid * 0x2000 + 0x1900 + 32 * slot
        let s := forEach (List.range 32) (fun s k => setMem s (base + k) (wordAt y.words k)) s
        let s :=
          if y.poison then { s with core := { s.core with poison := range' (base + 1) 31 ++ s.core.poison } } else s
        let s := modT s tid (fun x =>
          { x with results := x.results.filter (fun z => z.slot ≠ slot), sb := x.sb &&& ~~~ BitVec.ofNat 9 (2 ^ slot) })
        raiseEvent s tid 9
      else s

def execForagerResult (tid slot : Nat) (s : State) : Host.Outcome State Fault Refusal := .next (deliverResult s tid slot)

/-! ## The write engines (R198, R232, R236) -/

/-- A refresh writes NOW when its position still holds the key with another stamp (R232). -/
def doRefresh (s : State) (d p : Nat) (key : List Word) : State :=
  modEntry s p (fun e => if e.key = key then { e with stamp := ageNow s d } else e)

/-- Perform one forager write. -/
def doForager (s : State) (q : FgReq) : State :=
  let (r, s) := dynWrite s (thrDie q.tid) q.tableId q.op q.key q.data q.arg (thrMaster q.tid)
  answer (countReqErr s q r) q r

/-- TABLE_WRITE: the engine performs the request at its head, where that is a forager's. -/
def execTableWrite (die engine : Nat) (s : State) : Host.Outcome State Fault Refusal :=
  .next (
    match engineOf s (die * 4 + engine) with
    | .forager q :: rest => doForager (setEngine s (die * 4 + engine) rest) q
    | _ => s)

/-- STAMP_REFRESH: the engine performs the refresh at its head. -/
def execStampRefresh (die engine : Nat) (s : State) : Host.Outcome State Fault Refusal :=
  .next (
    match engineOf s (die * 4 + engine) with
    | .refresh _ p key :: rest => doRefresh (setEngine s (die * 4 + engine) rest) die p key
    | _ => s)

/-! ## The ports of R201 -/

/-- Requests of a cell that wait before a full engine FIFO. -/
def heldOf (s : State) (c : Nat) : Nat :=
  sumN ((List.range 4).map (fun k =>
    (((engineOf s (cellDie c * 4 + k)).drop 64).filter (fun r =>
      match r with
      | .forager q => decide (thrCell q.tid = c)
      | _ => false)).length))

/-- Private words from `a` upward. -/
def privWords (s : State) (t a n : Nat) : List Word := (List.range n).map (fun k => memAt s (flatAddr s t (a + k)))

/-- The request that a thread has staged (R201). -/
def stagedReq (s : State) (t slot id : Nat) : FgReq :=
  let op := (stage s t 0x0300).toNat % 8
  let ka := (stage s t 0x0302).toNat
  let kl := (stage s t 0x0303).toNat
  let da := (stage s t 0x0304).toNat
  let dl := if op = 1 ∨ op = 2 ∨ op = 4 then (stage s t 0x0305).toNat else 0
  let bad := (kl ≠ 0 ∧ ka + kl > 0x1000) ∨ (dl ≠ 0 ∧ da + dl > 0x1000)
  let tbl := (stage s t 0x0301).toNat
  { id := id, tid := t, op := op, tableId := if op = 5 then tbl % 16 else tbl % 64, slot := slot, gslot := thrSlot s t,
    pdom := thrDom s t, key := if bad then [] else privWords s t ka kl, data := if bad then [] else privWords s t da dl,
    arg := (stage s t 0x0306).toNat, bad := decide bad, miss := false }

/-- A write to io:FG_GO (R202): it does not issue while its slot's scoreboard bit is set or the cell's request queue is full. -/
def fgGo (s : State) (t : Nat) (v : Word) : Option State :=
  let slot := v.toNat % 8
  if (getT s t).sb.getLsbD slot ∨ heldOf s (thrCell t) ≥ 8 then none
  else
    let (id, s) := newId s
    some (launch s (stagedReq s t slot id))

end Sys2Proof.Machine
end

