-- ==== Sys2Proof/Machine/Guarantee.lean ====
section
/-!
DEFINITION. The suspended bounds of each die (R411 to R413) and the package claim table (R379 to R382).
-/

namespace Sys2Proof.Machine

/-! ## FLT.GUARANTEE (R411, R413) -/

/-- Bit `b` of a number where `c` holds. -/
def bitIf (b : Nat) (c : Bool) : Nat := if c then 2 ^ b else 0

/-- Whether fault masking holds a resource. -/
def masked (s : State) (cls idx : Nat) : Bool := match getClaim s cls idx with | some c => decide (c.rank = 3) | none => false

/-- NO_CAPLOSS of a die (R382). -/
def noCaploss (s : State) (d : Nat) : Bool := decide (fieldR s .kprClaimPolicy s.pkg.lead 0 d 1 = 1)

/-- Whether the cell bound of comb `k` of die `d` is suspended now (R411, R426). Stopping every slice with CELL_EN counts as stopped by
command (DEDUCED, log entry 40). -/
def cellBound (s : State) (d k : Nat) : Bool :=
  (masked s 2 (d * 8 + k) && noCaploss s d) || decide (fieldR s .inspCombStat d k 11 1 = 1) ||
    decide (fieldR s .inspCombStat d k 12 1 = 1) || decide (fieldR s .inspCfg d 0 21 1 = 0)

/-- Whether bank inspection of group `g` (0 tables, 1 and 2 buffers) of die `d` is suspended now. -/
def bankBound (s : State) (d g : Nat) : Bool :=
  (if g = 0 then masked s 3 d else masked s 4 (d * 2 + g - 1)) || (kget s.insp.stopGroups d 0).getLsbD g ||
    decide (fieldR s .inspCfg d 0 22 1 = 0)

/-- The bits of FLT.GUARANTEE whose conditions hold now. TIME and PARTNER concern the lead (DEDUCED, log entry 40). -/
def guarNow (s : State) (d : Nat) : Nat :=
  sumN ((List.range 8).map (fun k => bitIf k (cellBound s d k))) +
    sumN ((List.range 3).map (fun g => bitIf (8 + g) (bankBound s d g))) +
    bitIf 11 (decide (fieldR s .timeStatus d 0 2 1 = 1)) +
    bitIf 12 (decide (d = s.pkg.lead) && !(s.time.ptp.valid && s.time.pps.valid)) +
    bitIf 13 (decide (d = s.pkg.lead) && decide (fieldR s .pairStatus d 0 0 3 = 3 ∨ fieldR s .pairStatus d 0 0 3 = 5))

/-- Write FLT.GUARANTEE: a change is recorded and notified (R413). -/
def setGuar (s : State) (d v : Nat) : State :=
  let old := getR s .fltGuarantee d 0
  if v = old then s else recordF (setR s .fltGuarantee d 0 v) 13 d 0x0015 (keeperId d) [nw d, nw v, nw (Nat.xor v old)]

/-- How long a bound stays suspended after its condition has ended (R411); none for a bit that an event restores. -/
def restoreNs (b : Nat) : Option Nat :=
  if b < 8 then some (60 * nsPerS) else if b < 11 then some (15 * 60 * nsPerS) else none

/-- Keep the time at which bit `b` of die `d` is restored. -/
def setClear (s : State) (d b : Nat) (v : Nat) : State :=
  { s with insp := { s.insp with clears := kset s.insp.clears (d * 32 + b) v 0 } }

/-- One bit of FLT.GUARANTEE after its conditions have changed: its new value, and the state with its restoration time. -/
def guarBit (d now old : Nat) (a : Nat × State) (b : Nat) : Nat × State :=
  let (v, s) := a
  if now.testBit b then (v + 2 ^ b, setClear s d b 0)
  else if !old.testBit b then (v, s)
  else match restoreNs b with
    | some n =>
      if kget s.insp.clears (d * 32 + b) 0 = 0 then (v + 2 ^ b, setClear s d b (mono s d + n + 1)) else (v + 2 ^ b, s)
    | none => if b = 11 then (v + 2 ^ b, s) else (v, s)

/-- Bring FLT.GUARANTEE of a die up to date after a change of what it rests on. -/
def refreshGuar (s : State) (d : Nat) : State :=
  let (v, s) := (List.range 14).foldl (guarBit d (guarNow s d) (getR s .fltGuarantee d 0)) (0, s)
  setGuar s d v

def refreshAllGuar (s : State) : State := forEach (allDies s) refreshGuar s

/-- Restore the bounds whose time has come (R411). -/
def dueGuar (s : State) (d : Nat) : State :=
  let due := (List.range 11).filter (fun b =>
    let c := kget s.insp.clears (d * 32 + b) 0
    decide (c ≠ 0) && decide (mono s d + 1 ≥ c))
  if due = [] then s
  else
    let v := due.foldl (fun v b => if v.testBit b then v - 2 ^ b else v) (getR s .fltGuarantee d 0)
    setGuar (forEach due (fun s b => setClear s d b 0) s) d v

/-- The first audit after a freeze has completed (R411). -/
def auditDone (s : State) (d : Nat) : State :=
  let v := getR s .fltGuarantee d 0
  if v.testBit 11 ∧ fieldR s .timeStatus d 0 2 1 = 0 then setGuar s d (v - 2 ^ 11) else s

/-! ## Claims (R379 to R382) -/

/-- The die that a resource belongs to. -/
def claimDie (s : State) (cls idx : Nat) : Nat :=
  match cls with
  | 1 => s.pkg.lead
  | 2 => idx / 8
  | 3 => idx
  | 4 => idx / 2
  | 5 => idx
  | _ => idx / 8

/-- The five words of a conflict (R381). -/
def conflictWords (cls idx : Nat) (c : Claim) : List Word := [nw cls, nw idx, nw c.rank, c.feature, c.holder]

/-- A SES_NOTICE about a claim to the session that holds or held it (R373, R380). -/
def claimNotice (s : State) (who : Word) (kind : Nat) (ws : List Word) : State :=
  if who.toNat / 16384 = 2 then
    let i := who.toNat % 64
    match session s i with
    | some x => if x.mask.getLsbD 7 then noteTo s i 0x8007 (nw kind :: ws) else s
    | none => s
  else s

/-- The default share of a DRAM port (R344). -/
def defaultShare (p : Nat) : Nat := match p with | 0 => 48 | 1 => 4 | 2 => 4 | _ => 2
def shareReg (p : Nat) : RegName :=
  match p with
  | 0 => .memDramShare0 | 1 => .memDramShare1 | 2 => .memDramShare2 | 3 => .memDramShare3 | 4 => .memDramShare4 | _ => .memDramShare5

/-- What a change of a claim does at once: the copy engine is suspended or resumes (R308), a DRAM share changes, INSP.COMB_STAT.SPARE shows
that fault masking holds the spare. -/
def claimEffect (s : State) (cls idx : Nat) : State :=
  match cls, getClaim s cls idx with
  | 2, some c => if c.rank = 3 then setField s .inspCombStat (idx / 8) (idx % 8) 0 5 31 else s
  | 5, some c =>
    if c.rank ≥ 2 then
      recordK { s with egr := { s.egr with suspended := kset s.egr.suspended idx true false } } idx 0x8007 [nw idx, c.holder]
    else { s with egr := { s.egr with suspended := kset s.egr.suspended idx false false } }
  | 5, none => { s with egr := { s.egr with suspended := kset s.egr.suspended idx false false } }
  | 6, some c => setR s (shareReg (idx % 8)) (idx / 8) 0 c.value
  | 6, none => setR s (shareReg (idx % 8)) (idx / 8) 0 (defaultShare (idx % 8))
  | _, _ => s

/-- After a change: its effect, its record with the guarantees it suspends, FLT.GUARANTEE (R380, R382, R413). -/
def claimChanged (s : State) (cls idx rank : Nat) (holder : Word) : State :=
  let d := claimDie s cls idx
  let s := claimEffect s cls idx
  let new := Nat.land (guarNow s d) (16383 - getR s .fltGuarantee d 0)
  let s := recordK s s.pkg.lead 0x0004 [nw cls, nw idx, nw rank, holder, if new ≠ 0 then 1 else 0]
  refreshGuar s d

/-- Request a resource (R380): the holder that refuses it, or the state with the claim granted. -/
def takeClaim (s : State) (cls idx rank : Nat) (feature holder : Word) (value : Nat) : Except Claim State :=
  match getClaim s cls idx with
  | none => .ok (claimChanged (setClaim s cls idx (some ⟨rank, feature, holder, value, none⟩)) cls idx rank holder)
  | some c =>
    if c.rank < rank then
      let n : Claim := ⟨rank, feature, holder, value, some (c.rank, c.feature, c.holder, c.value)⟩
      .ok (claimChanged (claimNotice (setClaim s cls idx (some n)) c.holder 2 (conflictWords cls idx n)) cls idx rank holder)
    else .error c

/-- Free a resource: it returns to the holder that was preempted (R380). -/
def freeClaim (s : State) (cls idx : Nat) : State :=
  match getClaim s cls idx with
  | none => s
  | some c =>
    match c.under with
    | some (r, f, h, v) =>
      let n : Claim := ⟨r, f, h, v, none⟩
      claimChanged (claimNotice (setClaim s cls idx (some n)) h 3 (conflictWords cls idx n)) cls idx r h
    | none => claimChanged (setClaim s cls idx none) cls idx 0 c.holder

/-- A preempted claim of a holder ends while another holds the resource: nothing returns to it. -/
def dropUnder (s : State) (cls idx : Nat) : State :=
  match getClaim s cls idx with
  | some c => setClaim s cls idx (some { c with under := none })
  | none => s

/-- Turn a claim of inspection into one of fault masking (R427, R432). -/
def raiseClaim (s : State) (cls idx value : Nat) (holder : Word) : State :=
  let under := match getClaim s cls idx with | some c => if c.rank = 1 then some (c.rank, c.feature, c.holder, c.value) else c.under | none => none
  claimChanged (setClaim s cls idx (some ⟨3, 0, holder, value, under⟩)) cls idx 3 holder

end Sys2Proof.Machine
end

