-- ==== Sys2Proof/Machine/Time.lean ====
section
/-!
DEFINITION. External time and the schedule (R31 to R51): sources, slews, steps and freezes, leap seconds, schedule entries and their
firing, alarms.
-/

namespace Sys2Proof.Machine

/-- The clock of the lead. -/
def leadMono (s : State) : Nat := mono s s.pkg.lead

/-- A signed number in `n` words, held within its range. -/
def intWords (n : Nat) (v : Int) : List Word := wordsOf n (encInt (16 * n) (clampInt (16 * n) v))

/-! ## Registers (R44, R51) -/

def srcCtl (s : State) : Nat := getR s .timeSrcCtl s.pkg.lead 0
/-- Whether tally minutes are UTC minutes (R44). -/
def utcMode (s : State) : Bool := bitsOf (srcCtl s) 5 1 = 1
/-- TIME.UTC_OFFSET.OFFSET, signed. -/
def utcOffset (s : State) : Int := (BitVec.ofNat 16 (getR s .timeUtcOffset s.pkg.lead 0)).toInt
/-- Source in use (TIME.STATUS.SOURCE). -/
def sourceInUse (s : State) : Nat := fieldR s .timeStatus s.pkg.lead 0 4 2
/-- Write bits of TIME.STATUS on every die. -/
def setStatus (s : State) (lo w x : Nat) : State := setFieldAll s .timeStatus 0 lo w x

/-! ## The schedule (R46, R47) -/

def schedKey (d i : Nat) : Nat := d * 256 + i
def getSched (s : State) (d i : Nat) : Option SchedEntry := kget s.time.sched (schedKey d i) none
def setSched (s : State) (d i : Nat) (x : Option SchedEntry) : State :=
  { s with time := { s.time with sched := kset s.time.sched (schedKey d i) x none } }

/-- Entries of the Keeper (R46). The manual does not number them (DESIGN CHOICE, log entry 34). -/
def entGenCommit : Nat := 0
def entTallyClose : Nat := 1
def entAgeTick : Nat := 2
def entAuditStart : Nat := 3
def entInspect : Nat := 4
def entHeartbeat (port : Nat) : Nat := 6 + port
def entCheckpoint : Nat := 8

/-- Order of the actions at equal T (R47). -/
def actionOrder (a : Nat) : Nat := if a = 0x10 then 8 else a

/-- A system entry of the Keeper. -/
def sysEntry (action : Nat) (periodic : Bool) (t period : Nat) (arg : Word) : SchedEntry :=
  { action := action, periodic := periodic, late := false, t := t, period := period, domain := 0, prio := 0, arg := arg, armer := 0 }

/-- The entries of die `d`, with their indexes. -/
def entriesOf (s : State) (d : Nat) : List (Nat × SchedEntry) :=
  s.time.sched.filterMap (fun e => if e.1 / 256 = d then e.2.map (fun x => (e.1 % 256, x)) else none)

/-- Whether entry `a` fires before entry `b` (R47). -/
def firesBefore (a b : Nat × SchedEntry) : Bool :=
  decide (a.2.t < b.2.t) || (decide (a.2.t = b.2.t) &&
    (decide (actionOrder a.2.action < actionOrder b.2.action) ||
      (decide (actionOrder a.2.action = actionOrder b.2.action) && decide (a.1 ≤ b.1))))

/-- The first entry to fire. -/
def firstEntry : List (Nat × SchedEntry) → Option (Nat × SchedEntry)
  | [] => none
  | a :: t => match firstEntry t with | none => some a | some b => if firesBefore a b then some a else some b

def firedOf (s : State) (d : Nat) : List Fired := kget s.time.fired d []
def setFired (s : State) (d : Nat) (l : List Fired) : State :=
  { s with time := { s.time with fired := kset s.time.fired d l [] } }

/-- Take the oldest firing of an action that its act has not yet taken. -/
def takeFired (s : State) (d action : Nat) : Option (Fired × State) :=
  match (firedOf s d).find? (fun f => f.action = action) with
  | some f => some (f, setFired s d ((firedOf s d).erase f))
  | none => none

/-- The shift of a TALLY_CLOSE whose minute is the leap minute (R45): its nominal close is the leap's instant less the leap itself. -/
def leapShift (s : State) (e : SchedEntry) : Int :=
  let settle := fieldR s .tallyCloseCtl s.pkg.lead 0 16 16 * 1000
  let neg := fieldR s .timeStatus s.pkg.lead 0 8 1 = 1
  let by_ : Int := if neg then -1 else 1
  if e.action = 2 ∧ utcMode s ∧ s.time.leap ≠ 0 ∧ (((e.t - settle) / nsPerS : Nat) : Int) = s.time.leap - by_ then by_ * nsPerS else 0

/-- Move T of a TALLY_CLOSE entry by a pending leap (R45). -/
def leapMoved (s : State) (e : SchedEntry) : SchedEntry := { e with t := ((e.t : Int) + leapShift s e).toNat }

/-- The last forward step of a die: the STIME before it and after it (R42, R47). -/
def jumped (s : State) (d : Nat) : Nat × Nat := kget s.time.jumped d (0, 0)

/-- Fire entry `i` of die `d` (R47): a one-shot entry becomes free, a periodic one advances. -/
def fireEntry (s : State) (d i : Nat) (e : SchedEntry) : State :=
  let j := jumped s d
  let late := decide (j.1 < e.t) && decide (e.t ≤ j.2)
  let p := e.period * 1000
  let n := if late ∧ e.periodic then (j.2 - e.t) / p + 1 else 1
  let s := setFired s d (firedOf s d ++ [⟨e.action, e.t, stime s d, late, n, e⟩])
  if e.periodic then setSched s d i (some (leapMoved s { e with t := e.t + n * p, late := late })) else setSched s d i none

/-- SCHED_FIRE: the next entry whose T STIME has reached fires (R47). -/
def execSchedFire (die : Nat) (s : State) : Host.Outcome State Fault Refusal :=
  .next (
    match firstEntry ((entriesOf s die).filter (fun e => decide (e.2.t ≤ stime s die))) with
    | some (i, e) => fireEntry s die i e
    | none => s)

/-! ## Alarms (R48 to R50) -/

/-- The work item of an alarm: code, T, the STIME of the firing (R74). -/
def alarmArgs (f : Fired) : List Word := [f.entry.arg] ++ timeWords f.t ++ timeWords f.at_

def alarmsAt (s : State) (d q : Nat) : List Item := kget s.time.alarms (d * 128 + q) []
def setAlarms (s : State) (d q : Nat) (l : List Item) : State :=
  { s with time := { s.time with alarms := kset s.time.alarms (d * 128 + q) l [] } }

/-- Put an alarm that waits at the schedule into its queue, under the slot current now (R74). -/
def enterAlarm (s : State) (d : Nat) (it : Item) : State :=
  enqueue s d { it with gslot := (slotAt s d (stime s d)).getD 0 }

/-- PROGRAM_ALARM: a fired alarm posts its work item, or waits at the schedule while its queue holds back (R48). -/
def execProgramAlarm (die : Nat) (s : State) : Host.Outcome State Fault Refusal :=
  .next (
    match takeFired s die 0x10 with
    | none => s
    | some (f, s) =>
      let it := plainItem s die .alarm f.entry.domain f.entry.prio f.late (alarmArgs f) 0
      let q := wqIndex it.pdom it.level
      if alarmsAt s die q = [] ∧ !heldBack s die q then enterAlarm s die it else setAlarms s die q (alarmsAt s die q ++ [it]))

/-- ALARM_DELIVER: the first waiting alarm of a queue that accepts items enters it (R48). -/
def execAlarmDeliver (die : Nat) (s : State) : Host.Outcome State Fault Refusal :=
  .next (
    match (List.range 128).find? (fun q => decide (alarmsAt s die q ≠ []) && !heldBack s die q) with
    | none => s
    | some q =>
      match alarmsAt s die q with
      | it :: rest => enterAlarm (setAlarms s die q rest) die it
      | [] => s)

/-- A read of io:ALM_ARM (R49): the word returned. -/
def armAlarm (s : State) (t : Nat) : Word × State :=
  let d := thrDie t
  let ns := valOf [stage s t 0x0413, stage s t 0x0414]
  let sec := valOf [stage s t 0x0410, stage s t 0x0411, stage s t 0x0412]
  let ctl := (stage s t 0x0415).toNat
  let e : SchedEntry :=
    { action := 0x10, periodic := false, late := false, t := sec * nsPerS + ns, period := 0, domain := ctl / 4096,
      prio := ctl / 256 % 8, arg := stage s t 0x0416, armer := t }
  if ns > 999999999 then (0x2000, s)
  else
    match (range' 192 64).find? (fun i => (getSched s d i).isNone) with
    | none => (0x4000, s)
    | some i =>
      if e.t ≤ stime s d then (nw (0x8000 + i), setFired s d (firedOf s d ++ [⟨0x10, e.t, stime s d, true, 1, e⟩]))
      else (nw (0x8000 + i), setSched s d i (some e))

/-- A write to io:ALM_CANCEL (R50): none when it faults IO_DENIED. -/
def cancelAlarm (s : State) (t : Nat) (v : Word) : Option State :=
  let d := thrDie t
  let i := v.toNat % 256
  if i < 192 then none
  else
    match getSched s d i with
    | none => some s
    | some e => if thrCell e.armer = thrCell t then some (setSched s d i none) else none

/-! ## Minutes (R44, R45, R321, R325) -/

/-- The UTC offset that holds at a TAI second. -/
def offsetAt (s : State) (sec : Int) : Int :=
  let l := s.time.lastLeap
  if l.1 ≠ 0 ∧ sec < l.1 then l.2
  else if s.time.leap ≠ 0 ∧ sec ≥ s.time.leap then
    utcOffset s + if fieldR s .timeStatus s.pkg.lead 0 8 1 = 1 then -1 else 1
  else utcOffset s

/-- The first TAI second of a minute. -/
def minuteStart (s : State) (k : Nat) : Int :=
  if utcMode s then
    let t : Int := 60 * k + utcOffset s
    let l := s.time.lastLeap
    if l.1 ≠ 0 ∧ t < l.1 then 60 * k + l.2
    else if s.time.leap = 0 then t
    else if fieldR s .timeStatus s.pkg.lead 0 8 1 = 1 then (if t > s.time.leap then t - 1 else t)
    else if t ≥ s.time.leap - 1 then t + 1 else t
  else 60 * k

/-- The minute that contains a TAI second (R321). An inserted second belongs to the minute that it ends (R45). -/
def minuteOfSec (s : State) (sec : Int) : Nat :=
  if utcMode s then
    let k := ((sec - offsetAt s sec) / 60).toNat
    if minuteStart s k > sec then k - 1 else k
  else (sec / 60).toNat

/-- The minute that contains a time. -/
def minuteOf (s : State) (t : Nat) : Nat := minuteOfSec s ((t / nsPerS : Nat) : Int)

/-- TALLY.CLOSE_CTL.SETTLE, in ns. -/
def settleNs (s : State) : Nat := fieldR s .tallyCloseCtl s.pkg.lead 0 16 16 * 1000

/-- The T of the close of the minute that contains a time (R323). -/
def closeOf (s : State) (t : Nat) : Nat := (minuteStart s (minuteOf s t + 1)).toNat * nsPerS + settleNs s

/-- Where the minutes have moved, the Keeper moves the TALLY_CLOSE entry of every die to the end of its minute (R45, R323). An entry that has
fallen due fires where it stands. -/
def moveCloses (s : State) : State :=
  forEach (allDies s) (fun s d =>
    match getSched s d entTallyClose with
    | some e => if e.t > stime s d then setSched s d entTallyClose (some { e with t := closeOf s (stime s d - settleNs s) }) else s
    | none => s) s

def markOf (s : State) (m : Nat) : Nat := kget s.tal.marks m 0
/-- Set bit `b` of a minute's marks: 0 HOLDOVER, 1 STEP. -/
def setMark (s : State) (b m : Nat) : State :=
  let v := markOf s m
  { s with tal := { s.tal with marks := kset s.tal.marks m (if v.testBit b then v else v + 2 ^ b) 0 } }

/-- The lead leaves holdover: every minute of it is marked (R325). -/
def endHoldover (s : State) : State :=
  match s.tal.holdFrom with
  | none => s
  | some t =>
    let a := minuteOf s t
    let b := minuteOf s (stime s s.pkg.lead)
    forEach (range' a (b + 1 - a)) (fun s m => setMark s 0 m) { s with tal := { s.tal with holdFrom := none } }

/-! ## Sources (R34 to R38) -/

def srcOf (s : State) (x : TimeSource) : Source :=
  match x with
  | .ptp => s.time.ptp
  | .pps => s.time.pps
  | _ => ⟨true, 0, 0⟩

def setSrc (s : State) (x : TimeSource) (v : Source) : State :=
  match x with
  | .ptp => refreshGuar { s with time := { s.time with ptp := v } } s.pkg.lead
  | .pps => refreshGuar { s with time := { s.time with pps := v } } s.pkg.lead
  | _ => s

def srcCode (x : TimeSource) : Nat := match x with | .none => 0 | .ptp => 1 | .pps => 2 | .host => 3

/-- The source of a PRIMARY or SECONDARY code. -/
def srcOfCode (c : Nat) : TimeSource := match c with | 0 => .ptp | 1 => .pps | 2 => .host | _ => .none

/-- Whether a source may be used: it has stayed valid for 10 s (R35). The host source never becomes invalid. -/
def srcReady (s : State) (x : TimeSource) : Bool :=
  match x with
  | .none => false
  | .host => true
  | x => (srcOf s x).valid && decide (leadMono s ≥ (srcOf s x).since + 10 * nsPerS)

/-- The lead enters holdover (R38). `last` is the source that last became invalid. -/
def enterHoldover (s : State) (last : TimeSource) : State :=
  if fieldR s .timeStatus s.pkg.lead 0 1 1 = 1 then s
  else
    let s := setStatus s 1 1 1
    let s := { s with tal := { s.tal with holdFrom := some (stime s s.pkg.lead) } }
    recordK s s.pkg.lead 0x1003 [nw (srcCode last), if s.time.tenMHz.valid ∧ bitsOf (srcCtl s) 4 1 = 1 then 0 else 1]

/-- Choose the source in use (R35): the primary while it is usable, else the secondary, else holdover. -/
def selectSource (s : State) (last : TimeSource) : State :=
  let p := srcOfCode (bitsOf (srcCtl s) 0 2)
  let q := srcOfCode (bitsOf (srcCtl s) 2 2)
  let keep (x : TimeSource) : Bool := srcReady s x || (decide (sourceInUse s = srcCode x) && x ≠ .none && (srcOf s x).valid)
  if keep p then setStatus (setStatus (endHoldover s) 4 2 (srcCode p)) 1 1 0
  else if keep q then setStatus (setStatus (endHoldover s) 4 2 (srcCode q)) 1 1 0
  else enterHoldover (setStatus s 4 2 0) last

/-- SOURCE_TIMEOUT: a source becomes invalid (R35). The manual gives PTP's limit in announce intervals, which it does not fix; the
happening itself says that they have passed. -/
def execSourceTimeout (src : TimeSource) (s : State) : Host.Outcome State Fault Refusal :=
  .next (
    let v := srcOf s src
    let due := match src with
      | .ptp => v.valid
      | .pps => v.valid && decide (leadMono s ≥ v.last + 1100000000)
      | _ => false
    if due then selectSource (setSrc s src { v with valid := false }) src else s)

/-- SOURCE_VALID: a source that has been valid for 10 s is used again, and holdover ends (R35, R38). -/
def execSourceValid (src : TimeSource) (s : State) : Host.Outcome State Fault Refusal :=
  .next (if srcReady s src then selectSource s .none else s)

/-- The function held on a TIME pin (R34, R379): 1 PPS in, 2 PPS out, 3 10 MHz in. -/
def pinFunction (s : State) (pin : Nat) : Nat := claimValue s 1 pin

/-- A source is heard: it is valid, since now where it was not. -/
def heard (s : State) (x : TimeSource) : State :=
  let v := srcOf s x
  setSrc s x ⟨true, if v.valid then v.since else leadMono s, leadMono s⟩

/-! ## Leap seconds (R45) -/

/-- The STIME seconds of the lead. -/
def leadSec (s : State) : Int := (stime s s.pkg.lead / nsPerS : Nat)

/-- Set or clear a pending leap second: it takes effect at the end of the UTC day in which it is pending. -/
def setLeap (s : State) (leap61 leap59 : Bool) : State :=
  if leap61 ∨ leap59 then
    let utc := leadSec s - utcOffset s
    let dayEnd := (utc / 86400 + 1) * 86400 + utcOffset s
    let at_ := if leap59 ∧ !leap61 then dayEnd - 1 else dayEnd + 1
    let s := setStatus (setStatus s 7 1 1) 8 1 (if leap59 ∧ !leap61 then 1 else 0)
    let s := { s with time := { s.time with leap := at_ } }
    moveCloses s
  else
    let pend := s.time.leap ≠ 0
    let s := setStatus (setStatus s 7 1 0) 8 1 0
    let s := { s with time := { s.time with leap := 0 } }
    if pend then moveCloses s else s

/-- The UTC offset and a pending leap, as an announce or TIME_UTC_SET gives them (R45). -/
def setUtc (s : State) (offset : Int) (leap61 leap59 : Bool) : State :=
  let moved := offset ≠ utcOffset s
  let s := setLeap (setAll s .timeUtcOffset 0 (encInt 16 offset)) leap61 leap59
  if moved ∧ utcMode s then moveCloses s else s

/-- LEAP_SECOND: the pending leap takes effect, and the offset changes by one (R45). -/
def execLeapSecond (s : State) : Host.Outcome State Fault Refusal :=
  .next (
    if s.time.leap ≠ 0 ∧ leadSec s ≥ s.time.leap then
      let neg := fieldR s .timeStatus s.pkg.lead 0 8 1 = 1
      let s := { s with time := { s.time with lastLeap := (s.time.leap, utcOffset s) } }
      let offset := utcOffset s + if neg then -1 else 1
      setUtc { s with time := { s.time with leap := 0 } } offset false false
    else s)

/-! ## Corrections (R40 to R43) -/

/-- Whether a step has been sent and has not yet taken effect (R40). -/
def stepSent (s : State) : Bool := match s.time.correction with | .step _ _ => true | _ => false

/-- The lead measures an offset: TIME.STATUS.LOCKED follows from how long it has stayed within 100 ns. -/
def noteOffset (s : State) (o : Int) : State :=
  { s with time := { s.time with
      offset := o, lockedSince := if -100 ≤ o ∧ o ≤ 100 then some (s.time.lockedSince.getD (leadMono s)) else none } }

/-- Decide a correction (R40 to R42): a slew of at most 1 ms, or a step sent to every die, in effect 20 µs later. -/
def correct (s : State) (o : Int) : State :=
  if stepSent s then s
  else
    let s := noteOffset s o
    let c : Correction :=
      if -1000000 ≤ o ∧ o ≤ 1000000 then .slew o (leadMono s) else .step o (leadMono s + 20000)
    { s with time := { s.time with correction := c } }

/-- TIME_CORRECTION. -/
def execTimeCorrection (offset : Int) (s : State) : Host.Outcome State Fault Refusal := .next (correct s offset)

/-- SLEW_DONE: the slew has applied its offset (R41). -/
def execSlewDone (s : State) : Host.Outcome State Fault Refusal :=
  .next (
    match s.time.correction with
    | .slew 0 _ => { s with time := { s.time with correction := .idle } }
    | _ => s)

/-- Whether STIME of a die is frozen. -/
def frozen (s : State) (d : Nat) : Bool := fieldR s .timeStatus d 0 2 1 = 1

/-- A step takes effect on one die (R42, R43). -/
def stepDie (o : Int) (s : State) (d : Nat) : State :=
  let c := clock s d
  let t := ((c.tod : Int) + o).toNat
  let s := setField s .timeStatus d 0 16 16 (satAdd 16 (fieldR s .timeStatus d 0 16 16) 1)
  let s :=
    if d = s.pkg.lead then
      let s := setMark s 1 (minuteOf s c.stime)
      if t > c.stime then setMark s 1 (minuteOf s t) else s
    else s
  if t > c.stime then
    let s := setField (setClock s d { c with tod := t, stime := t }) .timeStatus d 0 2 1 0
    { s with time := { s.time with jumped := kset s.time.jumped d (c.stime, t) (0, 0) } }
  else refreshGuar (setField (setClock s d { c with tod := t }) .timeStatus d 0 2 1 1) d

/-- STEP_APPLY: the step sent takes effect on every die at its MONO instant; the lead alone records it (R42, R51). -/
def execStepApply (s : State) : Host.Outcome State Fault Refusal :=
  .next (
    match s.time.correction with
    | .step o due =>
      if leadMono s ≥ due then
        let s := recordK s s.pkg.lead 0x1001
          (wordsOf 4 (encInt 64 o) ++ [if o > 0 then 1 else 2, nw (sourceInUse s)])
        let s := { s with time := { s.time with correction := .idle } }
        forEach (allDies s) (stepDie o) s
      else s
    | _ => s)

/-- FREEZE_END: TOD has passed the frozen STIME (R42). -/
def execFreezeEnd (die : Nat) (s : State) : Host.Outcome State Fault Refusal :=
  .next (
    let c := clock s die
    if frozen s die ∧ c.tod > c.stime then setField (setClock s die { c with stime := c.tod }) .timeStatus die 0 2 1 0 else s)

/-! ## Messages and edges (R34, R35, R45) -/

/-- PTP_MESSAGE_RX: the lead hears a Sync, or an announce with clockClass, UTC offset and leap flags (R35, R45). -/
def execPtpMessageRx (m : PtpMsg) (s : State) : Host.Outcome State Fault Refusal :=
  .next (
    if m.clockClass ≥ 187 then
      if s.time.ptp.valid then selectSource (setSrc s .ptp { s.time.ptp with valid := false }) .ptp else s
    else
      let s := if m.sync then heard s .ptp else s
      if sourceInUse s = 1 then
        match m.utcOffset with
        | some o => setUtc s o m.leap61 m.leap59
        | none => s
      else s)

/-- PPS_EDGE: an edge on a pin that has PPS in; a seconds value given with TIME_SET takes effect there (R34, R35). -/
def execPpsEdge (pin : Nat) (s : State) : Host.Outcome State Fault Refusal :=
  .next (
    if pinFunction s pin = 1 ∧ bitsOf (srcCtl s) 6 1 = pin then
      let s := heard s .pps
      match s.time.pendingSet with
      | some v =>
        if stepSent s then s
        else correct { s with time := { s.time with pendingSet := none } } ((v : Int) - tod s s.pkg.lead)
      | none => s
    else s)

/-- PPS_OUT: a pulse starts at a whole second of the lead's STIME, once for each second and never while STIME is frozen (R34). -/
def execPpsOut (pin : Nat) (s : State) : Host.Outcome State Fault Refusal :=
  .next (
    let t := stime s s.pkg.lead
    let sec := t / nsPerS
    if s.pkg.running ∧ pinFunction s pin = 2 ∧ !frozen s s.pkg.lead ∧ t % nsPerS ≤ 2 ∧ kget s.time.ppsLast pin 0 < sec + 1 then
      { s with time := { s.time with ppsLast := kset s.time.ppsLast pin (sec + 1) 0 },
               out := s.out ++ [.pulse pin (sec * nsPerS)] }
    else s)

/-- XCHECK: the once-per-second comparison of PTP and PPS (R36). -/
def execXcheck (diff : Int) (s : State) : Host.Outcome State Fault Refusal :=
  .next (
    let x := bitsOf (srcCtl s) 8 8
    if !s.time.ptp.valid ∨ !s.time.pps.valid ∨ x = 0 then s
    else if diff.natAbs > x * 10 then
      let n := s.time.xfail + 1
      let s := { s with time := { s.time with xfail := n, xpass := 0 } }
      if n = 2 then recordF (setStatus s 6 1 1) 9 s.pkg.lead 0x1002 (keeperId s.pkg.lead) (intWords 2 diff ++ [nw x]) else s
    else
      let n := s.time.xpass + 1
      let s := { s with time := { s.time with xfail := 0, xpass := n } }
      if n ≥ 10 then setStatus s 6 1 0 else s)

/-- TIME_ALIGN_ERROR: a follower's error has exceeded 4 ns for 1 s (R37). -/
def execTimeAlignError (die : Nat) (err : Int) (s : State) : Host.Outcome State Fault Refusal :=
  .next (
    if err.natAbs > 4 ∧ die ≠ s.pkg.lead ∧ usable s die then
      recordK s die 0x1004 (nw die :: intWords 2 err)
    else s)

end Sys2Proof.Machine
end

