-- ==== Sys2Proof/Machine/Learning.lean ====
section
/-!
DEFINITION. Learning, ageing and port guards (R216 to R243): the learn engine, moves and quarantine, limits, remote records, the sweeper,
notifications and learn assists, storm guards.
-/

namespace Sys2Proof.Machine

/-! ## Configuration (R219, R224, R225) -/

def curOf (s : State) (d : Nat) : Nat := (curSlot s d).getD 0
/-- LRN.TBL_CFG of a table in the newest committed slot. -/
def lrnCfg (s : State) (d t : Nat) : Nat := getRS s .lrnTblCfg d (curOf s d) t
def lrnOn (c : Nat) : Bool := bitsOf c 0 1 = 1
def tenEn (c : Nat) : Bool := bitsOf c 6 1 = 1
def ageLimit (c : Nat) : Nat := bitsOf c 16 15

/-- The GPN and the tenant that an action names. -/
def actionGpn (c : Nat) (action : List Word) : Nat := (wordAt action (bitsOf c 1 5)).toNat % 512
def actionTenant (c : Nat) (action : List Word) : Nat := if tenEn c then (wordAt action (bitsOf c 7 5)).toNat else 0

/-- The die of a position. -/
def posDie (p : Nat) : Nat :=
  if isDeepPos p then p / 1099511627776 - 1 else if isOvfPos p then (p - 67108864) / 16384 else p / 4194304

/-- Learned entries of a die, with their positions. -/
def learnedOf (s : State) (d : Nat) : List (Nat × Entry) := (liveEntries s).filter (fun e => e.2.learned && posDie e.1 = d)

/-- Learned entries that name a GPN, and a tenant (R225). -/
def learnedPort (s : State) (d gpn : Nat) : Nat :=
  ((learnedOf s d).filter (fun e => actionGpn (lrnCfg s d e.2.tableId) e.2.action = gpn)).length
def learnedTenant (s : State) (d ten : Nat) : Nat :=
  ((learnedOf s d).filter (fun e => tenEn (lrnCfg s d e.2.tableId) && actionTenant (lrnCfg s d e.2.tableId) e.2.action = ten)).length

/-- LRN.PORT_GUARD of a GPN. -/
def portGuard (s : State) (d gpn : Nat) : Nat := getRS s .lrnPortGuard d (curOf s d) (gpnPort gpn)

def tclassRegs : List RegName :=
  [.lrnTclassLimit0, .lrnTclassLimit1, .lrnTclassLimit2, .lrnTclassLimit3, .lrnTclassLimit4, .lrnTclassLimit5, .lrnTclassLimit6,
   .lrnTclassLimit7, .lrnTclassLimit8, .lrnTclassLimit9, .lrnTclassLimit10, .lrnTclassLimit11, .lrnTclassLimit12,
   .lrnTclassLimit13, .lrnTclassLimit14, .lrnTclassLimit15]

def tclassKey (d slot ten : Nat) : Nat := (d * 4 + slot) * 65536 + ten
/-- The class of a tenant in a slot. -/
def tenantClassOf (s : State) (d slot ten : Nat) : Nat := kget s.tbl.tenantClass (tclassKey d slot ten) 0

/-- The learn limit of a tenant. -/
def tenantLimit (s : State) (d ten : Nat) : Nat :=
  match tclassRegs[tenantClassOf s d (curOf s d) ten]? with
  | some r => getRS s r d (curOf s d) 0 % 1048576
  | none => 0xFFFFF

/-- Whether a count stands at a limit; 0xF_FFFF is no limit. -/
def atLimit (n limit : Nat) : Bool := decide (limit ≠ 0xFFFFF) && decide (n ≥ limit)

/-! ## Notifications and learn assist (R239, R240) -/

/-- The 12 words of a record. -/
def learnRecord (kind : Nat) (remote : Bool) (t gpn old ten moves : Nat) (key : List Word) : List Word :=
  [nw (kind * 4096 + (if remote then 2048 else 0) + t), nw gpn, nw old, nw ten, nw moves, 0] ++ fitTo 6 0 key

/-- Whether a kind is still within 1,000 records in this second of a die's MONO (R239), and its window. -/
def noteWindow (s : State) (d kind : Nat) : Nat × Nat :=
  let w := kget s.tbl.noteWin (d * 16 + kind) (0, 0)
  let sec := mono s d / nsPerS
  if w.1 = sec then w else (sec, 0)

/-- Buffer a record for notification, or count it as lost. -/
def bufferNote (s : State) (d kind : Nat) (ws : List Word) : State :=
  let l := kget s.tbl.notes d []
  let w := noteWindow s d kind
  if l.length ≥ 4096 ∨ w.2 ≥ 1000 then
    { s with tbl := { s.tbl with notesLost := kset s.tbl.notesLost d (min 65535 (kget s.tbl.notesLost d 0 + 1)) 0 } }
  else
    { s with tbl := { s.tbl with notes := kset s.tbl.notes d (l ++ [⟨ws, mono s d⟩]) [],
                                 noteWin := kset s.tbl.noteWin (d * 16 + kind) (w.1, w.2 + 1) (0, 0) } }

/-- A learn-assist item waits at the engine, or is lost when 256 wait. -/
def addAssist (s : State) (d : Nat) (ws : List Word) : State :=
  let c := getRS s .lrnAssistCfg d (curOf s d) 0
  let l := kget s.tbl.assist d []
  if l.length ≥ 256 then cnt s .lrnCntAssistLost d 0
  else
    let it := plainItem s d .assist (bitsOf c 16 4) (bitsOf c 20 3) false (fitTo 16 0 ws) 0
    { s with tbl := { s.tbl with assist := kset s.tbl.assist d (l ++ [it]) [] } }

/-- An outcome that has a kind (R239, R240). -/
def learnNote (s : State) (d kind : Nat) (remote : Bool) (t gpn old ten moves : Nat) (key : List Word) : State :=
  let ws := learnRecord kind remote t gpn old ten moves key
  let s := if (getR s .lrnNotifyCtl d 0).testBit kind then bufferNote s d kind ws else s
  if (getRS s .lrnAssistCfg d (curOf s d) 0).testBit kind then addAssist s d ws else s

/-- A kind about an entry that is held or removed: AGED, FLUSHED, QUAR_END. -/
def entryNote (s : State) (d kind : Nat) (e : Entry) : State :=
  let c := lrnCfg s d e.tableId
  learnNote s d kind e.remote e.tableId (if e.learned then actionGpn c e.action else 0x1FF) 0x1FF (actionTenant c e.action) e.moves e.key

/-- LRN_NOTIFY: a frame with up to 64 records of a die, when 64 wait or 1 ms after the oldest arrived (R239). -/
def execLrnNotify (die : Nat) (s : State) : Host.Outcome State Fault Refusal :=
  .next (
    let l := kget s.tbl.notes die []
    let due := !keeperDown s s.pkg.lead && (decide (l.length ≥ 64) || (match l with | r :: _ => decide (mono s die ≥ r.at_ + 1000000) | [] => false))
    if due then
      let part := l.take 64
      let seq := kget s.tbl.noteSeq die 0
      let lost := kget s.tbl.notesLost die 0
      let payload := [nw die] ++ wordsOf 2 seq ++ [nw lost, nw part.length] ++ part.flatMap (·.words)
      let s := { s with tbl := { s.tbl with
        notes := kset s.tbl.notes die (l.drop 64) [], notesLost := kset s.tbl.notesLost die 0 0,
        noteSeq := kset s.tbl.noteSeq die ((seq + 1) % 4294967296) 0 } }
      notify s 0x8006 payload
    else s)

/-- LEARN_ASSIST_DELIVER: the first waiting item enters its queue when that accepts it (R73, R240). -/
def execLearnAssistDeliver (die : Nat) (s : State) : Host.Outcome State Fault Refusal :=
  .next (
    match kget s.tbl.assist die [] with
    | it :: rest =>
      if heldBack s die (wqIndex it.pdom it.level) then s
      else enterAlarm { s with tbl := { s.tbl with assist := kset s.tbl.assist die rest [] } } die it
    | [] => s)

/-! ## Posting a learn (R218, R220) -/

def learnFifo (s : State) (d : Nat) : List LearnReq := kget s.tbl.learnQ d []
def setLearnFifo (s : State) (d : Nat) (l : List LearnReq) : State :=
  { s with tbl := { s.tbl with learnQ := kset s.tbl.learnQ d l [] } }

/-- A request reaches the learn FIFO, or is discarded when that is full (R220). -/
def postLearn (s : State) (d : Nat) (r : LearnReq) : State :=
  if (learnFifo s d).length ≥ 1024 then cnt s .lrnCntQDrop d 0 else setLearnFifo s d (learnFifo s d ++ [r])

/-- EV_LRN_BAD (R243). -/
def learnBad (s : State) (d t : Nat) (src : Word) : State := recordK (cnt s .lrnCntBad d 0) d 0x5012 [src, nw t]

/-- A write to io:LRN_GO (R218). -/
def lrnPost (s : State) (t : Nat) : State :=
  let d := thrDie t
  let w := (stage s t 0x0320).toNat
  let tbl := w % 64
  let x := curDesc s d tbl
  let kn := if x.en then x.keyWords else 0
  let an := if x.en then descA x else 0
  let ka := (stage s t 0x0321).toNat
  let da := (stage s t 0x0322).toNat
  if (kn ≠ 0 ∧ ka + kn > 0x1000) ∨ (an ≠ 0 ∧ da + an > 0x1000) then learnBad s d tbl (thrMaster t)
  else
    postLearn s d
      { remote := false, tid := t, pdom := thrDom s t, tableId := tbl, fanout := decide (w / 256 % 2 = 1), key := privWords s t ka kn,
        action := privWords s t da an }

/-- io:LRN_POLICY (R218, R224). -/
def lrnPolicy (s : State) (t : Nat) : Word :=
  match thrFrame s t with
  | some f =>
    let g := portGuard s f.die f.gpn
    nw (bitsOf g 20 2 + if learnedPort s f.die f.gpn = g % 1048576 then 4 else 0)
  | none => 0

/-! ## The write engines before a learn (R198, R220) -/

/-- Compare-and-remove (R236). -/
def doSweep (s : State) (d p : Nat) (key : List Word) (stamp : Word) : State :=
  match getEntry s p with
  | some e => if e.key = key ∧ e.stamp = stamp then entryNote (removeEntry s d p) d 10 e else s
  | none => s

/-- Perform one request of an engine of die `d`. -/
def doWrite (d : Nat) (s : State) : WriteReq → State
  | .forager q => doForager s q
  | .refresh _ p key => doRefresh s d p key
  | .sweep _ p key stamp => doSweep s d p key stamp

/-- Perform every request that has reached a table's engine, in order: a write of the learn engine or of the Keeper comes behind them. -/
def flushEngine (s : State) (d t : Nat) : State :=
  (engineOf s (engKey d t)).foldl (doWrite d) (setEngine s (engKey d t) [])

/-- SWEEP_REMOVE: the engine performs the compare-and-remove at its head. -/
def execSweepRemove (die engine : Nat) (s : State) : Host.Outcome State Fault Refusal :=
  .next (
    match engineOf s (die * 4 + engine) with
    | .sweep _ p key stamp :: rest => doSweep (setEngine s (die * 4 + engine) rest) die p key stamp
    | _ => s)

/-! ## Performing a learn (R221 to R226) -/

/-- A remote record goes to every other usable die (R226). -/
def sendRemote (s : State) (d : Nat) (r : LearnReq) : State :=
  forEach ((usableDies s).filter (· ≠ d)) (fun s e =>
    let k := e * 8 + d
    let l := kget s.tbl.flying k [] ++ [{ r with remote := true, fanout := false }]
    { s with tbl := { s.tbl with flying := kset s.tbl.flying k l [] } }) s

def fanOut (s : State) (d : Nat) (r : LearnReq) : State := if r.fanout ∧ !r.remote then sendRemote s d r else s

/-- A refusal that counts in LRN.CNT_REFUSED: `old` is the GPN of the entry held, 0x1FF for none. -/
def refuse (s : State) (d kind : Nat) (r : LearnReq) (gpn old ten moves : Nat) (key : List Word) : State :=
  let s := cnt s .lrnCntRefused d 0
  let s := if kind = 6 ∨ kind = 7 then recordK s d 0x5011 [nw r.tableId, nw gpn, nw ten, nw kind] else s
  learnNote s d kind r.remote r.tableId gpn old ten moves key

/-- A move is performed (R221). -/
def doMove (s : State) (d : Nat) (r : LearnReq) (p : Nat) (e : Entry) (gpn old ten : Nat) : State :=
  let e' := { e with action := r.action, moves := min 3 (e.moves + 1), remote := r.remote, stamp := ageNow s d }
  let s := cnt (setEntry s p (some e')) .lrnCntMove d 0
  fanOut (learnNote s d 2 r.remote r.tableId gpn old ten e'.moves e.key) d r

/-- A tracker line whose window is open or whose quarantine runs. -/
def lineHeld (s : State) (d window : Nat) (l : MoveLine) : Bool := l.quarUntil.isSome || decide (mono s d ≤ l.start + window)

/-- Lines other than that of a key. -/
def otherLines (s : State) (d t : Nat) (key : List Word) : List MoveLine :=
  (trackerOf s d).filter (fun l => !(l.tableId = t && l.key = key))

/-- A move of an accepted request (R222). -/
def tryMove (s : State) (d : Nat) (r : LearnReq) (p : Nat) (e : Entry) (gpn old ten : Nat) : State :=
  let c := getRS s .lrnMoveCfg d (curOf s d) 0
  let window := bitsOf c 16 16 * 1000000
  let now := mono s d
  let fresh : MoveLine := ⟨r.tableId, e.key, 1, now, none⟩
  match (trackerOf s d).find? (fun l => l.tableId = r.tableId && l.key = e.key) with
  | none =>
    let used := (trackerOf s d).filter (lineHeld s d window)
    if used.length ≥ 1024 then doMove (cnt s .lrnCntTrackFull d 0) d r p e gpn old ten
    else doMove (setTracker s d (used ++ [fresh])) d r p e gpn old ten
  | some l =>
    if now > l.start + window then doMove (setTracker s d (otherLines s d r.tableId e.key ++ [fresh])) d r p e gpn old ten
    else if l.count ≥ bitsOf c 0 4 then
      let s := setTracker s d (otherLines s d r.tableId e.key ++ [{ l with quarUntil := some (now + bitsOf c 4 12 * 100000000) }])
      let s := setEntry s p (some { e with contested := true })
      let s := recordK s d 0x5010 ([nw r.tableId, nw old, nw gpn] ++ fitTo 4 0 e.key)
      learnNote s d 3 r.remote r.tableId gpn old ten e.moves e.key
    else
      doMove (setTracker s d (otherLines s d r.tableId e.key ++ [{ l with count := l.count + 1 }])) d r p e gpn old ten

/-- A learn that finds no entry (R221, R225). -/
def learnNew (s : State) (d : Nat) (r : LearnReq) (x : Desc) (key : List Word) (gpn ten c : Nat) : State :=
  if atLimit (learnedPort s d gpn) (portGuard s d gpn % 1048576) then refuse s d 6 r gpn 0x1FF ten 0 key
  else if tenEn c ∧ atLimit (learnedTenant s d ten) (tenantLimit s d ten) then refuse s d 7 r gpn 0x1FF ten 0 key
  else
    let e := { dynEntry s d r.tableId x key r.action with learned := true, remote := r.remote }
    let src := if r.remote then 0xFFFF else thrMaster r.tid
    let (res, s) := insertEntry s d r.tableId x e src
    if res.status = stOk then fanOut (learnNote s d 1 r.remote r.tableId gpn 0x1FF ten 0 key) d r
    else if res.status = stNoRoom then learnNote s d 9 r.remote r.tableId gpn 0x1FF ten 0 key
    else s

/-- Perform one learn request (R219, R221). -/
def performLearn (s : State) (d : Nat) (r : LearnReq) : State :=
  let s := cnt (flushEngine s d r.tableId) .lrnCntLearn d 0
  let x := curDesc s d r.tableId
  let c := lrnCfg s d r.tableId
  let denied := !r.remote && !mayWriteTbl s d r.pdom r.tableId
  if !x.en ∨ !lrnOn c ∨ denied ∨ r.key.length ≠ x.keyWords ∨ r.action.length ≠ descA x then
    learnNote (learnBad s d r.tableId (if r.remote then 0xFFFF else thrMaster r.tid)) d 12 r.remote r.tableId 0x1FF 0x1FF 0 0 r.key
  else
    let key := maskKey x r.key
    let gpn := actionGpn c r.action
    let ten := actionTenant c r.action
    match metUncorr s d x key with
    | some p => meetUncorr s d r.tableId x p
    | none =>
      match foundAt s d x key with
      | [] => learnNew s d r x key gpn ten c
      | (p, e) :: _ =>
        let old := actionGpn c e.action
        if e.static_ ∨ !e.learned then refuse s d 8 r gpn old ten e.moves key
        else if old = gpn then fanOut (setEntry s p (some { e with stamp := ageNow s d, action := r.action })) d r
        else if e.contested then refuse s d 5 r gpn old ten e.moves key
        else if atLimit (learnedPort s d gpn) (portGuard s d gpn % 1048576) then refuse s d 6 r gpn old ten e.moves key
        else tryMove s d r p e gpn old ten

/-- LEARN_PERFORM: the learn engine performs the request at the head of its FIFO (R220). -/
def execLearnPerform (die : Nat) (s : State) : Host.Outcome State Fault Refusal :=
  .next (
    match learnFifo s die with
    | r :: rest => performLearn (setLearnFifo s die rest) die r
    | [] => s)

/-- REMOTE_RECORD: the next record from another die enters the learn FIFO (R226). -/
def execRemoteRecord (die fromDie : Nat) (s : State) : Host.Outcome State Fault Refusal :=
  .next (
    let k := die * 8 + fromDie
    match kget s.tbl.flying k [] with
    | r :: rest => postLearn { s with tbl := { s.tbl with flying := kset s.tbl.flying k rest [] } } die r
    | [] => s)

/-! ## The end of a quarantine (R223) -/

/-- End the quarantine of a key on a die: the entry is written CONTESTED = 0 and the line is free. -/
def endQuarantine (s : State) (d t : Nat) (key : List Word) : State :=
  let s := setTracker s d (otherLines s d t key)
  match (liveEntries s).find? (fun e => posDie e.1 = d && e.2.tableId = t && e.2.key = key && e.2.contested) with
  | some (p, e) => entryNote (setEntry s p (some { e with contested := false })) d 4 e
  | none => s

/-- QUARANTINE_END. -/
def execQuarantineEnd (die table : Nat) (key : List Word) (s : State) : Host.Outcome State Fault Refusal :=
  .next (
    match (trackerOf s die).find? (fun l => l.tableId = table && l.key = key) with
    | some l =>
      match l.quarUntil with
      | some u => if mono s die ≥ u then endQuarantine s die table key else s
      | none => s
    | none => s)

/-! ## Ageing (R230 to R236) -/

/-- The period in ms and PASS_TICKS in force on a die. -/
def ageInForce (s : State) (d : Nat) : Nat × Nat := kget s.tbl.ageIn d (1000, 1)

/-- Whether the sweeper visits a table (R234, R235). -/
def sweptTable (s : State) (d t : Nat) : Bool :=
  let x := curDesc s d t
  x.en && (x.dyn || (lrnOn (lrnCfg s d t) && x.mode ≠ 2))

def sweepOf (s : State) (d t : Nat) : Sweep := kget s.tbl.sweeps (d * 64 + t) ⟨false, 0⟩
def setSweep (s : State) (d t : Nat) (x : Sweep) : State :=
  { s with tbl := { s.tbl with sweeps := kset s.tbl.sweeps (d * 64 + t) x ⟨false, 0⟩ } }

/-- Begin a pass over every table that it visits. -/
def startPass (s : State) (d : Nat) : State :=
  forEach (List.range 64) (fun s t => if sweptTable s d t then setSweep s d t ⟨true, 0⟩ else s) s

/-- AGE_TICK: NOW advances by the periods that the firing carries; every PASS_TICKS-th tick begins a pass; a new period and PASS_TICKS take
effect (R231, R234, R241). -/
def execAgeTick (die : Nat) (s : State) : Host.Outcome State Fault Refusal :=
  .next (
    match takeFired s die 3 with
    | none => s
    | some (f, s) =>
      let s := setR s .lrnAgeNow die 0 ((getR s .lrnAgeNow die 0 + f.periods) % 65536)
      let (ms, pass) := ageInForce s die
      let n := kget s.tbl.ticks die 0 + f.periods
      let s := if n ≥ pass then startPass s die else s
      let s := { s with tbl := { s.tbl with
        ticks := kset s.tbl.ticks die (if n ≥ pass then 0 else n) 0, ageIn := kset s.tbl.ageIn die s.tbl.ageSet (1000, 1) } }
      match getSched s die entAgeTick with
      | some e =>
        if ms = s.tbl.ageSet.1 then s
        else setSched s die entAgeTick (some { e with t := e.t - ms * 1000000 + s.tbl.ageSet.1 * 1000000, period := s.tbl.ageSet.1 * 1000 })
      | none => s)

/-- The positions at a cursor of a pass: the table's buckets, then its overflow segment. -/
def sweepPos (d : Nat) (x : Desc) (cursor : Nat) : List Nat :=
  if cursor < descBuckets x then bucketPos d x cursor
  else (List.range 4).map (posOvf d x.ovfSeg ((cursor - descBuckets x) % 256))

def sweepLen (x : Desc) : Nat := descBuckets x + if x.ovfEn then 256 else 0

/-- Whether an entry has expired (R233). -/
def entryExpired (s : State) (d : Nat) (e : Entry) : Bool :=
  e.ageable && decide ((ageNow s d - e.stamp).toNat > ageLimit (lrnCfg s d e.tableId))

/-- SWEEPER_READ: the sweeper reads the next bucket of its pass and sends a compare-and-remove for each expired entry (R234, R236). -/
def execSweeperRead (die table cursor : Nat) (s : State) : Host.Outcome State Fault Refusal :=
  .next (
    let w := sweepOf s die table
    let x := curDesc s die table
    if w.active ∧ w.cursor = cursor ∧ cursor < sweepLen x then
      let s := forEach (sweepPos die x cursor) (fun s p =>
        match getEntry s p with
        | some e => if entryExpired s die e then sendWrite s (engKey die table) (.sweep table p e.key e.stamp) else s
        | none => s) s
      setSweep s die table (if cursor + 1 < sweepLen x then ⟨true, cursor + 1⟩ else ⟨false, 0⟩)
    else s)

/-- Remove every learned entry of a die whose PORT_WORD names a GPN (R238). -/
def flushGpnDie (s : State) (d gpn : Nat) : State :=
  forEach ((learnedOf s d).filter (fun e => actionGpn (lrnCfg s d e.2.tableId) e.2.action = gpn))
    (fun s e => entryNote (removeEntry s d e.1) d 11 e.2) s

/-- R238 on every usable die. -/
def flushGpn (s : State) (gpn : Nat) : State := forEach (usableDies s) (fun s d => flushGpnDie s d gpn) s

/-- The deep pass time D of a slot in µs, rounded up (R235): `share` is that of the learn-overflow port in 64ths. -/
def deepPassUs (s : State) (d slot share : Nat) : Nat :=
  let rows := sumN ((List.range 64).map (fun t =>
    let x := tblDesc s d slot t
    if x.en ∧ x.mode = 2 ∧ x.dyn then 2 ^ x.deepLog * descRows x else 0))
  ceilDiv (rows * 2) (25 * max 1 share)

/-! ## Port guards (R228, R229) -/

/-- Whether a storm bucket admits a frame: it refills at `kfps` × 1,000 frames/s up to 1 ms of that rate, at least 16 frames. -/
def stormTake (s : State) (d gpn which kfps : Nat) : Bool × State :=
  let depth := max 16 kfps * 1000000
  let now := mono s d
  let b := (kget s.tbl.storm (gpn * 2 + which) none).getD ⟨depth, now⟩
  let have_ := min depth (b.tokens + (now - b.at_) * kfps)
  let put (n : Nat) : State :=
    { s with tbl := { s.tbl with storm := kset s.tbl.storm (gpn * 2 + which) (some ⟨n, now⟩) none } }
  if have_ ≥ 1000000 then (true, put (have_ - 1000000)) else (false, put have_)

end Sys2Proof.Machine
end

