-- ==== Sys2Proof/Machine/Groups.lean ====
section
/-! DEFINITION. Dual-homed port groups (R481): the dynamic entries that the Keeper keeps for them in the group table. -/

namespace Sys2Proof.Machine

/-- PAIR.CFG as the lead holds it. -/
def pairCfg (s : State) : Nat := getR s .pairCfg s.pkg.lead 0
def pairOn (s : State) : Bool := decide (pairCfg s % 2 = 1)
def portA (s : State) : Nat := bitsOf (pairCfg s) 16 9
def portB (s : State) : Nat := bitsOf (pairCfg s) 32 9
/-- PAIR.STATUS.STATE (R475). -/
def pairState (s : State) : Nat := fieldR s .pairStatus s.pkg.lead 0 0 3

def pairOff : Nat := 0
def pairForming : Nat := 1
def pairPaired : Nat := 2
def pairLinkLost : Nat := 3
def pairFailed : Nat := 4
def pairIsolated : Nat := 5
def pairDrifted : Nat := 6

/-- EV_PAIR_STATE (R488). -/
def pairEvent (s : State) (old new cause : Nat) : State := recordK s s.pkg.lead 0xD001 [nw old, nw new, nw cause]

/-- The local member of a group. -/
def groupPort (s : State) (g : Nat) : Option Nat := kget s.pair.groups g none
def groupTable (s : State) : Nat := bitsOf (pairCfg s) 48 6

/-- The action words of a group's entry. -/
def groupAction (s : State) (g gpn : Nat) : List Word :=
  let st := pairState s
  [nw gpn, nw (bitIf 0 (portIsUp s gpn) + bitIf 1 (decide (st = pairPaired) && decide (g ∈ s.pair.members)) +
    bitIf 2 (decide (st = pairPaired)) + bitIf 3 (decide (st = pairIsolated))), 0, 0, 0]

/-- Bring the entry of a group on a die into line: whether the write was refused (R213), and the state. -/
def writeGroup (s : State) (d g : Nat) : Bool × State :=
  let t := groupTable s
  let found := ((foundAt s d (curDesc s d t) [nw g]).head?).map (·.2.action)
  let want := if pairOn s then (groupPort s g).map (groupAction s g) else none
  if found = want then (false, s)
  else
    let s := flushEngine s d t
    let op := if want = none then 3 else if found = none then 1 else 2
    let r := dynWrite s d t op [nw g] (want.getD []) 0 (keeperId d)
    (decide (r.1.status ≠ stOk), r.2)

/-- The same on every usable die; a refused write waits for its retry. -/
def putGroup (s : State) (g : Nat) : State :=
  let (bad, s) := (usableDies s).foldl (fun (a : Bool × State) d => let r := writeGroup a.2 d g; (a.1 || r.1, r.2)) (false, s)
  if bad then
    let s := { s with pair := { s.pair with retry := addNew g s.pair.retry, retryAt := mono s s.pkg.lead } }
    pairEvent s (pairState s) (pairState s) 6
  else { s with pair := { s.pair with retry := s.pair.retry.erase g } }

/-- Rewrite the entries whose inputs have changed. -/
def refreshGroups (s : State) : State :=
  if !pairOn s || s.pkg.noLead then s
  else forEach ((s.pair.groups.map (·.1)).filter (fun g => decide (g ∉ s.pair.retry))) putGroup s

/-- GROUP_ENTRY_RETRY: refused writes are made again, every 1 ms. -/
def execGroupEntryRetry (s : State) : Host.Outcome State Fault Refusal :=
  .next (
    if s.pkg.noLead ∨ mono s s.pkg.lead < s.pair.retryAt + 1000000 then s
    else forEach s.pair.retry putGroup s)

end Sys2Proof.Machine
end

