-- ==== Sys2Proof/Machine/Parser.lean ====
section
/-! DEFINITION. The parse graph (R52, R56 to R65): node records, the walk of a frame, the parse result. -/

namespace Sys2Proof.Machine

/-- The key of word `a` of a graph image (R64): record `n` is words 128 n to 128 n + 127. -/
def graphKey (d img a : Nat) : Nat := (d * 2 + img) * 32768 + a
def graphWord (s : State) (d img a : Nat) : Word := kget s.path.graph (graphKey d img a) 0

/-- Word `w` of node `n`, as a number. -/
abbrev NodeWords := Nat → Nat → Nat

def imageNodes (s : State) (d img : Nat) : NodeWords := fun n w => (graphWord s d img (n * 128 + w)).toNat

/-- A record may be used (R64). -/
def nodeValid (g : NodeWords) (n : Nat) : Bool := decide (g n 0 / 32768 = 1)

/-- A parse in progress (R56): the node of the present visit, the header start, the visits made, what has been recorded. -/
structure Walk where
  node : Nat
  h : Nat
  v : Nat
  layers : Map (Option Nat)
  fields : Map (Option Nat)

/-- The number in `w` bits from bit `k` of the header at byte `h` (R58). -/
def headerBits (f : Frame) (h k w : Nat) : Nat :=
  let first := h + k / 8
  let n := (k % 8 + w + 7) / 8
  let v := (List.range n).foldl (fun a j => a * 256 + (frameByte f (first + j)).toNat) 0
  v / 2 ^ (8 * n - k % 8 - w) % 2 ^ w

/-- Whether a read of `w` bits at bit `k` stays below byte `e` (R58). -/
def readsBelow (h k w e : Nat) : Bool := decide (h + (k + w - 1) / 8 < e)

/-- The enabled field records of a node: slot, bit offset, width, KEEP_FIRST. -/
def nodeFields (g : NodeWords) (n : Nat) : List (Nat × Nat × Nat × Bool) :=
  (List.range 8).filterMap (fun j =>
    let a := g n (8 + 2 * j)
    if a / 32768 = 1 then some (a % 32, g n (9 + 2 * j) % 4096, a / 256 % 32 + 1, a / 16384 % 2 = 1) else none)

def advMode (g : NodeWords) (n : Nat) : Nat := g n 0 / 4096 % 4
def selOn (g : NodeWords) (n : Nat) : Bool := decide (g n 2 / 32768 = 1)
def selWidth (g : NodeWords) (n : Nat) : Nat := g n 2 / 256 % 32 + 1
def advWidth (g : NodeWords) (n : Nat) : Nat := g n 6 % 16 + 1

/-- Whether every byte that a visit reads lies below `e` (R58). -/
def visitReads (g : NodeWords) (n h e : Nat) : Bool :=
  (!selOn g n || readsBelow h (g n 1 % 4096) (selWidth g n) e) && (nodeFields g n).all (fun x => readsBelow h x.2.1 x.2.2.1 e) &&
    (decide (advMode g n ≠ 2) || readsBelow h (g n 5 % 4096) (advWidth g n) e)

/-- The layer offset that a visit records (R61). -/
def recordLayer (g : NodeWords) (x : Walk) : Map (Option Nat) :=
  let l := g x.node 0 / 256 % 16
  if l = 15 ∨ (g x.node 0 / 128 % 2 = 1 ∧ (kget x.layers l none).isSome) then x.layers else kset x.layers l (some x.h) none

/-- The field slots that a visit records, in record order (R62). -/
def recordFields (g : NodeWords) (f : Frame) (x : Walk) : Map (Option Nat) :=
  (nodeFields g x.node).foldl (fun m r =>
    if r.2.2.2 && (kget m r.1 none).isSome then m else kset m r.1 (some (headerBits f x.h r.2.1 r.2.2.1)) none) x.fields

/-- The first transition that matches, else the default: its END bit and node. -/
def nextNode (g : NodeWords) (n sel : Nat) : Bool × Nat :=
  let two (w : Nat) : Nat := g n w * 65536 + g n (w + 1)
  let hit := (List.range (g n 0 % 32)).find? (fun i =>
    (BitVec.ofNat 32 sel &&& BitVec.ofNat 32 (two (26 + 5 * i))) = BitVec.ofNat 32 (two (24 + 5 * i)))
  let w := match hit with | some i => g n (28 + 5 * i) | none => g n 3
  (decide (w / 32768 = 1), w % 256)

/-- The advance of a visit (R57). -/
def advanceOf (g : NodeWords) (f : Frame) (n h : Nat) : Nat :=
  match advMode g n with
  | 0 => 0
  | 1 => g n 4 % 1024
  | _ => headerBits f h (g n 5 % 4096) (advWidth g n) * (g n 6 / 4096) + g n 4 % 1024

/-- Visits from the present one on (R56, R58 to R60): STATUS and the walk as it ended. `len` is L. -/
def walkFrom (g : NodeWords) (f : Frame) (len : Nat) : Nat → Walk → Nat × Walk
  | 0, x => (2, x)
  | fuel + 1, x =>
    let e := min len 512
    let short := if len ≤ 512 then 1 else 2
    let x := { x with v := x.v + 1 }
    if !visitReads g x.node x.h e then (short, x)
    else
      let sel := if selOn g x.node then headerBits f x.h (g x.node 1 % 4096) (selWidth g x.node) else 0
      let x := { x with layers := recordLayer g x, fields := recordFields g f x }
      let (fin, next) := nextNode g x.node sel
      let a := advanceOf g f x.node x.h
      if !fin && !nodeValid g next then (3, x)
      else if x.h + a > e then (short, x)
      else if fin then (0, { x with h := x.h + a })
      else walkFrom g f len fuel { x with h := x.h + a, node := next }

/-- The parse of a frame from a start node: an invalid one fails its first visit (R65). -/
def parseWalk (g : NodeWords) (f : Frame) (len start : Nat) : Nat × Walk :=
  let x : Walk := ⟨start, 0, 0, [], []⟩
  if nodeValid g start then walkFrom g f len 48 x else (3, { x with v := 1 })

/-- Bit `k` is set for each key `k` that a map records. -/
def validMask (m : Map (Option Nat)) : Nat := m.foldl (fun a e => if e.2.isSome then a + 2 ^ e.1 else a) 0

/-- The 96 words of the parse result (R63). -/
def parseWords (st : Nat) (x : Walk) : List Word :=
  let head := [nw (st * 8192 + (if x.v > 24 then 4096 else 0) + x.node), nw x.v, nw x.h, nw (validMask x.layers)] ++
    wordsOf 2 (validMask x.fields) ++ List.replicate 10 0
  head ++ (List.range 12).map (fun n => nw ((kget x.layers n none).getD 0xFFFF)) ++ List.replicate 4 0 ++
    (List.range 32).flatMap (fun n => wordsOf 2 ((kget x.fields n none).getD 0))

/-- The parse result of a frame of a die, in the graph image of its slot (R52, R63). -/
def parseFrame (s : State) (x : Frame) (start : Nat) : List Word :=
  let (st, w) := parseWalk (imageNodes s x.die (slotGimg s x.die x.slot)) x x.len start
  parseWords st w

/-- Field slot `n` of a parse result. -/
def fieldSlot (p : List Word) (n : Nat) : Nat := (wordAt p (32 + 2 * n)).toNat * 65536 + (wordAt p (33 + 2 * n)).toNat
/-- STATUS of a parse result. -/
def parseStatus (p : List Word) : Nat := (wordAt p 0).toNat / 8192

end Sys2Proof.Machine
end

