-- ==== Sys2Proof/Machine/Ingress.lean ====
section
/-!
DEFINITION. From the port to the work queue: the MAC and its guards (R228, R229, R299, R356, R462, R473, R493), the ingress FIFO and flow
control (R77, R78, R300 to R302), the parser (R53 to R55, R264), the dispatcher (R66 to R70, R76, R81, R82).
-/

namespace Sys2Proof.Machine

/-! ## Ports (R77, R489, R491) -/

/-- PHY.PORT_CFG.MODE of a GPN's first lane. -/
def portMode (s : State) (g : Nat) : Nat := fieldR s .phyPortCfg (gpnDie g) (gpnPort g) 0 4

/-- The lanes of a mode (R489). -/
def modeLanes (m : Nat) : Nat :=
  match m with
  | 0 => 0 | 3 => 4 | 4 => 2 | 6 => 4 | 7 => 2 | 9 => 8 | 10 => 4 | 11 => 2 | 12 => 8 | 13 => 4 | 14 => 8 | 15 => 0 | _ => 1

/-- The rate of a mode, in Gbit/s (R489). -/
def modeRate (m : Nat) : Nat :=
  match m with
  | 1 => 25 | 2 => 50 | 3 => 100 | 4 => 100 | 5 => 100 | 6 => 200 | 7 => 200 | 8 => 200 | 9 => 400 | 10 => 400 | 11 => 400
  | 12 => 800 | 13 => 800 | 14 => 1600 | _ => 0

def isHostPort (g : Nat) : Bool := decide (g ≥ 256)
/-- Whether a GPN is the first lane of a configured front port, or a host port (R21, R493). -/
def portConfigured (s : State) (g : Nat) : Bool :=
  gpnExists s g && (isHostPort g || (decide (portMode s g ≠ 0) && decide (portMode s g ≠ 15)))

/-- The rate of a port in Gbit/s: a host port runs at 100 Gbit/s in either mode (R491). -/
def portRate (s : State) (g : Nat) : Nat := if isHostPort g then 100 else modeRate (portMode s g)
/-- The bytes of a port's ingress FIFO (R77). -/
def fifoBytes (s : State) (g : Nat) : Nat := if isHostPort g then 524288 else modeLanes (portMode s g) * 131072

def ingressOf (s : State) (g : Nat) : List IngFrame := kget s.path.ingress g []
def setIngress (s : State) (g : Nat) (l : List IngFrame) : State :=
  { s with path := { s.path with ingress := kset s.path.ingress g l [] } }
/-- The bytes held in a port's ingress FIFO, FCS included (R302). -/
def occupancy (s : State) (g : Nat) : Nat := sumN ((ingressOf s g).map (fun f => f.bytes.length + 4))

/-! ## Sending flow control (R302) -/

/-- EGR.PORT_FC of a port. -/
def portFc (s : State) (g : Nat) : Nat := getR s .egrPortFc (gpnDie g) (gpnPort g)
def fcMode (s : State) (g : Nat) : Nat := portFc s g % 4
def lossless (s : State) (g : Nat) : Nat := bitsOf (portFc s g) 8 8
def xoffBytes (s : State) (g : Nat) : Nat := bitsOf (portFc s g) 32 11 * 1024
def xonBytes (s : State) (g : Nat) : Nat := bitsOf (portFc s g) 48 11 * 1024

/-- The time of `q` quanta of 512 bits at a port's rate, in ns (R300). -/
def quantaNs (s : State) (g q : Nat) : Nat := ceilDiv (q * 512) (max 1 (portRate s g))

/-- Send a PAUSE or PFC frame with every time `q`. -/
def sendPause (s : State) (g q : Nat) : State :=
  if portIsUp s g then
    let s := cnt s .egrCntPauseTx (gpnDie g) (gpnPort g)
    let pfc := fcMode s g = 2
    { s with out := s.out ++ [.pause g pfc (if pfc then BitVec.ofNat 8 (lossless s g) else 0xFF) (nw q)] }
  else s

/-- The occupancy has reached XOFF: the port stops its peer. -/
def checkXoff (s : State) (g : Nat) : State :=
  if (fcMode s g = 1 ∨ fcMode s g = 2) ∧ !(getPort s g).xoffSent ∧ occupancy s g ≥ xoffBytes s g then
    modPort (sendPause s g 0xFFFF) g (fun p => { p with xoffSent := true, xoffAt := mono s (gpnDie g) })
  else s

/-- The occupancy has fallen below XON: the port releases its peer. -/
def checkXon (s : State) (g : Nat) : State :=
  if (getPort s g).xoffSent ∧ occupancy s g < xonBytes s g then
    modPort (sendPause s g 0) g (fun p => { p with xoffSent := false })
  else s

/-- PAUSE_REFRESH: the frame is sent again every 32,768 quanta while the occupancy stays at XON or above. -/
def execPauseRefresh (die port : Nat) (s : State) : Host.Outcome State Fault Refusal :=
  .next (
    let g := gpnOf die port
    let p := getPort s g
    if p.xoffSent ∧ occupancy s g ≥ xonBytes s g ∧ mono s die ≥ p.xoffAt + quantaNs s g 32768 then
      modPort (sendPause s g 0xFFFF) g (fun p => { p with xoffAt := mono s die })
    else s)

/-! ## Received flow control (R299 to R301) -/

/-- Whether a class of a port is stopped by a received frame now. -/
def classStopped (s : State) (g c : Nat) : Bool :=
  match kget (getPort s g).pausedUntil c none with
  | some u => decide (mono s (gpnDie g) < u)
  | none => false

/-- Close the account of a stop that has ended or is replaced: its time joins EGR.PAUSED_NS. -/
def countStopped (s : State) (g c : Nat) : State :=
  let p := getPort s g
  match kget p.pausedUntil c none, kget p.stoppedSince c none with
  | some u, some a => cntN s .egrPausedNs (gpnDie g) (gpnPort g * 8 + c) (min u (mono s (gpnDie g)) - a)
  | _, _ => s

/-- A class is no longer stopped. -/
def endStop (s : State) (g c : Nat) : State :=
  modPort (countStopped s g c) g (fun p => { p with pausedUntil := kset p.pausedUntil c none none, stoppedSince := kset p.stoppedSince c none none })

/-- A class ignores received frames after the watchdog (R301). -/
def ignores (s : State) (g c : Nat) : Bool :=
  match kget (getPort s g).ignoreUntil c none with
  | some u => decide (mono s (gpnDie g) < u)
  | none => false

/-- Stop a class for `q` quanta; 0 ends the stop at once, and a stop without a break keeps its beginning (R300, R301). -/
def stopClass (g : Nat) (s : State) (e : Nat × Nat) : State :=
  if ignores s g e.1 then s
  else if e.2 = 0 then endStop s g e.1
  else
    let s := if classStopped s g e.1 then s else endStop s g e.1
    let now := mono s (gpnDie g)
    modPort s g (fun p =>
      { p with pausedUntil := kset p.pausedUntil e.1 (some (now + quantaNs s g e.2)) none,
               stoppedSince := kset p.stoppedSince e.1 (some ((kget p.stoppedSince e.1 none).getD now)) none })

/-- Bytes `k` and `k + 1` of a frame as received. -/
def two (b : List Byte) (k : Nat) : Nat := ((b[k]?).getD 0).toNat * 256 + ((b[k + 1]?).getD 0).toNat

/-- A MAC control frame is taken out (R299). -/
def macControl (s : State) (g : Nat) (b : List Byte) : State :=
  let d := gpnDie g
  let p := gpnPort g
  let op := two b 14
  let rx := portFc s g / 4 % 4
  let honour (l : List (Nat × Nat)) : State := forEach l (stopClass g) (cnt s .egrCntPauseRx d p)
  if op = 1 ∧ rx = 1 then honour ((List.range 8).map (fun c => (c, two b 16)))
  else if op = 0x0101 ∧ rx = 2 then
    honour ((List.range 8).filterMap (fun c => if (two b 16).testBit c then some (c, two b (18 + 2 * c)) else none))
  else if op = 1 ∨ op = 0x0101 then
    recordK (cnt s .egrCntPauseGuard d p) d 0x8006 [nw g, nw op, nw (two b 6), nw (two b 8), nw (two b 10)]
  else cnt s .egrCntMacctlOther d p

/-- PAUSE_EXPIRE: the time of a stop has run out (R300). -/
def execPauseExpire (die port cls : Nat) (s : State) : Host.Outcome State Fault Refusal :=
  .next (
    let g := gpnOf die port
    if (kget (getPort s g).pausedUntil cls none).isSome ∧ !classStopped s g cls then endStop s g cls else s)

/-- EGR.PORT_FC.WD, in ns. -/
def watchdogNs (s : State) (g : Nat) : Nat := bitsOf (portFc s g) 16 10 * 1000000

/-- PFC_WATCHDOG: a class stopped for WD ms without a break ignores received frames for ten times as long (R301). -/
def execPfcWatchdog (die port cls : Nat) (s : State) : Host.Outcome State Fault Refusal :=
  .next (
    let g := gpnOf die port
    match kget (getPort s g).stoppedSince cls none with
    | some a =>
      if classStopped s g cls ∧ watchdogNs s g ≠ 0 ∧ mono s die ≥ a + watchdogNs s g then
        let s := endStop s g cls
        let s := modPort s g (fun p =>
          { p with ignoreUntil := kset p.ignoreUntil cls (some (mono s die + 10 * watchdogNs s g)) none })
        recordK (cnt s .egrCntPfcWd die (port * 8 + cls)) die 0x8005 [nw g, nw cls]
      else s
    | none => s)

/-- PFC_WATCHDOG_END (R301). -/
def execPfcWatchdogEnd (die port cls : Nat) (s : State) : Host.Outcome State Fault Refusal :=
  .next (
    let g := gpnOf die port
    if (kget (getPort s g).ignoreUntil cls none).isSome ∧ !ignores s g cls then
      modPort s g (fun p => { p with ignoreUntil := kset p.ignoreUntil cls none none })
    else s)

/-! ## The MAC (R32, R493) -/

/-- The counter of the first test that a frame fails (R493). `n` is its length with FCS. -/
def macFail (n : Nat) (fcsOk codeErr : Bool) : Option RegName :=
  if !fcsOk then some .phyCntRxFcs
  else if n < 64 then some .phyCntRxShort
  else if n > 9216 then some .phyCntRxLong
  else if codeErr then some .phyCntRxErr
  else none

/-- Whether a port removes pair-control frames (R473). -/
def pairPort (s : State) (g : Nat) : Bool :=
  let c := getR s .pairCfg s.pkg.lead 0
  decide (c % 2 = 1) && (isHostPort g || decide (bitsOf c 16 9 = g) || decide (bitsOf c 32 9 = g))

/-- The EtherType behind at most one 802.1Q tag. -/
def etherType (b : List Byte) : Nat := if two b 12 = 0x8100 then two b 16 else two b 12

def mgmtMac (s : State) : Nat := fieldR s .kprMgmtCfg s.pkg.lead 0 0 48
def mgmtType (s : State) : Nat := fieldR s .kprMgmtCfg s.pkg.lead 0 48 16
def destMac (b : List Byte) : Nat := (two b 0 * 65536 + two b 2) * 65536 + two b 4
def srcMac (b : List Byte) : Nat := (two b 6 * 65536 + two b 8) * 65536 + two b 10

/-- The storm guard (R228): whether the frame passes. The manual does not order it against the source check; it comes first (DEDUCED, log
entry 24). -/
def stormGuard (s : State) (g slot : Nat) (b : List Byte) : Bool × State :=
  let c := getRS s .pguardStorm (gpnDie g) slot (gpnPort g)
  let (which, k) :=
    if destMac b = 0xFFFFFFFFFFFF then (0, c % 32768) else if two b 0 / 256 % 2 = 1 then (1, bitsOf c 16 15) else (0, 0)
  if k = 0 then (true, s) else stormTake s (gpnDie g) g which k

/-- The source check (R229): whether the frame fails it. -/
def badSource (s : State) (g slot : Nat) (b : List Byte) : Bool :=
  decide (bitsOf (getRS s .pguardStorm (gpnDie g) slot (gpnPort g)) 15 1 = 1) &&
    (decide (two b 6 / 256 % 2 = 1) || decide (srcMac b = 0))

/-- The priority of an arriving frame (R302). -/
def framePri (s : State) (g : Nat) (b : List Byte) : Nat :=
  if two b 12 = 0x8100 ∨ two b 12 = 0x88A8 then two b 14 / 8192 else portFc s g / 16 % 8

/-- Whether a frame is discarded at the ingress FIFO (R78): it does not fit, or PFC discards its priority above XOFF. -/
def fifoRefuses (s : State) (g : Nat) (b : List Byte) : Bool :=
  decide (occupancy s g + b.length + 4 > fifoBytes s g) ||
    (decide (fcMode s g = 2) && !(lossless s g).testBit (framePri s g b) && decide (occupancy s g > xoffBytes s g))

/-- A frame enters the ingress FIFO or is discarded there. -/
def enterFifo (s : State) (g : Nat) (f : IngFrame) : State :=
  if fifoRefuses s g f.bytes then
    recordK (cnt s .dispCntIngDrop (gpnDie g) (gpnPort g)) (gpnDie g) 0x3005 [nw g, nw (occupancy s g / 1024)]
  else checkXoff (setIngress s g (ingressOf s g ++ [f])) g

/-- An accepted frame for the data path, in slot `slot` (R228, R229). -/
def admitFrame (s : State) (g slot : Nat) (b : List Byte) (bad early : Bool) : State :=
  let d := gpnDie g
  let f : IngFrame := ⟨b, bad, early, stime s d, mono s d, slot⟩
  if isHostPort g ∨ bad then enterFifo s g f
  else
    let (pass, s) := stormGuard s g slot b
    if !pass then cnt s .pguardCntStorm d (gpnPort g)
    else if badSource s g slot b then cnt s .pguardCntSrcBad d (gpnPort g)
    else enterFifo s g f

/-- Whether a port receives: its die is usable, or it is the host port of a fenced die, which stays in service (R260). -/
def portServes (s : State) (g : Nat) : Bool := usable s (gpnDie g) || (isHostPort g && s.pkg.fenced.getLsbD (gpnDie g))

/-- A frame that the MAC's checks let through, or an early one: control frames and frames for the Keeper are taken out (R299, R356, R462,
R473). -/
def classifyFrame (s : State) (g : Nat) (b : List Byte) (bad early : Bool) : State :=
  let d := gpnDie g
  if two b 12 = 0x8808 then (if bad then s else macControl s g b)
  else if pairPort s g ∧ two b 12 = 0x88B6 then s
  else if isHostPort g ∧ destMac b = mgmtMac s then
    if etherType b = mgmtType s ∨ bad then s else cnt s .kprCntNotEmp s.pkg.lead 0
  else if !usable s d then s
  else
    match slotAt s d (stime s d) with
    | none => if bad then s else cnt s .bootCntPregen d 0
    | some slot => admitFrame s g slot b bad early

/-- FRAME_RX: a frame arrives at a port that is configured and whose PCS is up. `bytes` are its bytes without the FCS; `early` says that
its parse may start before its tail is there, which only a frame longer than 516 bytes with FCS allows (R55). -/
def execFrameRx (gpn : Nat) (bytes : List Byte) (fcsOk codeErr early : Bool) (s : State) : Host.Outcome State Fault Refusal :=
  .next (
    let d := gpnDie gpn
    let p := gpnPort gpn
    let n := bytes.length + 4
    if !portConfigured s gpn ∨ !portServes s gpn ∨ !(getPort s gpn).pcsUp then s
    else
      let early := early && decide (n > 516)
      match macFail n fcsOk codeErr with
      | some r => if early ∧ n ≤ 9216 then classifyFrame (cnt s r d p) gpn bytes true true else cnt s r d p
      | none => classifyFrame (cntN (cnt s .phyCntRxOk d p) .phyCntRxB d p n) gpn bytes false early)

/-! ## The parser (R53 to R55, R264, R268) -/

/-- A new frame of a port is written into buffers (R263, R264): none when its first buffer, or its chain when it is whole, is refused. -/
def bufferFrame (s : State) (g : Nat) (f : IngFrame) : Except State (Nat × State) :=
  let d := gpnDie g
  let n := f.bytes.length + 4
  let pool := if f.partial_ then fieldR s .qmPortCfg d (gpnPort g) 18 2 else fitPool s d n
  let nb := if f.partial_ then 1 else chainLen pool n
  let owner := ownerPort (gpnPort g)
  if !granted s d owner pool nb then .error (countRefused s d owner pool)
  else
    let data : Map Byte := (f.bytes.zipIdx).filterMap (fun e => if e.1 = 0 then none else some (e.2, e.1))
    .ok (newFrame s
      { die := d, len := f.bytes.length, bytes := data, poison := [], pool := pool, nbuf := nb, strip := 0, prep := 0, owner := owner,
        shares := [.packet], last := some .packet, gpn := g, slot := f.slot, stime := f.stime, mono := f.mono, cls := 0, level := 0,
        pdom := 0, odom := 0, seq := 0, tag := none, recirc := 0, parse := [], carry := List.replicate 16 0, badTail := f.bad,
        whole := !f.partial_, late := false,
        startNode := getRS s .parsePortCfg d f.slot (gpnPort g) % 256, xfer := 0, note := false, noCopy := false })

/-- Frames of a pipeline whose parse is not the first. -/
def recircParsing (s : State) (l : List Nat) : Nat := (l.filter (fun f => ((getFrame s f).map (fun x => decide (x.recirc > 0))).getD false)).length

/-- PARSE_START: the pipeline of a port starts a recirculated packet, or the oldest frame of the port's FIFO, while its result FIFO or its
recirculation lane has room (R53, R77). -/
def execParseStart (die port : Nat) (s : State) : Host.Outcome State Fault Refusal :=
  .next (
    let g := gpnOf die port
    let k := portPipe g
    let p := getPipe s k
    let re := recircParsing s p.parsing
    match p.recirc with
    | f :: rest =>
      if p.lane.length + re < 16 then setPipe s k { p with recirc := rest, parsing := p.parsing ++ [f] } else s
    | [] =>
      match ingressOf s g with
      | [] => s
      | f :: rest =>
        if p.fifo.length + (p.parsing.length - re) ≥ 64 then s
        else
          match bufferFrame s g f with
          | .error s => s
          | .ok (n, s) => checkXon (setPipe (setIngress s g rest) k { p with parsing := p.parsing ++ [n] }) g)

/-- The tail of a frame that was parsed early arrives (R264): its continuation buffers are taken, or it waits. -/
def takeTail (s : State) (f : Nat) (x : Frame) : Except State State :=
  let n := chainLen x.pool (x.len + 4)
  if granted s x.die x.owner x.pool (n - 1) then .ok (noteFree (setFrame s f (some { x with nbuf := n, whole := true })) x.die x.pool)
  else .error (countRefused s x.die x.owner x.pool)

/-- PARSE_DONE: the oldest parse of a pipeline completes; a frame whose tail fails the MAC's checks is freed (R55, R56, R264). -/
def execParseDone (die pipe : Nat) (s : State) : Host.Outcome State Fault Refusal :=
  .next (
    let k := die * 8 + pipe
    let p := getPipe s k
    match p.parsing with
    | [] => s
    | f :: rest =>
      match getFrame s f with
      | none => setPipe s k { p with parsing := rest }
      | some x =>
        if x.badTail then endShare (setPipe s k { p with parsing := rest }) f .packet
        else
          match (if x.whole then .ok s else takeTail s f x) with
          | .error s => s
          | .ok s =>
            let s := modFrame s f (fun y => { y with parse := parseFrame s y x.startNode })
            setPipe s k (if x.recirc > 0 then { p with parsing := rest, lane := p.lane ++ [f] } else { p with parsing := rest, fifo := p.fifo ++ [f] }))

/-! ## The dispatcher (R66 to R70, R76, R81, R82) -/

def portOrd (s : State) (x : Frame) : Nat := getRS s .dispPortOrd x.die x.slot (gpnPort x.gpn)
def portClass (s : State) (x : Frame) : Nat := getRS s .dispPortClass x.die x.slot (gpnPort x.gpn)

/-- The class of a packet (R82). -/
def classOf (s : State) (x : Frame) : Nat :=
  let c := portClass s x
  if bitsOf c 3 1 = 1 then fieldSlot x.parse (bitsOf c 4 5) / 2 ^ bitsOf c 9 5 % 8 else c % 8

/-- The sub-domain of a packet (R82). -/
def subOf (s : State) (x : Frame) : Nat :=
  let c := portOrd s x
  let v := BitVec.ofNat 32 (fieldSlot x.parse (bitsOf c 6 5))
  let b := v.extractLsb' 24 8 ^^^ v.extractLsb' 16 8 ^^^ v.extractLsb' 8 8 ^^^ v.extractLsb' 0 8
  if isHostPort x.gpn then 0 else b.toNat % 2 ^ bitsOf c 4 2

/-- Class, level, program domain and order domain of a packet: those of its first pass when it is recirculated (R73, R81, R82). -/
def placed (s : State) (x : Frame) : Frame :=
  let p := gpnPort x.gpn
  if x.recirc > 0 then { x with odom := if p = 32 then 2088 else 2048 + p }
  else
    let c := classOf s x
    let pc := portClass s x
    { x with cls := c, level := if bitsOf pc 16 1 = 1 then bitsOf pc 17 3 else c, pdom := portOrd s x % 16,
             odom := if p = 32 then 2080 + c else p * 64 + c * 8 + subOf s x }

/-- The verdict that the dispatcher enters for a failed parse (R66, R67). -/
def failVerdict (s : State) (x : Frame) : Option Verdict :=
  let c := getRS s .parsePortCfg x.die x.slot (gpnPort x.gpn)
  let v (kind dest : Nat) : Option Verdict := some ⟨kind, dest, false, 0, 0, [], keeperId x.die⟩
  if parseStatus x.parse = 0 then none
  else match bitsOf c 8 3 with
    | 0 => some (dropVerdict reasonParseFail (keeperId x.die))
    | 1 => v 8 (bitsOf c 11 1)
    | 2 => v 9 (bitsOf c 16 9)
    | _ => none

/-- The counters and the record of a pass that enters dispatch (R69, R70). -/
def countPass (s : State) (x : Frame) : State :=
  let d := x.die
  let p := gpnPort x.gpn
  let w := wordAt x.parse 0
  let s := cnt s .parseCntPass d p
  let s := if w.getLsbD 12 then cnt s .parseCntHalf d p else s
  let l0 := (wordAt x.parse 16).toNat
  let byte (k : Nat) : Byte := if l0 + k < x.len then frameByte x (l0 + k) else 0
  let at0 : List Word := if (wordAt x.parse 3).getLsbD 0 then wordsOfBytes [byte 0, byte 1, byte 2, byte 3, byte 4, byte 5] else [0, 0, 0]
  let ev (code : Word) (r : RegName) : State :=
    recordK (cnt s r d p) d code ([nw x.gpn, nw x.slot, nw (w.toNat % 256), wordAt x.parse 1, wordAt x.parse 2] ++ at0)
  match parseStatus x.parse with
  | 0 => s
  | 1 => ev 0x2001 .parseCntShort
  | 2 => ev 0x2002 .parseCntDeep
  | _ => ev 0x2003 .parseCntNoedge

/-- Whether a result can enter its queue, or take its verdict, now (R76, R81). -/
def canEnter (s : State) (x : Frame) : Bool :=
  mayAssign s x.die x.odom x.tag.isSome &&
    ((failVerdict s x).isSome || if x.recirc > 0 then recircRoom s x.die (wqIndex x.pdom x.level) else !heldBack s x.die (wqIndex x.pdom x.level))

/-- A result enters dispatch: its sequence number and tag, its counters, then its queue or the dispatcher's verdict. -/
def enterDispatch (s : State) (f : Nat) (x : Frame) : State :=
  let s := countPass (setFrame s f (some x)) x
  match failVerdict s x with
  | some v => assignSeq s x.die x.odom f (some v)
  | none =>
    let it : Item :=
      { kind := .packet, level := x.level, gslot := x.slot, pdom := x.pdom, late := false, args := [], frame := f, poster := 0, enq := 0,
        order := 0 }
    enqueue (assignSeq s x.die x.odom f none) x.die it

/-- The head of a list of results, where it can enter. -/
def headEnters (s : State) : List Nat → Option (Nat × Frame)
  | [] => none
  | f :: _ =>
    match getFrame s f with
    | some x => if canEnter s (placed s x) then some (f, placed s x) else none
    | none => none

/-- DISPATCH_ENQUEUE: the dispatcher takes the head of a pipeline's recirculation lane, else of its result FIFO (R76). -/
def execDispatchEnqueue (die pipe : Nat) (s : State) : Host.Outcome State Fault Refusal :=
  .next (
    let k := die * 8 + pipe
    let p := getPipe s k
    match headEnters s p.lane with
    | some (f, x) => enterDispatch (setPipe s k { p with lane := p.lane.drop 1 }) f x
    | none =>
      match headEnters s p.fifo with
      | some (f, x) => enterDispatch (setPipe s k { p with fifo := p.fifo.drop 1 }) f x
      | none => s)

end Sys2Proof.Machine
end

