-- ==== Sys2Proof/Machine/Tally.lean ====
section
/-!
DEFINITION. Tally (R315 to R331): counts and their minutes, policers, the close of a minute, the merge and emission of ledger batches,
retention.
-/

namespace Sys2Proof.Machine

/-! ## Counts (R315, R317, R318, R321) -/

def talKey (d q : Nat) : Nat := d * 16 + q
def talQueue (s : State) (d q : Nat) : List TallyReq := kget s.tal.queues (talKey d q) []
def setTalQueue (s : State) (d q : Nat) (l : List TallyReq) : State :=
  { s with tal := { s.tal with queues := kset s.tal.queues (talKey d q) l [] } }

/-- The egress count queue. -/
def egrQueue : Nat := 8

/-- Whether a die has closed a minute. -/
def minuteClosed (s : State) (d m : Nat) : Bool := decide (m < kget s.tal.closedTo d 0)

/-- A count enters its queue; it is late when its minute has closed (R324). -/
def addCount (s : State) (d q tenant kind bytes time : Nat) : State :=
  let m := minuteOf s time
  setTalQueue s d q (talQueue s d q ++ [⟨tenant, kind, bytes, m, minuteClosed s d m⟩])

/-- A hardware count of die `d` at its present STIME: kind 1 OUT or 2 DROP. -/
def hwCount (s : State) (d tenant kind bytes : Nat) : State := addCount s d egrQueue tenant kind bytes (stime s d)

/-- Whether the egress count queue holds back the ports of a die (R318). -/
def egrCountFull (s : State) (d : Nat) : Bool := decide ((talQueue s d egrQueue).length ≥ 4096)

/-- The time that selects the minute of a program's count: the ingress stamp of its packet, or STIME. -/
def countTime (s : State) (t : Nat) : Nat := match thrFrame s t with | some f => f.stime | none => stime s (thrDie t)

/-- The bytes of a program's count (R315, R317). -/
def countBytes (s : State) (t : Nat) : Nat :=
  let n := (stage s t 0x0501).toNat % 16384
  if n ≠ 0 then n else match thrFrame s t with | some f => f.len + 4 | none => 0

def stagedTenant (s : State) (t : Nat) : Nat := (stage s t 0x0500).toNat
/-- Whether the access map grants a thread the tally right on its staged tenant. -/
def talGranted (s : State) (t : Nat) : Bool := mayTenant s (thrDie t) (thrDom s t) (stagedTenant s t)

/-- A count or check that the access map refuses. -/
def talDenied (s : State) (t : Nat) : State :=
  record (cnt s .tallyCntDenied (thrDie t) 0) (thrDie t) 0x9001 (thrMaster t) [nw t, nw (stagedTenant s t)]

/-- Whether the tally queue of a thread's comb is full. -/
def combQueueFull (s : State) (t : Nat) : Bool := decide ((talQueue s (thrDie t) (thrComb t % 8)).length ≥ 256)

/-- A write to io:TAL_COUNT (R317): it does not issue while the comb's queue is full. -/
def talCount (s : State) (t : Nat) : Option State :=
  if combQueueFull s t then none
  else if !talGranted s t then some (talDenied s t)
  else
    let kind := if (stage s t 0x0502).getLsbD 0 then 2 else 0
    some (addCount s (thrDie t) (thrComb t % 8) (stagedTenant s t) kind (countBytes s t) (countTime s t))

/-! ## Policers (R319) -/

/-- TALLY.POL of a tenant: instance tenant × 2 + direction, 0 ingress, 1 egress. -/
def polReg (s : State) (d tenant dir : Nat) : Nat := getR s .tallyPol d (tenant * 2 + dir)
def polKey (d tenant dir : Nat) : Nat := (d * 2 + dir) * 65536 + tenant
/-- The depth of a policer, in millionths of a byte. -/
def polDepth (r : Nat) : Nat := bitsOf r 32 16 * 1024 * 1000000

/-- The tokens of a policer now: RATE × 64 kbit/s is 8 millionths of a byte per ns for each unit. -/
def polTokens (s : State) (d tenant dir : Nat) : Nat :=
  let r := polReg s d tenant dir
  match kget s.tal.polTokens (polKey d tenant dir) none with
  | some b => min (polDepth r) (b.tokens + (mono s d - b.at_) * (bitsOf r 8 24 * 8))
  | none => polDepth r

def setPolTokens (s : State) (d tenant dir n : Nat) : State :=
  { s with tal := { s.tal with polTokens := kset s.tal.polTokens (polKey d tenant dir) (some ⟨n, mono s d⟩) none } }

/-- A read of io:TAL_POLICE: the word returned (R319). -/
def talPolice (s : State) (t : Nat) : Option (Word × State) :=
  let d := thrDie t
  let ten := stagedTenant s t
  let dir := if (stage s t 0x0502).getLsbD 4 then 1 else 0
  let b := countBytes s t
  if combQueueFull s t then none
  else if !talGranted s t then some (0x1000, talDenied s t)
  else if polReg s d ten dir % 2 = 0 then some (0x2000, s)
  else
    let n := polTokens s d ten dir
    if n ≥ b * 1000000 then some (0x8000, setPolTokens s d ten dir (n - b * 1000000))
    else
      let s := cnt (setPolTokens s d ten dir n) .tallyCntPolExceed d 0
      some (0x4000, addCount s d (thrComb t % 8) ten 3 b (countTime s t))

/-! ## The tally unit (R318, R322, R324) -/

def zeroCounts : Vector (BitVec 64) 8 := Vector.replicate 8 0
/-- Add to a counter of 64 bits, which saturates. -/
def satAdd64 (v : BitVec 64) (n : Nat) : BitVec 64 := BitVec.ofNat 64 (satAdd 64 v.toNat n)

/-- One packet and its bytes, in the counter pair of a kind. -/
def addPair (c : Vector (BitVec 64) 8) (kind bytes : Nat) : Vector (BitVec 64) 8 :=
  Vector.ofFn (fun k : Fin 8 =>
    if k.val = 2 * kind then satAdd64 (c.get k) 1 else if k.val = 2 * kind + 1 then satAdd64 (c.get k) bytes else (c.get k))

def addCounts (a b : Vector (BitVec 64) 8) : Vector (BitVec 64) 8 := Vector.ofFn (fun k : Fin 8 => satAdd64 (a.get k) (b.get k).toNat)

def tenantLines (s : State) (d tenant : Nat) : List TallyLine := kget s.tal.lines (d * 65536 + tenant) []
def setTenantLines (s : State) (d tenant : Nat) (l : List TallyLine) : State :=
  { s with tal := { s.tal with lines := kset s.tal.lines (d * 65536 + tenant) l [] } }

/-- Add a count to the bank of its minute. -/
def addToLine (s : State) (d tenant minute kind bytes : Nat) (fold : Bool) : State :=
  let ls := tenantLines s d tenant
  match ls.find? (fun l => l.minute = minute) with
  | some _ =>
    setTenantLines s d tenant (ls.map (fun l =>
      if l.minute = minute then { l with counts := addPair l.counts kind bytes, folded := l.folded || fold } else l))
  | none => setTenantLines s d tenant (ls ++ [⟨minute, addPair zeroCounts kind bytes, fold⟩])

/-- Whether the bank of a minute still holds an earlier one (R322). -/
def bankHeld (s : State) (d tenant minute : Nat) : Bool :=
  (tenantLines s d tenant).any (fun l => decide (l.minute < minute) && decide (l.minute % 2 = minute % 2))

def cacheOf (s : State) (d : Nat) : List Nat := kget s.tal.cache d []
def setCache (s : State) (d : Nat) (l : List Nat) : State := { s with tal := { s.tal with cache := kset s.tal.cache d l [] } }

/-- A line enters the cache; of 16,384 lines the one that has been there longest leaves (DESIGN CHOICE, log entry 37). -/
def cacheLine (s : State) (d tenant : Nat) : State :=
  if tenant ∈ cacheOf s d then s
  else setCache s d ((if (cacheOf s d).length ≥ 16384 then (cacheOf s d).drop 1 else cacheOf s d) ++ [tenant])

/-- Whether a count must wait for its line: the line is in DRAM (R322). -/
def lineMissing (s : State) (d tenant : Nat) : Bool := decide (tenant ∉ cacheOf s d) && decide ((cacheOf s d).length ≥ 16384)

/-- Late lines of a die. -/
def lateKey (d tenant minute : Nat) : Nat := (d * 65536 + tenant) * 1099511627776 + minute
def lateOf (s : State) (d : Nat) : List (Nat × Vector (BitVec 64) 8) :=
  s.tal.late.filterMap (fun e => if e.1 / 72057594037927936 = d then e.2.map (fun c => (e.1, c)) else none)
def setLate (s : State) (k : Nat) (c : Option (Vector (BitVec 64) 8)) : State :=
  { s with tal := { s.tal with late := kset s.tal.late k c none } }

/-- Place a late count in a late line, or fold it into the minute of the present STIME (R324). -/
def addLate (s : State) (d : Nat) (r : TallyReq) : State :=
  let k := lateKey d r.tenant r.minute
  let now := minuteOf s (stime s d)
  let old := kget s.tal.late k none
  if r.minute + 65535 < now ∨ (old.isNone ∧ (lateOf s d).length ≥ 1024) then
    let s := recordK (cnt s .tallyCntFolded d 0) d 0x9002 (nw r.tenant :: wordsOf 2 (r.minute % 4294967296))
    addToLine s d r.tenant now r.kind r.bytes true
  else setLate (cnt s .tallyCntLate d 0) k (some (addPair (old.getD zeroCounts) r.kind r.bytes))

/-- Perform a count. -/
def performCount (s : State) (d : Nat) (r : TallyReq) : State :=
  if r.late then addLate s d r else addToLine (cacheLine s d r.tenant) d r.tenant r.minute r.kind r.bytes false

/-- The DRAM block of a tenant's line in the tally backing region (R322, R342): one block a line (DESIGN CHOICE, log entry 38). -/
def tallyBlock (tenant : Nat) : Nat := tenant

/-- TALLY_UPDATE: the tally unit performs the count at the head of a queue; a count whose line is in DRAM asks for it and waits, and a
count whose bank holds an earlier minute waits (R318, R322). -/
def execTallyUpdate (die queue : Nat) (s : State) : Host.Outcome State Fault Refusal :=
  .next (
    match talQueue s die queue with
    | [] => s
    | r :: rest =>
      if r.late then performCount (setTalQueue s die queue rest) die r
      else if lineMissing s die r.tenant then
        if (dramReqs s die).any (fun q => q.port = 1 && q.tag = r.tenant) then s
        else
          addDramReq (cnt s .tallyCntMiss die 0) die ⟨1, mono s die, tallyBlock r.tenant, 1, r.tenant, 0⟩
      else if bankHeld s die r.tenant r.minute then s
      else performCount (setTalQueue s die queue rest) die r)

/-! ## The close of a minute (R323 to R325) -/

def anyCount (c : Vector (BitVec 64) 8) : Bool := c.toList.any (fun v => decide (v ≠ 0))

/-- Perform the counts of a queue that belong to the minutes up to `m`, and the late ones: the close waits for them. -/
def drainCounts (d m : Nat) (s : State) (q : Nat) : State :=
  let l := talQueue s d q
  let due := l.filter (fun r => r.late || decide (r.minute ≤ m))
  due.foldl (fun s r => performCount s d r) (setTalQueue s d q (l.filter (fun r => !r.late && decide (m < r.minute))))

/-- The lines of a closed minute: those of a tenant with a nonzero counter, and the late lines. -/
def streamLines (s : State) (d m : Nat) : List ClosedLine :=
  (s.tal.lines.filter (fun e => e.1 / 65536 = d)).flatMap (fun e =>
    (e.2.filter (fun l => decide (l.minute ≤ m) && anyCount l.counts)).map (fun l => ⟨e.1 % 65536, l.folded, 0, l.counts⟩)) ++
  (lateOf s d).map (fun e => ⟨e.1 / 1099511627776 % 65536, false, max 1 (m - e.1 % 1099511627776), e.2⟩)

def closedOf (s : State) (d : Nat) : List ClosedMin := kget s.tal.closed d []
def setClosed (s : State) (d : Nat) (l : List ClosedMin) : State := { s with tal := { s.tal with closed := kset s.tal.closed d l [] } }

def talCloseCtl (s : State) : Nat := getR s .tallyCloseCtl s.pkg.lead 0
def talOn (s : State) : Bool := talCloseCtl s % 2 = 1

/-- A die closes minute `m`: it streams the lines, clears the banks and late lines, and keeps the copy until the batch is emitted. -/
def closeMinute (d : Nat) (s : State) (m : Nat) : State :=
  let s := (List.range 9).foldl (drainCounts d m) s
  let lines := streamLines s d m
  let banks := s.tal.lines.filterMap (fun e =>
    if e.1 / 65536 = d then
      match e.2.filter (fun l => decide (m < l.minute)) with
      | [] => none
      | l => some (e.1, l)
    else some e)
  let late := s.tal.late.filter (fun e => e.1 / 72057594037927936 ≠ d)
  let s := { s with tal := { s.tal with lines := banks, late := late, closedTo := kset s.tal.closedTo d (m + 1) 0 } }
  if talOn s then setClosed s d (closedOf s d ++ [⟨m, 1, false, s.pkg.usable, lines⟩]) else s

/-- The run of minutes that a forward step has skipped wholly (R325). -/
def closeSkipped (s : State) (d first n : Nat) : State :=
  let s := { s with tal := { s.tal with closedTo := kset s.tal.closedTo d (first + n) 0 } }
  if n = 0 ∨ !talOn s then s else setClosed s d (closedOf s d ++ [⟨first, n, true, s.pkg.usable, []⟩])

/-- TALLY_CLOSE (R323, R325): the entry's T lies in the minute after the one that closes. -/
def execTallyClose (die : Nat) (s : State) : Host.Outcome State Fault Refusal :=
  .next (
    match takeFired s die 2 with
    | none => s
    | some (f, s) =>
      let m := minuteOf s f.t - 1
      if f.late then
        let ms := range' m f.periods
        let held := ms.filter (fun k => decide (minuteStart s k ≤ ((jumped s die).1 / nsPerS : Nat)) || decide (k = m))
        let rest := ms.filter (fun k => decide (k ∉ held))
        closeSkipped (held.foldl (closeMinute die) s) die (rest.headD (m + held.length)) rest.length
      else closeMinute die s m)

/-! ## The merge (R326, R327) -/

/-- Order of records: tenants of the minute, then late records by BACK and tenant. -/
def lineBefore (a b : ClosedLine) : Bool := decide (a.back < b.back) || (decide (a.back = b.back) && decide (a.tenant < b.tenant))

/-- Merge a line into records in order. -/
def mergeLine (x : ClosedLine) : List ClosedLine → List ClosedLine
  | [] => [x]
  | y :: t =>
    if x.tenant = y.tenant ∧ x.back = y.back then { y with folded := y.folded || x.folded, counts := addCounts y.counts x.counts } :: t
    else if lineBefore x y then x :: y :: t
    else y :: mergeLine x t

def mergeLines (l : List ClosedLine) : List ClosedLine := l.foldl (fun acc x => mergeLine x acc) []

/-- A record of 35 words. -/
def recordOf (x : ClosedLine) : List Word :=
  [nw x.tenant, nw ((if x.back ≠ 0 then 0x8000 else 0) + if x.folded then 0x4000 else 0), nw x.back] ++
    x.counts.toList.flatMap (fun v => wordsOf 4 v.toNat)

/-- Header words 0 to 9, and 12 and 13. -/
def batchHead (s : State) (seq minute span flags dies : Nat) : List Word :=
  wordsOf 2 seq ++ wordsOf 3 (minuteStart s minute).toNat ++ [nw (minuteStart s (minute + 1) - minuteStart s minute).toNat] ++
    wordsOf 2 span ++ [nw flags, nw dies]

/-- Cut a list into lists of `n`; `fuel` bounds their number. -/
def chunks {α : Type} (n fuel : Nat) (l : List α) : List (List α) :=
  match fuel with
  | 0 => []
  | f + 1 => if l.length ≤ n then [l] else l.take n :: chunks n f (l.drop n)

/-- The parts of a batch: headers, at most 120 records each, and DIGEST in the last (R327). -/
def batchParts (head : List Word) (recs : List (List Word)) : List (List Word) :=
  let n := wordsOf 2 recs.length
  let ps := chunks 120 600 recs
  let digest := wordsOf 8 (first128 (sha256 (bytesOf (head ++ n ++ recs.flatten)))).toNat
  ps.zipIdx.map (fun e =>
    head ++ [nw e.2, nw ps.length] ++ n ++ [nw e.1.length, 0] ++ e.1.flatten ++ if e.2 + 1 = ps.length then digest else [])

/-- Send the parts of a batch to the sessions of the host ports in HOSTS whose link is up and that subscribe (R326, R373). -/
def sendBatch (s : State) (b : Batch) : State :=
  let hosts := bitsOf (talCloseCtl s) 1 2
  let sel (x : Session) : Bool := hosts.testBit (x.port - 256) && portIsUp s x.port
  forEach b.parts (fun s p => notifyWhere s sel 0x8004 p) s

/-! ## Retention (R328) -/

/-- SIZE of the retention region, in bytes. -/
def retainSize (s : State) : Nat := bitsOf (getR s .tallyRetainCfg s.pkg.lead 0) 32 16 * 1048576
def retainBase (s : State) : Nat := bitsOf (getR s .tallyRetainCfg s.pkg.lead 0) 0 32 * 4096
def batchBytes (b : Batch) : Nat := 2 * sumN (b.parts.map (·.length))
def retained (s : State) : Nat := sumN (s.tal.batches.map batchBytes)

/-- Discard the oldest unacknowledged batch. -/
def loseBatch (s : State) : State :=
  match s.tal.batches with
  | [] => s
  | b :: rest =>
    let s := cnt { s with tal := { s.tal with batches := rest } } .tallyCntRetainLost s.pkg.lead 0
    recordK s s.pkg.lead 0x9003 (wordsOf 2 b.seq.toNat ++ wordsOf 3 (minuteStart s b.minute).toNat)

/-- Discard the oldest batches until the region has room. -/
def makeRoom (fuel : Nat) (s : State) : State :=
  match fuel with
  | 0 => s
  | f + 1 => if retained s > retainSize s then makeRoom f (loseBatch s) else s

/-- RETAIN_EXPIRE: a batch has been kept for 1,440 minutes, or the region is full. -/
def execRetainExpire (s : State) : Host.Outcome State Fault Refusal :=
  .next (
    match s.tal.batches with
    | b :: _ => if leadMono s ≥ b.at_ + 1440 * 60 * nsPerS ∨ retained s > retainSize s then loseBatch s else s
    | [] => s)

/-- Where the next batch lies in the region: behind the last one, from the start again at its end (DESIGN CHOICE, log entry 39). -/
def nextBase (s : State) (n : Nat) : Nat :=
  match s.tal.batches.getLast? with
  | some b => if b.base + batchBytes b + n ≤ retainSize s then b.base + batchBytes b else 0
  | none => 0

/-- Emit a batch: it takes the next SEQ, is retained and sent. The first after tally is enabled or after a restart is PARTIAL (R329). -/
def emitBatch (s : State) (minute span flags dies : Nat) (recs : List ClosedLine) : State :=
  let flags := flags + (if utcMode s then 1 else 0) + if s.tal.partialNext then 16 else 0
  let parts := batchParts (batchHead s s.tal.nextSeq.toNat minute span flags dies) (recs.map recordOf)
  let n := 2 * sumN (parts.map (·.length))
  let b : Batch := ⟨s.tal.nextSeq, minute, parts, leadMono s, nextBase s n⟩
  let s := cleanBlocks s s.pkg.lead (retainBase s / 64 + b.base / 64) (n / 64 + 1)
  let s := { s with tal := { s.tal with
    batches := s.tal.batches ++ [b], nextSeq := s.tal.nextSeq + 1, lastMinute := minute + span - 1, partialNext := false } }
  makeRoom s.tal.batches.length (sendBatch s b)

/-! ## LEDGER_BATCH_EMIT (R326, R329) -/

/-- The earliest closed minute that the dies keep. -/
def nextClosed (s : State) : Option ClosedMin :=
  (usableDies s).foldl (fun acc d =>
    match acc, closedOf s d with
    | none, x :: _ => some x
    | some a, x :: _ => if x.minute < a.minute then some x else some a
    | a, [] => a) none

/-- Whether the lead was in holdover in a minute. -/
def heldOver (s : State) (m : Nat) : Bool :=
  (markOf s m).testBit 0 || (match s.tal.holdFrom with | some t => decide (minuteOf s t ≤ m) | none => false)

/-- The dies of a closed minute whose lines are there: bits. -/
def diesWith (s : State) (m : Nat) : Nat :=
  sumN ((usableDies s).map (fun d => if (closedOf s d).any (fun x => x.minute = m) then 2 ^ d else 0))

/-- The dies free their copies of a minute. -/
def freeCopies (s : State) (m : Nat) : State :=
  forEach (allDies s) (fun s d => setClosed s d ((closedOf s d).filter (fun x => x.minute ≠ m))) s

/-- The INTERRUPTED batch after a power loss (R329). -/
def emitInterrupted (s : State) (first upto : Nat) : State :=
  let span := max 1 (upto - first)
  let s := recordK s s.pkg.lead 0x9004 (wordsOf 2 span ++ wordsOf 3 (minuteStart s first).toNat)
  let s := { s with tal := { s.tal with resume := none } }
  emitBatch s first span 8 (s.pkg.usable.toNat * 257) []

/-- The lead merges the earliest closed minute once every usable die has streamed it, and emits its batch. -/
def execLedgerBatchEmit (s : State) : Host.Outcome State Fault Refusal :=
  .next (
    match (if keeperDown s s.pkg.lead then none else nextClosed s) with
    | none => s
    | some x =>
      if !talOn s then freeCopies s x.minute
      else
        match s.tal.resume with
        | some first => emitInterrupted s first x.minute
        | none =>
          if (usableDies s).all (fun d => (closedOf s d).any (fun y => y.minute = x.minute)) then
            let recs := mergeLines ((usableDies s).flatMap (fun d =>
              ((closedOf s d).filter (fun y => y.minute = x.minute)).flatMap (·.lines)))
            let len := minuteStart s (x.minute + 1) - minuteStart s x.minute
            let flags :=
              (if len ≠ 60 then 2 else 0) + (if x.skipped then 4 else 0) + (if !x.skipped ∧ heldOver s x.minute then 32 else 0) +
                (if !x.skipped ∧ (markOf s x.minute).testBit 1 then 64 else 0) + (if recs.any (·.folded) then 256 else 0) +
                (if recs.any (fun r => r.back ≠ 0) then 512 else 0)
            let dies := (if x.skipped then x.usable.toNat else diesWith s x.minute) + x.usable.toNat * 256
            let s := emitBatch s x.minute x.span flags dies recs
            let s := freeCopies s x.minute
            { s with tal := { s.tal with marks := kset s.tal.marks x.minute 0 0 } }
          else s)

end Sys2Proof.Machine
end

