-- ==== Sys2Proof/Machine/Egress.lean ====
section
/-!
DEFINITION. Queues, admission, scheduling, transmission and link states of the egress die (R276 to R285, R288 to R298, R305, R306, R309,
R310, R315, R495, R496).
-/

namespace Sys2Proof.Machine

/-! ## Queues (R276, R278) -/

def getQueue (s : State) (q : Nat) : List QCopy := kget s.egr.queues q []
def setQueue (s : State) (q : Nat) (l : List QCopy) : State := { s with egr := { s.egr with queues := kset s.egr.queues q l [] } }

def qCfg (s : State) (q : Nat) : Nat := getR s .qmQCfg (qidDie q) (qidLocal q)
/-- The port index, class, tenant group, profile and tenant of a queue. -/
def qPort (s : State) (q : Nat) : Nat := bitsOf (qCfg s q) 1 6
def qClass (s : State) (q : Nat) : Nat := bitsOf (qCfg s q) 7 3
def qGroup (s : State) (q : Nat) : Nat := bitsOf (qCfg s q) 10 12
def qTenant (s : State) (q : Nat) : Nat := bitsOf (qCfg s q) 32 16
def qProfile (s : State) (q : Nat) : Nat := getR s .qmProfile (qidDie q) (bitsOf (qCfg s q) 22 8)
def qSched (s : State) (q : Nat) : Nat := getR s .egrQSched (qidDie q) (qidLocal q)

def queueBytes (s : State) (q : Nat) : Nat := sumN ((getQueue s q).map (·.charge))
/-- The queues of a die that hold copies. -/
def busyQueues (s : State) (d : Nat) : List Nat := s.egr.queues.filterMap (fun e => if qidDie e.1 = d then some e.1 else none)
def portBytes (s : State) (d p : Nat) : Nat := sumN (((busyQueues s d).filter (fun q => qPort s q = p)).map (queueBytes s))
def groupBytes (s : State) (d tg : Nat) : Nat := sumN (((busyQueues s d).filter (fun q => qGroup s q = tg)).map (queueBytes s))

/-! ## Leaving a queue (R273, R284, R290) -/

/-- The keys of the DWRR deficits of a port: classes, groups within a class, queues (R289, R290). -/
def defClass (c : Nat) : Nat := c
def defGroup (c tg : Nat) : Nat := 0x10000 + tg * 8 + c
def defQueueKey (q : Nat) : Nat := 0x1000000 + qidLocal q

/-- Nodes of a port that have become empty have their deficits set to 0 (R290). -/
def clearDeficits (s : State) (q : Nat) : State :=
  let d := qidDie q
  let p := qPort s q
  let mine := (busyQueues s d).filter (fun r => qPort s r = p)
  let zero (k : Nat) (on : Bool) (m : Map Int) : Map Int := if on then kset m k 0 0 else m
  let c := qClass s q
  let tg := qGroup s q
  modPort s (gpnOf d p) (fun x =>
    let m := zero (defClass c) (!mine.any (fun r => qClass s r = c)) x.deficit
    let m := zero (defGroup c tg) (!mine.any (fun r => qClass s r = c && qGroup s r = tg)) m
    { x with deficit := zero (defQueueKey q) (!mine.any (· = q)) m })

/-- A copy leaves its queue, and its share ends. -/
def dropCopy (s : State) (q : Nat) (c : QCopy) : State :=
  let s := clearDeficits (setQueue s q ((getQueue s q).filter (fun x => x.id ≠ c.id))) q
  endShare s c.frame (.copy c.id)

/-- A transfer that was lost with its link ends with the last copy of its frame (R18). -/
def endLostXfer (s : State) (xf f : Nat) : State :=
  if xf = 0 ∨ (getFrame s f).isSome then s
  else match getXfer s xf with
    | some x => if x.lost then setXfer s xf none else s
    | none => s

/-- The transfer that brings the frame of a copy, 0 for none. -/
def copyXfer (s : State) (c : QCopy) : Nat := ((getFrame s c.frame).map (·.xfer)).getD 0

def discReg (code : Nat) : RegName :=
  match code with | 1 => .qmCntDiscAged | 2 => .qmCntDiscFlushLinkdown | 3 => .qmCntDiscGenRetire | _ => .qmCntDiscQmFlush

/-- A queued copy is discarded with a code (R284, R285). -/
def discardCopy (code q : Nat) (s : State) (c : QCopy) : State :=
  let d := qidDie q
  let s := cnt (cnt s .qmCntDiscard d (qidLocal q)) (discReg code) d (qPort s q)
  let s := hwCount s d (qTenant s q) 2 c.charge
  let xf := copyXfer s c
  endLostXfer (dropCopy s q c) xf c.frame

/-- The copy that a port transmits. -/
def sendingId (s : State) (g : Nat) : Option Nat := (getPort s g).sending.map (fun x => x.copy.id)

/-- Discard every copy of a queue that `sel` names and that is not in transmission; how many. -/
def discardAll (s : State) (q code : Nat) (sel : QCopy → Bool) : Nat × State :=
  let out := (getQueue s q).filter (fun c => sel c && decide (sendingId s (gpnOf (qidDie q) (qPort s q)) ≠ some c.id))
  (out.length, forEach out (discardCopy code q) s)

/-! ## Admission (R278, R283, R292, R305) -/

/-- F of every pool times its size (R278, check 6). -/
def freeBytes (s : State) (d : Nat) : Int := ((List.range 4).map (fun p => poolF s d p * poolSize p)).foldl (· + ·) 0

/-- Check 6: the dynamic share of a queue. -/
def dynOk (s : State) (q l : Nat) : Bool :=
  let p := qProfile s q
  let gmin := p % 65536 * 256
  let alpha := bitsOf p 16 4
  let n := queueBytes s q + l
  if n ≤ gmin then true
  else if alpha = 0 then false
  else if alpha ≥ 8 then decide ((n - gmin : Nat) ≤ freeBytes s (qidDie q) * (2 ^ (alpha - 8) : Nat))
  else decide (((n - gmin) * 2 ^ (8 - alpha) : Nat) ≤ freeBytes s (qidDie q))

/-- The frame of this die that an offer names: none for a transfer whose frame has no buffers here yet. -/
def offerFrame (s : State) (o : Offer) : Option Nat :=
  if o.xfer = 0 then some o.frame
  else match getXfer s o.xfer with
    | some x => if x.dstFrame = 0 then none else some x.dstFrame
    | none => none

/-- Check 7: 0 granted, 7 NOBUF, 8 SHARES. -/
def bufCheck (s : State) (o : Offer) : Nat :=
  let d := qidDie o.qid
  let owner := ownerGroup (qGroup s o.qid)
  match offerFrame s o with
  | none =>
    let pool := fitPool s d (o.txLen + 4)
    if granted s d owner pool (chainLen pool (o.txLen + 4)) then 0 else 7
  | some f =>
    match getFrame s f with
    | none => 7
    | some x =>
      if x.owner ≥ 50 then (if x.shares.length ≥ 1024 then 8 else 0)
      else if granted (setFrame s f (some { x with nbuf := 0 })) d owner x.pool x.nbuf then 0 else 7

/-- Whether a port takes copies: it is not DOWN (R298). -/
def portAdmits (s : State) (g : Nat) : Bool := decide ((getPort s g).link ≠ .down)

/-- The checks of R278 in order: 0, or the order of the first that fails; 8 is SHARES. -/
def admitCheck (s : State) (o : Offer) : Nat :=
  let q := o.qid
  let d := qidDie q
  let l := o.txLen + 4
  let p := qPort s q
  if o.txLen > 9212 ∨ o.txLen > o.supply then 1
  else if qCfg s q % 2 = 0 ∨ !portAdmits s (gpnOf d p) then 2
  else if queueBytes s q + l > bitsOf (qProfile s q) 20 12 * 16384 then 3
  else if portBytes s d p + l > bitsOf (getR s .qmPortCfg d p) 32 17 * 1024 then 4
  else if groupBytes s d (qGroup s q) + l > bitsOf (getR s .qmTgCfg d (qGroup s q)) 6 17 * 1024 then 5
  else if !dynOk s q l then 6
  else bufCheck s o

def refReg (code : Nat) : RegName :=
  match code with
  | 1 => .qmCntRefBadLength | 2 => .qmCntRefQdisabled | 3 => .qmCntRefQMax | 4 => .qmCntRefPortCap | 5 => .qmCntRefTgCap
  | 6 => .qmCntRefQDyn | 7 => .qmCntRefNobuf | _ => .qmCntRefShares

/-- A refused copy: its counters, its one record, the tally drop (R278, R285, R286, R298). -/
def refuseCopy (s : State) (o : Offer) (code : Nat) : State :=
  let q := o.qid
  let d := qidDie q
  let p := qPort s q
  let why := min code 7
  let s := cnt (cnt s .qmCntRefuse d (qidLocal q)) (refReg code) d p
  let s := if code = 2 ∧ !portAdmits s (gpnOf d p) then cnt s .egrCntDownRef d p else s
  let s :=
    if code = 7 then countRefused s d (ownerGroup (qGroup s q))
        (match (offerFrame s o).bind (getFrame s) with | some x => x.pool | none => fitPool s d (o.txLen + 4))
    else s
  let s := hwCount s d (qTenant s q) 2 (o.txLen + 4)
  match o.group with
  | some g => recordK (cnt s .qmCntMcPartial d p) d 0x7004 (nw g :: wordsOf 2 q ++ [nw why])
  | none =>
    if code = 1 then recordK s d 0x7003 (wordsOf 2 q ++ [nw o.txLen, nw o.supply])
    else recordK s d 0x7002 (wordsOf 2 q ++ [nw why, nw (o.txLen + 4)])

/-- The frame that a transfer makes on its egress die: new buffers charged to the tenant group (R263, R266, R295). -/
def arriveFrame (s : State) (o : Offer) (k : Nat) (x : Xfer) (src : Frame) : Nat × State :=
  let d := qidDie o.qid
  let pool := fitPool s d (o.txLen + 4)
  let (f, s) := newFrame s
    { src with die := d, pool := pool, nbuf := chainLen pool (o.txLen + 4), strip := 0, prep := 0, owner := ownerGroup (qGroup s o.qid),
               shares := [.copy k], last := some (.copy k), slot := o.stamp.slot, stime := o.stamp.stime, mono := o.stamp.mono,
               tag := none, whole := decide (x.got ≥ x.flits), xfer := if x.got ≥ x.flits then 0 else o.xfer }
  (f, setXfer s o.xfer (some { x with dstFrame := f }))

/-- The buffers that a copy shares: a frame of this die whose charge moves at its first admission, or new ones (R266, R283). -/
def shareFor (s : State) (o : Offer) (k : Nat) : Nat × State :=
  match offerFrame s o with
  | some f =>
    let s := modFrame s f (fun x => if x.owner ≥ 50 then x else { x with owner := ownerGroup (qGroup s o.qid) })
    (f, nameLast (addShare s f (.copy k)) f (.copy k))
  | none =>
    match getXfer s o.xfer with
    | some x =>
      match getFrame s x.frame with
      | some src => arriveFrame s o k x src
      | none => (0, s)
    | none => (0, s)

/-- The ECN decision for a copy (R305). -/
def ecnMark (s : State) (q l : Nat) : Bool :=
  let d := qidDie q
  let c := getR s .egrEcnProf d (bitsOf (qSched s q) 24 4)
  let n := queueBytes s q + l
  let lo := bitsOf c 16 16 * 1024
  let hi := bitsOf c 32 16 * 1024
  if c % 2 = 0 then false
  else if n ≤ lo then false
  else if n ≥ hi then true
  else decide ((lfsr s d).toNat < bitsOf c 8 8 * 256 * (n - lo) / (hi - lo))

/-- Whether a copy is marked cut-through (R292). -/
def cutThrough (s : State) (o : Offer) : Bool :=
  let q := o.qid
  let d := qidDie q
  let p := qPort s q
  match getXfer s o.xfer with
  | some x =>
    decide (o.xfer ≠ 0) && o.verdict && decide (x.got < x.flits) && (getQueue s q).isEmpty &&
      decide (fieldR s .egrClassCfg d (p * 8 + qClass s q) 9 1 = 1) &&
      (match getFrame s x.frame with
       | some f => decide (portRate s (gpnOf d p) ≤ portRate s f.gpn)
       | none => false)
  | none => false

/-- Admit a copy (R278, R285). -/
def admitCopy (s : State) (o : Offer) : State :=
  let q := o.qid
  let d := qidDie q
  let l := o.txLen + 4
  let ct := cutThrough s o
  let mark := ecnMark s q l
  let (k, s) := newId s
  let (f, s) := shareFor s o k
  let s := setQueue s q (getQueue s q ++ [⟨k, f, o.stamp, o.txLen, l, ct, mark⟩])
  let s := cntN (cnt s .qmCntAdmit d (qidLocal q)) .qmCntAdmitB d (qidLocal q) l
  if queueBytes s q > getR s .qmQHwm d (qidLocal q) then setR s .qmQHwm d (qidLocal q) (queueBytes s q) else s

/-- The end of the offers of one frame: the share that they stood for ends. -/
def endOffer (s : State) (o : Offer) : State :=
  if !o.lastOfGroup then s
  else if o.xfer = 0 then endShare s o.frame (.switch o.share)
  else s

/-- QUEUE_ADMISSION: the queue manager of a die takes its oldest offer (R278). -/
def execQueueAdmission (die : Nat) (s : State) : Host.Outcome State Fault Refusal :=
  .next (
    match offersOf s die with
    | [] => s
    | o :: rest =>
      let s := { s with egr := { s.egr with offers := kset s.egr.offers die rest [] } }
      let code := admitCheck s o
      endOffer (if code = 0 then admitCopy s o else refuseCopy s o code) o)

/-! ## Scheduling (R288 to R291, R296) -/

/-- The tokens of a shaped queue now, in units of 1/8000 byte (R291). -/
def shaperTokens (s : State) (q : Nat) : Int :=
  let c := qSched s q
  let depth : Int := (bitsOf c 53 11 * 1024 * 8000 : Nat)
  let b := kget s.egr.shapers q (depth, 0)
  min depth (b.1 + ((mono s (qidDie q) - b.2) * bitsOf c 32 21 : Nat))

def setShaper (s : State) (q : Nat) (n : Int) : State :=
  let depth : Int := (bitsOf (qSched s q) 53 11 * 1024 * 8000 : Nat)
  { s with egr := { s.egr with shapers := kset s.egr.shapers q (n, mono s (qidDie q)) (depth, 0) } }

/-- Bytes of a frame that are in buffers of its die (R517). -/
def presentBytes (s : State) (f : Frame) : Nat :=
  if f.xfer = 0 then (if f.whole then f.len + 65536 else 0)
  else match getXfer s f.xfer with | some x => x.got * 64 | none => 0

/-- Whether a copy may start (R292). -/
def mayStart (s : State) (c : QCopy) : Bool :=
  match getFrame s c.frame with
  | some f => if f.xfer = 0 then f.whole else c.ct && decide (presentBytes s f ≥ min 256 c.txLen)
  | none => false

/-- Whether a queue is eligible (R288). -/
def eligible (s : State) (q : Nat) : Bool :=
  let g := gpnOf (qidDie q) (qPort s q)
  (match getQueue s q with | c :: _ => mayStart s c | [] => false) && portIsUp s g && !classStopped s g (qClass s q) &&
    (decide (bitsOf (qSched s q) 28 1 = 0) || decide (shaperTokens s q > 0))

/-- The node of a list after node `n`, in rotating order. -/
def nodeAfter (l : List Nat) (n : Nat) : Nat := match l.find? (fun k => decide (k > n)) with | some k => k | none => l.headD n

/-- The DWRR stage (R290): nodes in rising order, their weights, the deficits by node, the node in hand. -/
def dwrrLoop (nodes : List Nat) (weight : Nat → Nat) (key : Nat → Nat) (fuel n : Nat) (m : Map Int) : Nat × Map Int :=
  match fuel with
  | 0 => (n, m)
  | k + 1 =>
    let df := kget m (key n) 0
    if df > 0 then (n, m)
    else dwrrLoop nodes weight key k (nodeAfter nodes n) (kset m (key n) (df + (weight n * 256 : Nat)) 0)

/-- Choose a node of a stage: the state of the port with its pointer and deficits, and the node. -/
def dwrrPick (p : PortS) (stageKey : Nat) (nodes : List Nat) (weight key : Nat → Nat) : Nat × PortS :=
  let at_ := kget p.pointer stageKey 0
  let n0 := if at_ ∈ nodes then at_ else nodeAfter nodes at_
  let (n, m) := dwrrLoop nodes weight key (64 * (nodes.length + 1)) n0 p.deficit
  (n, { p with deficit := m, pointer := kset p.pointer stageKey n 0 })

/-- Numbers without repeats, rising. -/
def sortedSet (l : List Nat) : List Nat := (l.foldl (fun (m : Map Bool) k => kset m k true false) []).map (·.1)

def classCfg (s : State) (g c : Nat) : Nat := getR s .egrClassCfg (gpnDie g) (gpnPort g * 8 + c)
def strict (s : State) (g c : Nat) : Bool := decide (classCfg s g c % 2 = 1)

/-- The three stages of a choice (R289): the queue chosen and the port with its pointers. -/
def pickQueue (s : State) (g : Nat) : Option (Nat × PortS) :=
  let d := gpnDie g
  let qs := (busyQueues s d).filter (fun q => decide (qPort s q = gpnPort g) && eligible s q)
  let classes := sortedSet (qs.map (qClass s))
  if qs = [] then none
  else
    let (c, p) := match classes.reverse.find? (strict s g) with
      | some c => (c, getPort s g)
      | none => dwrrPick (getPort s g) 0 classes (fun c => bitsOf (classCfg s g c) 1 8) defClass
    let inClass := qs.filter (fun q => qClass s q = c)
    let (tg, p) := dwrrPick p (1 + c) (sortedSet (inClass.map (qGroup s))) (fun t => fieldR s .egrTgSched d t 0 8) (defGroup c)
    let (q, p) := dwrrPick p (256 + c * 4096 + tg) (sortedSet (inClass.filter (fun q => qGroup s q = tg)))
      (fun q => qSched s q % 256) defQueueKey
    some (q, p)

/-- Take `n` from the deficits of a chosen queue's nodes; a strict class has none. -/
def chargeNodes (s : State) (g q n : Nat) (p : PortS) : PortS :=
  let c := qClass s q
  let take (k : Nat) (m : Map Int) : Map Int := kset m k (kget m k 0 - n) 0
  let m := take (defQueueKey q) (take (defGroup c (qGroup s q)) p.deficit)
  { p with deficit := if strict s g c then m else take (defClass c) m }

/-- Start the head copy of a chosen queue (R289 to R291). -/
def startCopy (s : State) (g q : Nat) (c : QCopy) (p : PortS) : State :=
  let n := c.txLen + 24
  let s := setPort s g { chargeNodes s g q n p with sending := some ⟨c, q, 0⟩ }
  if bitsOf (qSched s q) 28 1 = 1 then setShaper s q (shaperTokens s q - (n * 8000 : Nat)) else s

/-- Whether the head copy has grown too old (R296). -/
def aged (s : State) (q : Nat) (c : QCopy) : Bool :=
  decide (mono s (qidDie q) - c.stamp.mono > bitsOf (qSched s q) 8 16 * 16000)

/-- SCHEDULE_PICK: the port starts the copy that its scheduler chooses, or discards an aged one (R289, R296, R318). -/
def execSchedulePick (die port : Nat) (s : State) : Host.Outcome State Fault Refusal :=
  .next (
    let g := gpnOf die port
    if (getPort s g).sending.isSome ∨ !portIsUp s g ∨ egrCountFull s die then s
    else
      match pickQueue s g with
      | none => s
      | some (q, p) =>
        match getQueue s q with
        | [] => s
        | c :: _ => if aged s q c then discardCopy 1 q s c else startCopy s g q c p)

/-! ## Transmission (R293, R294, R305, R306, R309, R310, R315, R495) -/

/-- The bytes of a copy, with zeros behind those that the frame has. -/
def copyBytes (f : Frame) (n : Nat) : List Byte := frameBytes f 0 n

/-- The offset of the outermost IP header, with its version, behind at most two tags (R306). -/
def ipHeader (b : List Byte) (k : Nat) : Nat → Option (Nat × Nat)
  | 0 => none
  | fuel + 1 =>
    let ty := two b k
    let v := ((b[k + 2]?).getD 0).toNat / 16
    if (ty = 0x8100 ∨ ty = 0x88A8) ∧ fuel ≠ 0 then ipHeader b (k + 4) fuel
    else if ty = 0x0800 ∧ v = 4 then some (k + 2, 4)
    else if ty = 0x86DD ∧ v = 6 then some (k + 2, 6)
    else none

def setBytes (b : List Byte) (k v : Nat) : List Byte := b.set k (BitVec.ofNat 8 v)

/-- The header checksum after a word of the header has changed (RFC 1624). -/
def newChecksum (hc old new : Word) : Word := ~~~ onesFold (BitVec.ofNat 32 ((~~~hc).toNat + (~~~old).toNat + new.toNat))

/-- Mark a frame CE: the bytes as sent, and whether EGR.CNT_ECN_MARK counts (else EGR.CNT_ECN_NOTECT). -/
def markCe (b : List Byte) : List Byte × Bool :=
  match ipHeader b 12 3 with
  | none => (b, false)
  | some (h, ver) =>
    let t := ((b[h + 1]?).getD 0).toNat
    if ver = 4 then
      if t % 4 = 0 then (b, false)
      else if t % 4 = 3 then (b, true)
      else
        let new := t / 4 * 4 + 3
        let old := nw (two b h)
        let hc := newChecksum (nw (two b (h + 10))) old (nw (two b h / 256 * 256 + new))
        (setBytes (setBytes (setBytes b (h + 1) new) (h + 10) (hc.toNat / 256)) (h + 11) (hc.toNat % 256), true)
    else
      let e := t / 16 % 4
      if e = 0 then (b, false) else if e = 3 then (b, true) else (setBytes b (h + 1) (t / 64 * 64 + 48 + t % 16), true)

/-- The frame as it leaves: padded to 60 bytes (R495). -/
def padded (b : List Byte) : List Byte := b ++ List.replicate (60 - b.length) 0

/-- What leaves a port: a frame, or the EMP notification that a host port makes of a sample or exception frame (R311, R374). The Bool is
false when it is discarded because no session takes it. -/
def emitCopy (s : State) (g : Nat) (f : Frame) (b : List Byte) : State × Bool :=
  if f.note then
    match sampleSession s g with
    | some (i, x) => (sendNote s i x 0x8003 (wordsOfBytes b), true)
    | none => (cnt s .kprCntNotifyDrop s.pkg.lead 0, false)
  else ({ s with out := s.out ++ [.frame g (padded b) false] }, true)

/-- The copies that a completed transmission gives to mirrors and samplers (R309, R310). -/
def copiesAtTx (s : State) (g q : Nat) (c : QCopy) (f : Frame) (b : List Byte) : State :=
  let d := gpnDie g
  let (s, mir) := mirrorAll s d 1 (gpnPort g) c.frame b
  sampleAll s d 1 (gpnPort g) 0 c.frame b mir
    { kind := 2, trunc := false, sampler := 0, gpn := f.gpn, outGpn := g, w3 := 0, qid := q, tenant := qTenant s q, slot := c.stamp.slot,
      inTime := c.stamp.stime, evTime := stime s d, len := c.txLen, bytes := 0, die := d }

/-- A copy that has been transmitted whole is counted (R285, R313, R315). -/
def countSent (s : State) (g q : Nat) (c : QCopy) (mark : Option Bool) : State :=
  let d := gpnDie g
  let k := gpnPort g * 8 + qClass s q
  let s := cntN (cnt s .egrCntTx d k) .egrCntTxB d k (c.txLen + 24)
  let s := match mark with
    | some true => cnt s .egrCntEcnMark d (qidLocal q)
    | some false => cnt s .egrCntEcnNotect d (qidLocal q)
    | none => s
  hwCount s d (qTenant s q) 1 (c.txLen + 4)

/-- The port is free for the next copy. -/
def idlePort (s : State) (g : Nat) : State := modPort s g (fun p => { p with sending := none })

/-- The transmission of a whole copy completes: it leaves its queue and its share ends (R273, R309, R315). Frames of the copy engine and
exception frames are neither mirrored nor sampled (R307). -/
def finishCopy (s : State) (g q : Nat) (c : QCopy) (f : Frame) : State :=
  let b := copyBytes f c.txLen
  let (out, mark) := if c.mark then (let r := markCe b; (r.1, some r.2)) else (b, none)
  let (s, sent) := emitCopy (idlePort s g) g f out
  let s := if sent then countSent s g q c mark else s
  dropCopy (if f.note ∨ f.noCopy then s else copiesAtTx s g q c f out) q c

/-- A copy ends short: its frame with a bad FCS, its counter and record, a tally drop, and the transfer that brought it if that was lost (R293, R294). -/
def abortCopy (s : State) (g : Nat) (x : Sending) (n : Nat) (lost : Bool) : State :=
  let d := gpnDie g
  let c := x.copy
  let b := match getFrame s c.frame with | some f => frameBytes f 0 (min n c.txLen) | none => []
  let s := { idlePort s g with out := s.out ++ [.frame g b true] }
  let s := cnt s (if lost then .egrCntTxAbort else .egrCntUnderrun) d (gpnPort g)
  let s := recordK s d 0x8004 (nw g :: wordsOf 2 x.queue ++ [nw n, if lost then 1 else 0])
  let s := hwCount s d (qTenant s x.queue) 2 c.charge
  let xf := copyXfer s c
  endLostXfer (dropCopy s x.queue c) xf c.frame

/-- The first byte of a frame, of those sent, whose data is uncorrectable: the MAC ends the frame there (R401). -/
def firstPoison (f : Frame) (len : Nat) : Option Nat := (f.poison.filter (fun k => decide (k < len))).min?

/-- TX_COMPLETE: the last bit of the copy in transmission has left (R315), unless it holds uncorrectable data (R401). -/
def execTxComplete (die port : Nat) (s : State) : Host.Outcome State Fault Refusal :=
  .next (
    let g := gpnOf die port
    match (getPort s g).sending with
    | none => s
    | some x =>
      match getFrame s x.copy.frame with
      | none => idlePort s g
      | some f =>
        if f.xfer ≠ 0 then s
        else
          match firstPoison f x.copy.txLen with
          | some n => abortCopy s g x n false
          | none => finishCopy s g x.queue x.copy f)

/-- TX_UNDERRUN: the MAC needs a byte of a cut-through copy that is not there; it ends the frame after the last byte present (R293). -/
def execTxUnderrun (die port sent : Nat) (s : State) : Host.Outcome State Fault Refusal :=
  .next (
    let g := gpnOf die port
    match (getPort s g).sending with
    | none => s
    | some x =>
      match getFrame s x.copy.frame with
      | none => s
      | some f => if x.copy.ct ∧ f.xfer ≠ 0 ∧ sent ≤ presentBytes s f then abortCopy s g x sent false else s)

/-! ## Link states (R297, R298, R496) -/

/-- LOSS_US and UP_MS in ns; a host port, which has no PHY.PORT_CFG, takes the reset values (PRESUMED, log entry 25). -/
def lossNs (s : State) (g : Nat) : Nat := if isHostPort g then 100000 else fieldR s .phyPortCfg (gpnDie g) (gpnPort g) 16 10 * 1000
def upNs (s : State) (g : Nat) : Nat := if isHostPort g then 10000000 else fieldR s .phyPortCfg (gpnDie g) (gpnPort g) 26 6 * 1000000

def holdNs (s : State) (g : Nat) : Nat := fieldR s .egrLinkCfg (gpnDie g) (gpnPort g) 16 10 * 1000000

/-- A front port of a die whose SerDes reference is lost has no link (R405). -/
def noSerdes (s : State) (g : Nat) : Bool := !isHostPort g && kget s.phy.noRef (gpnDie g) false

/-- Whether a port is held DOWN as if ADMIN were 0: no lead (R27), a die that is not usable, an alignment fault (R37), a fenced die
(R260), a member port of an isolated or drifted package (R479, R483). A fenced die keeps its host port. -/
def held (s : State) (g : Nat) : Bool :=
  let d := gpnDie g
  if isHostPort g then s.pkg.noLead || !(usable s d || s.pkg.fenced.getLsbD d)
  else
    s.pkg.noLead || !usable s d || decide (fieldR s .timeStatus d 0 9 1 = 1) ||
      (decide (fieldR s .pairStatus s.pkg.lead 0 0 3 ≥ 5) && s.pair.groups.any (fun e => decide (e.2 = some g)))

/-- Whether a port is enabled: ADMIN, and nothing holds it down. -/
def admin (s : State) (g : Nat) : Bool := decide (fieldR s .egrLinkCfg (gpnDie g) (gpnPort g) 0 1 = 1) && !held s g

/-- The port enters DOWN: its queues are flushed, learned entries that name it go (R298). -/
def enterDown (s : State) (g : Nat) : State :=
  let d := gpnDie g
  let qs := (busyQueues s d).filter (fun q => qPort s q = gpnPort g)
  let (n, s) := qs.foldl (fun (a : Nat × State) q => let r := discardAll a.2 q 2 (fun _ => true); (a.1 + r.1, r.2)) (0, s)
  let s := modPort s g (fun p => { p with link := .down })
  let s := flushGpn (cnt s .egrCntFlush d (gpnPort g)) g
  recordK s d 0x8003 (nw g :: wordsOf 2 n)

/-- The port leaves UP: a copy in transmission is aborted, received pause state is cleared (R294, R297). `n` bytes had been sent. -/
def leaveUp (s : State) (g n : Nat) : State :=
  let s := match (getPort s g).sending with | some x => abortCopy s g x n true | none => s
  let s := forEach (List.range 8) (fun s c => endStop s g c) s
  modPort s g (fun p => { p with holdSince := mono s (gpnDie g) })

/-- The port enters UP (R297). -/
def enterUp (s : State) (g : Nat) : State :=
  let d := gpnDie g
  let ms := min 0xFFFF ((mono s d - (getPort s g).holdSince) / 1000000)
  recordK (modPort s g (fun p => { p with link := .up })) d 0x8002 [nw g, nw ms]

/-- The bytes of a copy in transmission that have left when its link goes: a free value (log entry 12). -/
def abortBytes (s : State) (g : Nat) : Nat :=
  match (getPort s g).sending with
  | some x => min (Config.sentAtLoss s.free g (mono s (gpnDie g))) x.copy.txLen
  | none => 0

/-- The link of a port is lost (R297): HOLD, or DOWN when HOLD is 0. -/
def loseLink (s : State) (g : Nat) : State :=
  let d := gpnDie g
  let s := modPort s g (fun p => { p with linkUp := false })
  if (getPort s g).link = .up then
    let s := leaveUp { s with free := s.free + 1 } g (abortBytes s g)
    let s := recordK (cnt s .egrCntLinkLoss d (gpnPort g)) d 0x8001 [nw g, if holdNs s g = 0 then 0 else 1]
    if holdNs s g = 0 then enterDown s g else modPort s g (fun p => { p with link := .hold })
  else s

/-- The link of a port is up (R297). -/
def raiseLink (s : State) (g : Nat) : State :=
  let s := modPort s g (fun p => { p with linkUp := true })
  match (getPort s g).link with
  | .hold => enterUp s g
  | .down => if admin s g then enterUp s g else s
  | .up => s

/-- Bring a port into line with what enables it and with its link (R297): it is shut, or comes up. -/
def settlePort (s : State) (g : Nat) : State :=
  let p := getPort s g
  if !admin s g then
    match p.link with
    | .up => refreshGroups (enterDown (leaveUp { s with free := s.free + 1 } g (abortBytes s g)) g)
    | .hold => enterDown s g
    | .down => s
  else if p.linkUp ∧ p.link = .down then refreshGroups (enterUp s g)
  else s

/-- Every port of a die, its host port included. -/
def settlePorts (s : State) (d : Nat) : State := forEach (portsOf d) (fun s p => settlePort s (gpnOf d p)) s

/-- PCS_UP_CHANGE: PCS_UP of a configured port changes and its filters start (R496). -/
def execPcsUpChange (gpn : Nat) (up : Bool) (s : State) : Host.Outcome State Fault Refusal :=
  .next (
    if !portConfigured s gpn ∨ (getPort s gpn).pcsUp = up ∨ (up ∧ noSerdes s gpn) then s
    else modPort s gpn (fun p => { p with pcsUp := up, pcsSince := mono s (gpnDie gpn) }))

/-- LINK_LOST: PCS_UP has been 0 for LOSS_US (R496). -/
def execLinkLost (gpn : Nat) (s : State) : Host.Outcome State Fault Refusal :=
  .next (
    let p := getPort s gpn
    if p.linkUp ∧ !p.pcsUp ∧ mono s (gpnDie gpn) ≥ p.pcsSince + lossNs s gpn then refreshGroups (loseLink s gpn) else s)

/-- LINK_UP: PCS_UP has been 1 for UP_MS (R496). -/
def execLinkUp (gpn : Nat) (s : State) : Host.Outcome State Fault Refusal :=
  .next (
    let p := getPort s gpn
    if !p.linkUp ∧ p.pcsUp ∧ !noSerdes s gpn ∧ mono s (gpnDie gpn) ≥ p.pcsSince + upNs s gpn then refreshGroups (raiseLink s gpn) else s)

/-- HOLD_EXPIRE: the hold timer of a port expires (R297, R298). -/
def execHoldExpire (gpn : Nat) (s : State) : Host.Outcome State Fault Refusal :=
  .next (
    let p := getPort s gpn
    if p.link = .hold ∧ mono s (gpnDie gpn) ≥ p.holdSince + holdNs s gpn then enterDown s gpn else s)

end Sys2Proof.Machine
end

