-- ==== Sys2Proof/Machine/Tracker.lean ====
section
/-! DEFINITION. The fault tracker of each die (R406, R407). -/

namespace Sys2Proof.Machine

def trackOf (s : State) (d : Nat) : List TrackLine := kget s.flt.track d []
def setTrack (s : State) (d : Nat) (l : List TrackLine) : State := { s with flt := { s.flt with track := kset s.flt.track d l [] } }

/-- COUNT and WINDOW of a kind; the window in ns. -/
def threshCount (s : State) (d kind : Nat) : Nat := fieldR s .fltThresh d kind 0 8
def threshNs (s : State) (d kind : Nat) : Nat := fieldR s .fltThresh d kind 8 24 * nsPerS

/-- Events of a line within its kind's window (R407). -/
def lineTimes (s : State) (d : Nat) (l : TrackLine) : List Nat := l.times.filter (fun t => decide (mono s d < t + threshNs s d l.kind))

/-- A line that holds no event within its window is free (R406). -/
def lineFree (s : State) (d : Nat) (l : TrackLine) : Bool := (lineTimes s d l).isEmpty

/-- The time of a line's last event. -/
def lastEvent (l : TrackLine) : Nat := l.times.foldl max 0

/-- The line whose last event is oldest. -/
def oldestLine : List TrackLine → Option TrackLine
  | [] => none
  | a :: t => match oldestLine t with | none => some a | some b => if lastEvent a ≤ lastEvent b then some a else some b

/-- A place for a new line (R406). -/
def roomForLine (s : State) (d : Nat) : State :=
  let live := (trackOf s d).filter (fun l => !lineFree s d l)
  if live.length < 512 then setTrack s d live
  else match oldestLine live with
    | some o => cnt (setTrack s d (live.erase o)) .fltCntTrackFull d 0
    | none => setTrack s d live

/-- What an event at a location makes of its line: how many events count, and whether the location becomes lasting with it. -/
structure Tracked where
  count : Nat
  fresh : Bool
  lasting : Bool

/-- An event at a location (R406, R407): `hard` makes it lasting at once (an uncorrectable word). Two events within 1 µs count as one. -/
def trackEvent (s : State) (d : Nat) (loc : Loc) (kind : Nat) (hard : Bool) : Tracked × State :=
  let now := mono s d
  let s := if (trackOf s d).any (fun l => decide (l.loc = loc)) then s else roomForLine s d
  let old := (trackOf s d).find? (fun l => decide (l.loc = loc))
  let line := old.getD ⟨loc, kind, [], false⟩
  let same := decide (line.times ≠ []) && decide (now < lastEvent line + 1000)
  let times := lineTimes s d line ++ if same then [] else [now]
  let reached := hard || decide (times.length ≥ threshCount s d kind)
  let new : TrackLine := ⟨loc, kind, times, line.lasting || reached⟩
  let s := setTrack s d ((trackOf s d).filter (fun l => !decide (l.loc = loc)) ++ [new])
  let becomes := reached && !line.lasting
  (⟨times.length, !same, becomes⟩, if becomes then cnt s .fltCntLasting d 0 else s)

end Sys2Proof.Machine
end

