-- ==== Sys2Proof/Machine/Bridge.lean ====
section
/-!
DEFINITION. The die bridge in operation (R14 to R19, R283, R295, R404, R517): flits, acknowledgements, replays, lanes and links that fail.
-/

namespace Sys2Proof.Machine

/-! ## Links and lanes (R404) -/

/-- The number of link `j` of die `a` to die `b`: links are numbered over the other dies in rising order (DESIGN CHOICE, log entry 41). -/
def linkNo (s : State) (a b j : Nat) : Nat := (if b < a then b else b - 1) * pairLinks s + j

/-- The link among those in service that carries a transfer: by its number (DESIGN CHOICE, log entry 41). -/
def linkOfXfer (s : State) (a b k : Nat) : Nat := k % max 1 (linksUp s a b)

/-- The last hop of a transfer. -/
def lastHop (x : Xfer) : Nat := match x.via with | some m => m | none => x.src

/-- The key of a bridge lane of a die. -/
def laneKey (d link lane : Nat) : Nat := (d * 64 + link) * 32 + lane

/-- Count a replay on a lane in this second; the replays of the last second, and whether every one of the last WINDOW seconds has more
than COUNT of them (R407). -/
def countReplay (s : State) (d link lane : Nat) : Nat × Bool × State :=
  let k := laneKey d link lane
  let sec := mono s d / nsPerS
  let w := fieldR s .fltThresh d 2 8 24
  let old := (kget s.flt.replays k []).filter (fun e => decide (sec < e.1 + w))
  let n := ((old.find? (fun e => e.1 = sec)).map (·.2)).getD 0 + 1
  let l := (old.filter (fun e => e.1 ≠ sec)) ++ [(sec, n)]
  let over_ := (l.filter (fun e => decide (e.2 > threshCount s d 2))).length
  (n, decide (over_ ≥ w), { s with flt := { s.flt with replays := kset s.flt.replays k l [] } })

/-! ## A lost frame (R18) -/

/-- The offers of a transfer are withdrawn. -/
def dropOffers (s : State) (k dst : Nat) : State :=
  { s with egr := { s.egr with offers := kset s.egr.offers dst ((offersOf s dst).filter (fun o => o.xfer ≠ k)) [] } }

/-- Copies of a frame in the queues of its die, with their queues. -/
def copiesOf (s : State) (f d : Nat) : List (Nat × QCopy) :=
  (busyQueues s d).flatMap (fun q => ((getQueue s q).filter (fun c => c.frame = f)).map (fun c => (q, c)))

/-- A frame is lost with its link: the sending die counts it and its share ends; what the egress die has of an incomplete frame goes, but
for a copy in transmission, which ends by underrun (DEDUCED, log entry 42). -/
def loseXfer (s : State) (k : Nat) (x : Xfer) : State :=
  let s := endShare (cnt s .bridgeLostFrames x.src 0) x.frame (.switch k)
  let s := dropOffers s k x.dst
  if x.got ≥ x.flits then setXfer s k none
  else
    let cs := if x.dstFrame = 0 then [] else copiesOf s x.dstFrame x.dst
    let going (e : Nat × QCopy) : Bool := decide (sendingId s (gpnOf x.dst (qPort s e.1)) = some e.2.id)
    let s := setXfer s k (if cs.any going then some { x with lost := true } else none)
    forEach (cs.filter (fun e => !going e)) (fun s e => dropCopy s e.1 e.2) s

/-- A transfer that has sent nothing takes another path, or its frame is discarded (R18, R19, R22). -/
def rerouteXfer (s : State) (k : Nat) (x : Xfer) : State :=
  let cls := ((getFrame s x.frame).map (·.cls)).getD 0
  let path := if x.mcast ∨ reservedClass s x.src x.dst cls then directPath s x.src x.dst else freshPath s x.src x.dst
  match (if usable s x.dst then path else none) with
  | some via => setXfer s k (some { x with via := via })
  | none =>
    let gpn := ((getFrame s x.frame).map (·.gpn)).getD 0
    endShare (setXfer (dropNodie s x.src gpn x.dest x.mcast x.giver) k none) x.frame (.switch k)

/-- The transfers of the links from die `a` to die `b` after one of `n` links has gone: those of it that have sent flits are lost. -/
def settleHop (n a b : Nat) (s : State) (e : Nat × Xfer) : State :=
  if !usesLink e.2 a b || e.2.lost then s
  else if e.2.got ≠ 0 then (if e.1 % max 1 n = n - 1 then loseXfer s e.1 e.2 else s)
  else if linksUp s a b = 0 then rerouteXfer s e.1 e.2
  else s

/-- EV_BRIDGE_RESV_LOST on die `a`: its last direct link to `b` is withdrawn, or one has returned (R19). -/
def resvRecord (s : State) (a b v : Nat) : State := if usable s a then recordK s a 0xC004 [nw b, nw v] else s

/-- Withdraw a link between two dies (R18): the one with the highest number in service (DESIGN CHOICE, log entry 41). Both directions lose
what they had sent on it. -/
def withdrawLink (s : State) (a b : Nat) : State :=
  let w := kget s.egr.links (a * 8 + b) 0
  let n := pairLinks s - w
  if a = b ∨ n = 0 then s
  else
    let s := recordF s 6 a 0xC003 (keeperId a) [nw (linkNo s a b (n - 1)), nw b]
    let s := { s with egr := { s.egr with links := kset (kset s.egr.links (a * 8 + b) (w + 1) 0) (b * 8 + a) (w + 1) 0 } }
    let s := (xfersOf s).foldl (settleHop n a b) s
    let s := (xfersOf s).foldl (settleHop n b a) s
    if n = 1 then resvRecord (resvRecord s a b 1) b a 1 else s

/-- Withdraw every link of a die, as its far ends see it (R18, R260, R409). -/
def withdrawDie (s : State) (d : Nat) : State :=
  forEach ((allDies s).filter (fun e => decide (e ≠ d) && usable s e)) (fun s e =>
    (List.range (pairLinks s)).foldl (fun s _ => withdrawLink s e d) s) s

/-- The links of a die return (R260, R410). -/
def restoreLinks (s : State) (d : Nat) : State :=
  forEach ((allDies s).filter (fun e => decide (e ≠ d) && usable s e)) (fun s e =>
    if kget s.egr.links (e * 8 + d) 0 = 0 then s
    else
      let s := { s with egr := { s.egr with links := kset (kset s.egr.links (e * 8 + d) 0 0) (d * 8 + e) 0 0 } }
      resvRecord (resvRecord s e d 0) d e 0) s

/-! ## Flits (R283, R295, R404, R517) -/

/-- A flit with a bad CRC is sent again: the replay counts, and a lasting lane is remapped or takes its link with it (R404, R407). -/
def replayFlit (s : State) (d far k lane : Nat) : State :=
  let link := linkNo s d far (linkOfXfer s far d k)
  let s := cnt s .fltCntReplay d (link * 32 + lane)
  let (n, lasting, s) := countReplay s d link lane
  let s := recordF s 6 d 0xC001 (keeperId d) [nw link, nw lane, nw n]
  let gone := laneKey d link lane
  if lasting ∧ gone ∉ s.flt.retiredLanes then
    let second := s.flt.retiredLanes.any (fun l => decide (l / 32 = d * 64 + link))
    let s := cnt { s with flt := { s.flt with retiredLanes := s.flt.retiredLanes ++ [gone] } } .fltCntLasting d 0
    if second then withdrawLink s d far else recordF s 6 d 0xC002 (keeperId d) [nw link, nw lane]
  else s

/-- What a frame carries on its egress die: its age goes on (R295). -/
def arriveStamp (s : State) (x : Xfer) : Stamp :=
  { x.stamp with mono := mono s x.dst - (mono s x.src - x.stamp.mono) }

/-- The first flit of a transfer: the frame is offered to its queue, or to each member of its group on the die (R278, R283). -/
def offerXfer (s : State) (k : Nat) (x : Xfer) : State :=
  if x.mcast then
    match (getGroup s x.dst x.dest).members with
    | [] => cnt s .qmCntMcEmpty x.dst 0
    | ms => offerMembers s x.dst 0 0 k x.dest (arriveStamp s x) x.txLen x.supply x.verdict ms
  else addOffer s x.dst ⟨0, 0, k, x.dest, none, arriveStamp s x, x.txLen, x.supply, x.verdict, true⟩

/-- The last flit: the frame is whole in the buffers of its egress die. -/
def wholeXfer (s : State) (x : Xfer) : State :=
  if x.dstFrame = 0 then s else modFrame s x.dstFrame (fun f => { f with whole := true, xfer := 0 })

/-- BRIDGE_FLIT_RX: the next data flit of a transfer arrives at its egress die (R517). -/
def execBridgeFlitRx (die xfer : Nat) (crcOk : Bool) (lane : Nat) (s : State) : Host.Outcome State Fault Refusal :=
  .next (
    match getXfer s xfer with
    | none => s
    | some x =>
      if x.dst ≠ die ∨ x.lost ∨ x.got ≥ x.flits then s
      else if !crcOk then replayFlit s die (lastHop x) xfer (lane % 32)
      else
        let s := setXfer s xfer (some { x with got := x.got + 1 })
        let s := if x.got = 0 then offerXfer s xfer x else s
        if x.got + 1 = x.flits then wholeXfer s x else s)

/-- BRIDGE_ACK: the egress die has the whole frame and has admitted, refused or dropped it; the ingress buffers are dropped (R266, R273). -/
def execBridgeAck (die xfer : Nat) (s : State) : Host.Outcome State Fault Refusal :=
  .next (
    match getXfer s xfer with
    | none => s
    | some x =>
      if x.dst = die ∧ !x.lost ∧ x.got ≥ x.flits ∧ (offersOf s die).all (fun o => decide (o.xfer ≠ xfer)) then
        endShare (setXfer s xfer none) x.frame (.switch xfer)
      else s)

/-- BRIDGE_LINK_FAIL: a link of a die to another fails (R18). -/
def execBridgeLinkFail (die far : Nat) (s : State) : Host.Outcome State Fault Refusal :=
  .next (if usable s die ∧ far < s.pkg.n then withdrawLink s die far else s)

end Sys2Proof.Machine
end

