-- ==== Sys2Proof/Machine/Debug.lean ====
section
/-!
DEFINITION. The debugger's halt, resume and step of a thread (R118 to R122), and the supervisor's commands on a faulted thread (R116,
R117), with the cycle limit (R114).
-/

namespace Sys2Proof.Machine

/-! ## Halt, resume and step -/

/-- End the freeze of a thread's reorder timer: the time for which it was frozen does not count (R92). -/
def endFreeze (s : State) (t : Nat) : State :=
  let x := getT s t
  match x.freeze with
  | none => s
  | some m =>
    let s := setT s t { x with freeze := none }
    match x.item with
    | some it => if it.kind = .packet then modOut s it.frame (fun o => { o with held := o.held + (mono s (thrDie t) - m) }) else s
    | none => s

/-- Halt a thread (R119); a thread that is FAULTED, RESETTING or already HALTED stays as it is. `freeze` sets DBG_FREEZE_ORDER. -/
def dbgHaltT (s : State) (t : Nat) (freeze : Bool) : State :=
  let st := (getT s t).st
  if st = .faulted ∨ st = .resetting ∨ st = .halted then s
  else
    let s := dbgRecord (haltThread s t) 0x4004 t
    if freeze then modT s t (fun x => { x with freeze := some (mono s (thrDie t)) }) else s

/-- The state to which a HALTED thread returns. -/
def resumeState (s : State) (t : Nat) : ThrState :=
  match (getT s t).haltFrom with
  | some .free => idleState s t
  | some .disabled => idleState s t
  | some st => st
  | none => .active

/-- Resume a HALTED thread (R118, R119): the events that arrived meanwhile take effect. -/
def dbgResumeT (s : State) (t : Nat) : State :=
  if (getT s t).st = .halted then
    let s := endFreeze s t
    let s := setSt s t (resumeState s t)
    tryWake (modT s t (fun x => { x with haltFrom := none })) t
  else s

/-- Let a HALTED thread commit one instruction (R120): it halts again when that has committed. A thread that runs nothing stays. -/
def dbgStepT (s : State) (t : Nat) : State :=
  let st := resumeState s t
  if (getT s t).st = .halted ∧ (st = .active ∨ st = .stalled ∨ st = .waiting) then
    let s := setSt s t st
    tryWake (modT s t (fun x => { x with haltFrom := none, stepping := true })) t
  else s

/-- End a cell's attachment: breakpoints and watchpoints go, HALTED threads resume (R118). -/
def dbgDetachCell (s : State) (c : Nat) : State :=
  let s := modCell s c (fun x => { x with dbg := none, breaks := [] })
  forEach (cellThreads c) dbgResumeT s

/-! ## The supervisor's debug ports (R118) -/

/-- A write to io:DBG_SEL: the supervisor attaches, unless a session holds the cell. -/
def dbgSelect (s : State) (c : Nat) (v : Word) : State :=
  match (getCell s c).dbg with
  | some (.session _) => s
  | _ => modCell s c (fun x => { x with dbg := some .supervisor, dbgSel := v })

/-- The thread that a selection of 1 to 7 names. -/
def selected (c : Nat) (sel : Word) : Option Nat := if 1 ≤ sel.toNat ∧ sel.toNat ≤ 7 then some (c * 8 + sel.toNat) else none

/-- A write to io:DBG_CMD. -/
def dbgCommand (s : State) (c : Nat) (v : Word) : State :=
  match (getCell s c).dbg, selected c (getCell s c).dbgSel with
  | some .supervisor, some t =>
    match v.toNat with
    | 1 => dbgHaltT s t false
    | 2 => dbgResumeT s t
    | 3 => dbgStepT s t
    | 4 => threadReset s t reasonThreadReset false
    | _ => s
  | _, _ => s

/-! ## The supervisor's commands (R116) -/

/-- RESUME: the faulting instruction executes again; after CYCLE_LIMIT the count restarts at 0 (R114). -/
def supResumeT (s : State) (t : Nat) : State :=
  match (getT s t).st, (getT s t).fault with
  | .faulted, some f =>
    let s := setSt s t .active
    modT s t (fun x => { x with fault := none, cycBase := if f.cause = 8 then 0 else x.cycBase })
  | _, _ => s

/-- SKIP: the thread goes on behind the faulting instruction; for CYCLE_LIMIT, as RESUME. -/
def supSkipT (s : State) (t : Nat) : State :=
  match (getT s t).st, (getT s t).fault with
  | .faulted, some f =>
    let s := supResumeT s t
    if f.cause = 8 then s else modT s t (fun x => { x with regs := { x.regs with pc := f.pc + nw f.units } })
  | _, _ => s

/-- The item of a killed thread ends, a packet's with a DROP of the given reason. -/
def killItem (s : State) (t reason : Nat) : State :=
  match (getT s t).item with
  | none => s
  | some it =>
    let s := if it.kind = .packet then enterVerdict s it.frame (dropVerdict reason (thrMaster t)) else s
    modT (cnt s .cellCntItems (thrDie t) (cellInst (thrCell t))) t (fun x => { x with item := none })

/-- KILL: the item ends, then the thread is reset, and its staged words go without a record. -/
def supKillT (s : State) (t : Nat) : State :=
  if (getT s t).st = .faulted then
    let r := (getCell s (thrCell t)).supReason.toNat % 256
    threadReset (killItem s t (if r ≥ 0xF0 then reasonBadVerdict else r)) t reasonThreadReset true
  else s

/-- A write to io:SUP_CMD. -/
def supCommand (s : State) (c : Nat) (v : Word) : State :=
  match selected c (getCell s c).fltSel with
  | none => s
  | some t =>
    match v.toNat with
    | 1 => supResumeT s t
    | 2 => supSkipT s t
    | 3 => supKillT s t
    | 4 => threadReset s t reasonThreadReset false
    | _ => s

/-! ## Time-driven happenings of a cell -/

/-- CYCLE_LIMIT: the count of a thread's item has reached its limit (R114). -/
def execCycleLimit (tid : Nat) (s : State) : Host.Outcome State Fault Refusal :=
  .next (
    let x := getT s tid
    if counting x.st && x.item.isSome && decide (cclk (cycNs s tid) ≥ pdomCfg s tid % 4096 * 1024) then
      faultAt s tid 8 x.regs.pc 0 1
    else s)

/-- SUP_FAULT_CELL_RESET: the Keeper resets a cell whose supervisor has faulted (R117). -/
def execSupFaultCellReset (cell : Nat) (s : State) : Host.Outcome State Fault Refusal :=
  .next (if (getCell s (cell / 8)).supFault.isSome then cellReset s (cell / 8) else s)

/-- THREAD_RESET_DONE: the thread leaves RESETTING (R122). -/
def execThreadResetDone (tid : Nat) (s : State) : Host.Outcome State Fault Refusal :=
  .next (if (getT s tid).st = .resetting then setSt s tid (idleState s tid) else s)

/-- TIMER_EXPIRE (R180). -/
def execTimerExpire (tid : Nat) (s : State) : Host.Outcome State Fault Refusal :=
  .next (
    match (getT s tid).timer with
    | some due => if mono s (thrDie tid) ≥ due then raiseEvent (modT s tid (fun x => { x with timer := none })) tid 10 else s
    | none => s)

end Sys2Proof.Machine
end

