-- ==== Sys2Proof/Machine/BufPorts.lean ====
section
/-! DEFINITION. The buffer ports of a thread (R271 to R275): allocation, release, free, submission. -/

namespace Sys2Proof.Machine

/-- The frame that a handle of thread `t` names. -/
def heldFrame (s : State) (t h : Nat) : Option Nat :=
  let f := kget (getT s t).handles h 0
  if h = 0 ∨ f = 0 then none else some f

def handleCount (s : State) (t : Nat) : Nat := (getT s t).handles.length

def setHandle (s : State) (t h f : Nat) : State := modT s t (fun x => { x with handles := kset x.handles h f 0 })

/-- A buffer that a thread allocates (R274): one buffer, empty, charged to the program domain. -/
def threadBuffer (s : State) (t h pool : Nat) : State :=
  let d := thrDie t
  let holder := Holder.thread t h
  let x : Frame :=
    { die := d, len := 0, bytes := [], poison := [], pool := pool, nbuf := 1, strip := 0, prep := 0, owner := ownerDomain (thrDom s t),
      shares := [holder], last := some holder, gpn := 0x1FF, slot := thrSlot s t, stime := stime s d, mono := mono s d, cls := 0,
      level := 0, pdom := thrDom s t, odom := 0, seq := 0, tag := none, recirc := 0, parse := [], carry := [], badTail := false,
      whole := true, late := false, startNode := 0, xfer := 0, note := false, noCopy := false }
  let (f, s) := newFrame s x
  setHandle s t h f

/-- A read of io:BUF_ALLOC (R274): the lowest free handle is given (DESIGN CHOICE, log entry 32). -/
def bufAllocate (s : State) (t : Nat) : Word × State :=
  let d := thrDie t
  let pool := (stage s t 0x0600).toNat
  let held := handleCount s t
  let static_ := bitsOf (pdomCfg s t) 13 1 = 0
  let share := bitsOf (getRS s .cellPdomShare d (thrSlot s t) (thrDom s t)) 0 8
  if held ≥ 255 then (0x2000, s)
  else if static_ ∧ held ≥ share then (0x4000, s)
  else if !granted s d (ownerDomain (thrDom s t)) pool 1 then (0x4000, countRefused s d (ownerDomain (thrDom s t)) pool)
  else
    match findFrom (fun h => kget (getT s t).handles h 0 = 0) 1 255 with
    | some h => (nw (0x8000 + h), threadBuffer s t h pool)
    | none => (0x2000, s)

/-- The staged handle. -/
def stagedHandle (s : State) (t : Nat) : Nat := (stage s t 0x0602).toNat

/-- A read of io:BUF_RELEASE (R271). -/
def bufReleaseOp (s : State) (t : Nat) : Word × State :=
  let h := stagedHandle s t
  match heldFrame s t h with
  | none => (0x1000, s)
  | some f => (0x8000, setHandle (endShare s f (.thread t h)) t h 0)

/-- A refused FREE is counted and recorded (R272, R286). -/
def freeRefused (s : State) (t reason pool h : Nat) : State :=
  record (cnt s .bufCntFreeRefused (thrDie t) 0) (thrDie t) 0x7001 (thrMaster t) [thrMaster t, nw reason, nw pool, nw h]

/-- A read of io:BUF_FREE (R272, R274). -/
def bufFreeOp (s : State) (t : Nat) : Word × State :=
  let h := stagedHandle s t
  match heldFrame s t h with
  | none => (0x1000, freeRefused s t 1 0xFFFF h)
  | some f =>
    match getFrame s f with
    | none => (0x1000, freeRefused s t 1 0xFFFF h)
    | some x =>
      if mayFree x (.thread t h) then (0x8000, setHandle (endShare s f (.thread t h)) t h 0)
      else (0x0800, freeRefused s t 2 x.pool h)

/-- Submit the share `hold` of a thread's buffer (R275, R295, R391): the frame takes its length, slot and stamps now. -/
def sendBuffer (s : State) (t f : Nat) (hold : Holder) : State :=
  let d := thrDie t
  let w1 := (stage s t 0x0606).toNat
  let mcast := w1 / 256 % 2 = 1
  let w0 := (stage s t 0x0607).toNat
  let dest := if mcast then w0 else w1 % 32 * 65536 + w0
  let len := (stage s t 0x0605).toNat
  let s := modFrame s f (fun x => { x with len := len, slot := thrSlot s t, stime := stime s d, mono := mono s d })
  if queueDenied s d (thrDom s t) dest mcast then endShare (countDenied s d (thrDom s t) dest mcast (thrMaster t)) f hold
  else submit s f hold dest mcast false len (thrMaster t)

/-- A read of io:BUF_SEND (R275). -/
def bufSendOp (s : State) (t : Nat) : Word × State :=
  let h := stagedHandle s t
  match heldFrame s t h with
  | none => (0x1000, s)
  | some f =>
    if (stage s t 0x0606).getLsbD 9 then
      if (((getFrame s f).map (·.shares.length)).getD 0) ≥ 1024 then (0x0400, s)
      else (0x8000, sendBuffer (addShare s f (.thread t 0)) t f (.thread t 0))
    else (0x8000, sendBuffer (setHandle s t h 0) t f (.thread t h))

end Sys2Proof.Machine
end

