-- ==== Sys2Proof/Machine/Io.lean ====
section
/-!
DEFINITION. I/O space (R108 to R111, R150): the ports, what an IN and an OUT of each does, the four I/O instructions, and the rows that are
an IN or OUT of one port. A row that names a port's staged kind or value changes nothing when the thread has staged another.
-/

namespace Sys2Proof.Machine

/-! ## Ports (R8, R108, R150, R389) -/

/-- What an IN does: denied, not issued, a word at once with the state, the end of the item, or a result due later: the word where a unit
has already given it, and the lock that an acquire asks for. -/
inductive InRes where
  | denied
  | stall
  | now (v : Word) (s : State)
  | ends (s : State)
  | later (v : Option Word) (acq : Option Nat) (s : State)

/-- What an OUT does: it faults with a cause, does not issue, or is performed. -/
inductive OutRes where
  | fault (cause : Nat)
  | stall
  | ok (s : State)

/-- The ports that some chapter assigns (R108). -/
def isPort (p : Nat) : Bool :=
  let within (a b : Nat) : Bool := decide (a ≤ p) && decide (p ≤ b)
  within 0x0000 0x0002 || within 0x0010 0x0018 || within 0x0100 0x0104 || within 0x0200 0x0207 || decide (p = 0x020F) ||
  within 0x0300 0x0306 || decide (p = 0x030F) || within 0x0320 0x0322 || decide (p = 0x0325) || decide (p = 0x032F) ||
  within 0x0400 0x0409 || within 0x0410 0x0418 || within 0x0500 0x0502 || within 0x0508 0x0509 || within 0x0600 0x0609 ||
  within 0x0700 0x0709 || within 0x1000 0x1FFF || within 0x2000 0x2004 || within 0x2010 0x2013 || within 0x3000 0x3002

/-- The supervisor-only ports (R109, R118, R180). -/
def supOnly (p : Nat) : Bool :=
  (decide (0x0010 ≤ p) && decide (p ≤ 0x00FF)) || decide (p = 0x0104) || (decide (0x3000 ≤ p) && decide (p ≤ 0x30FF))

/-- Whether thread `t` may use a port (R108). -/
def portOk (s : State) (t p : Nat) : Bool := isPort p && (!supOnly p || isSup t) && mayPort s t p

/-- Whether a port lies inside the cell (R150). -/
def insideCell (p : Nat) : Bool := decide (p < 0x0100) || (decide (0x0200 ≤ p) && decide (p < 0x0300)) || decide (0x3000 ≤ p)

/-- The IN scoreboard bit of a thread (R103). -/
def inBit (s : State) (t : Nat) : Bool := (getT s t).sb.getLsbD 8

/-- The defined bits of the staging ports, none for a port that is not one (R10). -/
def stageMask (p : Nat) : Option Word :=
  if p = 0x0200 then some 0x0107
  else if p = 0x0201 then some 0x001F
  else if p = 0x0203 then some 0x00FF
  else if 0x0202 ≤ p ∧ p ≤ 0x0207 then some 0xFFFF
  else if p = 0x0300 then some 0x0007
  else if p = 0x0301 then some 0x003F
  else if 0x0302 ≤ p ∧ p ≤ 0x0306 then some 0xFFFF
  else if p = 0x0320 then some 0x013F
  else if p = 0x0321 ∨ p = 0x0322 then some 0xFFFF
  else if p = 0x0415 ∨ p = 0x0708 then some 0xF700
  else if 0x0410 ≤ p ∧ p ≤ 0x0416 then some 0xFFFF
  else if p = 0x0500 then some 0xFFFF
  else if p = 0x0501 then some 0x3FFF
  else if p = 0x0502 then some 0x0011
  else if p = 0x0600 then some 0x0003
  else if p = 0x0602 then some 0x00FF
  else if p = 0x0605 ∨ p = 0x0607 then some 0xFFFF
  else if p = 0x0606 then some 0x031F
  else if 0x0700 ≤ p ∧ p ≤ 0x0707 then some 0xFFFF
  else if p = 0x2001 then some 0x0FFF
  else none

/-! ## Reads of registers inside the cell -/

def stCode (st : ThrState) : Nat :=
  match st with
  | .disabled => 0 | .free => 1 | .active => 2 | .stalled => 3 | .waiting => 4 | .faulted => 5 | .halted => 6 | .resetting => 7

/-- io:THR_STATE and io:DBG_STATE. -/
def stWord (s : State) (t : Nat) : Word := nw (stCode (getT s t).st + if (getT s t).item.isSome then 256 else 0)

/-- The fault of the thread that io:FLT_SEL selects, while it is FAULTED. -/
def selFault (s : State) (c : Nat) : Option ThrFault :=
  (selected c (getCell s c).fltSel).bind (fun t => if (getT s t).st = .faulted then (getT s t).fault else none)

/-- io:FLT_PEND. -/
def faultPend (s : State) (c : Nat) : Word :=
  (cellThreads c).foldl (fun w t => if (getT s t).st = .faulted then setBit w (t % 8) else w) 0

/-- A read of io:CH_GO (R111, R173, R516). -/
def chGo (s : State) (t : Nat) : InRes :=
  if inBit s t then .stall
  else if (getT s t).item.isNone then .now 0 s
  else if !(getT s t).locks.isEmpty || holdsDg s t || holdsBk s t then .now 0x4000 s
  else .ends (commitVerdict s t)

/-- A read of a port inside the cell. -/
def readInside (s : State) (t p : Nat) : InRes :=
  let c := thrCell t
  if p = 0x0000 then .now (thrMaster t) s
  else if p = 0x0001 then
    let n := cycles s t
    .now (n.extractLsb' 16 16) (modT s t (fun x => { x with cycLatch := n }))
  else if p = 0x0002 then .now ((getT s t).cycLatch.extractLsb' 0 16) s
  else if p = 0x0010 then
    .now ((((getCell s c).thrEn.zeroExtend 16) &&& 0x00FE) ||| (if thrEnabled s (c * 8) then 1 else 0)) s
  else if p = 0x0011 then .now (faultPend s c) s
  else if p = 0x0012 then .now (getCell s c).fltSel s
  else if p = 0x0013 then .now (nw (((selFault s c).map (·.cause)).getD 0)) s
  else if p = 0x0014 then .now (((selFault s c).map (·.pc)).getD 0) s
  else if p = 0x0015 then .now (((selFault s c).map (·.addr)).getD 0) s
  else if p = 0x0018 then .now (((selected c (getCell s c).fltSel).map (stWord s)).getD 0) s
  else if p = 0x020F then chGo s t
  else if p = 0x3000 then .now (getCell s c).dbgSel s
  else if p = 0x3002 then .now (((selected c (getCell s c).dbgSel).map (fun u => stWord s u &&& 7)).getD 0) s
  else .now 0 s

/-! ## Reads of ports outside the cell -/

/-- Bits [15:0] of TIME.STATUS (R51): LOCKED follows the lead, UTC copies TIME.SRC_CTL. -/
def timeStatusLow (s : State) (d : Nat) : Word :=
  let locked := match s.time.lockedSince with | some m => decide (leadMono s ≥ m + 10 * nsPerS) | none => false
  nw (fieldR s .timeStatus d 0 0 16 / 16 * 16 + fieldR s .timeStatus d 0 1 2 * 2 + (if locked then 1 else 0) +
    (if utcMode s then 8 else 0))

/-- Words of a thread's latch (R49): seconds, nanoseconds, MONO. -/
def latchWord (s : State) (t p : Nat) : Word :=
  let l := (getT s t).timeLatch
  if p ≤ 0x0404 then wordAt (timeWords l.1) (p - 0x0400) else wordAt (wordsOf 4 l.2) (p - 0x0405)

/-- Locks that count under R172: those held and an acquire in flight. -/
def locksCounted (s : State) (t : Nat) : Nat :=
  (getT s t).locks.length + (((getT s t).inPend.bind (·.acquire)).toList.length)

/-- A read of io:LOCK_ACQ + n (R170, R172). -/
def lockAcquire (s : State) (t n : Nat) : InRes :=
  if locksCounted s t ≥ 16 then .later (some 0x3FFF) none s
  else .later none (some n) (bankAdd s (thrDie t) n (.acquire t n))

/-- A result that a unit gives at the commit. -/
def given (r : Word × State) : InRes := .later (some r.1) none r.2

/-- A read of a port outside the cell, with the IN scoreboard bit clear. -/
def readOutside (s : State) (t p : Nat) : InRes :=
  let x := getT s t
  if p = 0x0100 then given (x.pend, s)
  else if p = 0x0104 then given ((getCell s (thrCell t)).stallInfo, s)
  else if p = 0x0325 then given (lrnPolicy s t, s)
  else if p = 0x0400 then
    let l := (stime s (thrDie t), mono s (thrDie t))
    let s := modT s t (fun x => { x with timeLatch := l })
    given (latchWord s t p, s)
  else if 0x0401 ≤ p ∧ p ≤ 0x0408 then given (latchWord s t p, s)
  else if p = 0x0409 then given (timeStatusLow s (thrDie t), s)
  else if p = 0x0417 then given (armAlarm s t)
  else if p = 0x0509 then (match talPolice s t with | some r => given r | none => .stall)
  else if p = 0x0601 then given (bufAllocate s t)
  else if p = 0x0603 then given (bufReleaseOp s t)
  else if p = 0x0604 then given (bufFreeOp s t)
  else if p = 0x0608 then given (bufSendOp s t)
  else if p = 0x0609 then given (nw (handleCount s t), s)
  else if p = 0x0709 then given (postGo s t)
  else if 0x1000 ≤ p ∧ p ≤ 0x1FFF then lockAcquire s t (p - 0x1000)
  else if p = 0x2001 then given (stage s t p, s)
  else if p = 0x2002 then .later none none (bankAdd s (thrDie t) (stage s t 0x2001).toNat (.stat t (stage s t 0x2001).toNat))
  else if p = 0x2003 then given (x.lockOwner, s)
  else if p = 0x2004 then
    given (nw (locksCounted s t + (if holdsDg s t then 256 else 0) + if holdsBk s t then 512 else 0), s)
  else if p = 0x2010 then given (claimDg s t)
  else if p = 0x2012 then given (claimBk s t)
  else given (0, s)

/-- An IN of a port (R108, R150). -/
def ioRead (s : State) (t p : Nat) : InRes :=
  if !portOk s t p then .denied
  else if insideCell p then readInside s t p
  else if inBit s t then .stall
  else readOutside s t p

/-! ## Writes -/

/-- A write to io:THR_EN (R99, R109). -/
def writeThrEn (s : State) (c : Nat) (v : Word) : State :=
  let s := modCell s c (fun x => { x with thrEn := (v.setWidth 8) &&& 0xFE })
  forEach (cellThreads c) (fun s t =>
    if !isSup t && (decide ((getT s t).st = .free) || decide ((getT s t).st = .disabled)) then setSt s t (idleState s t) else s) s

/-- A write to io:LOCK_REL (R173). -/
def lockRelease (s : State) (t : Nat) (v : Word) : OutRes :=
  let n := v.toNat % 4096
  if inBit s t then .stall
  else if n ∈ (getT s t).locks then
    .ok (bankAdd (modT s t (fun x => { x with locks := x.locks.erase n })) (thrDie t) n (.release t n))
  else .fault 5

/-- A write to io:EV_LOCKSUB (R179): it replaces or cancels a subscription. -/
def lockSubscribe (s : State) (t : Nat) (v : Word) : State :=
  let s := cancelSub s t
  if v.msb then bankAdd s (thrDie t) (v.toNat % 4096) (.subscribe t (v.toNat % 4096)) else s

/-- A write to io:DG_FREE or io:BK_FREE (R157). -/
def unitFree (s : State) (t : Nat) (busy holds : Bool) (free : State) : OutRes :=
  if inBit s t || busy then .stall else if holds then .ok free else .fault 5

/-- A write that triggers an action. -/
def writeAction (s : State) (t p : Nat) (v : Word) : OutRes :=
  let c := thrCell t
  if p = 0x0010 then .ok (writeThrEn s c v)
  else if p = 0x0012 then .ok (modCell s c (fun x => { x with fltSel := v }))
  else if p = 0x0016 then .ok (modCell s c (fun x => { x with supReason := v }))
  else if p = 0x0017 then .ok (supCommand s c v)
  else if p = 0x0101 then .ok (modT s t (fun x => { x with pend := x.pend &&& ~~~ v }))
  else if p = 0x0102 then .ok (lockSubscribe s t v)
  else if p = 0x0103 then .ok (modT s t (fun x => { x with timer := if v = 0 then none else some (mono s (thrDie t) + v.toNat * 100) }))
  else if p = 0x030F then (match fgGo s t v with | some s => .ok s | none => .stall)
  else if p = 0x032F then .ok (lrnPost s t)
  else if p = 0x0418 then (match cancelAlarm s t v with | some s => .ok s | none => .fault 4)
  else if p = 0x0508 then (match talCount s t with | some s => .ok s | none => .stall)
  else if p = 0x2000 then lockRelease s t v
  else if p = 0x2011 then unitFree s t (getCell s c).digest.op.isSome (holdsDg s t) (freeDg s c false)
  else if p = 0x2013 then unitFree s t (getComb s (thrComb t)).op.isSome (holdsBk s t) (freeBk s (thrComb t) false)
  else if p = 0x3000 then .ok (dbgSelect s c v)
  else if p = 0x3001 then .ok (dbgCommand s c v)
  else .ok s

/-- An OUT to a port (R8, R10, R108). -/
def ioWrite (s : State) (t p : Nat) (v : Word) : OutRes :=
  if !portOk s t p then .fault 4
  else
    match stageMask p with
    | some m => .ok (setStage s t p (v &&& m))
    | none => writeAction s t p v

/-! ## IN, OUT, INR, OUTR (R150) -/

/-- What an IN into `d` does to its thread. -/
def inAct (s : State) (t : Nat) (d : WReg) (p : Nat) : Act :=
  match ioRead s t p with
  | .denied => .fault 4 (nw p)
  | .stall => .stall
  | .now v s' => .done (setW s' t d v) 1 []
  | .ends s' => .done s' 1 []
  | .later v acq s' =>
    .done (modT s' t (fun x => { x with sb := x.sb ||| 0x100, inPend := some ⟨d, v, acq⟩ })) 1 []

/-- What an OUT of `v` does. -/
def outAct (s : State) (t p : Nat) (v : Word) : Act :=
  match ioWrite s t p v with
  | .fault c => .fault c (nw p)
  | .stall => .stall
  | .ok s' => .done s' 1 []

/-- An IN of a named port. -/
def doIn (s : State) (i : Issue) (d : WReg) (p : Nat) : State := issue s i (okPlain i) [] false (fun s => inAct s i.tid d p)

/-- An OUT of a word register to a named port. -/
def doOut (s : State) (i : Issue) (a : WReg) (p : Nat) : State :=
  issue s i (okPlain i) [a] false (fun s => outAct s i.tid p (regsOf s i.tid).w[a])

/-- IN Wd, port. -/
def execInp (i : Issue) (d : WReg) (port : Word) (s : State) : Host.Outcome State Fault Refusal := .next (doIn s i d port.toNat)
/-- OUT port, Wa. -/
def execOutp (i : Issue) (a : WReg) (port : Word) (s : State) : Host.Outcome State Fault Refusal := .next (doOut s i a port.toNat)
/-- INR Wd, [Xa]. -/
def execInr (i : Issue) (d : WReg) (x : XReg) (s : State) : Host.Outcome State Fault Refusal :=
  .next (doIn s i d (regsOf s i.tid).x[x].toNat)
/-- OUTR [Xa], Wd. -/
def execOutr (i : Issue) (a : WReg) (x : XReg) (s : State) : Host.Outcome State Fault Refusal :=
  .next (doOut s i a (regsOf s i.tid).x[x].toNat)

/-- The result of a pending IN arrives (R103); at a HALTED thread it takes effect at resume (R119). -/
def inResult (s : State) (t : Nat) : State :=
  let x := getT s t
  match x.inPend with
  | some p =>
    match p.value with
    | some v =>
      if x.st = .halted then s
      else setT s t { x with sb := x.sb &&& 0x0FF, inPend := none, regs := { x.regs with w := x.regs.w.set p.rd v } }
    | none => s
  | none => s

/-- IN_RESULT. -/
def execInResult (tid : Nat) (s : State) : Host.Outcome State Fault Refusal := .next (inResult s tid)

/-! ## The rows of single ports -/

/-- The value that register `a` holds. -/
def outValue (s : State) (i : Issue) (a : WReg) : Nat := (regsOf s i.tid).w[a].toNat

/-- An OUT of a port, when `cond` holds of the value written. -/
def outIf (s : State) (i : Issue) (a : WReg) (p : Nat) (cond : Nat → Bool) : State := if cond (outValue s i a) then doOut s i a p else s

/-- A read of io:CH_GO when the staged kind is `k`. -/
def verdictIf (s : State) (i : Issue) (d : WReg) (k : Nat) : State :=
  if (chanWord s i.tid 0).toNat % 8 = k then doIn s i d 0x020F else s

/-- A write to io:FG_GO when the staged operation is `op`. -/
def forageIf (s : State) (i : Issue) (a : WReg) (op : Nat) : State :=
  if (stage s i.tid 0x0300).toNat % 8 = op then doOut s i a 0x030F else s

/-- A write to io:TAL_COUNT when KIND is `k`. -/
def countIf (s : State) (i : Issue) (a : WReg) (k : Bool) : State :=
  if (stage s i.tid 0x0502).getLsbD 0 = k then doOut s i a 0x0508 else s

/-- IO_STAGE_WRITE: a write to a staging port or to io:FLT_SEL or io:SUP_REASON, which have no row of their own. -/
def execIoStageWrite (i : Issue) (a : WReg) (port : Word) (s : State) : Host.Outcome State Fault Refusal :=
  .next (if (stageMask port.toNat).isSome || decide (port = 0x0012) || decide (port = 0x0016) then doOut s i a port.toNat else s)

/-- TIME_LATCH: a read of io:TIME_SEC2. -/
def execTimeLatch (i : Issue) (d : WReg) (s : State) : Host.Outcome State Fault Refusal := .next (doIn s i d 0x0400)
/-- CYC_LATCH: a read of io:CYC1. -/
def execCycLatch (i : Issue) (d : WReg) (s : State) : Host.Outcome State Fault Refusal := .next (doIn s i d 0x0001)
/-- ALM_ARM. -/
def execAlmArm (i : Issue) (d : WReg) (s : State) : Host.Outcome State Fault Refusal := .next (doIn s i d 0x0417)
/-- ALM_CANCEL. -/
def execAlmCancel (i : Issue) (a : WReg) (s : State) : Host.Outcome State Fault Refusal := .next (doOut s i a 0x0418)
/-- POST_GO. -/
def execPostGo (i : Issue) (d : WReg) (s : State) : Host.Outcome State Fault Refusal := .next (doIn s i d 0x0709)
/-- THR_EN_WRITE. -/
def execThrEnWrite (i : Issue) (a : WReg) (s : State) : Host.Outcome State Fault Refusal := .next (doOut s i a 0x0010)
/-- VERDICT_SEND (R84). -/
def execVerdictSend (i : Issue) (d : WReg) (s : State) : Host.Outcome State Fault Refusal := .next (verdictIf s i d 0)
/-- VERDICT_DROP (R84). -/
def execVerdictDrop (i : Issue) (d : WReg) (s : State) : Host.Outcome State Fault Refusal := .next (verdictIf s i d 1)
/-- VERDICT_RECIRC (R88). -/
def execVerdictRecirc (i : Issue) (d : WReg) (s : State) : Host.Outcome State Fault Refusal := .next (verdictIf s i d 2)
/-- VERDICT_DEFAULT (R68). -/
def execVerdictDefault (i : Issue) (d : WReg) (s : State) : Host.Outcome State Fault Refusal := .next (verdictIf s i d 3)
/-- VERDICT_END (R85). -/
def execVerdictEnd (i : Issue) (d : WReg) (s : State) : Host.Outcome State Fault Refusal := .next (verdictIf s i d 4)
/-- SUP_RESUME (R116). -/
def execSupResume (i : Issue) (a : WReg) (s : State) : Host.Outcome State Fault Refusal := .next (outIf s i a 0x0017 (· = 1))
/-- SUP_SKIP (R116). -/
def execSupSkip (i : Issue) (a : WReg) (s : State) : Host.Outcome State Fault Refusal := .next (outIf s i a 0x0017 (· = 2))
/-- SUP_KILL (R116). -/
def execSupKill (i : Issue) (a : WReg) (s : State) : Host.Outcome State Fault Refusal := .next (outIf s i a 0x0017 (· = 3))
/-- SUP_RESET (R116). -/
def execSupReset (i : Issue) (a : WReg) (s : State) : Host.Outcome State Fault Refusal := .next (outIf s i a 0x0017 (· = 4))
/-- DBG_SEL (R118). -/
def execDbgSel (i : Issue) (a : WReg) (s : State) : Host.Outcome State Fault Refusal := .next (doOut s i a 0x3000)
/-- DBG_CMD_HALT (R118, R119). -/
def execDbgCmdHalt (i : Issue) (a : WReg) (s : State) : Host.Outcome State Fault Refusal := .next (outIf s i a 0x3001 (· = 1))
/-- DBG_CMD_RESUME (R118). -/
def execDbgCmdResume (i : Issue) (a : WReg) (s : State) : Host.Outcome State Fault Refusal := .next (outIf s i a 0x3001 (· = 2))
/-- DBG_CMD_STEP (R120). -/
def execDbgCmdStep (i : Issue) (a : WReg) (s : State) : Host.Outcome State Fault Refusal := .next (outIf s i a 0x3001 (· = 3))
/-- DBG_CMD_RESET (R122). -/
def execDbgCmdReset (i : Issue) (a : WReg) (s : State) : Host.Outcome State Fault Refusal := .next (outIf s i a 0x3001 (· = 4))
/-- DG_CLAIM (R155, R156). -/
def execDgClaim (i : Issue) (d : WReg) (s : State) : Host.Outcome State Fault Refusal := .next (doIn s i d 0x2010)
/-- DG_FREE (R157). -/
def execDgFree (i : Issue) (a : WReg) (s : State) : Host.Outcome State Fault Refusal := .next (doOut s i a 0x2011)
/-- BK_CLAIM (R155, R156). -/
def execBkClaim (i : Issue) (d : WReg) (s : State) : Host.Outcome State Fault Refusal := .next (doIn s i d 0x2012)
/-- BK_FREE (R157). -/
def execBkFree (i : Issue) (a : WReg) (s : State) : Host.Outcome State Fault Refusal := .next (doOut s i a 0x2013)
/-- LOCK_ACQ (R170, R172). -/
def execLockAcq (i : Issue) (d : WReg) (n : BitVec 12) (s : State) : Host.Outcome State Fault Refusal :=
  .next (doIn s i d (0x1000 + n.toNat))
/-- LOCK_REL (R173). -/
def execLockRel (i : Issue) (a : WReg) (s : State) : Host.Outcome State Fault Refusal := .next (doOut s i a 0x2000)
/-- LOCK_STAT (R175). -/
def execLockStat (i : Issue) (d : WReg) (s : State) : Host.Outcome State Fault Refusal := .next (doIn s i d 0x2002)
/-- EV_CLR (R180). -/
def execEvClr (i : Issue) (a : WReg) (s : State) : Host.Outcome State Fault Refusal := .next (doOut s i a 0x0101)
/-- EV_LOCKSUB (R179). -/
def execEvLocksub (i : Issue) (a : WReg) (s : State) : Host.Outcome State Fault Refusal := .next (outIf s i a 0x0102 (· ≥ 0x8000))
/-- EV_LOCKSUB_CANCEL (R179). -/
def execEvLocksubCancel (i : Issue) (a : WReg) (s : State) : Host.Outcome State Fault Refusal := .next (outIf s i a 0x0102 (· < 0x8000))
/-- EV_TIMER_START (R180). -/
def execEvTimerStart (i : Issue) (a : WReg) (s : State) : Host.Outcome State Fault Refusal := .next (outIf s i a 0x0103 (· ≠ 0))
/-- EV_TIMER_STOP (R180). -/
def execEvTimerStop (i : Issue) (a : WReg) (s : State) : Host.Outcome State Fault Refusal := .next (outIf s i a 0x0103 (· = 0))
/-- FG_LOOKUP (R205). -/
def execFgLookup (i : Issue) (a : WReg) (s : State) : Host.Outcome State Fault Refusal := .next (forageIf s i a 0)
/-- FG_INSERT (R205). -/
def execFgInsert (i : Issue) (a : WReg) (s : State) : Host.Outcome State Fault Refusal := .next (forageIf s i a 1)
/-- FG_UPDATE (R205). -/
def execFgUpdate (i : Issue) (a : WReg) (s : State) : Host.Outcome State Fault Refusal := .next (forageIf s i a 2)
/-- FG_DELETE (R205). -/
def execFgDelete (i : Issue) (a : WReg) (s : State) : Host.Outcome State Fault Refusal := .next (forageIf s i a 3)
/-- FG_ADD (R205). -/
def execFgAdd (i : Issue) (a : WReg) (s : State) : Host.Outcome State Fault Refusal := .next (forageIf s i a 4)
/-- FG_GLOOKUP (R209, R210). -/
def execFgGlookup (i : Issue) (a : WReg) (s : State) : Host.Outcome State Fault Refusal := .next (forageIf s i a 5)
/-- LRN_GO (R218). -/
def execLrnGo (i : Issue) (a : WReg) (s : State) : Host.Outcome State Fault Refusal := .next (doOut s i a 0x032F)
/-- TAL_COUNT_IN (R317). -/
def execTalCountIn (i : Issue) (a : WReg) (s : State) : Host.Outcome State Fault Refusal := .next (countIf s i a false)
/-- TAL_COUNT_DROP (R317). -/
def execTalCountDrop (i : Issue) (a : WReg) (s : State) : Host.Outcome State Fault Refusal := .next (countIf s i a true)
/-- TAL_POLICE (R319). -/
def execTalPolice (i : Issue) (d : WReg) (s : State) : Host.Outcome State Fault Refusal := .next (doIn s i d 0x0509)
/-- BUF_ALLOC (R274). -/
def execBufAlloc (i : Issue) (d : WReg) (s : State) : Host.Outcome State Fault Refusal := .next (doIn s i d 0x0601)
/-- BUF_RELEASE (R271). -/
def execBufRelease (i : Issue) (d : WReg) (s : State) : Host.Outcome State Fault Refusal := .next (doIn s i d 0x0603)
/-- BUF_FREE (R272). -/
def execBufFree (i : Issue) (d : WReg) (s : State) : Host.Outcome State Fault Refusal := .next (doIn s i d 0x0604)
/-- BUF_SEND (R275). -/
def execBufSend (i : Issue) (d : WReg) (s : State) : Host.Outcome State Fault Refusal := .next (doIn s i d 0x0608)

/-! ## The lock banks (R171) -/

/-- Whether a request belongs to a class: 0 releases, 1 acquires and status reads, 2 subscriptions. -/
def reqClass : LockReq → Nat
  | .release _ _ => 0
  | .acquire _ _ => 1
  | .stat _ _ => 1
  | .subscribe _ _ => 2

/-- The acquires and status reads in rotating comb order from comb `first`. -/
def rotated (first : Nat) (l : List LockReq) : List LockReq :=
  (List.range 8).flatMap (fun k => l.filter (fun r => thrComb (reqTid r) % 8 = (first + k) % 8))

/-- Give a thread its result word. -/
def giveResult (s : State) (t : Nat) (v : Word) (got : Option Nat) : State :=
  modT s t (fun x =>
    { x with inPend := x.inPend.map (fun p => { p with value := some v, acquire := none }),
             locks := match got with | some n => x.locks ++ [n] | none => x.locks })

/-- io:LOCK_STAT of a lock (R175). -/
def statWord (l : Lock) : Word :=
  (match l.owner with | some o => (0x8000 : Word) ||| ownerCode o | none => 0) ||| (if l.abandoned then 0x4000 else 0)

/-- One request at its bank. -/
def bankOne (d : Nat) (s : State) (r : LockReq) : State :=
  match r with
  | .release _ n => freeLock s d n false
  | .acquire t n =>
    let (v, s) := acquireLock s d n (thrMaster t)
    giveResult s t v (if v.msb then some n else none)
  | .stat t n =>
    let l := getLock s d n
    modT (giveResult s t (statWord l) none) t (fun x => { x with lockOwner := l.owner.getD 0 })
  | .subscribe t n =>
    if (getLock s d n).owner.isNone then raiseEvent s t 8 else modT s t (fun x => { x with lockSub := some n })

/-- LOCK_BANK_OP: the requests at a bank, in the order of R171. -/
def execLockBankOp (die bank firstComb : Nat) (s : State) : Host.Outcome State Fault Refusal :=
  .next (
    let l := bankReqs s die bank
    let of (k : Nat) : List LockReq := l.filter (fun r => reqClass r = k)
    forEach (of 0 ++ rotated firstComb (of 1) ++ of 2) (bankOne die) (setBank s die bank []))

/-! ## All-wait detection (R181 to R184) -/

/-- A thread that holds an item is HALTED or waits for software events only. -/
def threadQuiet (comb : Bool) (t : Nat) (x : Thread) : Bool :=
  match x.st with
  | .halted => true
  | .waiting => quiet (isSup t && x.item.isNone) comb x.st x.wait
  | .free => !isSup t
  | .disabled => !isSup t
  | _ => false

/-- The cell test (R181), or as the comb test asks it (R182). -/
def cellTest (s : State) (comb : Bool) (c : Nat) : Bool :=
  ((cellThreads c).drop 1).any (fun t => (getT s t).item.isSome) && (cellThreads c).all (fun t => threadQuiet comb t (getT s t))

/-- The cells of a comb that are in dispatch. -/
def liveCells (s : State) (k : Nat) : List Nat := (combCells k).filter (inDispatch s)

/-- The comb test (R182). -/
def combTest (s : State) (k : Nat) : Bool :=
  ((combCells k).flatMap cellThreads).any (fun t =>
    decide ((getT s t).st = .waiting) && (((getT s t).wait.map (·.mask.msb)).getD false)) &&
  (liveCells s k).all (cellTest s true)

/-- The MONO since which a test has held: the last time at which a thread of its scope made it false. -/
def testSince (s : State) (comb : Bool) (c : Nat) : Nat :=
  let pick (t : Nat) : Nat := if comb then (getT s t).since.2 else (getT s t).since.1
  if comb then
    ((combCells (c / 32)).flatMap (fun e => if inDispatch s e then cellThreads e else [e * 8])).foldl (fun m t => max m (pick t)) 0
  else (cellThreads c).foldl (fun m t => max m (pick t)) 0

/-- EV.STALL_CFG.WINDOW as it stood at a MONO instant (R184). -/
def stallWindow (s : State) (d at_ : Nat) : Nat :=
  match (kget s.core.stallCfg d []).find? (fun e => decide (e.1 > at_)) with
  | some e => e.2
  | none => fieldR s .evStallCfg d 0 0 16

/-- STALL on one supervisor (R183). -/
def raiseStall (comb : Bool) (s : State) (c : Nat) : State :=
  let w := (cellThreads c).foldl (fun w t => if (getT s t).st = .waiting then setBit w (t % 8) else w) (if comb then 0x8000 else 0)
  let s := modCell s c (fun x => { x with stallInfo := w })
  let s := record (cnt s .evCntStall (cellDie c) (cellInst c)) (cellDie c) 0x4011 (thrMaster (c * 8))
    [thrMaster (c * 8), if comb then 1 else 0, w]
  raiseEvent s (c * 8) 13

/-- STALL: a test that has held for its whole window wakes the supervisors, once for each episode (R183). -/
def execStall (cell : Nat) (combTest : Bool) (s : State) : Host.Outcome State Fault Refusal :=
  .next (
    let c := cell / 8
    let d := cellDie c
    let since := testSince s combTest c
    if mono s d < since + stallWindow s d since then s
    else if combTest then
      if Machine.combTest s (c / 32) && decide ((getComb s (c / 32)).stallEpoch ≠ some since) then
        forEach (liveCells s (c / 32)) (raiseStall true) (modComb s (c / 32) (fun x => { x with stallEpoch := some since }))
      else s
    else if cellTest s false c && decide ((getCell s c).stallEpoch ≠ some since) then
      raiseStall false (modCell s c (fun x => { x with stallEpoch := some since })) c
    else s)

end Sys2Proof.Machine
end

