-- ==== Sys2Proof/Machine/RegAccess.lean ====
section
/-!
DEFINITION. What a register read shows (R8, R376, R377, R515): registers that show other state, instances that exist, the power states of
the memory units (R333 to R336).
-/

namespace Sys2Proof.Machine

/-! ## The holders of a slot (R256) -/

/-- Whether a transfer still crosses the bridge: the egress die has not admitted or refused its frame. -/
def crossing (s : State) (k : Nat) (x : Xfer) : Bool :=
  !x.lost && (decide (x.got = 0) || (offersOf s x.dst).any (fun o => decide (o.xfer = k)))

/-- GEN.HOLDn of a die (R256): frames until their verdict is released, frames that cross the bridge, copies in egress queues, work items. A
packet counts as a frame and as a work item (DEDUCED, log entry 43). -/
def holdersOf (s : State) (d n : Nat) : Nat :=
  let ing := sumN (s.path.ingress.map (fun e => if gpnDie e.1 = d then (e.2.filter (fun f => f.slot = n)).length else 0))
  let frames := ((liveFrames s).filter (fun e => decide (e.2.die = d) && decide (e.2.slot = n) && decide (Holder.packet ∈ e.2.shares))).length
  let xfers := ((xfersOf s).filter (fun e => decide (e.2.src = d) && decide (e.2.stamp.slot = n) && crossing s e.1 e.2)).length
  let local_ := ((offersOf s d).filter (fun o => decide (o.xfer = 0) && decide (o.stamp.slot = n))).length
  let queued := sumN ((busyQueues s d).map (fun q => ((getQueue s q).filter (fun c => c.stamp.slot = n)).length))
  let waiting := sumN (s.path.wq.map (fun e => if e.1 / 128 = d then (e.2.items.filter (fun i => i.gslot = n)).length else 0))
  let running := (s.core.threads.filter (fun e => decide (thrDie e.1 = d) &&
    (match e.2.item with | some i => decide (i.gslot = n) | none => false))).length
  ing + frames + xfers + local_ + queued + waiting + running

/-! ## Power units (R333 to R336) -/

/-- Whether a slot is live (R244). -/
def slotLive (s : State) (d n : Nat) : Bool := decide (slotState s d n ≠ 0)
def liveSlots (s : State) (d : Nat) : List Nat := (List.range 4).filter (slotLive s d)

/-- Whether a table enabled in a live slot uses a table bank. -/
def bankUsed (s : State) (d bank : Nat) : Bool :=
  (liveSlots s d).any (fun n => (List.range 64).any (fun t =>
    let x := tblDesc s d n t
    x.en && decide (x.bankBase ≤ bank) && decide (bank < x.bankBase + descNb x)))

/-- HELD of a power unit (R335). A cell without a position is its comb's spare, HELD while it is claimed (R336). The blocks of every buffer rotate over all the banks (R338). -/
def unitHeld (s : State) (d u : Nat) : Bool :=
  if u < 64 then bankUsed s d u
  else if u = 64 then (getClaim s 3 d).isSome
  else if u < 193 then (List.range 4).any (fun p => decide (poolCount s d p ≠ 0))
  else if u < 195 then (getClaim s 4 (d * 2 + (u - 193))).isSome
  else if u < 331 then
    let k := d * 8 + (u - 195) / 17
    let c := k * 32 + (u - 195) % 17
    !(getCell s c).retired && ((placeOf s c).isSome || (getClaim s 2 k).isSome)
  else decide (liveSlots s d ≠ [])

def unitState (s : State) (d u : Nat) : Nat := fieldR s .memBankPwr d u 2 2
/-- Whether a unit is a spare, which only the Keeper controls (R336). -/
def spareUnit (s : State) (d u : Nat) : Bool :=
  decide (u = 64 ∨ u = 193 ∨ u = 194) ||
    (decide (195 ≤ u ∧ u < 331) && (placeOf s ((d * 8 + (u - 195) / 17) * 32 + (u - 195) % 17)).isNone)
/-- The power unit of a cell's scratch. -/
def cellUnit (c : Nat) : Nat := 195 + 17 * (c / 32 % 8) + c % 32

/-- The words of the flat store of one scratch array become zero. -/
def clearWords (s : State) (a n : Nat) : State :=
  let keep (k : Nat) : Bool := decide (k < a) || decide (k ≥ a + n)
  { s with core := { s.core with mem := s.core.mem.filter (fun e => keep e.1), poison := s.core.poison.filter keep } }

/-- The contents of a unit are lost; once ON again it reads zero (R334). -/
def loseUnit (s : State) (d u : Nat) : State :=
  if u < 64 then
    let at_ (p : Nat) : Bool := decide (p / 4194304 = d) && decide (p / 65536 % 64 = u)
    { s with tbl := { s.tbl with entries := s.tbl.entries.filter (fun e => !at_ e.1) } }
  else if 195 ≤ u ∧ u < 331 then
    clearWords s (0x10000000 + ((d * 8 + (u - 195) / 17) * 32 + (u - 195) % 17) * 0x4000) 0x4000
  else if 331 ≤ u ∧ u < 339 then clearWords s (0x20000000 + (d * 8 + (u - 331)) * 0x8000) 0x8000
  else s

/-- A unit reaches a state: EV_BANK_POWER (R353). -/
def setUnitState (s : State) (d u st : Nat) : State :=
  let old := unitState s d u
  if old = st then s
  else
    let s := setField s .memBankPwr d u 2 2 st
    let s := if st = 2 then loseUnit s d u else s
    recordK s d 0xA005 [nw u, nw old, nw st]

/-- Bring every unit ON that has become HELD (R335). -/
def wakeHeld (s : State) (d : Nat) : State :=
  forEach (List.range 339) (fun s u =>
    if unitState s d u ≠ 0 ∧ unitHeld s d u then setUnitState (setField s .memBankPwr d u 0 2 0) d u 0 else s) s

def wakeAll (s : State) : State := forEach (usableDies s) wakeHeld s

/-! ## Instances (R515) -/

/-- Whether an instance of a register exists on a die: dies 2 to 7 have no host port. -/
def instExists (r : RegName) (d i : Nat) : Bool :=
  decide (i < r.spec.insts) &&
    (decide (d < 2) || match r.spec.insts with
      | 33 => decide (i < 32)
      | 36 => decide (i < 32)
      | 264 => decide (i < 256)
      | 16584 => decide (i / 4 ≠ 32)
      | 4146 => decide (i ≠ 32)
      | _ => true)

/-! ## Registers that show other state -/

/-- REC.LOG_STAT. -/
def logStat (s : State) : Nat :=
  s.log.log.length + (if s.log.stopped then 131072 else 0) + (if s.log.flush.isSome then 262144 else 0) +
    (if s.log.nvFail then 524288 else 0) + s.log.clears % 4096 * 1048576

/-- PKG.DIE_IDENT. -/
def dieIdent (s : State) (d : Nat) : Nat :=
  d + (s.pkg.n - 1) * 16 + s.pkg.lead * 256 + (if s.pkg.leadMoved then 2048 else 0) + s.pkg.usable.toNat * 65536

/-- The link state of a port, coded as EGR.LINK_STAT. -/
def linkCode (s : State) (g : Nat) : Nat :=
  (match (getPort s g).link with | .down => 0 | .hold => 1 | .up => 2) + (if (getPort s g).pcsUp then 4 else 0)

/-- PHY.PORT_STAT of a port (R489, R492, R496). AN_DONE and TRAIN_DONE stay 0 where the port does not negotiate or train; while PCS_UP is 1
they are as the port is set, and there is no local fault and no high BER (DEDUCED, log entry 96); what else the link does is a free value. -/
def portStat (s : State) (d i : Nat) : Nat :=
  let g := gpnOf d i
  let host := decide (i = 32)
  let up := (getPort s g).pcsUp
  let f := Config.linkFlags g (mono s d)
  let an := host || decide (fieldR s .phyPortCfg d i 4 1 = 1)
  let train := host || decide (fieldR s .phyPortCfg d i 5 1 = 1)
  let bit (k : Nat) (b : Bool) : Nat := if b then 2 ^ k else 0
  if portConfigured s g then
    bit 0 up + bit 1 (an && (up || f.getLsbD 0)) + bit 2 (train && (up || f.getLsbD 1)) + bit 3 (!up && f.getLsbD 2) + bit 4 (f.getLsbD 3) +
      bit 5 (!up && f.getLsbD 4)
  else 0

/-- The value that instance `i` of a register shows. -/
def regView (s : State) (r : RegName) (d slot i : Nat) : Nat :=
  let v :=
    match r with
    | .pkgDieIdent => dieIdent s d
    | .timeStatus => getR s .timeStatus d 0 / 65536 * 65536 + (timeStatusLow s d).toNat
    | .dispWqDepth => (getWq s d i).items.length
    | .dispWqHistCtl => getRS s r d slot i / 2 * 2
    | .ordTagsInuse => tagsInUse s d
    | .ordTagsHwm => max (getR s .ordTagsHwm d 0) (tagsInUse s d)
    | .cellThrState => (stWord s ((d * 8 + i / 136) * 256 + i % 136)).toNat
    | .tblOccBucket => occBucket s d i
    | .tblOccOvf => occOvf s d i
    | .lrnContestedNow => ((trackerOf s d).filter (fun l => l.quarUntil.isSome)).length
    | .genHold0 => holdersOf s d 0
    | .genHold1 => holdersOf s d 1
    | .genHold2 => holdersOf s d 2
    | .genHold3 => holdersOf s d 3
    | .bufFree => poolFree s d i
    | .bufOwnUsed => ownUsed s d (i / 4) (i % 4)
    | .qmQBytes => queueBytes s (d * 262144 + i)
    | .qmQHwm => max (getR s .qmQHwm d i) (queueBytes s (d * 262144 + i))
    | .qmQFrames => (getQueue s (d * 262144 + i)).length
    | .egrLinkStat => linkCode s (gpnOf d i)
    | .egrPausedNs => getR (countStopped s (gpnOf d (i / 8)) (i % 8)) .egrPausedNs d i
    | .phyPortStat => portStat s d i
    | .memBankPwr => getR s .memBankPwr d i % 16 + (if unitHeld s d i then 16 else 0)
    | .inspCombStat =>
      let v := getR s .inspCombStat d i
      if masked s 2 (d * 8 + i) then Nat.lor v (if noCaploss s d then 2048 else 1024) else v
    | .recLogStat => if d = s.pkg.lead then logStat s else 0
    | _ => getRS s r d slot i
  Nat.land v r.spec.mask

/-- A read with the register access commands: an RC register is cleared (R8, R377); DISP.WQ_HWM at once holds the present
depth again (R95). -/
def clearOnRead (s : State) (r : RegName) (d slot i : Nat) : State :=
  if r.spec.access = .rc then
    let s := setRS s r d slot i 0
    if r = .bufFreeLow then setR s .bufFreeLow d (4 + i) 1
    else if r = .dispWqHwm then setRS s r d slot i (getWq s d i).items.length
    else s
  else s

end Sys2Proof.Machine
end

