-- ==== Sys2Proof/Machine/FieldRules.lean ====
section
/-!
DEFINITION. What values the per-slot registers accept (R52 to R65, R94, R188, R189, R209, R219, R252, R342): checks of a staged value, made on
the slot as it stands after the write.
-/

namespace Sys2Proof.Machine

/-! ## Register sets (R252) -/

def descRegs : List RegName := [.tblDesc0, .tblDesc1, .tblDesc2, .tblDesc3, .tblDesc4]

/-- The register sets that the digest covers, in set-ID order. -/
def coverage : List (Nat × List RegName) :=
  [(0x0001, [.parsePortCfg]), (0x0002, [.parsePortDef]), (0x0003, [.dispCombDom]), (0x0004, [.dispPortOrd]),
   (0x0005, [.dispPortClass]), (0x0006, [.dispWqCfg]), (0x0007, [.cellPdomCfg]), (0x0008, [.cellPdomShare]),
   (0x0009, descRegs), (0x000A, keyMaskRegs), (0x000B, [.tblGrpCfg]), (0x000C, grpMemberRegs)] ++
  [(0x000D, [.lrnTblCfg]), (0x000E, [.lrnPortGuard]), (0x000F, [.lrnMoveCfg]), (0x0010, tclassRegs), (0x0011, [.lrnAssistCfg]),
   (0x0012, [.pguardStorm])]

/-- The registers of a set. -/
def setRegs (id : Nat) : Option (List RegName) := (coverage.find? (fun e => e.1 = id)).map (·.2)

/-- Instances of a set. -/
def setLen (rs : List RegName) : Nat := rs.length * ((rs.head?.map (fun r => r.spec.insts)).getD 0)

/-- Register and instance of element `i` of a set. -/
def setElem (rs : List RegName) (i : Nat) : Option (RegName × Nat) := (rs[i % max 1 rs.length]?).map (fun r => (r, i / max 1 rs.length))

/-! ## Graph records (R64, R65) -/

/-- Words of a record at offsets where the layout has no field, and the reserved bits of those where it has one. -/
def recordMask (w : Nat) : Nat :=
  if w = 0 then 0xBF9F
  else if w = 1 then 0x0FFF
  else if w = 2 then 0x9F00
  else if w = 3 then 0x80FF
  else if w = 4 then 0x03FF
  else if w = 5 then 0x0FFF
  else if w = 6 then 0xF00F
  else if 8 ≤ w ∧ w < 24 then (if w % 2 = 0 then 0xDF1F else 0x0FFF)
  else if 24 ≤ w ∧ w < 104 then (if (w - 24) % 5 = 4 then 0x80FF else 0xFFFF)
  else 0

/-- Whether a list has no repeated number. -/
def distinctNat : List Nat → Bool
  | [] => true
  | a :: t => !t.contains a && distinctNat t

/-- R65 for one record with VALID = 1. -/
def recordOk (r : List Word) : Bool :=
  let g (w : Nat) : Nat := (wordAt r w).toNat
  let n := g 0 % 32
  let selW := g 2 / 256 % 32 + 1
  let two (w : Nat) : Nat := g w * 65536 + g (w + 1)
  let fields := (List.range 8).filter (fun j => decide (g (8 + 2 * j) / 32768 = 1))
  decide (r.length = 128) && (List.range 128).all (fun w => decide (Nat.land (g w) (65535 - recordMask w) = 0)) &&
    decide (n ≤ 16) && decide (g 0 / 4096 % 4 ≠ 3) && (decide (g 0 / 256 % 16 ≤ 11) || decide (g 0 / 256 % 16 = 15)) &&
    decide (g 1 + selW ≤ 4096) &&
    fields.all (fun j => decide (g (9 + 2 * j) + g (8 + 2 * j) / 256 % 32 + 1 ≤ 4096)) &&
    (decide (g 0 / 4096 % 4 ≠ 2) || decide (g 5 + g 6 % 16 + 1 ≤ 4096)) &&
    (List.range n).all (fun i =>
      decide (Nat.land (two (24 + 5 * i)) (4294967295 - two (26 + 5 * i)) = 0) && decide (two (24 + 5 * i) < 2 ^ selW) &&
        decide (two (26 + 5 * i) < 2 ^ selW)) &&
    distinctNat (fields.map (fun j => g (8 + 2 * j) % 32)) &&
    (List.range 8).all (fun j => decide (g (8 + 2 * j) / 32768 = 1) || (decide (g (8 + 2 * j) = 0) && decide (g (9 + 2 * j) = 0))) &&
    (List.range 80).all (fun k => decide (k / 5 < n) || decide (g (24 + k) = 0))

/-- A staged record: one with VALID = 0 may hold anything (R64). -/
def stagedRecordOk (r : List Word) : Bool := decide (r.length = 128) && (!(wordAt r 0).getLsbD 15 || recordOk r)

/-- Whether a start node names a record with VALID = 1 in the graph image of a slot (R65). -/
def startOk (s : State) (d n start : Nat) : Bool := nodeValid (imageNodes s d (slotGimg s d n)) start

/-! ## Table descriptors (R189, R342) -/

/-- Bytes of DRAM fitted to a die (R341). -/
def dramBytes (s : State) (d : Nat) : Nat :=
  let org := fieldR s .memDramCfg d 0 18 3
  let per := match org with | 0 => 16 | 1 => 24 | 2 => 32 | 3 => 32 | 4 => 48 | _ => 64
  let ranks := if fieldR s .memDramCfg d 0 21 1 = 1 ∧ org ≤ 3 then 2 else 1
  2 * per * ranks * 1073741824

/-- Whether two spans of numbers meet. -/
def spansMeet (a n b m : Nat) : Bool := decide (a < b + m) && decide (b < a + n)

/-- Whether the bank-and-row regions of two descriptors meet. -/
def regionsMeet (x y : Desc) : Bool :=
  spansMeet x.bankBase (descNb x) y.bankBase (descNb y) && spansMeet x.rowBase (descSpan x) y.rowBase (descSpan y)

/-- Whether their overflow segments are the same. -/
def segmentsMeet (x y : Desc) : Bool := x.ovfEn && y.ovfEn && decide (x.ovfSeg = y.ovfSeg)

/-- The DRAM region of a deep table, in bytes. -/
def deepBase (x : Desc) : Nat := x.dramBase * 8192
def deepSize (x : Desc) : Nat := 2 ^ x.deepLog * 64 * descRows x
def deepMeet (x y : Desc) : Bool := decide (x.mode = 2) && decide (y.mode = 2) && spansMeet (deepBase x) (deepSize x) (deepBase y) (deepSize y)

/-- Whether two descriptors share memory. -/
def sharesMemory (x y : Desc) : Bool := regionsMeet x y || segmentsMeet x y || deepMeet x y

/-- Whether table `t` holds one descriptor in two slots. -/
def sameDesc (s : State) (d n m t : Nat) : Bool := descRegs.all (fun r => decide (getRS s r d n t = getRS s r d m t))

/-- R189 and R342 for table `t` of slot `n`, as it stands. -/
def descOk (s : State) (d n t : Nat) : Bool :=
  let x := tblDesc s d n t
  let w16 := 8 * descRows x
  !x.en || (
    decide (x.mode ≠ 3) && decide (x.width ≠ 3) && decide (1 ≤ x.keyWords) && decide (x.keyWords ≤ min 24 (w16 - 2)) &&
    decide (x.bankBase + descNb x ≤ 64) && decide (x.bankLog ≤ x.bucketLog) && decide (x.rowBase + descSpan x ≤ 12288) &&
    (decide (x.mode ≠ 1) || decide (x.bankLog ≠ 0)) &&
    (decide (x.mode ≠ 2) ||
      (!x.ovfEn && decide (x.bucketLog ≤ x.deepLog) && decide (deepBase x + deepSize x ≤ dramBytes s d) &&
        decide (deepBase x ≥ 268435456) && !spansMeet (deepBase x) (deepSize x) (retainBase s) (retainSize s))) &&
    (!x.maskEn || (x.masks.drop x.keyWords).all (fun m => decide (m = 0xFFFF))) &&
    (liveSlots s d).all (fun m => (List.range 64).all (fun u =>
      let y := tblDesc s d m u
      !y.en || (decide (m = n) && decide (u = t)) || !sharesMemory x y || (decide (u = t) && sameDesc s d n m t))))

/-- R209 for a group, as it stands. -/
def groupOk (s : State) (d n g : Nat) : Bool :=
  let cfg := getRS s .tblGrpCfg d n g
  let count := bitsOf cfg 8 6
  let ms := groupMembers s d n g
  let ds := ms.map (tblDesc s d n)
  decide (cfg % 2 = 0) || (
    decide (1 ≤ count) && decide (count ≤ 32) && ds.all (fun x => x.en && decide (x.mode ≠ 2)) && distinctNat ms &&
    ds.all (fun x => decide (x.keyWords = ((ds.head?.map (·.keyWords)).getD 0))) &&
    (decide (bitsOf cfg 1 1 = 0) || ds.all (fun x => decide (descA x ≠ 0))))

/-- The conditions on LRN.TBL_CFG (chapter Learning). -/
def learnCfgOk (s : State) (d n t : Nat) : Bool :=
  let c := getRS s .lrnTblCfg d n t
  let x := tblDesc s d n t
  !lrnOn c || (x.dyn && decide (x.mode ≠ 2) && decide (bitsOf c 1 5 < descA x) && (!tenEn c || decide (bitsOf c 7 5 < descA x)) &&
    decide (ageLimit c ≠ 0))

/-- R94 over the queues of a slot. -/
def queuesOk (s : State) (d n : Nat) : Bool :=
  let on := ((List.range 128).map (fun q => getRS s .dispWqCfg d n q)).filter (fun v => decide (v % 65536 ≠ 0))
  on.all (fun v => decide (v / 65536 < v % 65536)) && decide (sumN (on.map (fun v => v % 65536 + 64)) ≤ 65536)

/-- The field rules of a staged register, on the slot after the write. -/
def stagedOk (s : State) (d n : Nat) (r : RegName) (i : Nat) : Bool :=
  let v := getRS s r d n i
  match r with
  | .parsePortCfg =>
    decide (bitsOf v 8 3 ≤ 3) && (decide (bitsOf v 8 3 ≠ 2) || gpnExists s (bitsOf v 16 9)) && startOk s d n (bitsOf v 0 8)
  | .parsePortDef => decide (bitsOf v 0 3 ≤ 2) && (decide (bitsOf v 0 3 ≠ 2) || gpnExists s (bitsOf v 16 9))
  | .dispPortOrd => decide (10 ≤ bitsOf v 16 14) && decide (bitsOf v 16 14 ≤ 10000)
  | .dispPortClass => decide (bitsOf v 9 5 ≤ 29)
  | .dispWqCfg => queuesOk s d n
  | .cellPdomCfg => decide (1 ≤ bitsOf v 0 12) && decide (bitsOf v 0 12 ≤ 2048)
  | .cellPdomShare => decide (1 ≤ bitsOf v 0 8)
  | .tblDesc0 | .tblDesc1 | .tblDesc2 | .tblDesc3 | .tblDesc4 => descOk s d n i
  | .tblGrpCfg => groupOk s d n i
  | .lrnTblCfg => learnCfgOk s d n i
  | .lrnPortGuard => decide (bitsOf v 20 2 ≤ 1)
  | .lrnMoveCfg =>
    decide (1 ≤ bitsOf v 0 4) && decide (1 ≤ bitsOf v 4 12) && decide (1 ≤ bitsOf v 16 16) && decide (bitsOf v 16 16 ≤ 60000)
  | .lrnAssistCfg => decide (v % 2 = 0)
  | r => if r ∈ keyMaskRegs then descOk s d n i else if r ∈ grpMemberRegs then groupOk s d n i else true

/-- Whether a value has no bit set that a register does not define (R10). -/
def definedBits (r : RegName) (v : Nat) : Bool := decide (v < 2 ^ r.spec.width) && decide (Nat.land v r.spec.mask = v)

/-- Write elements `first`, `first + 1`, … of a set into slot `n` of a die. -/
def writeSet (rs : List RegName) (d n : Nat) : State → Nat → List Nat → State
  | s, _, [] => s
  | s, i, v :: vs =>
    match setElem rs i with
    | some (r, k) => writeSet rs d n (setRS s r d n k v) (i + 1) vs
    | none => writeSet rs d n s (i + 1) vs

/-- Whether a write of a set is accepted into slot `n` (R10, R252): instances in range, no reserved bit, every field rule. -/
def setWriteOk (s : State) (d n : Nat) (rs : List RegName) (first : Nat) (vs : List Nat) : Bool :=
  let t := writeSet rs d n s first vs
  decide (vs ≠ []) && decide (first + vs.length ≤ setLen rs) &&
    (vs.zip (range' first vs.length)).all (fun e =>
      match setElem rs e.2 with
      | some (r, k) => definedBits r e.1 && stagedOk t d n r k
      | none => false)

end Sys2Proof.Machine
end

