-- ==== Sys2Proof/Machine/Generations.lean ====
section
/-!
DEFINITION. Generations (R244 to R261): the copies that open a slot, the digest, the checks of a seal, commit, retirement, drift and fences,
and the happenings that no host command starts.
-/

namespace Sys2Proof.Machine

/-! ## Spans of maps -/

/-- The entries of keys `a` to `a + n - 1`, as offset and value. -/
def spanOf {α : Type} (m : Map α) (a n : Nat) : List (Nat × α) :=
  m.filterMap (fun e => if a ≤ e.1 ∧ e.1 < a + n then some (e.1 - a, e.2) else none)

/-- Without the entries of keys `a` to `a + n - 1`. -/
def spanDrop {α : Type} (m : Map α) (a n : Nat) : Map α := m.filter (fun e => decide (e.1 < a ∨ e.1 ≥ a + n))

/-- Keys `b` upward made a copy of keys `a` upward, `n` of them. -/
def spanCopy {α : Type} (m : Map α) (a b n : Nat) : Map α := (spanOf m a n).foldl (fun m e => kput m (b + e.1) e.2) (spanDrop m b n)

/-- The same for a set of keys. -/
def spanMarks (l : List Nat) (a b n : Nat) : List Nat :=
  l.filter (fun k => decide (k < b ∨ k ≥ b + n)) ++ (l.filter (fun k => decide (a ≤ k ∧ k < a + n))).map (fun k => b + (k - a))

/-! ## Slots (R244) -/

/-- A usable die whose slots stand for all: the slots of the usable dies agree. -/
def refDie (s : State) : Nat := if usable s s.pkg.lead then s.pkg.lead else (usableDies s).headD s.pkg.lead

/-- Change the GEN.SLOT register of slot `n` on every usable die. -/
def modSlot (s : State) (n lo w v : Nat) : State := forEach (usableDies s) (fun s d => setField s (slotReg n) d 0 lo w v) s
def slotStates (s : State) (n st : Nat) : State := modSlot s n 0 3 st

/-- The slot of the generation that is OPEN, SEALED or PENDING (R245). -/
def stagedSlot (s : State) : Option Nat := (List.range 4).find? (fun n => decide (1 ≤ slotState s (refDie s) n ∧ slotState s (refDie s) n ≤ 3))

/-- The number of the next generation (R245). -/
def nextGen (s : State) : Nat := s.gen.lastGen % 65535 + 1

/-- Key of a slot of a die. -/
def dieSlot (d n : Nat) : Nat := d * 4 + n

def noDigest : SlotDigest := ⟨[], [], 0⟩
def slotDigest (s : State) (d n : Nat) : SlotDigest := kget s.gen.digests (dieSlot d n) noDigest
def setDigest (s : State) (d n : Nat) (x : SlotDigest) : State :=
  { s with gen := { s.gen with digests := kset s.gen.digests (dieSlot d n) x noDigest } }

/-! ## What a slot holds, copied (R247, R249, R260) -/

/-- The per-slot registers of slot `n` of die `e` into slot `m` of die `d`. -/
def copyRegs (s : State) (e n d m : Nat) : State :=
  let at_ (k d n : Nat) : Bool := decide (k / 8388608 % 8 = d) && decide (k / 1048576 % 8 = n)
  let src := (s.regs.filter (fun x => at_ x.1 e n)).map (fun x => (x.1 / 67108864 * 67108864 + d * 8388608 + m * 1048576 + x.1 % 1048576, x.2))
  { s with regs := src.foldl (fun r x => kput r x.1 x.2) (s.regs.filter (fun x => !at_ x.1 d m)) }

/-- The constant stores of the combs. -/
def copyConsts (s : State) (e n d m : Nat) : State :=
  forEach (List.range 8) (fun s k =>
    let a := constAddr (e * 8 + k) n 0
    let b := constAddr (d * 8 + k) m 0
    { s with core := { s.core with mem := spanCopy s.core.mem a b 8192, poison := spanMarks s.core.poison a b 8192 } }) s

/-- The tenant class map. -/
def copyTenants (s : State) (e n d m : Nat) : State :=
  { s with tbl := { s.tbl with tenantClass := spanCopy s.tbl.tenantClass (tclassKey e n 0) (tclassKey d m 0) 65536 } }

/-- A graph image. -/
def copyGraph (s : State) (e i d j : Nat) : State :=
  let a := graphKey e i 0
  let b := graphKey d j 0
  { s with
    path := { s.path with graph := spanCopy s.path.graph a b 32768 },
    core := { s.core with poison := spanMarks s.core.poison (0x50000000 + a) (0x50000000 + b) 32768 } }

/-- The program images of the combs. -/
def copyProgs (s : State) (e i d j : Nat) : State :=
  forEach (List.range 8) (fun s k =>
    let a := progKey (e * 8 + k) i 0
    let b := progKey (d * 8 + k) j 0
    let pa := 0x40000000 + a
    let pb := 0x40000000 + b
    { s with core := { s.core with prog := spanCopy s.core.prog a b 65536, poison := spanMarks s.core.poison pa pb 65536 } }) s

/-- Whether an entry is a static one of slot `n`. -/
def staticIn (e : Entry) (n : Nat) : Bool := e.static_ && e.slots.getLsbD n

/-- Entries of a die. -/
def dieEntries (s : State) (d : Nat) : List (Nat × Entry) := (liveEntries s).filter (fun e => decide (posDie e.1 = d))

/-- Slot `m`'s bit set in the static entries of slot `n` (R247), behind the writes that wait at the engines. -/
def copyStatics (s : State) (d n m : Nat) : State :=
  let s := forEach (List.range 4) (fun s e => flushEngine s d e) s
  forEach ((dieEntries s d).filter (fun e => staticIn e.2 n)) (fun s e =>
    setEntry s e.1 (some { e.2 with slots := e.2.slots ||| BitVec.ofNat 4 (2 ^ m) })) s

/-- Slot `n`'s bit cleared in every static entry of a die; one left without a slot is free (R191, R257). -/
def clearStatics (s : State) (n d : Nat) : State :=
  let s := forEach (List.range 4) (fun s e => flushEngine s d e) s
  forEach ((dieEntries s d).filter (fun e => staticIn e.2 n)) (fun s e =>
    let left := e.2.slots &&& ~~~BitVec.ofNat 4 (2 ^ n)
    setEntry s e.1 (if left = 0 then none else some { e.2 with slots := left })) s

/-- A region that no live slot but `n` names is free: its entries go (R200). -/
def freeRegions (s : State) (n d : Nat) : State :=
  let kept (e : Nat × Entry) : Bool := (liveSlots s d).any (fun k => decide (k ≠ n) &&
    (let x := tblDesc s d k e.2.tableId
     x.en && inTable d x e.1))
  forEach ((dieEntries s d).filter (fun e => !kept e)) (fun s e =>
    let s := setEntry s e.1 none
    if e.2.contested then setTracker s d ((trackerOf s d).filter (fun l => !(l.tableId = e.2.tableId && l.key = e.2.key))) else s) s

/-- Slot `m` of die `d` made from the CURRENT slot, or from the reset values (R247). -/
def openSlotOn (gen m : Nat) (s : State) (d : Nat) : State :=
  let s :=
    match curSlot s d with
    | some n =>
      let s := copyStatics (copyTenants (copyConsts (copyRegs s d n d m) d n d m) d n d m) d n m
      setField (setField s (slotReg m) d 0 3 1 (slotPimg s d n)) (slotReg m) d 0 4 1 (slotGimg s d n)
    | none =>
      let s := { s with regs := s.regs.filter (fun x => !(decide (x.1 / 8388608 % 8 = d) && decide (x.1 / 1048576 % 8 = m))) }
      let s := forEach (List.range 8) (fun s k => clearWords s (constAddr (d * 8 + k) m 0) 8192) s
      let s := { s with tbl := { s.tbl with tenantClass := spanDrop s.tbl.tenantClass (tclassKey d m 0) 65536 } }
      setField s (slotReg m) d 0 3 2 0
  let s := setField (setField (setField s (slotReg m) d 0 16 16 gen) (slotReg m) d 0 5 1 0) (slotReg m) d 0 0 3 1
  setDigest s d m noDigest

/-- GEN_OPEN (R245 to R247): the generation opens in slot `m` for session `i`. -/
def openGen (s : State) (i m : Nat) : State :=
  let s := forEach (usableDies s) (openSlotOn (nextGen s) m) s
  wakeAll { s with gen := { s.gen with openOwner := some i, graphStaged := false, progStaged := false } }

/-! ## The digest (R251) -/

/-- The lowest-numbered usable comb of a die that serves a program domain in a slot. -/
def combFor (s : State) (d n pdom : Nat) : Option Nat := (dieCombs d).find? (fun k => combUsable s k && decide (combDom s k n = pdom))

/-- The combs of a die, usable or not, that serve a program domain in a slot. -/
def combsFor (s : State) (d n pdom : Nat) : List Nat := (dieCombs d).filter (fun k => decide (combDom s k n = pdom))

/-- The static entries of a table in slot `n`, in the buckets and the overflow segment that it has there. -/
def tableStatics (s : State) (d n t : Nat) : List (Nat × Entry) :=
  let x := tblDesc s d n t
  (dieEntries s d).filter (fun e => staticIn e.2 n && decide (e.2.tableId = t) && x.en && inTable d x e.1)

/-- Part 6: one table. -/
def digestTable (s : State) (d n t : Nat) : List Byte :=
  let es := tableStatics s d n t
  let h (e : Entry) : Nat := (first128 (sha256 (bytesOf (nw t :: e.key ++ e.action)))).toNat
  bytesOf (nw t :: wordsOf 2 es.length ++ wordsOf 8 (sumN (es.map (fun e => h e.2)) % 2 ^ 128))

/-- The message M of slot `n` as die `d` holds it, with a given word in the place of the generation number. -/
def slotMessage (s : State) (d n gen : Nat) : List Byte :=
  let regs := coverage.flatMap (fun e => (List.range (setLen e.2)).flatMap (fun i =>
    match setElem e.2 i with
    | some (r, k) => beBytes 4 (getRS s r d n k)
    | none => []))
  let tenants := (List.range 16384).map (fun k =>
    let c (j : Nat) : Nat := tenantClassOf s d n (4 * k + j)
    nw (c 0 * 4096 + c 1 * 256 + c 2 * 16 + c 3))
  let graph := (List.range 32768).map (graphWord s d (slotGimg s d n))
  let progs := (List.range 16).flatMap (fun p =>
    match combFor s d n p with
    | some k =>
      bytesOf [nw p] ++ (List.range 65536).flatMap (fun a => beBytes 4 (kget s.core.prog (progKey k (slotPimg s d n) a) 0).toNat) ++
        bytesOf ((List.range 8192).map (fun a => memAt s (constAddr k n a)))
    | none => [])
  let tables := ((List.range 64).filter (fun t => (tblDesc s d n t).en)).flatMap (digestTable s d n)
  bytesOf [0x5147, 1, nw gen, 0] ++ regs ++ bytesOf tenants ++ bytesOf graph ++ progs ++ tables

/-- The digest of a slot: eight words. -/
def digestWith (s : State) (d n gen : Nat) : List Word := wordsOf 8 (first128 (sha256 (slotMessage s d n gen))).toNat
def digestOf (s : State) (d n : Nat) : List Word := digestWith s d n (slotGen s d n)

/-- Whether the recomputation of a slot's digest meets uncorrectable data (R260): a static entry, a constant store, a program image, the
graph image. -/
def slotUncorr (s : State) (d n : Nat) : Bool :=
  let hit (a len : Nat) : Bool := s.core.poison.any (fun k => decide (a ≤ k ∧ k < a + len))
  ((List.range 64).flatMap (tableStatics s d n)).any (fun e =>
    (e.2.uncorr || (isDeepPos e.1 && blockPoison s d (e.1 % 1099511627776 / 4) 1))) ||
  (List.range 16).any (fun p =>
    match combFor s d n p with
    | some k => hit (constAddr k n 0) 8192 || hit (0x40000000 + progKey k (slotPimg s d n) 0) 65536
    | none => false) ||
  hit (0x50000000 + graphKey d (slotGimg s d n) 0) 32768

/-! ## The checks of a seal (R65, R72, R93, R209, R235, R250) -/

/-- The ports that the seal examines (R72). -/
def sealPorts (s : State) (d : Nat) : List Nat :=
  ((List.range 32).filter (fun p => decide (portMode s (gpnOf d p) ≠ 0))) ++ if d < 2 then [32] else []

/-- A port's selected levels (R72). -/
def sealLevels (s : State) (d n p : Nat) : List Nat :=
  let c := getRS s .dispPortClass d n p
  if bitsOf c 16 1 = 1 then [bitsOf c 17 3] else if bitsOf c 3 1 = 0 then [c % 8] else List.range 8

/-- The number of the first check of the seal that slot `n` fails on die `d` (the numbers are the model's, log entry 50). -/
def sealCheck (s : State) (d n : Nat) : Option Nat :=
  let ord (p : Nat) : Nat := getRS s .dispPortOrd d n p
  let alarms := (entriesOf s d).filter (fun e => decide (e.1 ≥ 64 ∧ e.2.action = 0x10))
  let same {α : Type} [DecidableEq α] (f : Nat → List α) : Bool :=
    (List.range 16).all (fun p =>
      match (combsFor s d n p).filter (combUsable s) with
      | [] => true
      | k :: ks => ks.all (fun j => decide (f j = f k)))
  let checks : List (Nat × Bool) :=
    [(1, (List.range 33).all (fun p => startOk s d n (getRS s .parsePortCfg d n p % 256))),
     (2, (sealPorts s d).all (fun p => domServed s d n (ord p % 16)) && alarms.all (fun e => domServed s d n e.2.domain)),
     (3, (sealPorts s d).all (fun p => (sealLevels s d n p).all (fun l => decide (getRS s .dispWqCfg d n (wqIndex (ord p % 16) l) % 65536 ≠ 0)))),
     (4, (sealPorts s d).all (fun p =>
        decide (bitsOf (ord p) 16 14 * 100 * 12 ≥ (getRS s .cellPdomCfg d n (ord p % 16) % 4096 * 1024) * 5 + 2000 * 12))),
     (5, (List.range 16).all (fun g => groupOk s d n g)),
     (6, decide (deepPassUs s d n (getR s .memDramShare2 d 0) ≤ s.tbl.ageSet.1 * s.tbl.ageSet.2 * 1000)),
     (7, same (fun k => spanOf s.core.prog (progKey k (slotPimg s d n) 0) 65536)),
     (8, same (fun k => spanOf s.core.mem (constAddr k n 0) 8192))]
  (checks.find? (fun e => !e.2)).map (·.1)

/-- The first failing check over the usable dies: the check and the die. -/
def sealFails (s : State) (n : Nat) : Option (Nat × Nat) := (usableDies s).findSome? (fun d => (sealCheck s d n).map (fun c => (c, d)))

/-- The dies whose digest of slot `n` differs from the lead's (R250). -/
def mismatchMask (s : State) (n : Nat) : Nat :=
  let lead := digestOf s (refDie s) n
  sumN ((usableDies s).map (fun d => bitIf d (decide (digestOf s d n ≠ lead))))

/-- The seal: every die keeps the digest that all agreed, the lead's. -/
def sealGen (s : State) (n : Nat) : State :=
  let mask := mismatchMask s n
  let lead := digestOf s (refDie s) n
  let s := forEach (usableDies s) (fun s d => setDigest s d n ⟨lead, [], 0⟩) s
  let s := slotStates s n 2
  if mask = 0 then s
  else
    recordK (modSlot s n 5 1 1) s.pkg.lead 0x6006 [nw (slotGen s (refDie s) n), nw mask]

/-! ## Drift, fences and audits (R259, R260, R396) -/

/-- A die is fenced (R260): its front ports go down, it leaves dispatch and the bridge; its host port and Keeper stay. -/
def fenceDie (s : State) (d : Nat) : State :=
  if s.pkg.fenced.getLsbD d then s
  else
    let s := withdrawDie s d
    let s := { s with pkg := { s.pkg with usable := s.pkg.usable &&& ~~~BitVec.ofNat 8 (2 ^ d), fenced := s.pkg.fenced ||| BitVec.ofNat 8 (2 ^ d) } }
    let s := settlePorts s d
    recordK s d 0x6005 [nw d, 1]

/-- GEN.POLICY.DIE_DRIFT acts on a die. -/
def driftPolicy (s : State) (d : Nat) : State := if fieldR s .genPolicy s.pkg.lead 0 0 1 = 1 then fenceDie s d else s

/-- A die has drifted (R260). The part of M is not looked for (log entry 51). -/
def drift (s : State) (d n : Nat) (uncorr : Bool) : State :=
  driftPolicy (recordF s 3 d 0x6004 (keeperId d) [nw d, nw n, 0xFFFF, 0xFFFF, if uncorr then 1 else 0]) d

/-- The die takes its place again (R260). -/
def unfenceDie (s : State) (d : Nat) : State :=
  let bit := BitVec.ofNat 8 (2 ^ d)
  let kpr := { s.kpr with mapFenced := s.kpr.mapFenced &&& ~~~bit }
  let s := { s with pkg := { s.pkg with usable := s.pkg.usable ||| bit, fenced := s.pkg.fenced &&& ~~~bit }, kpr := kpr }
  let s := restoreLinks s d
  let s := settlePorts s d
  recordK s d 0x6005 [nw d, 0]

/-- The digest of the access map of a die (R396). -/
def mapDigest (s : State) (d : Nat) : List Word :=
  wordsOf 8 (first128 (sha256 ((List.range 18).flatMap (fun r => bytesOf (mapRow s d r))))).toNat

/-- Whether a die holds an uncorrectable map word. -/
def mapSick (s : State) (d : Nat) : Bool := s.kpr.mapBad.any (fun k => decide (k / 864 = d))

/-- A die's map copied from the lead's. -/
def reloadMap (s : State) (d : Nat) : State :=
  let rows := spanCopy s.kpr.mapRows (mapKey s.pkg.lead 0 0) (mapKey d 0 0) 864
  { s with kpr := { s.kpr with mapRows := rows, mapBad := s.kpr.mapBad.filter (fun k => decide (k / 864 ≠ d)) } }

/-- A die recomputes its map digest and keeps it with its STIME. -/
def noteMap (s : State) (d : Nat) : State :=
  { s with kpr := { s.kpr with mapDigests := kset s.kpr.mapDigests d (mapDigest s d, stime s d) ([], 0) } }

/-- The die's map disagrees: reload from the lead's copy, or act by DIE_DRIFT where that is unreadable (R395, R396). `why` is 1 for an
uncorrectable word, 2 for a digest. The lead has no other copy to reload from. -/
def mapDrift (s : State) (d why : Nat) : State :=
  if d ≠ s.pkg.lead ∧ !mapSick s s.pkg.lead then
    recordF (noteMap (reloadMap s d) d) 3 d 0xE002 (keeperId d) [nw d, nw why, 1]
  else
    let s := recordF s 3 d 0xE002 (keeperId d) [nw d, nw why, 0]
    let s :=
      if fieldR s .genPolicy s.pkg.lead 0 0 1 = 1 then
        { s with kpr := { s.kpr with mapFenced := s.kpr.mapFenced ||| BitVec.ofNat 8 (2 ^ d) } }
      else s
    driftPolicy s d

/-- A die audits its map (R396). -/
def mapAudit (s : State) (d : Nat) : State :=
  let s := noteMap s d
  if mapSick s d then mapDrift s d 1
  else if mapDigest s d ≠ mapDigest s s.pkg.lead then mapDrift s d 2
  else s

/-- The recomputations under way on a die: a slot for the check after a commit, a slot + 4 for one of an audit. -/
def auditOf (s : State) (d : Nat) : List Nat := kget s.gen.audit d []
def setAudit (s : State) (d : Nat) (l : List Nat) : State := { s with gen := { s.gen with audit := kset s.gen.audit d l [] } }

/-- Start an audit of every CURRENT and DRAINING slot of a die; one without a slot is complete at once. -/
def startAudit (s : State) (d : Nat) : State :=
  let ns := (List.range 4).filter (fun n => decide (slotState s d n = 4 ∨ slotState s d n = 5))
  if ns = [] then auditDone s d else setAudit s d ((auditOf s d) ++ (ns.map (· + 4)).filter (fun k => decide (k ∉ auditOf s d)))

/-- A recomputation of slot `n` ends (R259, R260): whether it was made, and the state. -/
def recomputed (s : State) (d n : Nat) (uncorr : Bool) : Bool × State :=
  match (auditOf s d).find? (fun k => k % 4 = n) with
  | none => (false, s)
  | some k =>
    let left := (auditOf s d).erase k
    let s := setAudit s d left
    let live := decide (slotState s d n = 4 ∨ slotState s d n = 5)
    let s :=
      if !live then s
      else if uncorr || slotUncorr s d n then drift s d n true
      else
        let x := slotDigest s d n
        let now := digestOf s d n
        let s := setDigest s d n { x with recomputed := now, at_ := stime s d }
        if now = x.sealed then s else drift s d n false
    (live, if k ≥ 4 ∧ left.all (fun j => decide (j < 4)) then auditDone s d else s)

/-! ## Commit (R253 to R255) -/

/-- Whether the region of a table differs between two descriptors, or a seed (R199). -/
def rehashed (x y : Desc) : Bool :=
  decide (x.seed1 ≠ y.seed1 ∨ x.seed2 ≠ y.seed2 ∨ x.bankBase ≠ y.bankBase ∨ x.bankLog ≠ y.bankLog ∨ x.bucketLog ≠ y.bucketLog ∨
    x.rowBase ≠ y.rowBase ∨ x.deepLog ≠ y.deepLog ∨ x.dramBase ≠ y.dramBase ∨ x.width ≠ y.width)

/-- STIME of a die has reached T: the PENDING slot becomes CURRENT, the CURRENT one DRAINING (R254). The cells of the die start when the
first generation becomes CURRENT (R99). -/
def commitDie (s : State) (d : Nat) : State :=
  match slotIn s d 3 with
  | none => s
  | some p =>
    if stime s d < commitT s d then s
    else
      let old := curSlot s d
      let gen := slotGen s d p
      let s :=
        match old with
        | some n =>
          let s := setField s (slotReg n) d 0 0 3 5
          { s with gen := { s.gen with drainSince := kset s.gen.drainSince (dieSlot d n) (some (mono s d)) none } }
        | none => s
      let s := setR (setField s (slotReg p) d 0 0 3 4) .genCommitT d 0 0
      let s := { s with gen := { s.gen with lastGen := gen, openOwner := none } }
      let s := forEach (List.range 64) (fun s t =>
        match old with
        | some n => if (rehashOf s d t).outstanding ∧ rehashed (tblDesc s d n t) (tblDesc s d p t) then setRehash s d t ⟨false, 0, 0, 0⟩ else s
        | none => s) s
      let s := forEach (List.range 128) (fun s q => if (getWq s d q).items = [] then s else noteHold s d q) s
      if old.isSome then s
      else forEach ((dieCombs d).flatMap combCells) (fun s c =>
        if cellUsable s c ∧ !(getCell s c).started ∧ (placeOf s c).isSome then startSup s c else s) s

/-- COMMIT_TIME_REACHED: STIME reaches T on the dies (R254). -/
def execCommitTimeReached (s : State) : Host.Outcome State Fault Refusal := .next (forEach (usableDies s) commitDie s)

/-- GEN_COMMIT_FIRE: the GEN_COMMIT entry of a die has fired: the commit is recorded, the check after it starts (R254, R259). -/
def execGenCommitFire (die : Nat) (s : State) : Host.Outcome State Fault Refusal :=
  .next (
    match takeFired s die 1 with
    | none => s
    | some (f, s) =>
      let s := commitDie s die
      let n := f.entry.arg.toNat % 4
      let s := recordK s die 0x6001 ([nw (slotGen s die n), nw n] ++ timeWords f.t ++ [if f.late then 1 else 0])
      if n ∈ auditOf s die then s else setAudit s die (auditOf s die ++ [n]))

/-- A generation that is OPEN or SEALED is discarded (R255): `why` as EV_GEN_ABORT has it. -/
def abortGen (s : State) (n why : Nat) : State :=
  let s := recordK s s.pkg.lead 0x6007 [nw (slotGen s (refDie s) n), nw n, nw why]
  slotStates { s with gen := { s.gen with openOwner := none, graphStaged := false, progStaged := false } } n 6

/-- Remove the commit entries of the schedule and disarm the stamping (R255). -/
def disarmCommit (s : State) (n : Nat) : State :=
  let s := forEach (usableDies s) (fun s d => setR (setSched s d entGenCommit none) .genCommitT d 0 0) s
  slotStates s n 2

/-- Arm a commit at T (R253). -/
def armCommit (s : State) (n t : Nat) : State :=
  let tv := t / nsPerS * 2 ^ 32 + t % nsPerS
  let s := forEach (usableDies s) (fun s d => setR (setSched s d entGenCommit (some (sysEntry 1 false t 0 (nw n)))) .genCommitT d 0 tv) s
  slotStates s n 3

/-! ## Retirement (R257, R258) -/

/-- Copies of slot `n` in the egress queues of a die. -/
def queuedOf (s : State) (d n : Nat) : Nat := sumN ((busyQueues s d).map (fun q => ((getQueue s q).filter (fun c => decide (c.stamp.slot = n))).length))

/-- SLOT_RETIRE: a DRAINING slot that nothing holds enters CLEARING (R257). -/
def execSlotRetire (slot : Nat) (s : State) : Host.Outcome State Fault Refusal :=
  .next (
    if slot < 4 ∧ slotState s (refDie s) slot = 5 ∧ (usableDies s).all (fun d => decide (holdersOf s d slot = 0)) then
      recordK (slotStates s slot 6) s.pkg.lead 0x6002 [nw (slotGen s (refDie s) slot), nw slot]
    else s)

/-- SLOT_CLEAR_DONE: the slot's bit has left every static entry of every die, regions that only it named are free (R200), and the slot is
FREE (R257). -/
def execSlotClearDone (slot : Nat) (s : State) : Host.Outcome State Fault Refusal :=
  .next (
    if slot < 4 ∧ slotState s (refDie s) slot = 6 then
      let s := forEach (usableDies s) (fun s d => freeRegions (clearStatics s slot d) slot d) s
      forEach (usableDies s) (fun s d =>
        let s := { s with gen := { s.gen with drainSince := kset s.gen.drainSince (dieSlot d slot) none none } }
        setDigest (setR s (slotReg slot) d 0 0) d slot noDigest) s
    else s)

/-- RETIRE_FORCED: RETIRE_MAX has passed and only frames in egress queues hold the slot: they are discarded (R258). -/
def execRetireForced (slot : Nat) (s : State) : Host.Outcome State Fault Refusal :=
  .next (
    let r := refDie s
    let lim := fieldR s .genPolicy s.pkg.lead 0 16 16 * 100000000
    let due : Bool := match kget s.gen.drainSince (dieSlot r slot) none with | some t => decide (mono s r ≥ t + lim) | none => false
    if slot < 4 ∧ slotState s r slot = 5 ∧ lim ≠ 0 ∧ due ∧
        (usableDies s).all (fun d => decide (holdersOf s d slot = queuedOf s d slot)) ∧
        (usableDies s).any (fun d => decide (queuedOf s d slot ≠ 0)) then
      let (n, s) := (usableDies s).foldl (fun (a : Nat × State) d =>
        (busyQueues a.2 d).foldl (fun (b : Nat × State) q =>
          let x := discardAll b.2 q 3 (fun c => decide (c.stamp.slot = slot))
          (b.1 + x.1, x.2)) a) (0, s)
      recordK s s.pkg.lead 0x6003 ([nw (slotGen s r slot), nw slot] ++ wordsOf 2 n)
    else s)

/-- AUDIT_START: the background audit of a die: every CURRENT and DRAINING slot, and the access map (R259, R396). It waits for a Keeper
that restarts (R469). -/
def execAuditStart (die : Nat) (s : State) : Host.Outcome State Fault Refusal :=
  .next (
    match (if keeperDown s die then none else takeFired s die 4) with
    | none => s
    | some (_, s) => startAudit (mapAudit s die) die)

/-! ## Repair (R260) -/

/-- The content of every live slot of die `e` put on die `d`. -/
def repairFrom (s : State) (e d : Nat) : State :=
  let s := forEach (List.range 2) (fun s i => copyProgs (copyGraph s e i d i) e i d i) s
  let s := forEach (List.range 4) (fun s n =>
    let s := copyTenants (copyConsts (copyRegs s e n d n) e n d n) e n d n
    let s := setR s (slotReg n) d 0 (getR s (slotReg n) e 0)
    setDigest s d n { slotDigest s d n with sealed := (slotDigest s e n).sealed }) s
  let s := setR s .genCommitT d 0 (getR s .genCommitT e 0)
  let s := forEach (List.range 4) (fun s k => flushEngine s d k) s
  let s := forEach ((dieEntries s d).filter (fun x => x.2.static_)) (fun s x => setEntry s x.1 none) s
  forEach ((dieEntries s e).filter (fun x => x.2.static_)) (fun s x =>
    match (List.range 4).find? (fun n => x.2.slots.getLsbD n) with
    | some n => (insertEntry s d x.2.tableId (tblDesc s d n x.2.tableId) x.2 (keeperId d)).2
    | none => s) s

/-- Whether every live slot with an agreed digest has it on die `d`. -/
def agrees (s : State) (d : Nat) : Bool :=
  (liveSlots s d).all (fun n => decide ((slotDigest s d n).sealed = []) || (!slotUncorr s d n && decide (digestOf s d n = (slotDigest s d n).sealed)))

end Sys2Proof.Machine
end

