-- ==== Sys2Proof/Machine/Sessions.lean ====
section
/-! DEFINITION. Sessions of the Esham mailbox (R361 to R368): windows, the end of a session. -/

namespace Sys2Proof.Machine

/-- The places of open sessions. -/
def openSessions (s : State) : List (Nat × Session) :=
  (range' 1 41).filterMap (fun i => (session s i).map (fun x => (i, x)))

/-- The place that a session ID names, when that session is open. -/
def findSession (s : State) (id : Word) : Option (Nat × Session) :=
  match session s (id.toNat % 64) with
  | some x => if sesIdOf (id.toNat % 64) x = id ∧ id ≠ 0 then some (id.toNat % 64, x) else none
  | none => none

/-- The three words of an Ethernet address. -/
def macWords (a : BitVec 48) : List Word := wordsOf 3 a.toNat

/-- The Owner's session. -/
def ownerSession (s : State) : Option (Nat × Session) := (openSessions s).find? (fun e => decide (e.2.priv = 3))

/-- A SES_NOTICE to the Owner about a session that ended (R368, R373). -/
def endNotice (s : State) (id : Word) : State :=
  match ownerSession s with
  | some (i, x) => if x.mask.getLsbD 7 then noteTo s i 0x8007 [1, id, 0, 0, 0, 0] else s
  | none => s

/-- Whether the copy engine's claim of a die stands for mirror sessions or samplers that still run (DEDUCED, log entry 52). -/
def claimStays (c : Claim) : Bool := decide (c.feature = 0x0407 ∨ c.feature = 0x0408)

/-- The owner-feature claims of a holder, freed (R368). -/
def freeClaims (s : State) (who : Word) : State :=
  forEach (s.kpr.claims.filterMap (fun e => e.2.map (fun c => (e.1, c)))) (fun s e =>
    let cls := e.1 / 65536
    let idx := e.1 % 65536
    if e.2.rank = 1 ∧ e.2.holder = who ∧ !claimStays e.2 then freeClaim s cls idx
    else
      match e.2.under with
      | some (_, f, h, _) => if h = who ∧ f ≠ 0x0407 ∧ f ≠ 0x0408 then dropUnder s cls idx else s
      | none => s) s

/-- The end of session `i` (R368): `why` as EV_SES_END has it. -/
def endSession (s : State) (i why : Nat) : State :=
  match session s i with
  | none => s
  | some x =>
    let who := sessionId i
    let id := sesIdOf i x
    let s := forEach (allDies s) (fun s d => forEach (locksOf s d who) (fun s n => abandonLock s d n who) s) s
    let s :=
      if s.gen.openOwner = some i then
        match stagedSlot s with
        | some n => if slotState s (refDie s) n = 3 then { s with gen := { s.gen with openOwner := none } } else abortGen s n 1
        | none => s
      else s
    let s := forEach (s.core.cells.filterMap (fun e => if e.2.dbg = some (.session i) then some e.1 else none)) dbgDetachCell s
    let s := freeClaims s who
    let s := setSession s i none
    endNotice (record s s.pkg.lead 0x0002 (keeperId s.pkg.lead) [id, nw why]) id

/-- KPR.MGMT_CFG.IDLE in ns. -/
def idleNs (s : State) : Nat := fieldR s .kprMgmtCfg s.pkg.lead 0 64 12 * nsPerS

/-- SESSION_IDLE: a session without an accepted command for IDLE seconds ends (R368). -/
def execSessionIdle (index : Nat) (s : State) : Host.Outcome State Fault Refusal :=
  .next (
    match session s index with
    | some x => if leadMono s ≥ x.idleSince + idleNs s then endSession s index 4 else s
    | none => s)

/-! ## Sequence windows (R361 to R363) -/

/-- What a window says of a sequence. -/
inductive SeqKind where
  | new
  | late
  | seen
  | refused
  deriving DecidableEq, Repr

/-- R362 against the highest accepted sequence and the record of the window. -/
def seqKind (hi : BitVec 32) (seen : BitVec 64) (seq : BitVec 32) : SeqKind :=
  let d := (seq - hi).toNat
  let e := (hi - seq).toNat
  if 1 ≤ d ∧ d ≤ 65536 then .new
  else if e ≤ 63 then (if seen.getLsbD e then .seen else .late)
  else .refused

/-- The window after a sequence has been accepted: the highest and the record. -/
def seqAccept (hi : BitVec 32) (seen : BitVec 64) (seq : BitVec 32) : BitVec 32 × BitVec 64 :=
  match seqKind hi seen seq with
  | .new => (seq, (seen <<< (seq - hi).toNat) ||| 1)
  | _ => (hi, seen ||| BitVec.ofNat 64 (2 ^ (hi - seq).toNat))

/-- A session after an accepted command: its window, its binding, its idle time (R361, R367, R368). -/
def acceptSeq (x : Session) (now port : Nat) (src : BitVec 48) (vlan : Option Word) (seq : BitVec 32) (tag : BitVec 128) : Session :=
  let w := seqAccept x.hi x.seen seq
  let kept := (x.window ++ [(⟨seq, 0, tag⟩ : SeqRec)]).filter (fun r => decide ((w.1 - r.seq).toNat ≤ 63))
  { x with hi := w.1, seen := w.2, window := kept, port := port, addr := src, vlan := vlan, idleSince := now }

/-- Keep the status of an accepted command (R363). -/
def storeStatus (s : State) (i : Nat) (seq : BitVec 32) (status : Nat) : State :=
  match session s i with
  | some x => setSession s i (some { x with window := x.window.map (fun r => if r.seq = seq then { r with status := status } else r) })
  | none => s

end Sys2Proof.Machine
end

