-- ==== Sys2Proof/Machine/Emp.lean ====
section
/-!
DEFINITION. How the lead Keeper takes an EMP command (R356 to R372): the checks of R360 in their order, the reply and its fragments. Every
EMP command is performed through `empCmd`.
-/

namespace Sys2Proof.Machine

/-! ## Status codes and privileges (R364, R372) -/

def stsOk : Nat := 0
def stsAuth : Nat := 1
def stsPriv : Nat := 2
def stsLength : Nat := 3
def stsUnknown : Nat := 4
def stsBusy : Nat := 5
def stsConflict : Nat := 6
def stsGenBusy : Nat := 7
def stsNoRoom : Nat := 8
def stsRehash : Nat := 9
def stsTimePast : Nat := 10
def stsNotOwner : Nat := 11
def stsRange : Nat := 12
def stsDigest : Nat := 13
def stsSeq : Nat := 14
def stsDegraded : Nat := 15

def observer : Nat := 1
def operator : Nat := 2
def owner : Nat := 3

/-- What a command answers: its status, the payload words of its reply, the state. -/
structure Reply where
  status : Nat
  words : List Word
  st : State

/-- A command answers now, or another one's arrival will answer it. -/
inductive Answer where
  | now (r : Reply)
  | wait (s : State)

def answerOk (s : State) (ws : List Word) : Reply := ⟨stsOk, ws, s⟩
def answerNo (s : State) (status : Nat) : Reply := ⟨status, [], s⟩
/-- ST_CONFLICT with the five words of R381. -/
def answerConflict (s : State) (ws : List Word) : Reply := ⟨stsConflict, ws, s⟩

/-! ## Replies (R358, R359, R371) -/

/-- The fragments of a payload. -/
def fragments (ws : List Word) : List (List Word) := if ws = [] then [[]] else chunks 4480 (ws.length + 1) ws

/-- Send a reply: under a key, or with a tag of zeros. -/
def sendReply (s : State) (m : EmpMsg) (code : Nat) (ses : Word) (key : Option (BitVec 256)) (status : Nat) (dup : Bool) (ws : List Word) : State :=
  let parts := fragments ws
  let out := (parts.zip (List.range parts.length)).map (fun p =>
    let h := empHeader 2 p.2 status p.1.length (decide (p.2 + 1 < parts.length)) dup ses m.seq (nw code) ++ p.1
    Output.emp m.port m.src m.vlan h (match key with | some k => empTag k h | none => 0))
  { s with out := s.out ++ out }

/-! ## Receiving (R356, R360) -/

/-- Whether a die's host port and Keeper are in service: usable, or fenced (R260). -/
def dieServes (s : State) (d : Nat) : Bool := decide (d < s.pkg.n) && (usable s d || s.pkg.fenced.getLsbD d)

/-- Whether the mailbox takes a frame: the part runs, a lead stands, its Keeper is not restarting (R27, R403, R469). -/
def mailboxUp (s : State) (m : EmpMsg) : Bool :=
  s.pkg.running && !s.pkg.noLead && decide (m.port = 256 ∨ m.port = 257) && dieServes s (m.port - 256) &&
    !keeperDown s s.pkg.lead

/-- A counter of the Keeper (R384). -/
def kcnt (s : State) (r : RegName) : State := cnt s r s.pkg.lead 0

/-- The words that the tag of a command covers. -/
def empCovered (m : EmpMsg) (code : Nat) : List Word :=
  [m.w0, m.session] ++ wordsOf 2 m.seq.toNat ++ [nw code, m.w5, nw m.len] ++ fitTo m.len 0 m.payload

/-- Checks 1 to 3: the state of a frame that fails one, with its reply. `hello` for SES_HELLO and SES_OPEN. -/
def empFrameCheck (s : State) (m : EmpMsg) (code : Nat) (hello : Bool) : Option State :=
  if m.avail < 30 ∨ m.w0.toNat / 4096 ≠ 1 ∨ m.w0.toNat % 256 ≠ 1 then some (kcnt s .kprCntNotEmp)
  else if m.len > 4480 ∨ 30 + 2 * m.len > m.avail then
    some (sendReply (kcnt s .kprCntLength) m code m.session ((findSession s m.session).map (·.2.key)) stsLength false [])
  else if (findSession s m.session).isNone ∧ !(hello && decide (m.session = 0)) then
    some (sendReply (kcnt s .kprCntAuthFail) m code m.session none stsAuth false [])
  else none

/-- EV_AUTH_FAIL: the session ID or key slot, the host port, the source address (R385). -/
def authFail (s : State) (m : EmpMsg) (who : Word) : State :=
  recordK (kcnt s .kprCntAuthFail) s.pkg.lead 0x0003 ([who, nw (m.port - 256)] ++ macWords m.src)

/-- Whether the package has started 10,000 commands in the present second of the lead's MONO (R369). -/
def startLimit (s : State) : Bool := decide (s.kpr.started.1 = leadMono s / nsPerS) && decide (s.kpr.started.2 ≥ 10000)

/-- A command starts (R369, R384). -/
def startCmd (s : State) : State :=
  let sec := leadMono s / nsPerS
  let n := if s.kpr.started.1 = sec then s.kpr.started.2 + 1 else 1
  kcnt { s with kpr := { s.kpr with started := (sec, n) } } .kprCntCmd

/-- Answer a command of session `i`: its status is kept for a duplicate (R363). -/
def reply (s : State) (m : EmpMsg) (code i : Nat) (key : BitVec 256) (status : Nat) (ws : List Word) : State :=
  sendReply (storeStatus s i m.seq status) m code m.session (some key) status false ws

/-- Take an EMP command of a session (R360): `priv` is the command's privilege, `body` performs it for the session's place and answers,
`later` is what follows the reply of a command that was performed; none leaves the reply to another command. -/
def empWith (s : State) (m : EmpMsg) (code priv : Nat) (body : State → Nat → Answer) (later : State → Nat → State) : State :=
  if !mailboxUp s m then s
  else
    match empFrameCheck s m code false with
    | some s => s
    | none =>
      match findSession s m.session with
      | none => s
      | some (i, x) =>
        if empTag x.key (empCovered m code) ≠ m.tag then authFail s m m.session
        else
          match seqKind x.hi x.seen m.seq with
          | .refused => sendReply (kcnt s .kprCntSeq) m code m.session (some x.key) stsSeq false []
          | .seen =>
            match x.window.find? (fun r => decide (r.seq = m.seq) && decide (r.tag = m.tag)) with
            | some r => sendReply s m code m.session (some x.key) r.status true []
            | none => sendReply (kcnt s .kprCntSeq) m code m.session (some x.key) stsSeq false []
          | _ =>
            let s := setSession s i (some (acceptSeq x (leadMono s) m.port m.src m.vlan m.seq m.tag))
            if priv > owner then reply s m code i x.key stsUnknown []
            else if x.priv < priv then reply s m code i x.key stsPriv []
            else if startLimit s then reply (kcnt s .kprCntBusy) m code i x.key stsBusy []
            else
              let s := startCmd s
              if m.w0.toNat / 256 % 4 ≠ 0 then reply s m code i x.key stsRange []
              else
                match body s i with
                | .now r =>
                  let t := reply r.st m code i x.key r.status r.words
                  if r.status = stsOk then later t i else t
                | .wait t => t

/-- An EMP command that answers at once. -/
def empThen (s : State) (m : EmpMsg) (code priv : Nat) (body : State → Nat → Reply) (later : State → Nat → State) : State :=
  empWith s m code priv (fun s i => .now (body s i)) later

def empCmd (s : State) (m : EmpMsg) (code priv : Nat) (body : State → Nat → Reply) : State := empThen s m code priv body (fun s _ => s)

/-! ## Dies and fields that a command names -/

/-- Whether every die that a mask names exists and is usable (R23). -/
def diesOk (s : State) (m : BitVec 8) : Bool := (diesOf m).all (usable s)

/-- The rule of R23 for one die, then a body. -/
def onDie (s : State) (d : Nat) (body : State → Reply) : Reply := if usable s d then body s else answerNo s stsRange

/-- The rule of R23 for a mask of dies. -/
def onDies (s : State) (m : BitVec 8) (body : State → List Nat → Reply) : Reply :=
  if diesOk s m then body s (diesOf m) else answerNo s stsRange

/-- A command refused with ST_RANGE unless a condition holds. -/
def inRange (s : State) (c : Bool) (body : State → Reply) : Reply := if c then body s else answerNo s stsRange

/-- Word `k` of a command's payload. -/
def pw (m : EmpMsg) (k : Nat) : Nat := (wordAt (fitTo m.len 0 m.payload) k).toNat
/-- A 32-bit field at words `k` and `k + 1`. -/
def pw2 (m : EmpMsg) (k : Nat) : Nat := pw m k * 65536 + pw m (k + 1)
/-- The payload words from `k` on, `n` of them. -/
def pws (m : EmpMsg) (k n : Nat) : List Word := ((fitTo m.len 0 m.payload).drop k).take n

/-- EMP_UNKNOWN_CMD: a CODE that is no command of the index (R360, R375). -/
def knownCode (c : Nat) : Bool :=
  decide (0x0100 ≤ c ∧ c ≤ 0x0108) || decide (0x0200 ≤ c ∧ c ≤ 0x020D) || decide (0x0300 ≤ c ∧ c ≤ 0x0309) ||
    decide (0x0310 ≤ c ∧ c ≤ 0x0317) || decide (0x0400 ≤ c ∧ c ≤ 0x0409) || decide (0x0480 ≤ c ∧ c ≤ 0x0483) ||
    decide (0x0500 ≤ c ∧ c ≤ 0x050B) || decide (0x0600 ≤ c ∧ c ≤ 0x0606) || decide (0x0700 ≤ c ∧ c ≤ 0x0703) ||
    decide (0x0710 ≤ c ∧ c ≤ 0x0712) || decide (0x0800 ≤ c ∧ c ≤ 0x0808) || decide (0x0900 ≤ c ∧ c ≤ 0x0908) ||
    decide (0x09C0 ≤ c ∧ c ≤ 0x09C2) || decide (0x0A00 ≤ c ∧ c ≤ 0x0A07) || decide (0x0B00 ≤ c ∧ c ≤ 0x0B03) ||
    decide (0x0C00 ≤ c ∧ c ≤ 0x0C05) || decide (0x0D00 ≤ c ∧ c ≤ 0x0D0B) || decide (0x0E00 ≤ c ∧ c ≤ 0x0E02) ||
    decide (0x0F00 ≤ c ∧ c ≤ 0x0F03) || decide (0x0F10 ≤ c ∧ c ≤ 0x0F12)

def execEmpUnknownCmd (m : EmpMsg) (code : Word) (s : State) : Host.Outcome State Fault Refusal :=
  .next (if knownCode code.toNat then s else empCmd s m code.toNat (owner + 1) (fun s _ => answerNo s stsUnknown))

end Sys2Proof.Machine
end

