-- ==== Sys2Proof/Machine/SesCmds.lean ====
section
/-! DEFINITION. The Keeper's own commands: sessions and keys (R364 to R368), register access (R376 to R378), claims (R379 to R383). -/

namespace Sys2Proof.Machine

/-! ## Opening a session (R366) -/

/-- A failure of SES_HELLO or SES_OPEN. -/
def noteFail (s : State) : State := { s with kpr := { s.kpr with fails := s.kpr.fails ++ [leadMono s] } }

/-- Whether eight of them lie in the last 60 s. -/
def failLimit (s : State) : Bool := decide ((s.kpr.fails.filter (fun t => decide (leadMono s < t + 60 * nsPerS))).length ≥ 8)

/-- SES_HELLO: the reply carries a fresh nonce, whose value is free. -/
def execSesHello (m : EmpMsg) (s : State) : Host.Outcome State Fault Refusal :=
  .next (
    if !mailboxUp s m then s
    else
      match empFrameCheck s m 0x0100 true with
      | some s => s
      | none =>
        if startLimit s then sendReply (kcnt s .kprCntBusy) m 0x0100 m.session none stsBusy false []
        else
          let s := startCmd s
          if m.len ≠ 0 ∨ m.w0.toNat / 256 % 4 ≠ 0 then noteFail (sendReply s m 0x0100 m.session none stsRange false [])
          else
            let np := Config.nonce s.free
            let s := { s with free := s.free + 1, kpr := { s.kpr with nonces := s.kpr.nonces ++ [(np, leadMono s)] } }
            sendReply s m 0x0100 m.session none stsOk false (wordsOf 8 np.toNat))

/-- The key slots (R365). -/
def keySlot (s : State) (k : Nat) : KeySlot := kget s.kpr.keys k ⟨0, 0⟩
def setKeySlot (s : State) (k : Nat) (x : KeySlot) : State := { s with kpr := { s.kpr with keys := kset s.kpr.keys k x ⟨0, 0⟩ } }

/-- Open sessions of a privilege, and how many there may be (R364). -/
def sessionsOf (s : State) (p : Nat) : Nat := ((openSessions s).filter (fun e => decide (e.2.priv = p))).length
def sessionMax (p : Nat) : Nat := match p with | 1 => 32 | 2 => 8 | _ => 1

/-- The session that SES_OPEN makes at place `i`, with its reply under the new key. -/
def openSession (s : State) (m : EmpMsg) (i slot priv : Nat) : State :=
  let inc := (kget s.kpr.incs i 0 + 1) % 1024
  let id := nw (inc * 64 + i)
  let key := hmac (keySlot s slot).key (bytesOf ([0x4B53] ++ pws m 1 8 ++ pws m 9 8 ++ [id]))
  let now := leadMono s
  let x : Session :=
    { inc := inc, priv := priv, keySlot := slot, key := key, port := m.port, addr := m.src, vlan := m.vlan, hi := 0, window := [],
      seen := BitVec.allOnes 64, idleSince := now, mask := 0, filter := 0, noteSeq := 1, queue := [], opened := now }
  let s := setSession { s with kpr := { s.kpr with incs := kset s.kpr.incs i inc 0 } } i (some x)
  let s := recordK s s.pkg.lead 0x0001 ([id, nw priv, nw slot, nw (m.port - 256)] ++ macWords m.src)
  sendReply s m 0x0101 m.session (some key) stsOk false [id]

/-- SES_OPEN after its tag has been found correct. -/
def openChecked (s : State) (m : EmpMsg) : State :=
  let slot := pw m 0 % 16
  let priv := pw m 0 / 256 % 4
  let k := keySlot s slot
  let refuse (s : State) (key : Option (BitVec 256)) (st : Nat) (ws : List Word) : State := noteFail (sendReply s m 0x0101 m.session key st false ws)
  if startLimit s then sendReply (kcnt s .kprCntBusy) m 0x0101 m.session (some k.key) stsBusy false []
  else
    let s := startCmd s
    let np := BitVec.ofNat 128 (valOf (pws m 1 8))
    let fresh := s.kpr.nonces.any (fun n => decide (n.1 = np) && decide (leadMono s < n.2 + 10 * nsPerS))
    if m.len ≠ 17 ∨ Nat.land (pw m 0) 0x7CF0 ≠ 0 ∨ m.w0.toNat / 256 % 4 ≠ 0 then refuse s (some k.key) stsRange []
    else
      let s := { s with kpr := { s.kpr with nonces := s.kpr.nonces.filter (fun n => decide (n.1 ≠ np)) } }
      if !fresh ∨ priv = 0 ∨ priv > k.priv then refuse s none stsAuth []
      else
        match ownerSession s with
        | some (j, x) =>
          if priv = 3 ∧ pw m 0 < 32768 then refuse s (some k.key) stsConflict [0, sesIdOf j x, 1, 0, sessionId j]
          else next (if priv = 3 then endSession s j 3 else s) slot priv refuse k.key
        | none => next s slot priv refuse k.key
where
  next (s : State) (slot priv : Nat) (refuse : State → Option (BitVec 256) → Nat → List Word → State) (key : BitVec 256) : State :=
    if sessionsOf s priv ≥ sessionMax priv then refuse s (some key) stsBusy []
    else
      match (range' 1 41).find? (fun i => (session s i).isNone) with
      | some i => openSession s m i slot priv
      | none => refuse s (some key) stsBusy []

/-- SES_OPEN: under the key of the slot that it names; eight failures in 60 s bar it (R366, DEDUCED before the tag, log entry 53). -/
def execSesOpen (m : EmpMsg) (s : State) : Host.Outcome State Fault Refusal :=
  .next (
    if !mailboxUp s m then s
    else
      match empFrameCheck s m 0x0101 true with
      | some s => s
      | none =>
        let slot := pw m 0 % 16
        let k := keySlot s slot
        if failLimit s then sendReply (kcnt s .kprCntBusy) m 0x0101 m.session none stsBusy false []
        else if (keySlot s 0).priv = 0 ∨ k.priv = 0 ∨ empTag k.key (empCovered m 0x0101) ≠ m.tag then
          noteFail (sendReply (authFail s m (nw slot)) m 0x0101 m.session none stsAuth false [])
        else openChecked s m)

/-! ## Sessions -/

/-- SES_CLOSE: the reply goes before the session ends. -/
def execSesClose (m : EmpMsg) (s : State) : Host.Outcome State Fault Refusal :=
  .next (empThen s m 0x0102 observer (fun s _ => inRange s (decide (m.len = 0)) (answerOk · [])) (fun s i => endSession s i 1))

/-- SES_PING. -/
def execSesPing (m : EmpMsg) (s : State) : Host.Outcome State Fault Refusal :=
  .next (empCmd s m 0x0103 observer (fun s _ => inRange s (decide (m.len = 0)) (answerOk · [])))

/-- SES_SUBSCRIBE: word 0 the mask, words 1 to 8 the EVENT filter, whose bit `b` is block `b` (R373). -/
def execSesSubscribe (m : EmpMsg) (s : State) : Host.Outcome State Fault Refusal :=
  .next (empCmd s m 0x0104 observer (fun s i =>
    let f := valOf (pws m 1 8)
    inRange s (decide (m.len = 9 ∧ Nat.land (pw m 0) 0xFF01 = 0 ∧ f < 65536)) (fun s =>
      match session s i with
      | some x => answerOk (setSession s i (some { x with mask := nw (pw m 0), filter := nw f })) []
      | none => answerOk s [])))

/-- SES_LIST: ID, privilege, key slot, host port, address, idle time in s of each session. -/
def execSesList (m : EmpMsg) (s : State) : Host.Outcome State Fault Refusal :=
  .next (empCmd s m 0x0105 observer (fun s _ =>
    inRange s (decide (m.len = 0)) (fun s =>
      answerOk s ((openSessions s).flatMap (fun e =>
        [sesIdOf e.1 e.2, nw e.2.priv, nw e.2.keySlot, nw (e.2.port - 256)] ++ macWords e.2.addr ++
          [nw (min 65535 ((leadMono s - e.2.idleSince) / nsPerS))])))))

/-- SES_END_OTHER. -/
def execSesEndOther (m : EmpMsg) (session : Word) (s : State) : Host.Outcome State Fault Refusal :=
  .next (empCmd s m 0x0106 owner (fun s i =>
    match findSession s session with
    | some (j, _) => if j = i then answerNo s stsRange else answerOk (endSession s j 2) []
    | none => answerNo s stsRange))

/-- The pad of a wrapped key (R365): "KW", the slot number as a word and SEQ as two words (the widths are the model's, log entry 54). -/
def keyPad (key : BitVec 256) (slot : Nat) (seq : BitVec 32) : BitVec 256 := hmac key (bytesOf ([0x4B57, nw slot] ++ wordsOf 2 seq.toNat))

/-- SES_KEY_SET: a slot from 1 to 15 takes Operator or Observer privilege or is cleared, slot 0 a new Owner key (R365). -/
def execSesKeySet (m : EmpMsg) (slot priv : Nat) (wrapped : BitVec 256) (s : State) : Host.Outcome State Fault Refusal :=
  .next (empCmd s m 0x0107 owner (fun s i =>
    match session s i with
    | none => answerNo s stsAuth
    | some x =>
      if (slot = 0 ∧ priv = 3) ∨ (1 ≤ slot ∧ slot ≤ 15 ∧ priv ≤ 2) then
        let k : KeySlot := if priv = 0 then ⟨0, 0⟩ else ⟨priv, wrapped ^^^ keyPad x.key slot m.seq⟩
        answerOk (recordK (setKeySlot s slot k) s.pkg.lead 0x0006 [nw slot, nw priv, m.session]) []
      else answerNo s stsRange))

/-- The values that KPR.MGMT_CFG accepts (R356). -/
def mgmtOk (v : Nat) : Bool :=
  let et := bitsOf v 48 16
  decide (v / 2 ^ 40 % 2 = 0) && decide (et ≥ 0x0600) && decide (et ∉ [0x0800, 0x86DD, 0x8100, 0x88A8, 0x8808, 0x88B6]) &&
    decide (1 ≤ bitsOf v 64 12) && decide (bitsOf v 64 12 ≤ 3600) && decide (v / 2 ^ 76 % 16 = 0)

/-- SES_MGMT_SET: KPR.MGMT_CFG changes once the reply has been sent. -/
def execSesMgmtSet (m : EmpMsg) (value : BitVec 80) (s : State) : Host.Outcome State Fault Refusal :=
  .next (empThen s m 0x0108 owner (fun s _ => inRange s (mgmtOk value.toNat) (answerOk · []))
    (fun s _ => setR (setR s .kprMgmtCfg 0 0 value.toNat) .kprMgmtCfg 1 0 value.toNat))

/-! ## Register access (R376 to R378) -/

/-- What REG_READ and REG_WRITE name. -/
structure RegArgs where
  die : Nat
  slot : Nat
  noclear : Bool
  reg : RegName
  first : Nat
  count : Nat

/-- The payload of R377, when every field is in range. -/
def regArgs (s : State) (m : EmpMsg) : Option RegArgs :=
  let d := pw m 0 % 8
  let slot := pw m 0 / 16 % 8
  match (blockRegs (pw m 1))[pw m 2]? with
  | none => none
  | some r =>
    if m.len ≥ 6 ∧ Nat.land (pw m 0) 0xFE88 = 0 ∧ usable s d ∧ 1 ≤ pw m 5 ∧ pw m 5 ≤ 256 ∧ pw2 m 3 + pw m 5 ≤ r.spec.insts ∧
        (if r.spec.perSlot then slot < 4 else slot = 7) then
      some ⟨d, slot, decide (pw m 0 / 256 % 2 = 1), r, pw2 m 3, pw m 5⟩
    else none

/-- Words of a value of a register. -/
def regWords (r : RegName) : Nat := ceilDiv r.spec.width 16

/-- REG_READ. -/
def execRegRead (m : EmpMsg) (s : State) : Host.Outcome State Fault Refusal :=
  .next (empCmd s m 0x0E00 observer (fun s _ =>
    match regArgs s m with
    | none => answerNo s stsRange
    | some a =>
      inRange s (decide (m.len = 6)) (fun s =>
        let r := (range' a.first a.count).foldl (fun (acc : List Word × State) i =>
          let v := if instExists a.reg a.die i then regView acc.2 a.reg a.die a.slot i else 0
          let s' := if a.noclear then acc.2 else clearOnRead acc.2 a.reg a.die a.slot i
          (acc.1 ++ wordsOf (regWords a.reg) v, s')) ([], s)
        answerOk r.2 r.1)))

/-- The field rules of a register that REG_WRITE may write: a status, ST_OK when the value is accepted. -/
def writeRule (s : State) (r : RegName) (d i v : Nat) : Nat :=
  if !definedBits r v ∨ !instExists r d i then stsRange
  else
    match r with
    | .evStallCfg => if bitsOf v 0 16 < 100 then stsRange else stsOk
    | .memDramCfg => if bitsOf v 8 8 = 0 then stsRange else stsOk
    | .memBankPwr =>
      if v % 4 = 3 ∨ spareUnit s d i then stsRange else if v % 4 ≠ 0 ∧ unitHeld s d i then stsBusy else stsOk
    | _ => stsOk

/-- The write itself: fields that are RO keep their value (R8). -/
def writeReg (s : State) (r : RegName) (d i v : Nat) : State :=
  match r with
  | .evStallCfg =>
    let old := getR s .evStallCfg d i
    let h := kget s.core.stallCfg d [] ++ [(mono s d, old)]
    setR { s with core := { s.core with stallCfg := kset s.core.stallCfg d h [] } } .evStallCfg d i v
  | .memDramCfg => setField s r d i 0 16 (v % 65536)
  | .memBankPwr => setField s r d i 0 2 (v % 4)
  | .dispWqHistCtl =>
    if v % 2 = 1 then forEach (List.range 16) (fun s b => setR s (histReg b) d i 0) (setR s r d i 1) else s
  | _ => setR s r d i v

/-- Write registers once every value has been accepted. -/
def regWrite (s : State) (r : RegName) (d first : Nat) (vs : List Nat) : Reply :=
  let iv := (range' first vs.length).zip vs
  if !r.spec.writable then answerNo s stsRange
  else
    match iv.find? (fun e => decide (writeRule s r d e.1 e.2 ≠ stsOk)) with
    | some e => answerNo s (writeRule s r d e.1 e.2)
    | none => answerOk (forEach iv (fun s e => writeReg s r d e.1 e.2) s) []

/-- REG_WRITE. -/
def execRegWrite (m : EmpMsg) (s : State) : Host.Outcome State Fault Refusal :=
  .next (empCmd s m 0x0E01 operator (fun s _ =>
    match regArgs s m with
    | none => answerNo s stsRange
    | some a =>
      let w := regWords a.reg
      if m.len ≠ 6 + a.count * w ∨ a.noclear then answerNo s stsRange
      else regWrite s a.reg a.die a.first ((List.range a.count).map (fun k => valOf (pws m (6 + k * w) w)))))

/-- BANK_PWR_REQ: a REG_WRITE of MEM.BANK_PWR (R334 to R336). -/
def execBankPwrReq (m : EmpMsg) (die unit : Nat) (req : BitVec 2) (s : State) : Host.Outcome State Fault Refusal :=
  .next (empCmd s m 0x0E01 operator (fun s _ =>
    onDie s die (fun s => inRange s (decide (unit < 339)) (fun s => regWrite s .memBankPwr die unit [req.toNat]))))

/-- WQ_HIST_ARM: a REG_WRITE of 1 to DISP.WQ_HIST_CTL (R96). -/
def execWqHistArm (m : EmpMsg) (die queue : Nat) (s : State) : Host.Outcome State Fault Refusal :=
  .next (empCmd s m 0x0E01 operator (fun s _ =>
    onDie s die (fun s => inRange s (decide (queue < 128)) (fun s => regWrite s .dispWqHistCtl die queue [1]))))

/-- BANK_PWR_DONE: a power unit reaches the state requested (R334). A HELD unit is ON. -/
def execBankPwrDone (die unit : Nat) (s : State) : Host.Outcome State Fault Refusal :=
  .next (
    if usable s die ∧ unit < 339 ∧ !spareUnit s die unit then
      setUnitState s die unit (if unitHeld s die unit then 0 else fieldR s .memBankPwr die unit 0 2)
    else s)

/-- One entry of REG_LIST. -/
def listEntry (k : Nat) (r : RegName) : List Word :=
  let name := r.spec.name.toList.map (fun c => BitVec.ofNat 8 c.toNat)
  [nw k] ++ fitTo 16 0 (wordsOfBytes name) ++ [nw r.spec.width, nw (bitIf 0 r.spec.writable + bitIf 1 r.spec.perSlot)] ++ wordsOf 2 r.spec.insts

/-- REG_LIST: the number of the next register, then the entries (R378). -/
def execRegList (m : EmpMsg) (block first : Nat) (s : State) : Host.Outcome State Fault Refusal :=
  .next (empCmd s m 0x0E02 observer (fun s _ =>
    let rs := blockRegs block
    inRange s (decide (rs ≠ [] ∧ first < rs.length)) (fun s =>
      let part := ((rs.zip (List.range rs.length)).drop first).take 200
      let after := if first + 200 < rs.length then nw (first + 200) else 0xFFFF
      answerOk s (after :: part.flatMap (fun e => listEntry e.2 e.1)))))

/-! ## Claims (R379 to R383) -/

/-- The held claims. -/
def heldClaims (s : State) : List (Nat × Nat × Claim) := s.kpr.claims.filterMap (fun e => e.2.map (fun c => (e.1 / 65536, e.1 % 65536, c)))

/-- CLAIM_LIST: the five words of R381, then the value in two words. -/
def execClaimList (m : EmpMsg) (s : State) : Host.Outcome State Fault Refusal :=
  .next (empCmd s m 0x0F00 observer (fun s _ =>
    answerOk s ((heldClaims s).flatMap (fun e => conflictWords e.1 e.2.1 e.2.2 ++ wordsOf 2 e.2.2.value))))

/-- Whether an owner feature may ask for a resource with a value (R379). -/
def claimOk (s : State) (cls idx value : Nat) : Bool :=
  match cls with
  | 1 => decide (idx < 2 ∧ 1 ≤ value ∧ value ≤ 3)
  | 5 => usable s idx
  | 6 => usable s (idx / 8) && decide (idx % 8 < 6 ∧ 1 ≤ value ∧ value ≤ 61) &&
      (decide (idx % 8 ≠ 5 ∨ value ≥ 2) || decide (fieldR s .inspCfg (idx / 8) 0 21 2 = 0))
  | 7 => usable s (idx / 8) && usable s (idx % 8) && decide (idx < 64 ∧ idx / 8 ≠ idx % 8 ∧ value / 65536 ≤ 7 ∧ value % 65536 ≤ 1200)
  | _ => false

/-- The shares of a die's DRAM ports. -/
def shares (s : State) (d : Nat) : List Nat := (List.range 6).map (fun p => getR s (shareReg p) d 0)

/-- The conflict words of a port share, held or at its default. -/
def shareConflict (s : State) (d p : Nat) : List Word :=
  match getClaim s 6 (d * 8 + p) with
  | some c => conflictWords 6 (d * 8 + p) c
  | none => [6, nw (d * 8 + p), 0, 0, keeperId d]

/-- What refuses a class 6 claim: a total above 64, or a deep pass that would not end (R235, R379). -/
def shareRefused (s : State) (idx value : Nat) : Option (List Word) :=
  let d := idx / 8
  let p := idx % 8
  let others := (List.range 6).filter (fun q => decide (q ≠ p))
  let total := value + sumN (others.map (fun q => getR s (shareReg q) d 0))
  let pass := match curSlot s d with | some n => deepPassUs s d n value | none => 0
  if total > 64 then (leastOf (fun q => 64 - getR s (shareReg q) d 0) others).map (shareConflict s d)
  else if p = 2 ∧ pass > s.tbl.ageSet.1 * s.tbl.ageSet.2 * 1000 then some (shareConflict s d 2)
  else none

/-- CLAIM_SET: an owner feature asks for a resource. -/
def execClaimSet (m : EmpMsg) (cls index value : Nat) (s : State) : Host.Outcome State Fault Refusal :=
  .next (empCmd s m 0x0F01 owner (fun s i =>
    if !claimOk s cls index value then answerNo s stsRange
    else
      match if cls = 6 then shareRefused s index value else none with
      | some ws => answerConflict s ws
      | none =>
        match takeClaim s cls index 1 0x0F01 (sessionId i) value with
        | .ok s => answerOk (wakeAll s) []
        | .error c => answerConflict s (conflictWords cls index c)))

/-- CLAIM_FREE: a claim of an owner feature ends. -/
def execClaimFree (m : EmpMsg) (cls index : Nat) (s : State) : Host.Outcome State Fault Refusal :=
  .next (empCmd s m 0x0F02 owner (fun s _ =>
    match getClaim s cls index with
    | none => answerNo s stsRange
    | some c => if c.rank ≠ 1 then answerConflict s (conflictWords cls index c) else answerOk (freeClaim s cls index) []))

/-- CLAIM_POLICY_SET (R382). -/
def execClaimPolicySet (m : EmpMsg) (value : BitVec 32) (s : State) : Host.Outcome State Fault Refusal :=
  .next (empCmd s m 0x0F03 owner (fun s _ =>
    inRange s (definedBits .kprClaimPolicy value.toNat) (fun s =>
      answerOk (refreshAllGuar (setAll s .kprClaimPolicy 0 value.toNat)) [])))

/-- The locks that a session holds: die and number. -/
def sessionLocks (s : State) (i : Nat) : List (Nat × Nat) := (allDies s).flatMap (fun d => (locksOf s d (sessionId i)).map (fun n => (d, n)))

/-- CLAIM_LOCK_ACQ: the lock result word (R383). -/
def execClaimLockAcq (m : EmpMsg) (die lock : Nat) (s : State) : Host.Outcome State Fault Refusal :=
  .next (empCmd s m 0x0F10 operator (fun s i =>
    onDie s die (fun s => inRange s (decide (lock < 4096)) (fun s =>
      if (sessionLocks s i).length ≥ 64 then answerNo s stsNoRoom
      else
        let r := acquireLock s die lock (sessionId i)
        answerOk r.2 [r.1]))))

/-- CLAIM_LOCK_REL. -/
def execClaimLockRel (m : EmpMsg) (die lock : Nat) (s : State) : Host.Outcome State Fault Refusal :=
  .next (empCmd s m 0x0F11 operator (fun s i =>
    onDie s die (fun s => inRange s (decide (lock < 4096)) (fun s =>
      if (getLock s die lock).owner = some (sessionId i) then answerOk (freeLock s die lock false) [] else answerNo s stsNotOwner))))

/-- CLAIM_LOCK_LIST: session ID, die and lock of each die lock that a session holds. -/
def execClaimLockList (m : EmpMsg) (s : State) : Host.Outcome State Fault Refusal :=
  .next (empCmd s m 0x0F12 observer (fun s _ =>
    answerOk s ((openSessions s).flatMap (fun e => (sessionLocks s e.1).flatMap (fun l => [sesIdOf e.1 e.2, nw l.1, nw l.2])))))

end Sys2Proof.Machine
end

