-- ==== Sys2Proof/Machine/PairLink.lean ====
section
/-!
DEFINITION. The redundant pair (21): pair-control frames, states, heartbeats, probes, checkpoints and emission on behalf, joint commits and
the digest exchange.
-/

namespace Sys2Proof.Machine

/-! ## Pair-control frames (R474) -/

def pairPorts (s : State) : List Nat := [portA s, portB s]
def secondary (s : State) : Bool := decide (bitsOf (pairCfg s) 1 1 = 1)

def kHello : Nat := 1
def kHeartbeat : Nat := 2
def kCheckpoint : Nat := 3
def kDigest : Nat := 4
def kPropose : Nat := 5
def kAck : Nat := 6
def kWithdraw : Nat := 7
def kProbe : Nat := 8
def kProbeAck : Nat := 9
def kDown : Nat := 10

/-- Send a pair-control frame on a port whose link is UP. -/
def sendPair (s : State) (g kind : Nat) (dst : BitVec 48) (payload : List Word) : State :=
  if s.pkg.noLead || !portIsUp s g then s
  else
    let head := [nw (0x1000 + kind), nw (bitsOf (pairCfg s) 64 16)] ++ wordsOf 2 s.pair.txSeq.toNat ++ [nw payload.length]
    { s with
      out := s.out ++ [.pair g dst (head ++ payload) (empTag s.pair.key (head ++ payload))],
      pair := { s.pair with txSeq := s.pair.txSeq + 1 } }

/-- Send one to the partner, whose address its HELLO has brought. -/
def sendPartner (s : State) (g kind : Nat) (payload : List Word) : State :=
  match s.pair.partner with
  | some p => sendPair s g kind p.1 payload
  | none => s

/-- Word `k` of a payload, and a time of five words. -/
def pairWord (m : PairMsg) (k : Nat) : Nat := (wordAt (m.payload.take m.len) k).toNat
def pairWords (m : PairMsg) (k n : Nat) : List Word := ((fitTo m.len 0 m.payload).drop k).take n
def timeOf (ws : List Word) : Nat := valOf (ws.take 3) * nsPerS + valOf (ws.drop 3)
def pairTime (m : PairMsg) (k : Nat) : Nat := timeOf (pairWords m k 5)

/-- A frame that the pair refuses. -/
def pairAuthFail (s : State) (m : PairMsg) (kind why : Nat) : State :=
  let d := gpnDie m.gpn
  recordK (cnt s .pairCntAuthFail d 0) d 0xD004 [nw m.gpn, nw kind, nw why]

/-- Receive a pair-control frame of a kind: none when it goes no further, with the state. A package without a window takes the next
sequence as its first (DESIGN CHOICE, log entry 60). -/
def pairRx (s : State) (m : PairMsg) (kind : Nat) : Bool × State :=
  if !s.pkg.running || s.pkg.noLead || !pairPort s m.gpn || !portServes s m.gpn || !(getPort s m.gpn).pcsUp then (false, s)
  else if m.w0.toNat / 4096 ≠ 1 ∨ m.w0.toNat % 256 ≠ kind ∨ m.len > 4480 ∨ m.len > m.payload.length then (false, s)
  else if m.pairId.toNat ≠ bitsOf (pairCfg s) 64 16 then (false, pairAuthFail s m kind 1)
  else if empTag s.pair.key ([m.w0, m.pairId] ++ wordsOf 2 m.seq.toNat ++ [nw m.len] ++ m.payload.take m.len) ≠ m.tag then
    (false, pairAuthFail s m kind 2)
  else if s.pair.seen = 0 then (true, { s with pair := { s.pair with hi := m.seq, seen := 1 } })
  else
    match seqKind s.pair.hi s.pair.seen m.seq with
    | .refused => (false, pairAuthFail s m kind 3)
    | .seen => (false, s)
    | _ =>
      let w := seqAccept s.pair.hi s.pair.seen m.seq
      (true, { s with pair := { s.pair with hi := w.1, seen := w.2 } })

/-- What a frame of a kind does once it has been accepted. -/
def onPair (s : State) (m : PairMsg) (kind : Nat) (body : State → State) : State :=
  let r := pairRx s m kind
  if r.1 then body r.2 else r.2

/-! ## Emission on behalf (R330, R485) -/

def heldKey (minute tenant : Nat) : Nat := minute * 65536 + tenant
def noLine : TallyLine := ⟨0, zeroCounts, false⟩

/-- The minutes of the held copy, earliest first. -/
def heldMinutes (s : State) : List Nat := s.pair.held.foldl (fun l e => addNew (e.1 / 65536) l) []

/-- Emit the held copy of a minute. The partner's usable-die mask is a free value: no message brings it. -/
def emitHeld (s : State) (m : Nat) : State :=
  let recs := s.pair.held.filterMap (fun e => if e.1 / 65536 = m then some (⟨e.1 % 65536, e.2.folded, 0, e.2.counts⟩ : ClosedLine) else none)
  let flags := 128 + (if minuteStart s (m + 1) - minuteStart s m ≠ 60 then 2 else 0) + if recs.any (·.folded) then 256 else 0
  let dies := (Config.partnerDies s.free).toNat
  let seq := s.tal.nextSeq
  let upto := s.tal.lastMinute
  let part := s.tal.partialNext
  let s := emitBatch { s with free := s.free + 1, tal := { s.tal with partialNext := false } } m 1 flags dies recs
  let s :=
    { s with
      tal := { s.tal with lastMinute := upto, partialNext := part },
      pair := { s.pair with held := s.pair.held.filter (fun e => decide (e.1 / 65536 ≠ m)), behalf := m } }
  recordK s s.pkg.lead 0xD005 (wordsOf 2 seq.toNat ++ wordsOf 3 (minuteStart s m).toNat)

/-- In PARTNER_FAILED the held copy of every closed minute goes out, that of the open one at its close. -/
def emitBehalf (s : State) : State :=
  if s.pkg.noLead || decide (pairState s ≠ pairFailed) then s
  else forEach ((heldMinutes s).filter (minuteClosed s s.pkg.lead)) emitHeld s

/-! ## States (R475) -/

/-- Enter a state: it is recorded; the group entries, the member ports, the guarantee bit and the learned entries that name the pair ports
follow it (R479, R481, R411). -/
def setPairState (s : State) (new cause : Nat) : State :=
  let old := pairState s
  if old = new then s
  else
    let s := pairEvent (setFieldAll s .pairStatus 0 0 3 new) old new cause
    let s := if new = pairForming ∨ new = pairFailed ∨ new = pairIsolated then { s with pair := { s.pair with hi := 0, seen := 0 } } else s
    let s := if new = pairForming then { s with pair := { s.pair with hbRun := [], probeStart := none, probeAcked := none } } else s
    let s := if old = pairPaired then flushGpn (flushGpn s (portA s)) (portB s) else s
    let s := if old ≥ pairIsolated ∨ new ≥ pairIsolated then forEach (usableDies s) settlePorts s else s
    emitBehalf (refreshGroups (refreshAllGuar s))

/-! ## HELLO (R475, R480) -/

/-- The part number of the variant. -/
def variantCode (n : Nat) : Nat := match n with | 2 => 0x1282 | 4 => 0x2564 | 6 => 0x3846 | _ => 0x5128

/-- The RELEASE of the running image (R456). -/
def runningRelease (s : State) : Word := s.boot.image.1

/-- The payload of a HELLO. A survivor adds the last minute emitted on the partner's behalf; a package that has emitted batches, the
sequence and minute of its last one (DESIGN CHOICE, log entry 61). -/
def helloPayload (s : State) : List Word :=
  wordsOf 3 (mgmtMac s) ++ [nw (variantCode s.pkg.n), if secondary s then 1 else 0, runningRelease s] ++
    (if s.pair.behalf ≠ 0 then wordsOf 3 (minuteStart s s.pair.behalf).toNat
     else if s.tal.nextSeq ≠ 0 then wordsOf 2 (s.tal.nextSeq - 1).toNat ++ wordsOf 3 (minuteStart s s.tal.lastMinute).toNat
     else [])

def sendHello (s : State) (g : Nat) : State := sendPair s g kHello (BitVec.allOnes 48) (helloPayload s)

/-- PAIR_HELLO_SEND: a HELLO on each pair port every 10 ms in FORMING. -/
def execPairHelloSend (s : State) : Host.Outcome State Fault Refusal :=
  .next (
    if s.pkg.running ∧ s.pkg.noLead = false ∧ pairState s = pairForming ∧ leadMono s ≥ s.pair.helloAt + 10000000 then
      { forEach (pairPorts s) sendHello s with pair := { (forEach (pairPorts s) sendHello s).pair with helloAt := leadMono s } }
    else s)

/-- The gap that ends a flow of heartbeats (R477). -/
def hbGap : Nat := 3000000

/-- FORMING ends when a valid HELLO has come and heartbeats have flowed for 1 s on a pair port. -/
def formPair (s : State) : State :=
  let flows := s.pair.hbRun.any (fun e => decide (leadMono s ≥ e.2 + nsPerS) && decide (leadMono s < kget s.pair.hbLast e.1 0 + hbGap))
  if pairState s = pairForming ∧ s.pair.partner.isSome ∧ flows then setPairState s pairPaired 2 else s

/-- A HELLO that has been accepted. Outside FORMING it is answered on the port that it came by (DEDUCED, log entry 62). -/
def hello (s : State) (m : PairMsg) : State :=
  let role := decide (pairWord m 4 % 2 = 1)
  let release := nw (pairWord m 5)
  if pairWord m 3 ≠ variantCode s.pkg.n ∨ role = secondary s ∨ pairWord m 5 / 256 ≠ (runningRelease s).toNat / 256 then
    pairEvent s (pairState s) (pairState s) 1
  else
    let mac := BitVec.ofNat 48 (valOf (pairWords m 0 3))
    let theirs := if m.len ≥ 11 then (valOf (pairWords m 6 2), minuteOfSec s (valOf (pairWords m 8 3) : Nat)) else s.pair.theirs
    let s := { s with pair := { s.pair with partner := some (mac, role, release), theirs := theirs } }
    if pairState s = pairForming then formPair s else sendHello s m.gpn

def execPairHelloRx (m : PairMsg) (s : State) : Host.Outcome State Fault Refusal :=
  .next (onPair s m kHello (fun s => if m.len < 6 then s else hello s m))

/-! ## Heartbeats (R476) -/

/-- The MEMBERS field: bit `g` when the local member of group `g` is UP, none of them in ISOLATED. -/
def membersValue (s : State) : Nat :=
  if pairState s = pairIsolated then 0
  else sumN (s.pair.groups.filterMap (fun e => match e.2 with | some g => if portIsUp s g then some (2 ^ e.1) else none | none => none))

def heartbeatWords (s : State) (d : Nat) : List Word :=
  [nw ((if secondary s then 1 else 0) + 2 * pairState s)] ++ timeWords (stime s d) ++ timeWords s.pair.lastHb.1 ++
    timeWords s.pair.lastHb.2 ++ wordsOf 64 (membersValue s)

/-! ## Checkpoints (R484) -/

/-- The counts of a tenant and minute that no emitted batch carries: of the open lines and of the closed minutes that the dies keep. -/
def addTotal (m : Map TallyLine) (minute tenant : Nat) (folded : Bool) (c : Vector (BitVec 64) 8) : Map TallyLine :=
  let old := kget m (heldKey minute tenant) noLine
  kset m (heldKey minute tenant) ⟨minute, addCounts old.counts c, old.folded || folded⟩ noLine

def lineTotals (s : State) : Map TallyLine :=
  let lines := s.tal.lines.filter (fun e => usable s (e.1 / 65536))
  let m := lines.foldl (fun m e => e.2.foldl (fun m l => addTotal m l.minute (e.1 % 65536) l.folded l.counts) m) []
  (usableDies s).foldl (fun m d => (closedOf s d).foldl (fun m c =>
    c.lines.foldl (fun m l => if l.back = 0 then addTotal m c.minute l.tenant l.folded l.counts else m) m) m) m

/-- The increments of a line since the checkpoint before. -/
def increments (a b : Vector (BitVec 64) 8) : Vector (BitVec 64) 8 := Vector.ofFn (fun k : Fin 8 => a.get k - b.get k)

/-- Words 0 to 4 of a checkpoint: the last emitted batch, and the minute on which its records count. A package that has emitted none names
the minute before its earliest one (DESIGN CHOICE, log entry 63). -/
def ckptMinute (s : State) (tot : Map TallyLine) : Nat :=
  if s.tal.nextSeq ≠ 0 then s.tal.lastMinute else ((tot.head?).map (fun e => e.1 / 65536 - 1)).getD 0

/-- Send a CHECKPOINT on a pair port: a record holds in BACK how many minutes after word 2 to 4 its minute lies (log entry 63). -/
def sendCheckpoint (s : State) (g : Nat) : State :=
  let tot := lineTotals s
  let base := ckptMinute s tot
  let recs := tot.filterMap (fun e =>
    let inc := increments e.2.counts (kget s.pair.sent e.1 zeroCounts)
    if anyCount inc ∧ e.2.minute > base then
      some (recordOf ⟨e.1 % 65536, e.2.folded, 0, inc⟩ |>.set 2 (nw (e.2.minute - base)))
    else none)
  let head := wordsOf 2 (s.tal.nextSeq - 1).toNat ++ wordsOf 3 (minuteStart s base).toNat
  let s := forEach (chunks 127 (recs.length + 1) recs) (fun s part =>
    cnt (sendPartner s g kCheckpoint (head ++ part.flatten)) .pairCntCkptTx (gpnDie g) 0) s
  { s with pair := { s.pair with sent := tot.map (fun e => (e.1, e.2.counts)) } }

/-- The die whose firings count towards a checkpoint. -/
def ckptDie (s : State) : Nat := if usable s (gpnDie (portA s)) then gpnDie (portA s) else gpnDie (portB s)

/-- PAIR_HEARTBEAT: the entry of a die has fired: a HEARTBEAT on its pair port, at every 100th a CHECKPOINT (R476, R484). -/
def execPairHeartbeat (die : Nat) (s : State) : Host.Outcome State Fault Refusal :=
  .next (
    match takeFired s die 6 with
    | none => s
    | some (f, s) =>
      let g := if f.entry.arg = 0 then portA s else portB s
      if !pairOn s || s.pkg.noLead || decide (gpnDie g ≠ die) then s
      else
        let s :=
          if portIsUp s g ∧ s.pair.partner.isSome then cnt (sendPartner s g kHeartbeat (heartbeatWords s die)) .pairCntHbTx die 0 else s
        if die ≠ ckptDie s then s
        else if s.pair.ckpts < 99 then { s with pair := { s.pair with ckpts := s.pair.ckpts + 1 } }
        else
          let s := { s with pair := { s.pair with ckpts := 0 } }
          let out := if portIsUp s g then g else if portIsUp s (portA s) then portA s else portB s
          if pairState s = pairPaired ∧ portIsUp s out then sendCheckpoint s out else s)

def insertInt (x : Int) : List Int → List Int
  | [] => [x]
  | y :: t => if x ≤ y then x :: y :: t else y :: insertInt x t

/-- The median of a list: the mean of the two middle values where their number is even. -/
def median (l : List Int) : Int :=
  let o := l.foldl (fun a x => insertInt x a) []
  let n := o.length
  if n = 0 then 0 else if n % 2 = 1 then (o[n / 2]?).getD 0 else ((o[n / 2 - 1]?).getD 0 + (o[n / 2]?).getD 0) / 2

/-- A valid heartbeat has arrived on pair port `k` (0 for PORT_A). -/
def noteHeartbeat (s : State) (k : Nat) : State :=
  let now := leadMono s
  let alive := s.pair.hbRun.any (fun e => decide (e.1 = k)) && decide (now < kget s.pair.hbLast k 0 + hbGap)
  let run := if alive then kget s.pair.hbRun k 0 else now
  let s := { s with pair := { s.pair with hbRun := kput (kdel s.pair.hbRun k) k run, hbLast := kput (kdel s.pair.hbLast k) k now } }
  setFieldAll s .pairStatus 0 (3 + k) 1 1

/-- A heartbeat that has been accepted. -/
def heartbeat (s : State) (m : PairMsg) (k : Nat) : State :=
  let d := gpnDie m.gpn
  let rx := stime s d
  let ttx := pairTime m 1
  let o : Int := (((pairTime m 11 : Nat) : Int) - (pairTime m 6 : Nat) - ((rx : Int) - (ttx : Nat))) / 2
  let os := s.pair.offsets ++ [o]
  let os := os.drop (os.length - 16)
  let v := valOf (pairWords m 16 64)
  let mem := (List.range 1024).filter (fun g => v.testBit g)
  let s := cnt { s with pair := { s.pair with offsets := os, members := mem, lastHb := (ttx, rx), probeStart := if pairState s = pairPaired ∨ pairState s = pairDrifted then none else s.pair.probeStart } } .pairCntHbRx d 0
  let s := setFieldAll s .pairStatus 0 16 16 (encInt 16 (clampInt 16 (median os)))
  let s := if 3 ≤ pairState s ∧ pairState s ≤ 5 then setPairState s pairForming 2 else s
  refreshGroups (formPair (noteHeartbeat s k))

def execPairHeartbeatRx (m : PairMsg) (s : State) : Host.Outcome State Fault Refusal :=
  .next (onPair s m kHeartbeat (fun s =>
    if pairState s = pairOff then s
    else if m.gpn = portA s then heartbeat s m 0
    else if m.gpn = portB s then heartbeat s m 1
    else s))

/-- HB_A and HB_B go to 0 when heartbeats have stopped on their port. -/
def quietHeartbeats (s : State) : State :=
  if s.pkg.noLead then s
  else forEach [0, 1] (fun s k =>
    if fieldR s .pairStatus s.pkg.lead 0 (3 + k) 1 = 1 ∧ leadMono s ≥ kget s.pair.hbLast k 0 + hbGap then setFieldAll s .pairStatus 0 (3 + k) 1 0
    else s) s

/-- PAIR_CHECKPOINT_RX: the increments are added to the held copy; minutes that the partner has emitted leave it (R484). -/
def checkpoint (s : State) (m : PairMsg) : State :=
  let base := minuteOfSec s (valOf (pairWords m 2 3) : Nat)
  let recs := chunks 35 130 (pairWords m 5 (m.len - 5))
  let held := recs.foldl (fun h r =>
    if r.length < 35 then h
    else
      let minute := base + (wordAt r 2).toNat
      let c : Vector (BitVec 64) 8 := Vector.ofFn (fun k : Fin 8 => BitVec.ofNat 64 (valOf ((r.drop (3 + 4 * k.val)).take 4)))
      addTotal h minute (wordAt r 0).toNat ((wordAt r 1).getLsbD 14) c) s.pair.held
  cnt { s with pair := { s.pair with theirs := (valOf (pairWords m 0 2), base), held := held.filter (fun e => decide (e.1 / 65536 > base)) } }
    .pairCntCkptRx (gpnDie m.gpn) 0

def execPairCheckpointRx (m : PairMsg) (s : State) : Host.Outcome State Fault Refusal :=
  .next (onPair s m kCheckpoint (fun s => if pairState s = pairOff ∨ m.len < 5 then s else checkpoint s m))

/-! ## Losing the partner (R477 to R479) -/

def hostPorts : List Nat := [256, 257]

def sendProbes (s : State) : State :=
  forEach hostPorts (fun s g => sendPartner s g kProbe []) { s with pair := { s.pair with probeSent := leadMono s } }

/-- Whether a DOWN frame has come in the last 100 ms. -/
def downHeard (s : State) : Bool := match s.pair.downAt with | some t => decide (leadMono s < t + 100000000) | none => false

/-- The MONO of the last heartbeat on either pair port. -/
def lastHeartbeat (s : State) : Nat := max (kget s.pair.hbLast 0 0) (kget s.pair.hbLast 1 0)

/-- PAIR_HB_LOSS: no valid heartbeat for 3 ms. -/
def execPairHbLoss (s : State) : Host.Outcome State Fault Refusal :=
  .next (
    if s.pkg.noLead = false ∧ (pairState s = pairPaired ∨ pairState s = pairDrifted) ∧ s.pair.probeStart = none ∧
        leadMono s ≥ lastHeartbeat s + hbGap then
      let s := recordF s 11 s.pkg.lead 0xD002 (keeperId s.pkg.lead) [nw (getR s .pairStatus s.pkg.lead 0)]
      if downHeard s then setPairState s pairFailed 4
      else sendProbes { s with pair := { s.pair with probeStart := some (leadMono s), probeAcked := none } }
    else s)

/-- PAIR_PROBE_SEND: a PROBE on H0 and H1 every 5 ms from the start of the loss. -/
def execPairProbeSend (s : State) : Host.Outcome State Fault Refusal :=
  .next (
    if s.pkg.noLead = false ∧ s.pair.probeStart.isSome ∧ leadMono s ≥ s.pair.probeSent + 5000000 then sendProbes s else s)

/-- PAIR_PROBE_RX: each valid PROBE is answered with a PROBE_ACK that carries the state. -/
def execPairProbeRx (m : PairMsg) (s : State) : Host.Outcome State Fault Refusal :=
  .next (onPair s m kProbe (fun s => sendPartner s m.gpn kProbeAck [nw (pairState s)]))

/-- PAIR_PROBE_ACK_RX: the partner is alive: LINK_LOST. -/
def execPairProbeAckRx (m : PairMsg) (s : State) : Host.Outcome State Fault Refusal :=
  .next (onPair s m kProbeAck (fun s =>
    if s.pair.probeStart.isSome then setPairState { s with pair := { s.pair with probeAcked := some (leadMono s) } } pairLinkLost 3 else s))

/-- PAIR_PROBE_TIMEOUT: 50 ms without a PROBE_ACK: a primary is in PARTNER_FAILED, a secondary in ISOLATED. -/
def execPairProbeTimeout (s : State) : Host.Outcome State Fault Refusal :=
  .next (
    match s.pair.probeStart with
    | none => s
    | some t =>
      if s.pkg.noLead = false ∧ leadMono s ≥ s.pair.probeAcked.getD t + 50000000 then
        setPairState { s with pair := { s.pair with probeStart := none, probeAcked := none } } (if secondary s then pairIsolated else pairFailed) 3
      else s)

/-- PAIR_DOWN_RX: a DOWN frame on any port: with the pair link silent the partner has failed. -/
def execPairDownRx (m : PairMsg) (s : State) : Host.Outcome State Fault Refusal :=
  .next (onPair s m kDown (fun s =>
    let s := { s with pair := { s.pair with downAt := some (leadMono s) } }
    if s.pair.probeStart.isSome then
      setPairState { s with pair := { s.pair with probeStart := none, probeAcked := none } } pairFailed 4
    else s))

/-- DOWN on every pair port and host port whose link is UP (R478). -/
def sendDown (s : State) : State := if pairOn s then forEach (pairPorts s ++ hostPorts) (fun s g => sendPartner s g kDown []) s else s

/-! ## Joint commits (R482) -/

/-- The pair digest of a slot of a die (R483). -/
def pairDigest (s : State) (d n : Nat) : List Word := digestWith s d n 0

/-- PAIR.STATUS.OFFSET, signed. -/
def pairOffset (s : State) : Int := (BitVec.ofNat 16 (fieldR s .pairStatus s.pkg.lead 0 16 16)).toInt

/-- The pair port on which joint-commit frames go. -/
def commitPort (s : State) : Nat := if portIsUp s (portA s) then portA s else portB s

/-- The MISMATCH bit of a sealed slot (R250). -/
def slotMismatch (s : State) (n : Nat) : Bool := decide (fieldR s (slotReg n) (refDie s) 0 5 1 = 1)

/-- The status with which a secondary answers a PROPOSE of a digest and T, and the slot when it accepts. -/
def proposeStatus (s : State) (digest : List Word) (t : Nat) : Nat × Option Nat :=
  match slotIn s (refDie s) 2 with
  | none => (stsBusy, none)
  | some n =>
    if slotMismatch s n ∨ pairDigest s (refDie s) n ≠ digest then (stsDigest, none)
    else if t < stime s s.pkg.lead + 2000000 then (stsTimePast, none)
    else if (pairOffset s).natAbs > 1000 then (stsBusy, none)
    else (stsOk, some n)

/-- PAIR_PROPOSE_RX: the secondary commits at T and sends ACK, or sends its status. -/
def execPairProposeRx (m : PairMsg) (s : State) : Host.Outcome State Fault Refusal :=
  .next (onPair s m kPropose (fun s =>
    if pairState s ≠ pairPaired ∨ !secondary s then s
    else
      let t := pairTime m 8
      let r := proposeStatus s (pairWords m 0 8) t
      let s := match r.2 with | some n => armCommit s n t | none => s
      sendPartner s m.gpn kAck (nw r.1 :: timeWords t)))

/-- The command code of GEN_COMMIT. -/
def genCommitCode : Nat := 0x0207

/-- Answer the GEN_COMMIT that waits for the partner. -/
def answerJoint (s : State) (j : Joint) (status : Nat) (ws : List Word) : State :=
  let s := { s with pair := { s.pair with joint := none } }
  match session s j.ses with
  | some x => if sesIdOf j.ses x = j.msg.session then reply s j.msg genCommitCode j.ses x.key status ws else s
  | none => s

/-- PAIR_ACK_RX: the primary commits and answers, or refuses with the partner's status and bit 15 of word 0 set. -/
def execPairAckRx (m : PairMsg) (s : State) : Host.Outcome State Fault Refusal :=
  .next (onPair s m kAck (fun s =>
    match s.pair.joint with
    | none => s
    | some j =>
      if pairTime m 1 ≠ j.t then s
      else if pairWord m 0 = stsOk then answerJoint (if slotState s (refDie s) j.slot = 2 then armCommit s j.slot j.t else s) j stsOk []
      else answerJoint s j (pairWord m 0 % 256) [0x8000]))

/-- A WITHDRAW of a joint commit at T. -/
def sendWithdraw (s : State) (t : Nat) : State :=
  sendPartner { s with pair := { s.pair with withdraw := some (t, leadMono s) } } (commitPort s) kWithdraw (timeWords t)

/-- Whether there is still time for a WITHDRAW: until T − 2 ms. -/
def withdrawable (s : State) (t : Nat) : Bool := decide (stime s s.pkg.lead + 2000000 ≤ t)

/-- PAIR_ACK_TIMEOUT: no ACK within 10 ms. -/
def execPairAckTimeout (s : State) : Host.Outcome State Fault Refusal :=
  .next (
    match s.pair.joint with
    | none => s
    | some j =>
      if s.pkg.noLead = false ∧ leadMono s ≥ j.at_ + 10000000 then
        let s := answerJoint s j stsBusy []
        if withdrawable s j.t then sendWithdraw s j.t else s
      else s)

/-- PAIR_WITHDRAW_SEND: WITHDRAW every 1 ms until T − 2 ms. -/
def execPairWithdrawSend (s : State) : Host.Outcome State Fault Refusal :=
  .next (
    match s.pair.withdraw with
    | none => s
    | some (t, last) =>
      if s.pkg.noLead ∨ leadMono s < last + 1000000 then s
      else if withdrawable s t then sendWithdraw s t
      else { s with pair := { s.pair with withdraw := none } })

/-- PAIR_WITHDRAW_RX: the secondary cancels its commit at T as GEN_CANCEL would. -/
def execPairWithdrawRx (m : PairMsg) (s : State) : Host.Outcome State Fault Refusal :=
  .next (onPair s m kWithdraw (fun s =>
    match slotIn s (refDie s) 3 with
    | some n => if secondary s ∧ commitT s (refDie s) = pairTime m 0 ∧ stime s (refDie s) < pairTime m 0 then disarmCommit s n else s
    | none => s))

/-! ## Digest exchange (R483) -/

/-- Compare the partner's pair digest with the own one. -/
def compareDigest (s : State) (theirs : List Word) : State :=
  let s := { s with pair := { s.pair with theirDigest := none } }
  let d := refDie s
  match curSlot s d with
  | none => s
  | some n =>
    if pairDigest s d n = theirs then (if pairState s = pairDrifted then setPairState s pairPaired 0 else s)
    else
      let s := recordK s s.pkg.lead 0xD003 theirs
      if secondary s ∧ pairState s = pairPaired ∧ fieldR s .genPolicy s.pkg.lead 0 1 1 = 1 then setPairState s pairDrifted 0 else s

/-- Whether a recomputation of a slot of the reference die is still to end. -/
def recomputing (s : State) (n : Nat) : Bool := (auditOf s (refDie s)).any (fun k => decide (k % 4 = n))

/-- PAIR_DIGEST_RX: the comparison waits for the own recomputation. -/
def execPairDigestRx (m : PairMsg) (s : State) : Host.Outcome State Fault Refusal :=
  .next (onPair s m kDigest (fun s =>
    let ws := pairWords m 0 8
    if pairState s ≠ pairPaired ∧ pairState s ≠ pairDrifted then s
    else
      match curSlot s (refDie s) with
      | some n => if recomputing s n then { s with pair := { s.pair with theirDigest := some ws } } else compareDigest s ws
      | none => s))

/-- The reference die has recomputed its CURRENT slot: the pair digest is sent, a comparison that waits is made. -/
def digestExchange (s : State) (n : Nat) : State :=
  let s :=
    if pairState s = pairPaired ∨ pairState s = pairDrifted then sendPartner s (commitPort s) kDigest (pairDigest s (refDie s) n) else s
  match s.pair.theirDigest with
  | some ws => compareDigest s ws
  | none => s

end Sys2Proof.Machine
end

