-- ==== Sys2Proof/Machine/GenCmds.lean ====
section
/-! DEFINITION. The commands of generations (10): staging, seal, commit, audit, repair; the end of a recomputation. -/

namespace Sys2Proof.Machine

/-! ## Recomputations (R259, R483) -/

/-- DIGEST_RECOMPUTE_DONE: a die has recomputed the digest of a slot, or met uncorrectable data; what the reference die finds of its
CURRENT slot goes to the partner. -/
def execDigestRecomputeDone (die slot : Nat) (uncorr : Bool) (s : State) : Host.Outcome State Fault Refusal :=
  .next (
    if !usable s die ∨ slot ≥ 4 then s
    else
      let r := refDie s
      let made := recomputed s die slot uncorr
      if made.1 ∧ die = r ∧ curSlot made.2 r = some slot then digestExchange made.2 slot else made.2)

/-! ## Staging (R247 to R249) -/

/-- The open slot for a staging command of session `i` that names generation `gen`. -/
def stageTarget (s : State) (i gen : Nat) (body : State → Nat → Reply) : Reply :=
  match stagedSlot s with
  | none => answerNo s stsRange
  | some n =>
    if slotGen s (refDie s) n ≠ gen then answerNo s stsRange
    else if slotState s (refDie s) n ≠ 1 then answerNo s stsBusy
    else if s.gen.openOwner ≠ some i then answerNo s stsNotOwner
    else body s n

/-- GEN_OPEN: the generation number and the slot. -/
def execGenOpen (m : EmpMsg) (s : State) : Host.Outcome State Fault Refusal :=
  .next (empCmd s m 0x0201 operator (fun s i =>
    inRange s (decide (m.len = 0)) (fun s =>
      if (stagedSlot s).isSome then answerNo s stsBusy
      else
        match slotIn s (refDie s) 0 with
        | none => answerNo s stsGenBusy
        | some n => let gen := nextGen s; answerOk (openGen s i n) [nw gen, nw n])))

/-- Write elements of a register set into the open slot of every die, once every die accepts them. -/
def stageSet (s : State) (n : Nat) (rs : List RegName) (first : Nat) (vs : List Nat) : Reply :=
  inRange s ((usableDies s).all (fun d => setWriteOk s d n rs first vs)) (fun s =>
    answerOk (wakeAll (forEach (usableDies s) (fun s d => writeSet rs d n s first vs) s)) [])

/-- GEN_REG_STAGE. -/
def execGenRegStage (m : EmpMsg) (gen : Word) (setId first : Nat) (values : List (BitVec 32)) (s : State) : Host.Outcome State Fault Refusal :=
  .next (empCmd s m 0x0202 operator (fun s i =>
    stageTarget s i gen.toNat (fun s n =>
      match setRegs setId with
      | none => answerNo s stsRange
      | some rs => stageSet s n rs first (values.map (·.toNat)))))

/-- Whether another live slot uses a letter of the graph image, or of the program image. -/
def letterUsed (s : State) (n letter : Nat) (f : State → Nat → Nat → Nat) : Bool :=
  (liveSlots s (refDie s)).any (fun k => decide (k ≠ n) && decide (f s (refDie s) k = letter))

/-- The first GEN_GRAPH_STAGE of a generation flips GIMG: none when another live slot uses the other letter. -/
def flipGraph (s : State) (n : Nat) : Option State :=
  if s.gen.graphStaged then some s
  else
    let old := slotGimg s (refDie s) n
    if letterUsed s n (1 - old) slotGimg then none
    else
      let s := forEach (usableDies s) (fun s d => copyGraph s d (slotGimg s d n) d (1 - slotGimg s d n)) s
      some { modSlot s n 4 1 (1 - old) with gen := { (modSlot s n 4 1 (1 - old)).gen with graphStaged := true } }

/-- The first GEN_PROG_STAGE of a generation flips PIMG in the same way. -/
def flipProg (s : State) (n : Nat) : Option State :=
  if s.gen.progStaged then some s
  else
    let old := slotPimg s (refDie s) n
    if letterUsed s n (1 - old) slotPimg then none
    else
      let s := forEach (usableDies s) (fun s d => copyProgs s d (slotPimg s d n) d (1 - slotPimg s d n)) s
      some { modSlot s n 3 1 (1 - old) with gen := { (modSlot s n 3 1 (1 - old)).gen with progStaged := true } }

/-- Write a word of a graph image, which ends its poison. -/
def setGraph (s : State) (k : Nat) (v : Word) : State :=
  { s with
    path := { s.path with graph := kset s.path.graph k v 0 },
    core := { s.core with poison := s.core.poison.filter (· ≠ 0x50000000 + k) } }

/-- Write a unit of a program image. -/
def setProg (s : State) (k : Nat) (v : BitVec 32) : State :=
  { s with core := { s.core with prog := kset s.core.prog k v 0, poison := s.core.poison.filter (· ≠ 0x40000000 + k) } }

/-- GEN_GRAPH_STAGE: 1 to 34 whole records from a record number. -/
def execGenGraphStage (m : EmpMsg) (gen : Word) (first : Nat) (records : List (List Word)) (s : State) : Host.Outcome State Fault Refusal :=
  .next (empCmd s m 0x0203 operator (fun s i =>
    stageTarget s i gen.toNat (fun s n =>
      inRange s (decide (1 ≤ records.length ∧ records.length ≤ 34 ∧ first + records.length ≤ 256) && records.all stagedRecordOk) (fun s =>
        match flipGraph s n with
        | none => answerNo s stsGenBusy
        | some s =>
          answerOk (forEach (usableDies s) (fun s d =>
            let img := slotGimg s d n
            forEach (records.flatten.zipIdx) (fun s e => setGraph s (graphKey d img (first * 128 + e.2)) e.1) s) s) []))))

/-- GEN_PROG_STAGE: 1 to 2,200 units of one domain, into every comb that serves it in the open slot. -/
def execGenProgStage (m : EmpMsg) (gen : Word) (pdom addr : Nat) (units : List (BitVec 32)) (s : State) : Host.Outcome State Fault Refusal :=
  .next (empCmd s m 0x0204 operator (fun s i =>
    stageTarget s i gen.toNat (fun s n =>
      inRange s (decide (pdom < 16 ∧ 1 ≤ units.length ∧ units.length ≤ 2200 ∧ addr + units.length ≤ 65536)) (fun s =>
        match flipProg s n with
        | none => answerNo s stsGenBusy
        | some s =>
          answerOk (forEach (usableDies s) (fun s d =>
            forEach (combsFor s d n pdom) (fun s k =>
              forEach units.zipIdx (fun s e => setProg s (progKey k (slotPimg s d n) (addr + e.2)) e.1) s) s) s) []))))

/-- GEN_CONST_STAGE: 1 to 4,400 constant words of one domain. -/
def execGenConstStage (m : EmpMsg) (gen : Word) (pdom off : Nat) (words : List Word) (s : State) : Host.Outcome State Fault Refusal :=
  .next (empCmd s m 0x0205 operator (fun s i =>
    stageTarget s i gen.toNat (fun s n =>
      inRange s (decide (pdom < 16 ∧ 1 ≤ words.length ∧ words.length ≤ 4400 ∧ off + words.length ≤ 8192)) (fun s =>
        answerOk (forEach (usableDies s) (fun s d =>
          forEach (combsFor s d n pdom) (fun s k =>
            forEach words.zipIdx (fun s e => setMem s (constAddr k n (off + e.2)) e.1) s) s) s) []))))

/-! ## Seal, commit, cancel, abort (R250 to R255) -/

/-- GEN_SEAL: the mismatch mask, then every usable die's digest; a failed check is answered with its number and its die. -/
def execGenSeal (m : EmpMsg) (gen : Word) (s : State) : Host.Outcome State Fault Refusal :=
  .next (empCmd s m 0x0206 operator (fun s i =>
    stageTarget s i gen.toNat (fun s n =>
      match sealFails s n with
      | some (c, d) => ⟨stsRange, [nw c, nw d], s⟩
      | none =>
        let ws := nw (mismatchMask s n) :: (usableDies s).flatMap (fun d => digestOf s d n)
        answerOk (sealGen s n) ws)))

/-- The staged slot of generation `gen`, when it is the one that is OPEN, SEALED or PENDING. -/
def stagedGen (s : State) (gen : Nat) : Option Nat :=
  match stagedSlot s with
  | some n => if slotGen s (refDie s) n = gen then some n else none
  | none => none

/-- The least time from STIME to T of a commit (R253). -/
def leadTime (s : State) : Nat := if pairOn s then 20000000 else 2000000

/-- GEN_COMMIT: at once, or after the partner's ACK when the primary of a pair in PAIRED takes it (R482). -/
def commitGen (s : State) (m : EmpMsg) (i gen t : Nat) : Answer :=
  let joint := decide (pairState s = pairPaired)
  match stagedGen s gen with
  | none => .now (answerNo s stsBusy)
  | some n =>
    if slotState s (refDie s) n ≠ 2 ∨ s.pair.joint.isSome ∨ (joint ∧ secondary s) then .now (answerNo s stsBusy)
    else if slotMismatch s n then .now ⟨stsDigest, [nw (mismatchMask s n)], s⟩
    else if t < stime s s.pkg.lead + leadTime s then .now (answerNo s stsTimePast)
    else if joint then
      let s := sendPartner s (commitPort s) kPropose (pairDigest s (refDie s) n ++ timeWords t)
      .wait { s with pair := { s.pair with joint := some ⟨n, t, leadMono s, i, m⟩ } }
    else .now (answerOk (armCommit s n t) [])

def execGenCommit (m : EmpMsg) (gen : Word) (sec : BitVec 48) (ns : BitVec 32) (s : State) : Host.Outcome State Fault Refusal :=
  .next (empWith s m genCommitCode operator (fun s i =>
    if ns.toNat ≥ nsPerS then .now (answerNo s stsRange) else commitGen s m i gen.toNat (sec.toNat * nsPerS + ns.toNat)) (fun s _ => s))

/-- The status of a command on a generation that is not in the state it needs (DEDUCED, log entry 64). -/
def genStatusNo (s : State) (gen : Nat) : Nat := if (liveSlots s (refDie s)).any (fun n => decide (slotGen s (refDie s) n = gen)) then stsBusy else stsRange

/-- GEN_CANCEL: a joint commit is withdrawn at the partner too. -/
def execGenCancel (m : EmpMsg) (gen : Word) (s : State) : Host.Outcome State Fault Refusal :=
  .next (empCmd s m 0x0208 operator (fun s _ =>
    match stagedGen s gen.toNat with
    | none => answerNo s (genStatusNo s gen.toNat)
    | some n =>
      let t := commitT s (refDie s)
      if slotState s (refDie s) n ≠ 3 then answerNo s stsBusy
      else if stime s (refDie s) + 1000000 ≥ t then answerNo s stsTimePast
      else
        let s := disarmCommit s n
        answerOk (if pairState s = pairPaired ∧ !secondary s ∧ withdrawable s t then sendWithdraw s t else s) []))

/-- GEN_ABORT. -/
def execGenAbort (m : EmpMsg) (gen : Word) (s : State) : Host.Outcome State Fault Refusal :=
  .next (empCmd s m 0x0209 operator (fun s _ =>
    match stagedGen s gen.toNat with
    | none => answerNo s (genStatusNo s gen.toNat)
    | some n => if slotState s (refDie s) n = 3 ∨ s.pair.joint.isSome then answerNo s stsBusy else answerOk (abortGen s n 0) []))

/-! ## Reading, audit, policy, repair (R258 to R260) -/

/-- GEN_STATUS: GEN.SLOT0 to 3, GEN.COMMIT_T, then GEN.HOLD0 to 3 of each usable die. -/
def execGenStatus (m : EmpMsg) (s : State) : Host.Outcome State Fault Refusal :=
  .next (empCmd s m 0x0200 observer (fun s _ =>
    let r := refDie s
    answerOk s ((List.range 4).flatMap (fun n => wordsOf 2 (regView s (slotReg n) r 7 0)) ++ wordsOf 5 (regView s .genCommitT r 7 0) ++
      (usableDies s).flatMap (fun d => (List.range 4).flatMap (fun n => wordsOf 2 (holdersOf s d n))))))

/-- GEN_DIGEST_GET: the sealed digest, then each usable die's last recomputed digest and its STIME. -/
def execGenDigestGet (m : EmpMsg) (slot : Nat) (s : State) : Host.Outcome State Fault Refusal :=
  .next (empCmd s m 0x020A observer (fun s _ =>
    inRange s (decide (slot < 4)) (fun s =>
      answerOk s (fitTo 8 0 (slotDigest s (refDie s) slot).sealed ++
        (usableDies s).flatMap (fun d => fitTo 8 0 (slotDigest s d slot).recomputed ++ timeWords (slotDigest s d slot).at_)))))

/-- GEN_AUDIT_NOW. -/
def execGenAuditNow (m : EmpMsg) (dies : BitVec 8) (s : State) : Host.Outcome State Fault Refusal :=
  .next (empCmd s m 0x020B operator (fun s _ => onDies s dies (fun s ds => answerOk (forEach ds startAudit s) [])))

/-- GEN_POLICY_SET. -/
def execGenPolicySet (m : EmpMsg) (value : BitVec 32) (s : State) : Host.Outcome State Fault Refusal :=
  .next (empCmd s m 0x020C owner (fun s _ =>
    inRange s (definedBits .genPolicy value.toNat) (fun s => answerOk (setAll s .genPolicy 0 value.toNat) [])))

/-- GEN_REPAIR: the content of every live slot comes from a die that has not drifted; a fenced die is unfenced when every digest matches. -/
def execGenRepair (m : EmpMsg) (die source : Nat) (s : State) : Host.Outcome State Fault Refusal :=
  .next (empCmd s m 0x020D owner (fun s _ =>
    inRange s (decide (die < s.pkg.n ∧ die ≠ source) && dieServes s die && usable s source && agrees s source) (fun s =>
      let s := repairFrom s source die
      let s := forEach (liveSlots s die) (fun s n =>
        setDigest s die n { slotDigest s die n with recomputed := digestOf s die n, at_ := stime s die }) s
      if !agrees s die then answerNo s stsDigest
      else answerOk (if s.pkg.fenced.getLsbD die then unfenceDie s die else s) [])))

end Sys2Proof.Machine
end

