-- ==== Sys2Proof/Machine/MapCmds.lean ====
section
/-! DEFINITION. The access map's commands (R392 to R396), and the rights of a host session (R386, R390). -/

namespace Sys2Proof.Machine

/-! ## Rights of a session -/

/-- The map row of a session: 16 an Operator's, 17 an Observer's, none the Owner's, which the map does not bind. -/
def hostRow (s : State) (i : Nat) : Option Nat :=
  match session s i with
  | some x => if x.priv = 3 then none else if x.priv = 2 then some 16 else some 17
  | none => some 17

/-- Whether session `i` has a right, which `may` reads in a row. -/
def permits (s : State) (i : Nat) (may : Nat → Bool) : Bool :=
  match hostRow s i with
  | some row => may row
  | none => true

/-- A command refused with ST_PRIV unless the session has the right. -/
def granting (s : State) (i : Nat) (may : Nat → Bool) (body : State → Reply) : Reply :=
  if permits s i may then body s else answerNo s stsPriv

/-! ## Commands -/

/-- Whether 48 words are a row (R387, R10). -/
def rowOk (ws : List Word) : Bool :=
  let w0 := wordAt ws 0
  let row := w0.toNat % 32
  decide (ws.length = 48) && decide (row < 18) && decide (w0 &&& 0xFEE0 = 0) &&
    [9, 11, 13, 15, 17, 19, 21, 23].all (fun k => decide ((wordAt ws k).toNat < 32)) && decide ((wordAt ws 33).toNat < 256) &&
    (if row ≥ 16 then (range' 33 7).all (fun k => decide (wordAt ws k = 0)) else (range' 40 8).all (fun k => decide (wordAt ws k = 0)))

/-- Install a row on a die: each word written is good again. -/
def installRow (d : Nat) (s : State) (ws : List Word) : State :=
  let row := (wordAt ws 0).toNat % 32
  let s := forEach (List.range 48) (fun s w => setMapWord s d row w (wordAt ws w)) s
  { s with kpr := { s.kpr with mapBad := s.kpr.mapBad.filter (fun k => !(decide (mapKey d row 0 ≤ k) && decide (k < mapKey d row 48))) } }

/-- The dies that install a change: the usable ones, and those fenced for their map (R396). -/
def mapDies (s : State) : List Nat := (allDies s).filter (fun d => usable s d || s.kpr.mapFenced.getLsbD d)

/-- A die's switch point: it installs the rows, recomputes its digest and records each row. -/
def switchMap (s : State) (ses : Word) (rows : List (List Word)) (d : Nat) : State :=
  let s := noteMap (rows.foldl (installRow d) s) d
  forEach rows (fun s r => recordK s d 0xE001 ([ses, nw ((wordAt r 0).toNat % 32)] ++ (mapDigest s d).take 2)) s

/-- MAP_SET: 1 to 18 rows as one change. -/
def execMapSet (m : EmpMsg) (s : State) : Host.Outcome State Fault Refusal :=
  .next (empCmd s m 0x0B01 owner (fun s _ =>
    let rows := chunks 48 19 (pws m 0 m.len)
    let names := rows.map (fun r => (wordAt r 0).toNat % 32)
    inRange s (decide (1 ≤ rows.length ∧ rows.length ≤ 18) && rows.all rowOk && distinctNat names) (fun s =>
      let s := forEach (mapDies s) (fun s d => switchMap s m.session rows d) s
      let freed := (allDies s).filter (fun d =>
        s.kpr.mapFenced.getLsbD d && !mapSick s d && decide (mapDigest s d = mapDigest s s.pkg.lead))
      answerOk (forEach freed unfenceDie s) [])))

/-- MAP_GET: the named rows. -/
def execMapGet (m : EmpMsg) (rows : List Nat) (s : State) : Host.Outcome State Fault Refusal :=
  .next (empCmd s m 0x0B00 observer (fun s _ =>
    inRange s (decide (1 ≤ rows.length ∧ rows.length ≤ 18) && rows.all (fun r => decide (r < 18))) (fun s =>
      answerOk s (rows.flatMap (mapRow s s.pkg.lead)))))

/-- MAP_DIGEST_GET: each usable die's last digest and its STIME. -/
def execMapDigestGet (m : EmpMsg) (s : State) : Host.Outcome State Fault Refusal :=
  .next (empCmd s m 0x0B02 observer (fun s _ =>
    answerOk s ((usableDies s).flatMap (fun d =>
      let x := kget s.kpr.mapDigests d ([], 0)
      fitTo 8 0 x.1 ++ timeWords x.2))))

/-- MAP_AUDIT_NOW. -/
def execMapAuditNow (m : EmpMsg) (s : State) : Host.Outcome State Fault Refusal :=
  .next (empCmd s m 0x0B03 operator (fun s _ => answerOk (forEach (usableDies s) mapAudit s) []))

end Sys2Proof.Machine
end

