-- ==== Sys2Proof/Machine/TblCmds.lean ====
section
/-! DEFINITION. The commands of tables (R212, R213): dynamic and staged writes, lookups, reads, flushes, descriptors and groups. -/

namespace Sys2Proof.Machine

/-! ## The shared payload (R212) -/

/-- The fields of the payload of TBL_INSERT, TBL_UPDATE, TBL_DELETE and TBL_LOOKUP. -/
structure TblArgs where
  stage : Bool
  dies : BitVec 8
  table : Nat
  slot : Nat
  key : List Word
  data : List Word

/-- Whether the payload has STAGE = 1. -/
def tblStage (m : EmpMsg) : Bool := decide (pw m 0 / 32768 = 1)

/-- The payload, when its reserved bits are 0 and its length is that of its key and data. -/
def tblArgs (m : EmpMsg) : Option TblArgs :=
  let kw := pw m 2
  let dw := pw m 3
  if Nat.land (pw m 0) 0x7F00 = 0 ∧ Nat.land (pw m 1) 0xFCC0 = 0 ∧ kw < 32 ∧ dw < 32 ∧ m.len = 4 + kw + dw then
    some ⟨tblStage m, BitVec.ofNat 8 (pw m 0), pw m 1 % 64, pw m 1 / 256 % 4, pws m 4 kw, pws m (4 + kw) dw⟩
  else none

/-- Whether key and data fit a descriptor: enabled, KEY_WORDS, *A* data words where the command gives data, none else. -/
def fitsDesc (x : Desc) (a : TblArgs) (data : Bool) : Bool :=
  x.en && decide (a.key.length = x.keyWords) && decide (a.data.length = if data then descA x else 0)

/-- A table command that needs the lookup right, or the write right (R390). -/
def tblRight (s : State) (i t : Nat) (write : Bool) (body : State → Reply) : Reply :=
  granting s i (fun row => if write then mayWriteTbl s s.pkg.lead row t else mayLookup s s.pkg.lead row t) body

/-- The number that answers for one die (R213): `out` tells whether a rehash request is outstanding on it. -/
def dieStatus (st : Nat) (out : Bool) : Nat :=
  if st = stOk then 0
  else if st = stExists then stsConflict
  else if st = stNotFound then 0x8000
  else if st = stNoRoom then (if out then stsRehash else stsNoRoom)
  else if st = stUncorr then stsDegraded
  else stsRange

/-- The status of a command from those of its dies: that of the lowest-numbered die that failed. -/
def firstFailed (ws : List Nat) : Nat := (ws.find? (fun w => decide (w ≠ 0 ∧ w < 0x8000))).getD stsOk

/-- The 8 words of a reply, from pairs of die and status. -/
def dieWords (l : List (Nat × Nat)) : List Word :=
  (List.range 8).map (fun d => match l.find? (fun e => e.1 = d) with | some e => nw e.2 | none => 0xFFFF)

/-! ## Dynamic writes -/

/-- One die performs a dynamic write, behind the writes that wait at the engine: its status and the state. -/
def hostWrite (i op : Nat) (a : TblArgs) (acc : List (Nat × Nat) × State) (d : Nat) : List (Nat × Nat) × State :=
  let (r, s) := dynWrite (flushEngine acc.2 d a.table) d a.table op a.key a.data 0 (sessionId i)
  (acc.1 ++ [(d, dieStatus r.status (rehashOf s d a.table).outstanding)], s)

/-- A dynamic write on the named dies (R212, R213, R193): `op` as in R201. -/
def dynCmd (s : State) (m : EmpMsg) (i op : Nat) : Reply :=
  match tblArgs m with
  | none => answerNo s stsRange
  | some a =>
    let x := curDesc s (refDie s) a.table
    onDies s a.dies (fun s ds =>
      inRange s (decide (a.slot = 0) && fitsDesc x a (decide (op ≠ 3)) && !keyOutsideMask x a.key) (fun s =>
        tblRight s i a.table true (fun s =>
          let (l, s) := ds.foldl (hostWrite i op a) ([], s)
          ⟨firstFailed (l.map (·.2)), dieWords l, s⟩)))

/-- A row of a command with STAGE: it acts only on a payload with its value. -/
def tblRow (s : State) (m : EmpMsg) (stage : Bool) (code : Nat) (body : State → Nat → Reply) : State :=
  if tblStage m = stage then empCmd s m code operator body else s

/-- TBL_INSERT, STAGE = 0. -/
def execTblInsert (m : EmpMsg) (s : State) : Host.Outcome State Fault Refusal :=
  .next (tblRow s m false 0x0302 (fun s i => dynCmd s m i 1))

/-- TBL_UPDATE, STAGE = 0. -/
def execTblUpdate (m : EmpMsg) (s : State) : Host.Outcome State Fault Refusal :=
  .next (tblRow s m false 0x0303 (fun s i => dynCmd s m i 2))

/-- TBL_DELETE, STAGE = 0. -/
def execTblDelete (m : EmpMsg) (s : State) : Host.Outcome State Fault Refusal :=
  .next (tblRow s m false 0x0304 (fun s i => dynCmd s m i 3))

/-! ## Staged writes (R213, R248) -/

/-- The new static entry of a staged write; its stamp is 0 (R191). -/
def staticEntry (s : State) (d n t : Nat) (x : Desc) (key action : List Word) : Entry :=
  { dynEntry s d t x key action with slots := BitVec.ofNat 4 (2 ^ n), static_ := true, ageable := false, stamp := 0 }

/-- The static entry of a key that holds the bit of a slot. -/
def staticFound (s : State) (d n : Nat) (x : Desc) (key : List Word) : Option (Nat × Entry) :=
  (foundAt s d x key).find? (fun f => staticIn f.2 n)

/-- Clear a slot's bit of an entry; one left without a slot is free, which a delete counts. -/
def clearSlotBit (s : State) (d n p : Nat) (e : Entry) (count : Bool) : State :=
  let left := e.slots &&& ~~~BitVec.ofNat 4 (2 ^ n)
  if left ≠ 0 then setEntry s p (some { e with slots := left }) else if count then removeEntry s d p else setEntry s p none

/-- Write a new static entry; a lack of room counts, and asks for no rehash (R248). -/
def placeStatic (s : State) (d n i : Nat) (x : Desc) (a : TblArgs) : Nat × State :=
  match writeEntry s d a.table x (staticEntry s d n a.table x a.key a.data) with
  | some (r, s) => (r.status, s)
  | none => (stNoRoom, countNoRoom s d a.table x a.key (sessionId i))

/-- One die performs a staged write: the status of a search or a write, and the state. -/
def stageOn (n i op : Nat) (a : TblArgs) (s : State) (d : Nat) : Nat × State :=
  let s := flushEngine s d a.table
  let x := tblDesc s d n a.table
  match metUncorr s d x a.key with
  | some p => (stUncorr, meetUncorr s d a.table x p)
  | none =>
    if op = 1 then
      if (foundAt s d x a.key).any (fun f => f.2.slots.getLsbD n) then (stExists, s) else placeStatic s d n i x a
    else
      match staticFound s d n x a.key with
      | none => (stNotFound, s)
      | some (p, e) =>
        if op = 3 then (stOk, clearSlotBit s d n p e true)
        else
          let (st, t) := placeStatic s d n i x a
          if st ≠ stOk then (st, t)
          else
            match (foundAt t d x a.key).find? (fun f => f.2.static_ && f.2.slots = e.slots && f.2.action = e.action) with
            | some (q, e) => (stOk, clearSlotBit t d n q e false)
            | none => (stOk, t)

/-- Perform a staged write on every usable die; when it fails on one, every die undoes it, and the first failure and its die answer. -/
def stageCmd (s : State) (m : EmpMsg) (i op : Nat) : Reply :=
  match tblArgs m with
  | none => answerNo s stsRange
  | some a =>
    inRange s (decide (a.slot = 0 ∧ a.dies = 0)) (fun s =>
      stageTarget s i ((stagedSlot s).map (slotGen s (refDie s))|>.getD 0) (fun s n =>
        let x := tblDesc s (refDie s) n a.table
        inRange s (fitsDesc x a (decide (op ≠ 3)) && !keyOutsideMask x a.key) (fun s =>
          tblRight s i a.table true (fun s =>
            let l := (usableDies s).map (fun d => (d, dieStatus (stageOn n i op a s d).1 (rehashOf s d a.table).outstanding))
            match l.find? (fun e => decide (e.2 ≠ 0 ∧ e.2 < 0x8000)) with
            | some (d, st) => ⟨st, dieWords [(d, st)], (stageOn n i op a s d).2⟩
            | none => answerOk (forEach (usableDies s) (fun s d => (stageOn n i op a s d).2) s) (dieWords l)))))

/-- TBL_INSERT, STAGE = 1. -/
def execTblInsertStaged (m : EmpMsg) (s : State) : Host.Outcome State Fault Refusal :=
  .next (tblRow s m true 0x0302 (fun s i => stageCmd s m i 1))

/-- TBL_UPDATE, STAGE = 1. -/
def execTblUpdateStaged (m : EmpMsg) (s : State) : Host.Outcome State Fault Refusal :=
  .next (tblRow s m true 0x0303 (fun s i => stageCmd s m i 2))

/-- TBL_DELETE, STAGE = 1. -/
def execTblDeleteStaged (m : EmpMsg) (s : State) : Host.Outcome State Fault Refusal :=
  .next (tblRow s m true 0x0304 (fun s i => stageCmd s m i 3))

/-! ## Reading -/

/-- One die looks a key up, without a refresh: its status and entry. -/
def hostLookup (a : TblArgs) (acc : List (Nat × List Word) × State) (d : Nat) : List (Nat × List Word) × State :=
  let s := acc.2
  let x := tblDesc s d a.slot a.table
  let key := maskKey x a.key
  let (r, s) := lookupKey s d a.slot a.table x key (deepMiss s d x key)
  let st := if r.hit then 0 else dieStatus (if r.status = stOk then stNotFound else r.status) false
  (acc.1 ++ [(st, match r.entry with | some e => entryWords e | none => [])], s)

/-- TBL_LOOKUP: for each named die its status, as R213 codes it, and the words of the entry that it found. -/
def execTblLookup (m : EmpMsg) (s : State) : Host.Outcome State Fault Refusal :=
  .next (empCmd s m 0x0301 observer (fun s i =>
    match tblArgs m with
    | none => answerNo s stsRange
    | some a =>
      onDies s a.dies (fun s ds =>
        inRange s (!a.stage && slotLive s (refDie s) a.slot && fitsDesc (tblDesc s (refDie s) a.slot a.table) a false) (fun s =>
          tblRight s i a.table false (fun s =>
            let (l, s) := ds.foldl (hostLookup a) ([], s)
            ⟨firstFailed (l.map (·.1)), l.flatMap (fun e => nw e.1 :: e.2), s⟩)))))

/-- The groups of a slot that have a table as a member, one bit each. -/
def groupsOf (s : State) (d n t : Nat) : Word :=
  nw (sumN ((List.range 16).map (fun g =>
    if getRS s .tblGrpCfg d n g % 2 = 1 ∧ (groupMembers s d n g).contains t then 2 ^ g else 0)))

/-- TBL_INFO: TBL.DESC0 to 4, the key mask, the groups; then for each named die the occupancy, the overflow count, and whether a rehash
request is outstanding. -/
def execTblInfo (m : EmpMsg) (table slot : Nat) (dies : BitVec 8) (s : State) : Host.Outcome State Fault Refusal :=
  .next (empCmd s m 0x0300 observer (fun s _ =>
    onDies s dies (fun s ds =>
      inRange s (decide (table < 64 ∧ slot < 4)) (fun s =>
        let r := refDie s
        answerOk s (descRegs.flatMap (fun x => wordsOf 2 (getRS s x r slot table)) ++ (tblDesc s r slot table).masks ++
          [groupsOf s r slot table] ++
          ds.flatMap (fun d => wordsOf 2 (occBucket s d table) ++
            [nw (occOvf s d table), if (rehashOf s d table).outstanding then 1 else 0]))))))

/-- The positions of a table from a cursor on: four for each bucket, then those of its overflow segment. -/
def cursorPos (d : Nat) (x : Desc) (cursor : Nat) : Nat := (sweepPos d x (cursor / 4)).getD (cursor % 4) 0

/-- The cursors from `cursor` on at which valid entries of a table lie. -/
def validFrom (s : State) (d t : Nat) (x : Desc) (cursor : Nat) : List (Nat × Entry) :=
  (range' cursor (4 * sweepLen x - cursor)).filterMap (fun c =>
    match getEntry s (cursorPos d x c) with
    | some e => if e.tableId = t then some (c, e) else none
    | none => none)

/-- TBL_READ: the cursor that continues, 0xFFFFFFFF at the end, then for each entry its bank, row and way and its words. An entry with an
uncorrectable error is left out, and the reply says ST_DEGRADED. -/
def execTblRead (m : EmpMsg) (die table slot cursor count : Nat) (s : State) : Host.Outcome State Fault Refusal :=
  .next (empCmd s m 0x0305 observer (fun s i =>
    onDie s die (fun s =>
      inRange s (decide (table < 64 ∧ slot < 4 ∧ 1 ≤ count ∧ count ≤ 64) && slotLive s die slot && (tblDesc s die slot table).en)
        (fun s =>
          tblRight s i table false (fun s =>
            let x := tblDesc s die slot table
            let l := validFrom s die table x cursor
            let next := match (l[count]?) with | some e => e.1 | none => 0xFFFFFFFF
            let part := l.take count
            let words := wordsOf 2 next ++ (part.filter (fun e => !e.2.uncorr)).flatMap (fun e =>
              posWords x (cursorPos die x e.1) ++ entryWords e.2)
            ⟨if part.any (fun e => e.2.uncorr) then stsDegraded else stsOk, words, s⟩)))))

/-- TBL_FLUSH: every dynamic entry of a table leaves the named dies. -/
def execTblFlush (m : EmpMsg) (dies : BitVec 8) (table : Nat) (s : State) : Host.Outcome State Fault Refusal :=
  .next (empCmd s m 0x0306 operator (fun s i =>
    onDies s dies (fun s ds =>
      inRange s (decide (table < 64)) (fun s =>
        tblRight s i table true (fun s =>
          answerOk (forEach ds (fun s d =>
            let s := flushEngine s d table
            forEach ((dieEntries s d).filter (fun e => decide (e.2.tableId = table) && !e.2.static_)) (fun s e => removeEntry s d e.1) s) s)
            [])))))

/-- The words of a register's present value. -/
def valueWords (s : State) (r : RegName) (d i : Nat) : List Word := wordsOf (regWords r) (regView s r d 7 i)

/-- TBL_STATS: the counters of R214, in its order. -/
def execTblStats (m : EmpMsg) (dies : BitVec 8) (table : Nat) (s : State) : Host.Outcome State Fault Refusal :=
  .next (empCmd s m 0x0307 observer (fun s _ =>
    onDies s dies (fun s ds =>
      inRange s (decide (table < 64)) (fun s =>
        answerOk s (ds.flatMap (fun d =>
          [RegName.tblCntLookup, .tblCntHit, .tblCntInsert, .tblCntRemove, .tblCntNoRoom, .tblCntMoves, .tblCntDeepMiss, .tblOccBucket,
            .tblOccOvf].flatMap (fun r => valueWords s r d table) ++ valueWords s .tblCntReqErr d 0))))))

/-! ## Descriptors and groups (R189, R209) -/

/-- Write instances of per-slot registers of the open slot on every die, once every die accepts them. -/
def stageRegs (s : State) (n : Nat) (l : List (RegName × Nat × Nat)) : Reply :=
  let put (s : State) (d : Nat) : State := forEach l (fun s e => setRS s e.1 d n e.2.1 e.2.2) s
  inRange s ((usableDies s).all (fun d => l.all (fun e => definedBits e.1 e.2.2 && stagedOk (put s d) d n e.1 e.2.1))) (fun s =>
    answerOk (wakeAll (forEach (usableDies s) put s)) [])

/-- TBL_DESC_STAGE: TBL.DESC0 to 4 and the 24 words of the key mask. -/
def execTblDescStage (m : EmpMsg) (gen : Word) (table : Nat) (desc : List (BitVec 32)) (masks : List Word) (s : State) :
    Host.Outcome State Fault Refusal :=
  .next (empCmd s m 0x0308 operator (fun s i =>
    stageTarget s i gen.toNat (fun s n =>
      inRange s (decide (table < 64 ∧ desc.length = 5 ∧ masks.length = 24)) (fun s =>
        stageRegs s n ((descRegs.zip desc).map (fun e => (e.1, table, e.2.toNat)) ++
          (keyMaskRegs.zip masks).map (fun e => (e.1, table, e.2.toNat)))))))

/-- TBL_GROUP_STAGE: TBL.GRP_CFG of a group and its members; member registers that are not given stay. -/
def execTblGroupStage (m : EmpMsg) (gen : Word) (group : Nat) (cfg : BitVec 32) (members : List Word) (s : State) :
    Host.Outcome State Fault Refusal :=
  .next (empCmd s m 0x0309 operator (fun s i =>
    stageTarget s i gen.toNat (fun s n =>
      inRange s (decide (group < 16 ∧ members.length ≤ 32)) (fun s =>
        stageRegs s n ((.tblGrpCfg, group, cfg.toNat) :: (grpMemberRegs.zip members).map (fun e => (e.1, group, e.2.toNat)))))))

end Sys2Proof.Machine
end

