-- ==== Sys2Proof/Machine/BufQmCmds.lean ====
section
/-! DEFINITION. The commands of buffers and queues (R265, R267, R277, R281, R284, R285). -/

namespace Sys2Proof.Machine

/-! ## Buffers -/

/-- Bytes that the pools take. -/
def carveBytes (counts : List Nat) : Nat := sumN ((counts.zip [512, 1024, 1792, 9472]).map (fun e => e.1 * e.2))

/-- Whether a configured port of a die has as its cut-through pool one whose count would be 0. -/
def poolMissed (s : State) (d : Nat) (counts : List Nat) : Bool :=
  (portsOf d).any (fun p => portConfigured s (gpnOf d p) && decide (counts.getD (fieldR s .qmPortCfg d p 18 2) 0 = 0))

/-- Whether R265 accepts the counts on a die. -/
def carveOk (s : State) (counts : List Nat) (d : Nat) : Bool :=
  (List.range 4).all (fun p => decide (minSum s d p ≤ counts.getD p 0)) && !poolMissed s d counts

/-- BUF_CARVE. -/
def execBufCarve (m : EmpMsg) (dies : BitVec 8) (counts : List Nat) (s : State) : Host.Outcome State Fault Refusal :=
  .next (empCmd s m 0x0500 owner (fun s _ =>
    onDies s dies (fun s ds =>
      if (curSlot s (refDie s)).isSome then answerNo s stsBusy
      else
        inRange s (decide (counts.length = 4 ∧ carveBytes counts ≤ 67108864 ∧ 64 ≤ counts.getD 3 0) &&
            counts.all (fun c => decide (c < 262144)) && ds.all (carveOk s counts)) (fun s =>
          let put (s : State) (d : Nat) : State :=
            forEach (List.range 4) (fun s p => noteFree (setR s .bufPoolCfg d p (counts.getD p 0)) d p) s
          answerOk (wakeAll (forEach ds put s)) []))))

/-- The owners of a class (R266), and the index of its first one (R515). -/
def classOwners (cls : Nat) : Nat × Nat := match cls with | 0 => (33, 0) | 1 => (16, 33) | 2 => (1, 49) | 3 => (4096, 50) | _ => (0, 0)

/-- Whether a die has an owner: dies 2 to 7 have no host port. -/
def ownerExists (d o : Nat) : Bool := decide (d < 2 ∨ o ≠ 32)

/-- Write BUF.OWN_CFG of the owners `os` in a pool of a die. -/
def putOwners (os : List Nat) (pool v : Nat) (s : State) (d : Nat) : State :=
  forEach (os.filter (ownerExists d)) (fun s o => setR s .bufOwnCfg d (o * 4 + pool) v) s

/-- BUF_OWNER_SET. -/
def execBufOwnerSet (m : EmpMsg) (dies : BitVec 8) (cls first count pool : Nat) (value : BitVec 32) (s : State) :
    Host.Outcome State Fault Refusal :=
  .next (empCmd s m 0x0501 operator (fun s _ =>
    onDies s dies (fun s ds =>
      let c := classOwners cls
      let os := range' (c.2 + first) count
      let v := value.toNat
      inRange s (decide (1 ≤ count ∧ first + count ≤ c.1 ∧ pool < 4) && definedBits .bufOwnCfg v &&
          ds.all (fun d => decide (v = 0) || os.all (ownerExists d))) (fun s =>
        inRange s (ds.all (fun d => decide (minSum (putOwners os pool v s d) d pool ≤ poolCount s d pool))) (fun s =>
          answerOk (forEach ds (putOwners os pool v) s) [])))))

/-- BUF_STATUS: for each named die and each pool COUNT, the free buffers, S, F, then the use of each named owner. -/
def execBufStatus (m : EmpMsg) (dies : BitVec 8) (owners : List Nat) (s : State) : Host.Outcome State Fault Refusal :=
  .next (empCmd s m 0x0502 observer (fun s _ =>
    onDies s dies (fun s ds =>
      inRange s (owners.all (fun o => decide (o < 4146))) (fun s =>
        answerOk s (ds.flatMap (fun d => (List.range 4).flatMap (fun p =>
          wordsOf 2 (poolCount s d p) ++ wordsOf 2 (poolFree s d p) ++ intWords 2 (poolS s d p) ++ intWords 2 (poolF s d p) ++
            owners.flatMap (fun o => wordsOf 2 (ownUsed s d o p)))))))))

/-! ## The constraints on queues, ports and tenant groups (R277) -/

/-- The mark that a command has written a tenant group (kind 0), a port (1) or a queue (2) of a die. -/
def writtenKey (d kind i : Nat) : Nat := (d * 4 + kind) * 262144 + i
def isWritten (s : State) (d kind i : Nat) : Bool := kget s.egr.written (writtenKey d kind i) false
def markWritten (s : State) (d kind i : Nat) : State :=
  { s with egr := { s.egr with written := kset s.egr.written (writtenKey d kind i) true false } }

/-- Whether a PORT field names a port of a die: the first lane of a configured port, or its host port. -/
def portFieldOk (s : State) (d p : Nat) : Bool := decide (p < 32 ∨ (p = 32 ∧ d < 2)) && portConfigured s (gpnOf d p)

/-- PORT of a tenant group. -/
def tgPort (s : State) (d tg : Nat) : Nat := fieldR s .qmTgCfg d tg 0 6

/-- Whether a queue as it stands keeps the constraints: its PORT exists, is that of its tenant group while it is enabled, and is that of
every port whose DEF_Q names it. -/
def queueOk (s : State) (d l : Nat) : Bool :=
  let q := d * 262144 + l
  portFieldOk s d (qPort s q) &&
    (decide (qCfg s q % 2 = 0) || !isWritten s d 0 (qGroup s q) || decide (tgPort s d (qGroup s q) = qPort s q)) &&
    (portsOf d).all (fun p => !isWritten s d 1 p || decide (fieldR s .qmPortCfg d p 0 18 ≠ l) || decide (qPort s q = p))

/-- A session's right to queues of a die. -/
def queueRight (s : State) (i d first count : Nat) (body : State → Reply) : Reply :=
  granting s i (fun row => (range' (d * 262144 + first) count).all (mayQueue s s.pkg.lead row)) body

/-- Whether a span of local queues exists. -/
def queueSpan (first count limit : Nat) : Bool := decide (1 ≤ count ∧ count ≤ limit ∧ first + count ≤ 262144)

/-- Write queues of a die. -/
def putQueues (s : State) (d first : Nat) (vs : List Nat) : State :=
  forEach vs.zipIdx (fun s e => markWritten (setR s .qmQCfg d (first + e.2) e.1) d 2 (first + e.2)) s

/-- Whether PORT, CLASS or TGROUP of a queue that holds frames would change. -/
def queueMoves (s t : State) (q : Nat) : Bool := decide (getQueue s q ≠ []) && decide (qCfg s q / 2 % 2 ^ 21 ≠ qCfg t q / 2 % 2 ^ 21)

/-- QM_QUEUE_SET: word 0 the die, words 1 and 2 the first local queue, word 3 the count, then 4 words for each queue. -/
def execQmQueueSet (m : EmpMsg) (s : State) : Host.Outcome State Fault Refusal :=
  .next (empCmd s m 0x0503 operator (fun s i =>
    let d := pw m 0
    let first := pw2 m 1
    let count := pw m 3
    inRange s (decide (m.len = 4 + 4 * count) && usable s d && queueSpan first count 1024) (fun s =>
      let vs := (List.range count).map (fun k => valOf (pws m (4 + 4 * k) 4))
      queueRight s i d first count (fun s =>
        let t := putQueues s d first vs
        inRange s (vs.all (definedBits .qmQCfg) && (range' first count).all (queueOk t d)) (fun s =>
          if (range' first count).any (fun l => queueMoves s t (d * 262144 + l)) then answerNo s stsBusy else answerOk t [])))))

/-- QM_PROFILE_SET. -/
def execQmProfileSet (m : EmpMsg) (die profile : Nat) (value : BitVec 32) (s : State) : Host.Outcome State Fault Refusal :=
  .next (empCmd s m 0x0504 operator (fun s _ =>
    onDie s die (fun s =>
      inRange s (decide (profile < 256)) (fun s => answerOk (setR s .qmProfile die profile value.toNat) []))))

/-- QM_TGROUP_SET. -/
def execQmTgroupSet (m : EmpMsg) (die group : Nat) (value : BitVec 32) (s : State) : Host.Outcome State Fault Refusal :=
  .next (empCmd s m 0x0505 operator (fun s _ =>
    onDie s die (fun s =>
      let v := value.toNat
      let named := (s.egr.written.filterMap (fun e => if e.1 / 262144 = die * 4 + 2 then some (die * 262144 + e.1 % 262144) else none)).filter
        (fun q => decide (qCfg s q % 2 = 1) && decide (qGroup s q = group))
      inRange s (decide (group < 4096) && definedBits .qmTgCfg v && portFieldOk s die (v % 64) &&
          named.all (fun q => decide (qPort s q = v % 64))) (fun s =>
        answerOk (markWritten (setR s .qmTgCfg die group v) die 0 group) []))))

/-- QM_PORT_SET. -/
def execQmPortSet (m : EmpMsg) (die port : Nat) (value : BitVec 64) (s : State) : Host.Outcome State Fault Refusal :=
  .next (empCmd s m 0x0506 operator (fun s _ =>
    onDie s die (fun s =>
      let v := value.toNat
      let q := v % 262144
      inRange s (instExists .qmPortCfg die port && definedBits .qmPortCfg v &&
          (!isWritten s die 2 q || decide (qPort s (die * 262144 + q) = port)) && decide (poolCount s die (bitsOf v 18 2) ≠ 0)) (fun s =>
        answerOk (markWritten (setR s .qmPortCfg die port v) die 1 port) []))))

/-! ## Multicast groups (R281) -/

/-- The members that the payload of QM_MC_SET lists. -/
def mcMembers (m : EmpMsg) : List Nat := (List.range ((m.len - 1) / 2)).map (fun k => pw2 m (1 + 2 * k))

/-- Members on a die. -/
def membersOn (qs : List Nat) (d : Nat) : List Nat := qs.filter (fun q => decide (qidDie q = d))

/-- Entries of a die's replication store that groups other than `g` use. -/
def storeUsed (s : State) (d g : Nat) : Nat :=
  sumN (s.egr.groups.map (fun e => if e.1 / 65536 = d ∧ e.1 % 65536 ≠ g then e.2.members.length else 0))

/-- Write a group on a die. -/
def setGroup (s : State) (d g : Nat) (x : McGroup) : State :=
  { s with egr := { s.egr with groups := kset s.egr.groups (d * 65536 + g) x ⟨0, []⟩ } }

/-- QM_MC_SET: the group, then its member QIDs of two words each. A group without members has an empty die mask. -/
def execQmMcSet (m : EmpMsg) (s : State) : Host.Outcome State Fault Refusal :=
  .next (empCmd s m 0x0507 operator (fun s i =>
    let g := pw m 0
    let qs := mcMembers m
    inRange s (decide (m.len % 2 = 1 ∧ qs.length ≤ 2200) && qs.all (fun q => qidExists s q && usable s (qidDie q)) &&
        (List.range 8).all (fun d => decide ((membersOn qs d).length ≤ 1023))) (fun s =>
      granting s i (fun row => mayMc s s.pkg.lead row && qs.all (mayQueue s s.pkg.lead row)) (fun s =>
        let mask := BitVec.ofNat 8 (sumN ((List.range 8).map (fun d => if membersOn qs d = [] then 0 else 2 ^ d)))
        if (usableDies s).any (fun d => decide (storeUsed s d g + (membersOn qs d).length > 131072)) then answerNo s stsNoRoom
        else answerOk (forEach (usableDies s) (fun s d => setGroup s d g ⟨mask, membersOn qs d⟩) s) []))))

/-- QM_MC_GET: the die mask, then the members of each usable die. -/
def execQmMcGet (m : EmpMsg) (group : Nat) (s : State) : Host.Outcome State Fault Refusal :=
  .next (empCmd s m 0x0508 observer (fun s i =>
    inRange s (decide (group < 65536)) (fun s =>
      granting s i (fun row => mayMc s s.pkg.lead row) (fun s =>
        answerOk s (nw (getGroup s (refDie s) group).dies.toNat ::
          (usableDies s).flatMap (fun d => (getGroup s d group).members.flatMap (wordsOf 2)))))))

/-! ## Flushing and reading -/

/-- QM_FLUSH: every copy of the queues that is not in transmission goes; one record covers them (R284). -/
def execQmFlush (m : EmpMsg) (die first count : Nat) (s : State) : Host.Outcome State Fault Refusal :=
  .next (empCmd s m 0x0509 operator (fun s i =>
    onDie s die (fun s =>
      inRange s (queueSpan first count 65536) (fun s =>
        queueRight s i die first count (fun s =>
          let qs := (busyQueues s die).filter (fun q => decide (first ≤ qidLocal q ∧ qidLocal q < first + count))
          let (n, s) := qs.foldl (fun (a : Nat × State) q => let r := discardAll a.2 q 4 (fun _ => true); (a.1 + r.1, r.2)) (0, s)
          answerOk (recordK s die 0x7005 (wordsOf 2 (die * 262144 + first) ++ wordsOf 2 n ++ [4])) [])))))

/-- The registers of a queue, in the order of R276 and R285. -/
def queueRegs : List RegName := [.qmQCfg, .qmQBytes, .qmQFrames, .qmQHwm, .qmCntAdmit, .qmCntAdmitB, .qmCntRefuse, .qmCntDiscard]

/-- QM_QUEUE_GET: QM.Q_CFG and the counters of each queue; reading QM.Q_HWM clears it (R8). -/
def execQmQueueGet (m : EmpMsg) (die first count : Nat) (s : State) : Host.Outcome State Fault Refusal :=
  .next (empCmd s m 0x050A observer (fun s i =>
    onDie s die (fun s =>
      inRange s (queueSpan first count 256) (fun s =>
        queueRight s i die first count (fun s =>
          let ls := range' first count
          let words := ls.flatMap (fun l => queueRegs.flatMap (fun r => valueWords s r die l))
          answerOk (forEach ls (fun s l => clearOnRead s .qmQHwm die 7 l) s) words)))))

/-- The counters of a port (R285). -/
def portQmRegs : List RegName :=
  [.qmCntRefBadLength, .qmCntRefQdisabled, .qmCntRefQMax, .qmCntRefPortCap, .qmCntRefTgCap, .qmCntRefQDyn, .qmCntRefNobuf,
   .qmCntRefShares, .qmCntDiscAged, .qmCntDiscFlushLinkdown, .qmCntDiscGenRetire, .qmCntDiscQmFlush, .qmCntMcPartial]

/-- QM_STATS: for each named die the counters of each port, then those of the die. -/
def execQmStats (m : EmpMsg) (dies : BitVec 8) (s : State) : Host.Outcome State Fault Refusal :=
  .next (empCmd s m 0x050B observer (fun s _ =>
    onDies s dies (fun s ds =>
      answerOk s (ds.flatMap (fun d =>
        (portsOf d).flatMap (fun p => portQmRegs.flatMap (fun r => valueWords s r d p)) ++
          [RegName.bufCntFreeRefused, .bufCntResetRel, .qmCntMcEmpty].flatMap (fun r => valueWords s r d 0))))))

end Sys2Proof.Machine
end

