-- ==== Sys2Proof/Machine/Bulk.lean ====
section
/-! DEFINITION. The bulk unit of a comb (R155, R158, R164 to R168): its instructions, the start check of an operation, its end. -/

namespace Sys2Proof.Machine

/-- An instruction of the bulk unit: it faults NOT_CLAIMED without the claim and does not issue while the unit is busy. -/
def issueBk (s : State) (i : Issue) (ok : Bool) (reads : List WReg) (whileBusy : Bool) (body : State → Comb → Act) : State :=
  issue s i ok reads false (fun s =>
    let c := getComb s (thrComb i.tid)
    if !holdsBk s i.tid then .fault 6 0
    else if !whileBusy && c.op.isSome then .stall
    else body s c)

/-- An instruction that changes the unit from its source registers. -/
def bkSet (s : State) (i : Issue) (reads : List WReg) (f : Regs → Comb → Comb) : State :=
  issueBk s i (okPlain i) reads false (fun s c => .done (setComb s (thrComb i.tid) (f (regsOf s i.tid) c)) 1 [])

/-- BK.SRC Wa, Wb. -/
def execBkSrc (i : Issue) (a b : WReg) (s : State) : Host.Outcome State Fault Refusal :=
  .next (bkSet s i [a, b] (fun r c => { c with srcH := r.w[a], srcOff := r.w[b] }))
/-- BK.DST Wa, Wb. -/
def execBkDst (i : Issue) (a b : WReg) (s : State) : Host.Outcome State Fault Refusal :=
  .next (bkSet s i [a, b] (fun r c => { c with dstH := r.w[a], dstOff := r.w[b] }))
/-- BK.SUMSET Wa. -/
def execBkSumset (i : Issue) (a : WReg) (s : State) : Host.Outcome State Fault Refusal :=
  .next (bkSet s i [a] (fun r c => { c with sum := r.w[a], err := false }))

/-- An operation to come: a length of 0 does nothing (R165). -/
def bkOpOf (fn : Nat) (len fill : Word) : Option BulkOp := if len = 0 then none else some ⟨fn, len.toNat, fill.extractLsb' 0 8, false⟩

/-- BK.COPY Wa. -/
def execBkCopy (i : Issue) (a : WReg) (s : State) : Host.Outcome State Fault Refusal :=
  .next (bkSet s i [a] (fun r c => { c with op := bkOpOf 2 r.w[a] 0 }))
/-- BK.FILL Wa, Wb. -/
def execBkFill (i : Issue) (a b : WReg) (s : State) : Host.Outcome State Fault Refusal :=
  .next (bkSet s i [a, b] (fun r c => { c with op := bkOpOf 3 r.w[a] r.w[b] }))
/-- BK.CSUM Wa. -/
def execBkCsum (i : Issue) (a : WReg) (s : State) : Host.Outcome State Fault Refusal :=
  .next (bkSet s i [a] (fun r c => { c with op := bkOpOf 4 r.w[a] 0 }))

/-- BK.RD Wd: UNCORRECTABLE while ERR is 1. -/
def execBkRd (i : Issue) (d : WReg) (s : State) : Host.Outcome State Fault Refusal :=
  .next (issueBk s i (okPlain i) [] false (fun s c => if c.err then .fault 9 0 else .done (setW s i.tid d c.sum) 1 []))

/-- The status word (R166). -/
def bkStatus (c : Comb) : Word := nw ((if c.op.isSome then 32768 else 0) + (if c.err then 16384 else 0) + c.errCode * 256)

/-- BK.STAT Wd. -/
def execBkStat (i : Issue) (d : WReg) (s : State) : Host.Outcome State Fault Refusal :=
  .next (issueBk s i (okPlain i) [] true (fun s c => .done (setW s i.tid d (bkStatus c)) 1 []))
/-- BK.BUSY Pd. -/
def execBkBusy (i : Issue) (pd : PReg) (s : State) : Host.Outcome State Fault Refusal :=
  .next (issueBk s i (okPlain i && decide (pd ≠ 0)) [] true (fun s c => .done (setP s i.tid pd c.op.isSome) 1 []))

/-! ## Operations (R165, R166) -/

/-- The frame that a handle of the claimant names: 0 is its packet's (R164). -/
def bulkFrame (s : State) (t : Nat) (h : Word) : Option Nat :=
  if h = 0 then
    match (getT s t).item with
    | some it => if it.kind = .packet then some it.frame else none
    | none => none
  else
    let f := kget (getT s t).handles h.toNat 0
    if f = 0 then none else some f

/-- The check of one handle and range: the code of the failure, 0 for none. -/
def rangeCheck (s : State) (t : Nat) (h off : Word) (len : Nat) : Nat :=
  match (bulkFrame s t h).bind (getFrame s) with
  | none => 1
  | some x => if off.toNat + len ≤ supplyOf x then 0 else 2

/-- The start check of an operation: what fails, with the handle and the offset at fault. -/
def startCheck (s : State) (t : Nat) (c : Comb) (o : BulkOp) : Option (Nat × Word × Word) :=
  let src := if o.fn = 3 then 0 else rangeCheck s t c.srcH c.srcOff o.len
  let dst := if o.fn = 4 then 0 else rangeCheck s t c.dstH c.dstOff o.len
  if src ≠ 0 then some (src, c.srcH, c.srcOff) else if dst ≠ 0 then some (dst, c.dstH, c.dstOff) else none

/-- BK_OP_START: a committed operation checks its handles and its range; one that fails writes nothing. -/
def execBkOpStart (comb : Nat) (s : State) : Host.Outcome State Fault Refusal :=
  .next (
    let c := getComb s comb
    match c.op, c.claim with
    | some o, some t =>
      if o.running then s
      else
        match startCheck s t c o with
        | none => setComb s comb { c with errCode := 0, op := some { o with running := true } }
        | some (code, h, off) =>
          let s := cnt (setComb s comb { c with errCode := code, op := none }) .bkCntErr (combDie comb) (comb % 8)
          raiseEvent (record s (combDie comb) 0x4014 (thrMaster t) [thrMaster t, nw code, h, off]) t 14
    | _, _ => s)

/-- Bytes `a` to `a + n - 1` of a frame, with their poison. -/
def readBytes (x : Frame) (a n : Nat) : List (Byte × Bool) := (List.range n).map (fun k => (frameByte x (a + k), decide (a + k ∈ x.poison)))

/-- Write bytes from offset `a` on: a poisoned byte leaves poison. -/
def writeBytes (x : Frame) (a : Nat) : List (Byte × Bool) → Frame
  | [] => x
  | (b, p) :: t =>
    let y := setFrameByte x a b
    writeBytes (if p then { y with poison := addNew a y.poison } else y) (a + 1) t

/-- Add bytes to the sum, the first being high. -/
def sumBytes (w : Word) (bs : List Byte) : Word :=
  onesFold ((bs.zipIdx).foldl (fun a e => onesAdd a (e.2 % 2 = 1) e.1) (w.zeroExtend 32))

/-- The source bytes of an operation. -/
def sourceBytes (s : State) (t : Nat) (c : Comb) (o : BulkOp) : List (Byte × Bool) :=
  match (bulkFrame s t c.srcH).bind (getFrame s) with
  | some x => readBytes x c.srcOff.toNat o.len
  | none => []

/-- The work of an operation and the unit after it. A sum that meets uncorrectable data stops. -/
def runBulk (s : State) (comb t : Nat) (c : Comb) (o : BulkOp) : State :=
  let bs := if o.fn = 3 then List.replicate o.len (o.fill, false) else sourceBytes s t c o
  let bad := bs.any (·.2)
  let past := { c with srcOff := if o.fn = 3 then c.srcOff else c.srcOff + nw o.len,
                       dstOff := if o.fn = 4 then c.dstOff else c.dstOff + nw o.len }
  if o.fn = 4 then
    let sum := sumBytes c.sum ((bs.takeWhile (fun e => !e.2)).map (·.1))
    setComb s comb (if bad then { c with sum := sum, err := true, errCode := 3, op := none } else { past with sum := sum, op := none })
  else
    let s := match bulkFrame s t c.dstH with | some f => modFrame s f (fun x => writeBytes x c.dstOff.toNat bs) | none => s
    setComb s comb { past with op := none, errCode := if bad then 3 else c.errCode }

/-- BK_OP_DONE: a running operation completes, and UNIT is raised. -/
def execBkOpDone (comb : Nat) (s : State) : Host.Outcome State Fault Refusal :=
  .next (
    let c := getComb s comb
    match c.op, c.claim with
    | some o, some t => if o.running then raiseEvent (runBulk s comb t c o) t 14 else s
    | _, _ => s)

end Sys2Proof.Machine
end

