-- ==== Sys2Proof/Machine/MemFlow.lean ====
section
/-!
DEFINITION. Loads and stores, the stack, string instructions and their repeat, branches and calls, instruction space, WAIT, SIGNAL and
the SYS group (R142 to R153).
-/

namespace Sys2Proof.Machine

/-! ## LD and ST (R142) -/

/-- The address of a data-space operand, and its X register afterwards (R142). -/
def memAddr (i : Issue) (r : Regs) (x : XReg) (mode : BitVec 2) (off : BitVec 13) : Word × Word :=
  match mode.toNat with
  | 0 => (r.x[x] + immOf i (off.signExtend 16), r.x[x])
  | 1 => (r.x[x], r.x[x] + 1)
  | 2 => (r.x[x] - 1, r.x[x] - 1)
  | _ => (immOf i (off.zeroExtend 16), r.x[x])

/-- LD Wd, address. -/
def execLd (i : Issue) (d : WReg) (x : XReg) (mode : BitVec 2) (off : BitVec 13) (s : State) :
    Host.Outcome State Fault Refusal :=
  .next (issue s i (okMem i x mode off) [] false (fun s =>
    let m := memAddr i (regsOf s i.tid) x mode off
    checkRead s i.tid m.1.toNat (fun v => .done (setW (setX s i.tid x m.2) i.tid d v) 1 [(m.1.toNat, false)])))

/-- ST address, Wa. -/
def execSt (i : Issue) (a : WReg) (x : XReg) (mode : BitVec 2) (off : BitVec 13) (s : State) :
    Host.Outcome State Fault Refusal :=
  .next (issue s i (okMem i x mode off) [a] false (fun s =>
    let m := memAddr i (regsOf s i.tid) x mode off
    if !writable s i.tid m.1.toNat then .fault 3 m.1
    else .done (setX (writeW s i.tid m.1.toNat (regsOf s i.tid).w[a]) i.tid x m.2) 1 [(m.1.toNat, true)]))

/-! ## The stack (R107, R144, R146) -/

/-- Words `a`, `a + 1`, … as watched accesses. -/
def spanAccs (a n : Nat) (wr : Bool) : List (Nat × Bool) := (range' a n).map (fun k => (k, wr))

/-- Push words below X7: STACK when the lowest lies under STK_LO, REGION when a word may not be written (R107, R144). -/
def pushWords (s : State) (t : Nat) (ws : List Word) (k : State → Act) : Act :=
  let x7 := (regsOf s t).x[7]
  let n := ws.length
  let sp := x7.toNat - n
  if x7.toNat < n + stkLo s t then .fault 7 (x7 - nw n)
  else if (range' sp n).any (fun a => !writable s t a) then .fault 3 (nw sp)
  else k (setX (writeWs s t sp ws) t 7 (nw sp))

/-- Pop `n` words from X7: STACK when X7 lies under STK_LO or the span passes 0x1000 (R144). -/
def popWords (s : State) (t n : Nat) (k : List Word → State → Act) : Act :=
  let x7 := (regsOf s t).x[7].toNat
  if x7 < stkLo s t ∨ x7 + n > 0x1000 then .fault 7 (nw x7)
  else if (range' x7 n).any (poisonedW s t) then .fault 9 (nw x7)
  else k ((range' x7 n).map (readW s t)) (setX s t 7 (nw (x7 + n)))

/-- Write the word registers of a list from the words popped. -/
def loadRegs (s : State) (t : Nat) : List WReg → List Word → State
  | d :: ds, w :: ws => loadRegs (setW s t d w) t ds ws
  | _, _ => s

/-- Issue cycles of `n` stack words (R132). -/
def stackCycles (n : Nat) : Nat := (n + 1) / 2

/-- PUSH mask: registers in ascending order from the lowest address (R144). -/
def execPush (i : Issue) (mask : Word) (s : State) : Host.Outcome State Fault Refusal :=
  .next (issue s i (okPlain i && decide (mask ≠ 0)) (maskRegs mask) false (fun s =>
    let ws := (maskRegs mask).map (fun d => (regsOf s i.tid).w[d])
    pushWords s i.tid ws (fun s' =>
      .done s' (stackCycles ws.length) (spanAccs (regsOf s' i.tid).x[7].toNat ws.length true))))

/-- POP mask (R144). -/
def execPop (i : Issue) (mask : Word) (s : State) : Host.Outcome State Fault Refusal :=
  .next (issue s i (okPlain i && decide (mask ≠ 0)) [] false (fun s =>
    let n := (maskRegs mask).length
    popWords s i.tid n (fun ws s' =>
      .done (loadRegs s' i.tid (maskRegs mask) ws) (stackCycles n) (spanAccs (regsOf s i.tid).x[7].toNat n false))))

/-- The register mask of a call: the IMM prefix, or none (R146). -/
def callMask (i : Issue) : Word := match i.pfx with | .imm k => k | _ => 0

/-- The frame of a call, from its lowest word upward (R146). -/
def callFrame (r : Regs) (ret : Word) (mask : Word) (ext : Bool) : List Word :=
  [ret] ++ (if ext then predWord r :: [r.x[0], r.x[1], r.x[2], r.x[3], r.x[4], r.x[5], r.x[6]] else []) ++
    (maskRegs mask).map (fun d => r.w[d])

/-- CALL and CALLX: push the frame and branch to the target (R146). -/
def doCall (s : State) (i : Issue) (k : Word) (ext : Bool) : State :=
  issue s i (okCall i) (maskRegs (callMask i)) false (fun s =>
    let r := regsOf s i.tid
    let ws := callFrame r r.pc (callMask i) ext
    pushWords s i.tid ws (fun s' =>
      .done (setPc s' i.tid k) (stackCycles ws.length) (spanAccs (regsOf s' i.tid).x[7].toNat ws.length true)))

/-- RET and RETX: read the frame in the same layout by their own mask (R146). -/
def doRet (s : State) (i : Issue) (mask : Word) (ext : Bool) : State :=
  issue s i (okPlain i) [] true (fun s =>
    let n := (if ext then 9 else 1) + (maskRegs mask).length
    popWords s i.tid n (fun ws s' =>
      let s' := setPc s' i.tid (wordAt ws 0)
      let s' :=
        if ext then
          mapRegs s' i.tid (fun r =>
            let r := unpackPreds r (wordAt ws 1)
            { r with x := Vector.ofFn (fun k : Fin 8 => if k.val < 7 then wordAt ws (2 + k.val) else r.x[k]) })
        else s'
      .done (loadRegs s' i.tid (maskRegs mask) (ws.drop (if ext then 9 else 1))) (stackCycles n)
        (spanAccs (regsOf s i.tid).x[7].toNat n false)))

/-- CALL (R146). -/
def execCall (i : Issue) (k : Word) (s : State) : Host.Outcome State Fault Refusal := .next (doCall s i k false)
/-- CALLX (R146). -/
def execCallx (i : Issue) (k : Word) (s : State) : Host.Outcome State Fault Refusal := .next (doCall s i k true)
/-- RET (R146). -/
def execRet (i : Issue) (mask : Word) (s : State) : Host.Outcome State Fault Refusal := .next (doRet s i mask false)
/-- RETX (R146). -/
def execRetx (i : Issue) (mask : Word) (s : State) : Host.Outcome State Fault Refusal := .next (doRet s i mask true)

/-! ## Branches (R145) -/

/-- BR. -/
def execBr (i : Issue) (k : Word) (s : State) : Host.Outcome State Fault Refusal :=
  .next (issue s i (okPlain i) [] true (fun s => .done (setPc s i.tid k) 1 []))

/-- DBNZ: d ← d − 1; taken when the new d is not 0. -/
def execDbnz (i : Issue) (d : WReg) (k : Word) (s : State) : Host.Outcome State Fault Refusal :=
  .next (issue s i (okPlain i) [d] false (fun s =>
    let v := (regsOf s i.tid).w[d] - 1
    let s := setW s i.tid d v
    .done (if v ≠ 0 then setPc s i.tid k else s) 1 []))

/-- BRX. -/
def execBrx (i : Issue) (x : XReg) (s : State) : Host.Outcome State Fault Refusal :=
  .next (issue s i (okPlain i) [] true (fun s => .done (setPc s i.tid (regsOf s i.tid).x[x]) 1 []))

/-! ## String instructions (R147 to R149) -/

/-- The four string instructions. -/
inductive StrOp where
  | movs | cmps | scans | fills
  deriving DecidableEq, Repr

/-- X5 is read, X6 is read, X6 is written (R147, R148). -/
def StrOp.src (o : StrOp) : Bool := o = .movs || o = .cmps || o = .scans
def StrOp.dstRead (o : StrOp) : Bool := o = .cmps
def StrOp.dstWrite (o : StrOp) : Bool := o = .movs || o = .fills

/-- What one iteration does: it stops or goes on, in a new state. -/
inductive Iter where
  | fault (cause : Nat) (addr : Word)
  | stall
  | ok (s : State) (stopped : Bool)

/-- A word that an iteration reads, where it reads one (R103, R148). -/
def iterRead (s : State) (t a : Nat) (need : Bool) (k : Word → Iter) : Iter :=
  if !need then k 0
  else if waitsSlot s t a then .stall
  else if poisonedW s t a then .fault 9 (nw a)
  else k (readW s t a)

/-- One iteration of a string instruction (R147). An iteration that stops changes no X register. -/
def strIter (s : State) (t : Nat) (o : StrOp) (v : WReg) : Iter :=
  let r := regsOf s t
  let p5 := r.x[5]
  let p6 := r.x[6]
  if o.src && !readable s t p5.toNat then .fault 3 p5
  else if (o.dstRead && !readable s t p6.toNat) || (o.dstWrite && !writable s t p6.toNat) then .fault 3 p6
  else iterRead s t p5.toNat o.src (fun a => iterRead s t p6.toNat o.dstRead (fun b =>
    match o with
    | .movs => .ok (setX (setX (writeW s t p6.toNat a) t 5 (p5 + 1)) t 6 (p6 + 1)) false
    | .fills => .ok (setX (writeW s t p6.toNat r.w[v]) t 6 (p6 + 1)) false
    | .cmps => if a = b then .ok (setX (setX s t 5 (p5 + 1)) t 6 (p6 + 1)) false else .ok s true
    | .scans => if a = r.w[v] then .ok s true else .ok (setX s t 5 (p5 + 1)) false))

/-- CMPS and SCANS write their predicate. -/
def strPred (s : State) (t : Nat) (o : StrOp) (pd : PReg) (b : Bool) : State :=
  if o = .cmps ∨ o = .scans then setP s t pd b else s

def setRpt (s : State) (t : Nat) (b : Bool) : State := setPs s t (psBit (regsOf s t).ps rptBit b)

/-- The words that an iteration at these pointers accesses. -/
def strAccs (r : Regs) (o : StrOp) (n : Nat) : List (Nat × Bool) :=
  (if o.src then spanAccs r.x[5].toNat n false else []) ++
    (if o.dstRead || o.dstWrite then spanAccs r.x[6].toNat n o.dstWrite else [])

/-- The loop of a repeat (R148), with at most `fuel` iterations left; `n` have been done. `pc` is the address of the REP, where a repeat
that ends early stays; `one` stops it after one iteration (R120). -/
def repLoop (t : Nat) (o : StrOp) (v : WReg) (pd : PReg) (pc : Word) (one : Bool) (r0 : Regs) (fuel n : Nat) (s : State) : Act :=
  match fuel with
  | 0 => .done s n (strAccs r0 o n)
  | k + 1 =>
    match strIter s t o v with
    | .fault c a => .faultKeep s c a
    | .stall => .stallKeep s
    | .ok s' true => .done (setRpt (strPred s' t o pd true) t false) (n + 1) (strAccs r0 o (n + 1))
    | .ok s' false =>
      let s' := setBc s' t ((regsOf s' t).bc - 1)
      if (regsOf s' t).bc = 0 then .done (setRpt (strPred s' t o pd false) t false) (n + 1) (strAccs r0 o (n + 1))
      else
        let s' := setRpt s' t true
        if one then .done (setPc s' t pc) (n + 1) (strAccs r0 o (n + 1)) else repLoop t o v pd pc one r0 k (n + 1) s'

/-- The span check of a repeat, before any iteration (R148): ADDR_WRAP, with the pointer, then REGION, with the first word that may not be
accessed (DEDUCED, log entry 118). -/
def repCheck (s : State) (t : Nat) (o : StrOp) (n : Nat) : Option (Nat × Word) :=
  let r := regsOf s t
  let wraps (p : Word) : Bool := decide (p.toNat + n - 1 > 0xFFFF)
  let p5 := r.x[5]
  let p6 := r.x[6]
  let use6 := o.dstRead || o.dstWrite
  let bad (p : Word) (right : Nat → Bool) : Option Nat := (range' p.toNat n).find? (fun a => !right a)
  if o.src && wraps p5 then some (2, p5)
  else if use6 && wraps p6 then some (2, p6)
  else
    match (if o.src then bad p5 (readable s t) else none) with
    | some a => some (3, nw a)
    | none =>
      match (if o.dstRead then bad p6 (readable s t) else if o.dstWrite then bad p6 (writable s t) else none) with
      | some a => some (3, nw a)
      | none => none

/-- A string instruction, once or repeated under BC (R147, R148). -/
def doString (s : State) (i : Issue) (ok : Bool) (o : StrOp) (v : WReg) (pd : PReg) : State :=
  let pc := (regsOf s i.tid).pc
  issue s i ok (if o = .scans ∨ o = .fills then [v] else []) false (fun s =>
    let t := i.tid
    if i.pfx = .rep then
      let bc := (regsOf s t).bc.toNat
      if bc = 0 then .done (setRpt (strPred s t o pd false) t false) 1 []
      else
        match repCheck s t o bc with
        | some (c, a) => .fault c a
        | none => repLoop t o v pd pc (getT s t).stepping (regsOf s t) bc 0 s
    else
      match strIter s t o v with
      | .fault c a => .fault c a
      | .stall => .stall
      | .ok s' stopped => .done (strPred s' t o pd stopped) 1 (strAccs (regsOf s t) o 1))

/-- MOVS (R147). -/
def execMovs (i : Issue) (v : WReg) (pd : PReg) (s : State) : Host.Outcome State Fault Refusal :=
  .next (doString s i (okString i && decide (v = 0) && decide (pd = 0)) .movs v pd)
/-- CMPS (R147). -/
def execCmps (i : Issue) (v : WReg) (pd : PReg) (s : State) : Host.Outcome State Fault Refusal :=
  .next (doString s i (okString i && decide (v = 0) && decide (pd ≠ 0)) .cmps v pd)
/-- SCANS (R147). -/
def execScans (i : Issue) (v : WReg) (pd : PReg) (s : State) : Host.Outcome State Fault Refusal :=
  .next (doString s i (okString i && decide (pd ≠ 0)) .scans v pd)
/-- FILLS (R147). -/
def execFills (i : Issue) (v : WReg) (pd : PReg) (s : State) : Host.Outcome State Fault Refusal :=
  .next (doString s i (okString i && decide (pd = 0)) .fills v pd)

/-! ## Instruction space, events and SYS (R151 to R153, R177, R178) -/

/-- An instruction unit of the image that thread `t` runs (R151); unstaged units are 0. -/
def progUnit (s : State) (t a : Nat) : BitVec 32 := kget s.core.prog (progKey (thrComb t) (thrImage s t) a) 0

/-- LDIS (R151). -/
def execLdis (i : Issue) (d : WReg) (x : XReg) (h : Bool) (s : State) : Host.Outcome State Fault Refusal :=
  .next (issue s i (okPlain i) [] false (fun s =>
    let a := (regsOf s i.tid).x[x].toNat
    let u := progUnit s i.tid a
    if fetchPoison s i.tid a then .fault 9 0
    else .done (setW s i.tid d (if h then u.extractLsb' 0 16 else u.extractLsb' 16 16)) 1 []))

/-- WAIT (R152, R177): takes a pending event of the mask at once, or puts the thread to sleep. -/
def execWait (i : Issue) (d : WReg) (mask : Word) (s : State) : Host.Outcome State Fault Refusal :=
  .next (issue s i (okPlain i && decide (mask ≠ 0)) [] false (fun s =>
    let x := getT s i.tid
    match takenBit (isSup i.tid) x.pend mask with
    | some n => .done (setW (setT s i.tid { x with pend := clrBit x.pend n }) i.tid d (nw n)) 1 []
    | none => .sleep (setT s i.tid { x with wait := some ⟨mask, d⟩ })))

/-- The threads that COMB reaches (R178): those of the comb that hold a work item, every thread 0 of the comb, and the signaller. -/
def combTargets (s : State) (t : Nat) : List Nat :=
  ((combCells (thrComb t)).flatMap cellThreads).filter (fun u => isSup u || (getT s u).item.isSome || decide (u = t))

/-- SIGNAL (R178). -/
def signalEvent (s : State) (t : Nat) (target : Word) (ev : Nat) : State :=
  if ev = 15 then forEach (combTargets s t) (fun s u => raiseEvent s u 15) s
  else if target.toNat / 8 ≠ t / 8 then
    record (cnt s .evCntSigBad (thrDie t) (cellInst (thrCell t))) (thrDie t) 0x4013 (thrMaster t) [nw t, target, nw ev]
  else if !isSup target.toNat && (getT s target.toNat).item.isNone then
    cnt s .evCntSigLost (thrDie t) (cellInst (thrCell t))
  else raiseEvent s target.toNat ev

/-- SIGNAL Wa, ev (R178). -/
def execSignal (i : Issue) (a : WReg) (ev : BitVec 4) (s : State) : Host.Outcome State Fault Refusal :=
  .next (issue s i (okPlain i && okSignal ev) [a] false (fun s =>
    .done (signalEvent s i.tid (regsOf s i.tid).w[a] ev.toNat) 1 []))

/-- NOP (R153). -/
def execNop (i : Issue) (s : State) : Host.Outcome State Fault Refusal :=
  .next (issue s i (okPlain i) [] false (fun s => .done s 1 []))

/-- Whether the cell's debugger can halt thread `t` (R118, R153): a session any thread, the supervisor threads 1 to 7. -/
def canHalt (s : State) (t : Nat) : Bool :=
  match (getCell s (thrCell t)).dbg with
  | some (.session _) => true
  | some .supervisor => !isSup t
  | none => false

/-- BRK: a NOP; then the thread halts when its debugger can halt it (R153). -/
def execBrk (i : Issue) (s : State) : Host.Outcome State Fault Refusal :=
  .next (issue s i (okPlain i) [] false (fun s =>
    .done (if canHalt s i.tid then dbgRecord (haltThread s i.tid) 0x4005 i.tid else s) 1 []))

end Sys2Proof.Machine
end

