-- ==== Sys2Proof/Machine/Recorder.lean ====
section
/-! DEFINITION. The event recorder (19): die buffers, flushes to the nonvolatile store, the power-fail flush. -/

namespace Sys2Proof.Machine

/-! ## Forwarding and rate limits (R440, R442, R443) -/

/-- Whether die `d` forwards its records: it exists, is not retired, and a lead stands. -/
def forwards (s : State) (d : Nat) : Bool := decide (d < s.pkg.n) && !s.pkg.retired.getLsbD d && !s.pkg.noLead

/-- The oldest record of a die's buffer reaches the lead. -/
def forwardOne (s : State) (d : Nat) : State :=
  match dieBuf s d with
  | [] => s
  | r :: rest =>
    let at_ := kset s.log.dumpAt d (kget s.log.dumpAt d 0 - 1) 0
    logRecord { s with log := { s.log with buf := kset s.log.buf d rest [], dumpAt := at_ } } r

def execRecordForward (die : Nat) (s : State) : Host.Outcome State Fault Refusal :=
  .next (if forwards s die then forwardOne s die else s)

/-- Every record of a die's buffer reaches the lead. -/
def forwardAll (s : State) (d : Nat) : State := (dieBuf s d).foldl (fun s _ => forwardOne s d) s

/-- REC_TOKEN_REFILL: a bucket below BURST gains one token every 1/RATE s from when it fell below. -/
def execRecTokenRefill (die code : Nat) (s : State) : Host.Outcome State Fault Refusal :=
  .next (
    let b := rateBucket s die (nw code)
    let step := nsPerS / max 1 b.rate
    if die < s.pkg.n ∧ code < 65536 ∧ 0 < b.rate ∧ b.rate < 0xFFFF ∧ b.tokens < b.burst ∧ mono s die ≥ b.below + step then
      setRateBucket s die (nw code) { b with tokens := b.tokens + 1, below := b.below + step }
    else s)

/-! ## The nonvolatile store (R447) -/

/-- Image slots and state slots of die `d`'s device. -/
def nvKey (d k : Nat) : Nat := d * 2 + k
def nvImage (s : State) (d k : Nat) : Option NvImage := kget s.log.images (nvKey d k) none
def setNvImage (s : State) (d k : Nat) (x : Option NvImage) : State :=
  { s with log := { s.log with images := kset s.log.images (nvKey d k) x none } }

/-- The slot that the next flush writes: one without a valid image, else the older. -/
def flushSlot (s : State) (d : Nat) : Nat :=
  match nvImage s d 0, nvImage s d 1 with
  | none, _ => 0
  | _, none => 1
  | some a, some b => if (b.image - a.image).toNat < 2 ^ 31 then 0 else 1

/-- The valid images of the lead's device, the newer first. -/
def validImages (s : State) : List NvImage :=
  let d := s.pkg.lead
  match nvImage s d 0, nvImage s d 1 with
  | some a, some b => if (b.image - a.image).toNat < 2 ^ 31 then [b, a] else [a, b]
  | some a, none => [a]
  | none, some b => [b]
  | none, none => []

/-- The state block as it stands. -/
def stateBlock (s : State) : StateBlock := ⟨stime s s.pkg.lead, s.tal.nextSeq, s.tal.lastMinute, s.flt.thermal⟩

/-- STATE_BLOCK_WRITE: the state block is written to the older state slot. -/
def writeStateBlock (s : State) : State :=
  let d := s.pkg.lead
  let k :=
    match kget s.log.stateBlocks (nvKey d 0) none, kget s.log.stateBlocks (nvKey d 1) none with
    | none, _ => 0
    | _, none => 1
    | some a, some b => if a.time ≤ b.time then 0 else 1
  { s with log := { s.log with stateBlocks := kset s.log.stateBlocks (nvKey d k) (some (stateBlock s)) none } }

def execStateBlockWrite (s : State) : Host.Outcome State Fault Refusal :=
  .next (if s.pkg.running ∧ s.pkg.noLead = false then writeStateBlock s else s)

/-- The newest valid state block of a device: of its images and its state slots. -/
def newestBlock (s : State) (d : Nat) : Option StateBlock :=
  let l := [nvImage s d 0, nvImage s d 1].filterMap (fun x => x.map (·.state)) ++
    [kget s.log.stateBlocks (nvKey d 0) none, kget s.log.stateBlocks (nvKey d 1) none].filterMap id
  l.foldl (fun a b => match a with | none => some b | some x => if x.time ≤ b.time then some b else some x) none

/-! ## Flushes (R448, R449) -/

/-- Begin a flush of what the log holds now. -/
def beginFlush (s : State) (reason : Nat) : State :=
  let f : Flush :=
    { reason := reason, count := s.log.log.length, notrec := getR s .recCntNotrec s.pkg.lead 0, stime := stime s s.pkg.lead, mono := leadMono s,
      again := none }
  { s with log := { s.log with flush := some f } }

/-- Request a flush: one that runs takes it in. -/
def requestFlush (s : State) (reason : Nat) : State :=
  if s.pkg.noLead then s
  else
    match s.log.flush with
    | some f => { s with log := { s.log with flush := some { f with again := some reason } } }
    | none => beginFlush s reason

/-- A completed or failed flush is recorded. -/
def flushRecord (s : State) (f : Flush) (result : Nat) (image : BitVec 32) : State :=
  recordK s s.pkg.lead 0xF004
    ([nw f.reason, nw result] ++ wordsOf 2 f.count ++ [nw image.toNat, nw (min 65535 ((leadMono s - f.mono) / 1000))])

/-- A flush that took another request in is followed by one more when records were logged in the meantime. -/
def followFlush (s : State) (f : Flush) : State :=
  match f.again with
  | some r => if s.log.log.length > f.count then beginFlush s r else s
  | none => s

/-- FLUSH_DONE: the image is complete and the other slot is erased, or the device did not acknowledge a write: the image begun is then
invalid. -/
def execFlushDone (ok : Bool) (s : State) : Host.Outcome State Fault Refusal :=
  .next (
    match s.log.flush with
    | none => s
    | some f =>
      let d := s.pkg.lead
      let k := flushSlot s d
      let s := { s with log := { s.log with flush := none } }
      if ok then
        let n := s.log.lastImage + 1
        let x : NvImage := ⟨n, d, f.reason, f.stime, s.log.log.take f.count, f.notrec, stateBlock s⟩
        let s := setNvImage (setNvImage s d k (some x)) d (1 - k) none
        let s := cntWrap { s with log := { s.log with lastImage := n, nvFail := false } } .recCntFlush d 0
        let again := followFlush s f
        flushRecord again f 0 n
      else
        let s := setNvImage { s with log := { s.log with nvFail := true } } d k none
        flushRecord (followFlush s f) f 1 s.log.lastImage)

/-- REC_CHECKPOINT: the entry has fired. -/
def execRecCheckpoint (die : Nat) (s : State) : Host.Outcome State Fault Refusal :=
  .next (
    match takeFired s die 7 with
    | none => s
    | some (_, s) => requestFlush s 4)

/-- Place the REC_CHECKPOINT entry on the lead as REC.CFG has it, or remove it (R448). -/
def placeCheckpoint (s : State) : State :=
  let d := s.pkg.lead
  let c := getR s .recCfg d 0
  let p := bitsOf c 0 11 * 60000000
  setSched s d entCheckpoint (if bitsOf c 11 1 = 1 then some (sysEntry 7 true (stime s d + p * 1000) p 0) else none)

/-- PFAIL_N rises again: the flush completes and the part goes on (R507). -/
def execPfailRise (s : State) : Host.Outcome State Fault Refusal := .next { s with log := { s.log with pfail := none } }

end Sys2Proof.Machine
end

