-- ==== Sys2Proof/Machine/Retire.lean ====
section
/-!
DEFINITION. What leaves service (R25 to R27, R408, R409): cells, banks and dies retire, their stand-ins take over, the lead passes.
-/

namespace Sys2Proof.Machine

/-! ## A die's data path is emptied (R86, R409, R465) -/

/-- Whether a master is a cell thread of die `d`. -/
def ownThread (d : Nat) (m : Word) : Bool := decide (m.toNat < 0x4000) && decide (m.toNat / 2048 = d)

/-- Locks of die `d` that its threads hold are freed and marked. -/
def dropDieLocks (s : State) (d : Nat) : State :=
  let held := s.core.locks.filterMap (fun e =>
    if e.1 / 4096 = d then e.2.owner.bind (fun m => if ownThread d m then some (e.1 % 4096, m) else none) else none)
  forEach held (fun s x => abandonLock s d x.1 x.2) s

/-- Entries of a store whose key a die does not own. -/
def notOf {α : Type} (m : Map α) (n d : Nat) : Map α := m.filter (fun e => decide (e.1 / n ≠ d))

/-- The cells, frames, queues and engines of a die hold nothing any more. -/
def wipeDie (s : State) (d : Nat) : State :=
  let s := dropDieLocks s d
  let cells := s.core.cells.map (fun e => if cellDie e.1 = d then (e.1, { freshCell with retired := e.2.retired }) else e)
  let cells := cells.filter (fun e => decide (e.2 ≠ freshCell))
  let core := { s.core with
    threads := notOf s.core.threads 2048 d, cells := cells, combs := notOf s.core.combs 8 d, banks := notOf s.core.banks 8 d }
  let path := { s.path with
    frames := s.path.frames.filter (fun e => match e.2 with | some f => decide (f.die ≠ d) | none => true),
    ingress := s.path.ingress.filter (fun e => decide (gpnDie e.1 ≠ d)),
    pipes := notOf s.path.pipes 8 d, wq := notOf s.path.wq 128 d, tags := notOf s.path.tags 65536 d,
    domains := notOf s.path.domains 4096 d }
  let tbl := { s.tbl with
    engines := notOf s.tbl.engines 4 d, learnQ := notOf s.tbl.learnQ 1 d, tracker := notOf s.tbl.tracker 1 d,
    sweeps := notOf s.tbl.sweeps 64 d, notes := notOf s.tbl.notes 1 d, assist := notOf s.tbl.assist 1 d,
    rehash := notOf s.tbl.rehash 64 d }
  let egr := { s.egr with
    queues := s.egr.queues.filter (fun e => decide (qidDie e.1 ≠ d)),
    xfers := s.egr.xfers.filter (fun e => match e.2 with | some x => decide (x.src ≠ d) | none => true),
    offers := notOf s.egr.offers 1 d, jobs := notOf s.egr.jobs 1 d }
  let time := { s.time with sched := notOf s.time.sched 256 d, fired := notOf s.time.fired 1 d, alarms := notOf s.time.alarms 128 d }
  let insp := { s.insp with slices := notOf s.insp.slices 2 d, bank := notOf s.insp.bank 1 d }
  { s with core := core, path := path, tbl := tbl, egr := egr, time := time, insp := insp }

/-! ## The lead passes (R25 to R27) -/

/-- The deputy: die 1 while die 0 is lead, else die 0. -/
def deputy (s : State) : Nat := if s.pkg.lead = 0 then 1 else 0

/-- Image of the log that a failing lead writes to its own device (R26, R446). -/
def fatalImage (s : State) : State :=
  let d := s.pkg.lead
  let k := flushSlot s d
  let n := s.log.lastImage + 1
  let x : NvImage := ⟨n, d, 1, stime s d, s.log.log, getR s .recCntNotrec d 0, stateBlock s⟩
  let s := setNvImage (setNvImage s d k (some x)) d (1 - k) none
  { s with log := { s.log with lastImage := n } }

/-- The deputy takes the lead: sessions go to its host port, an open or sealed generation is discarded, a new package log starts. -/
def takeLead (s : State) (old new : Nat) : State :=
  let s := { s with
    pkg := { s.pkg with lead := new, leadMoved := true },
    log := { s.log with log := [], stopped := false, nvFail := false, flush := none },
    time := { s.time with correction := .idle, pendingSet := none },
    pair := { s.pair with joint := none, withdraw := none } }
  let s := forEach (allDies s) (fun s d => { s with pkg := { s.pkg with heard := kset s.pkg.heard d (leadMono s) 0 } }) s
  let s := forEach (range' 1 41) (fun s i =>
    match session s i with
    | some x => setSession s i (some { x with port := 256 + new })
    | none => s) s
  let s := logRecord s ⟨0, stime s new, 0x0005, keeperId new, 0, 0, [nw new, nw old, 0, 0, 0, 0, 0, 0]⟩
  let s :=
    match stagedSlot s with
    | some n => if slotState s (refDie s) n = 3 then s else abortGen s n 2
    | none => s
  placeCheckpoint s

/-- Dies 0 and 1 are both lost: no lead, no host port; every front port is held down (R27). -/
def loseLead (s : State) : State :=
  let s := { s with pkg := { s.pkg with noLead := true } }
  forEach (usableDies s) settlePorts s

/-! ## Dies (R409) -/

/-- Retire a die: `cls` is the fault class; `flush` says that its fatal-fault flush could run. -/
def retireDie (s : State) (d cls : Nat) (flush : Bool) : State :=
  if s.pkg.retired.getLsbD d ∨ d ≥ s.pkg.n then s
  else
    let bit := BitVec.ofNat 8 (2 ^ d)
    let lead := decide (d = s.pkg.lead)
    let s := if flush ∧ !lead ∧ !s.pkg.noLead then forwardAll s d else s
    let s := if flush ∧ lead ∧ !s.pkg.noLead then fatalImage s else s
    let s := withdrawDie s d
    let s := { s with pkg := { s.pkg with
      usable := s.pkg.usable &&& ~~~bit, retired := s.pkg.retired ||| bit, fenced := s.pkg.fenced &&& ~~~bit } }
    let s := wipeDie (settlePorts s d) d
    let s :=
      if lead ∧ !s.pkg.noLead then (if usable s (deputy s) then takeLead s d (deputy s) else loseLead s) else s
    if s.pkg.noLead then s
    else
      let s := recordF s cls s.pkg.lead 0x0011 (keeperId s.pkg.lead) [nw d, nw cls, if flush then 1 else 0]
      let s := if lead then s else requestFlush s 1
      let s := forEach (portsOf d) (fun s p => flushGpn s (gpnOf d p)) s
      refreshGroups s

/-! ## Cells (R408, R425, R428) -/

/-- The slice in progress on a comb, with its key. -/
def sliceOf (s : State) (k : Nat) : Option (Nat × Slice) :=
  s.insp.slices.findSome? (fun e => e.2.bind (fun x => if x.comb = k then some (e.1, x) else none))
def setSlice (s : State) (key : Nat) (x : Option Slice) : State :=
  { s with insp := { s.insp with slices := kset s.insp.slices key x none } }

/-- INSP.COMB_STAT of comb `k` (die × 8 + comb). -/
def combStat (s : State) (k lo w : Nat) : Nat := fieldR s .inspCombStat (k / 8) (k % 8) lo w
def setCombStat (s : State) (k lo w v : Nat) : State := setField s .inspCombStat (k / 8) (k % 8) lo w v

/-- The arrays of a cell become zero (R334): its scratch and its threads' private words. -/
def clearCellArrays (s : State) (c : Nat) : State :=
  let s := clearWords s (0x10000000 + c * 0x4000) 0x4000
  forEach (cellThreads c) (fun s t => clearWords s (t * 0x2000) 0x1000) s

/-- The contents of a cell's arrays put on another cell, with its thread enables (R424). -/
def moveCellArrays (s : State) (a b : Nat) : State :=
  let copy (s : State) (x y n : Nat) : State :=
    { s with core := { s.core with mem := spanCopy s.core.mem x y n, poison := spanMarks s.core.poison x y n } }
  let s := copy s (0x10000000 + a * 0x4000) (0x10000000 + b * 0x4000) 0x4000
  forEach (List.range 8) (fun s j => copy s ((a * 8 + j) * 0x2000) ((b * 8 + j) * 0x2000) 0x1000) s

/-- A cell is re-initialised: reset, and its arrays zero. -/
def reinitCell (s : State) (c : Nat) : State := clearCellArrays (cellReset s c) c

/-- A cell takes a position: its scratch is ON and its supervisor starts (R99). -/
def placeCell (s : State) (k p cell : Nat) : State :=
  let c := k * 32 + cell
  let s := setCellAt s k p cell
  let s := setUnitState (setField s .memBankPwr (k / 8) (cellUnit c) 0 2 0) (k / 8) (cellUnit c) 0
  cellReset s c

/-- The spare of a comb goes OFF (R336). -/
def sleepCell (s : State) (c : Nat) : State :=
  setUnitState (setField s .memBankPwr (cellDie c) (cellUnit c) 0 2 2) (cellDie c) (cellUnit c) 2

/-- End a slice that fault masking preempts: the physical cell that is free to stand in (R428). -/
def abortSlice (s : State) (key : Nat) (x : Slice) : Nat × State :=
  let k := x.comb
  let d := k / 8
  let s := setCombStat (setSlice s key none) k 5 5 31
  let s := recordK (cnt s .inspCntAbort d 0) d 0xB004 [nw (k % 8), nw x.step]
  if x.step = 2 then (x.spare, s) else (x.cell, reinitCell s (k * 32 + x.cell))

/-- Retire a cell after `n` failures: the comb's spare stands in through a fault-masking claim (R408). -/
def retireCell (s : State) (c n : Nat) : State :=
  if (getCell s c).retired then s
  else
    let k := c / 32
    let d := k / 8
    let p := placeOf s c
    let held := masked s 2 k
    let s := cellReset (modCell s c (fun x => { x with retired := true })) c
    if held then recordF s 4 d 0x4021 (keeperId d) [nw (c * 8), nw n, 1]
    else
      let (stand, s) :=
        match sliceOf s k with
        | some (key, x) => abortSlice s key x
        | none => (combStat s k 0 5, s)
      let s := raiseClaim s 2 k (c % 32) (keeperId d)
      let s := match p with | some p => placeCell s k p stand | none => s
      recordF s 4 d 0x4021 (keeperId d) [nw (c * 8), nw n, 0]

/-! ## Banks (R408, R433) -/

/-- The claim of a bank's group, and its spare: class, index, unit. -/
def groupOf (d u : Nat) : Nat × Nat × Nat :=
  if u ≤ 64 then (3, d, 64) else if u ≤ 128 ∨ u = 193 then (4, d * 2, 193) else (4, d * 2 + 1, 194)

def bankStep (s : State) (d : Nat) : Option BankStep := kget s.insp.bank d none
def setBankStep (s : State) (d : Nat) (x : Option BankStep) : State :=
  { s with insp := { s.insp with bank := kset s.insp.bank d x none } }

/-- Bring a spare bank ON or OFF. -/
def powerSpare (s : State) (d u st : Nat) : State := setUnitState (setField s .memBankPwr d u 0 2 st) d u st

/-- The spare serves for a retired bank. -/
def maskBank (s : State) (d u : Nat) : State :=
  let g := groupOf d u
  let s := { s with flt := { s.flt with retiredUnits := addNew (d * 512 + u) s.flt.retiredUnits } }
  let s := raiseClaim (powerSpare s d g.2.2 0) g.1 g.2.1 u (keeperId d)
  recordF s 14 d 0xA013 (keeperId d) [nw u, nw g.2.2]

/-- A bank retires with no spare free: a table bank takes its die with it, the buffers of a buffer bank are withdrawn, 1/128 of each pool
(DEDUCED, log entry 66). -/
def bankWithoutSpare (s : State) (d u : Nat) : State :=
  let s := { s with flt := { s.flt with retiredUnits := addNew (d * 512 + u) s.flt.retiredUnits } }
  let s := recordF s 14 d 0xA013 (keeperId d) [nw u, 0xFFFF]
  if u ≤ 64 then retireDie s d 14 true
  else forEach (List.range 4) (fun s p =>
    let m := kset s.insp.withdrawn (d * 4 + p) (kget s.insp.withdrawn (d * 4 + p) 0 + poolCount s d p / 128) 0
    { s with insp := { s.insp with withdrawn := m } }) s

/-- A bank step ends early. -/
def abortBank (s : State) (d : Nat) (b : BankStep) : State :=
  recordK (cnt (setBankStep s d none) .inspCntAbort d 0) d 0xB004 [nw (0x8000 + b.unit), nw b.step]

/-- Retire a bank. -/
def retireBank (s : State) (d u : Nat) : State :=
  if d * 512 + u ∈ s.flt.retiredUnits then s
  else
    let g := groupOf d u
    if masked s g.1 g.2.1 then bankWithoutSpare s d u
    else
      match bankStep s d with
      | some b =>
        if groupOf d b.unit ≠ g ∨ (getClaim s g.1 g.2.1).isNone then maskBank s d u
        else if b.step = 2 ∨ b.unit = g.2.2 then maskBank (abortBank s d b) d u
        else setBankStep s d (some { b with waiter := some (b.waiter.getD u) })
      | none => maskBank s d u

/-! ## Heartbeats between dies (R25) -/

/-- The die that hears another one's heartbeats: the lead, or its deputy. -/
def hearer (s : State) (d : Nat) : Nat := if d = s.pkg.lead then deputy s else s.pkg.lead

/-- DIE_HEARTBEAT. -/
def execDieHeartbeat (fromDie : Nat) (s : State) : Host.Outcome State Fault Refusal :=
  .next (
    if fromDie < s.pkg.n ∧ (usable s fromDie ∨ s.pkg.fenced.getLsbD fromDie) then
      { s with pkg := { s.pkg with heard := kset s.pkg.heard fromDie (mono s (hearer s fromDie)) 0 } }
    else s)

/-- DIE_LOST: no heartbeat for 400 µs, or the die reports a fatal fault, whose flush then runs. A lost lead without a usable deputy leaves
no lead. -/
def execDieLost (die : Nat) (fatal : Bool) (s : State) : Host.Outcome State Fault Refusal :=
  .next (
    let h := hearer s die
    let silent := usable s h && decide (mono s h ≥ kget s.pkg.heard die 0 + 400000)
    if s.pkg.running ∧ die < s.pkg.n ∧ (usable s die ∨ s.pkg.fenced.getLsbD die) ∧ (fatal ∨ silent) then retireDie s die 5 fatal
    else s)

end Sys2Proof.Machine
end

