-- ==== Sys2Proof/Machine/Faults.lean ====
section
/-!
DEFINITION. Faults that the part detects (R399 to R407, R37, R503, R510, R511): memory words, cells, Keepers, clocks, supplies,
temperatures; the commands of the fault family.
-/

namespace Sys2Proof.Machine

/-! ## SRAM words (R401, R407, R434) -/

/-- A fresh free word. -/
def drawWord (s : State) : Nat × State := ((Config.freeWord s.free).toNat, { s with free := s.free + 1 })

/-- Memories that are no power units, numbered behind them (DESIGN CHOICE, log entry 70): the access map, the program images, the graph
images, the constant stores, the Keeper's SRAM, the threads' private words. -/
def unitMap : Nat := 339
def unitProg : Nat := 340
def unitGraph : Nat := 341
def unitConst : Nat := 342
def unitKeeper : Nat := 343
def unitPrivate : Nat := 344

/-- Mark words of the flat store as uncorrectable. -/
def spoilWords (s : State) (a n : Nat) : State :=
  { s with core := { s.core with poison := (range' a n).foldl (fun l k => addNew k l) s.core.poison } }

/-- The first live slot of a die that `p` admits drifts on an uncorrectable word (R401). -/
def driftIn (s : State) (d : Nat) (p : Nat → Bool) : State :=
  match (liveSlots s d).find? p with
  | some n => drift s d n true
  | none => s

/-- The 16-byte units that the entry at position `p` fills. -/
def entryUnits (s : State) (d p : Nat) (e : Entry) : Nat :=
  match (liveSlots s d).find? (fun n => (tblDesc s d n e.tableId).en && inTable d (tblDesc s d n e.tableId) p) with
  | some n => descRows (tblDesc s d n e.tableId)
  | none => 1

/-- The entry that holds a codeword of a table bank's row has an uncorrectable error; a static one makes the die drift. -/
def spoilEntry (s : State) (d bank row word : Nat) : State :=
  let q := posChip d bank row (word / 2)
  match (dieEntries s d).find? (fun e => !isDeepPos e.1 && !isOvfPos e.1 && decide (e.1 ≤ q) && decide (q < e.1 + entryUnits s d e.1 e.2)) with
  | none => s
  | some (p, e) =>
    let s := setEntry s p (some { e with uncorr := true })
    if e.static_ then driftIn s d (fun n => e.slots.getLsbD n) else s

/-- A codeword of a buffer bank: which frame of the die it holds, if any, and where, the manual leaves open (log entry 71). -/
def spoilFrame (s : State) (d : Nat) : State :=
  let fs := (liveFrames s).filter (fun e => decide (e.2.die = d))
  let (r, s) := drawWord s
  let (o, s) := drawWord s
  let k := r % (fs.length + 1)
  if k = 0 then s
  else
    match fs[k - 1]? with
    | none => s
    | some (n, f) =>
      let at_ := o % (f.len / 8 + 1) * 8
      modFrame s n (fun f => { f with poison := ((range' at_ 8).filter (fun b => decide (b < f.len))).foldl (fun l b => addNew b l) f.poison })

/-- The table bank whose contents a unit holds: a spare those of the bank that it stands in for, a bank out of service none (R408, R431). -/
def contentBank (s : State) (d u : Nat) : Option Nat :=
  if u = 64 then
    match getClaim s 3 d, bankStep s d with
    | some c, b => if c.rank = 3 then some c.value else b.bind (fun b => if 3 ≤ b.step ∧ b.unit < 64 then some b.unit else none)
    | none, _ => none
  else
    match bankStep s d with
    | some b => if b.unit = u ∧ 3 ≤ b.step then none else some u
    | none => some u

/-- The contents of codeword `word` of a row are uncorrectable (R401): 4 data words to a codeword. -/
def spoil (s : State) (d u row word : Nat) : State :=
  if u ≤ 64 then (match contentBank s d u with | some b => spoilEntry s d b row word | none => s)
  else if u < 195 then spoilFrame s d
  else if u < 331 then spoilWords s (0x10000000 + ((d * 8 + (u - 195) / 17) * 32 + (u - 195) % 17) * 0x4000 + row % 512 * 32 + word % 8 * 4) 4
  else spoilWords s (0x20000000 + (d * 8 + (u - 331)) * 0x8000 + row % 1024 * 32 + word % 8 * 4) 4

/-- Replace a row by a spare row; none where the unit has no spare row left (R434). -/
def softRow (s : State) (d u row : Nat) : Option State :=
  let left := fieldR s .inspRepair d u 0 4
  if left = 0 then none
  else some { setField s .inspRepair d u 0 4 (left - 1) with insp := { s.insp with soft := s.insp.soft ++ [(d, u, row)] } }

/-- A unit whose rows cannot be repaired leaves service: a bank retires, a cell's scratch takes its cell with it, a comb's scratch the
cells of its comb (DEDUCED from R459, log entry 72). -/
def retireUnit (s : State) (d u : Nat) : State :=
  if u < 195 then retireBank s d u
  else if u < 331 then retireCell s ((d * 8 + (u - 195) / 17) * 32 + (u - 195) % 17) 1
  else forEach (combCells (d * 8 + (u - 331))) (fun s c => retireCell s c 1) s

/-- A word has become lasting (R407, kind 0). -/
def lastingWord (s : State) (d u row : Nat) (cls : Nat) : State :=
  match softRow s d u row with
  | some t => recordF t cls d 0xA012 (keeperId d) [nw u, nw row, nw (fieldR t .inspRepair d u 0 4)]
  | none => retireUnit s d u

/-- A corrected word (R399): counted under the 1 µs rule, and its location tracked. The failing bit is a free value. -/
def sramCe (s : State) (d u row word : Nat) : State :=
  let (b, s) := drawWord s
  let (x, s) := trackEvent s d (.word u row word) 0 false
  let s := if x.fresh then cnt s .fltCntSramCe d 0 else s
  let s := recordK s d 0xA010 [nw u, nw row, nw word, nw (b % 72)]
  if x.lasting then lastingWord s d u row 1 else s

/-- An uncorrectable word that the scrub meets. -/
def sramUe (s : State) (d u row word : Nat) : State :=
  let s := recordF (cnt s .fltCntSramUe d 0) 2 d 0xA011 (keeperId d) [nw u, nw row, nw word, keeperId d]
  let s := spoil s d u row word
  let (x, s) := trackEvent s d (.word u row word) 0 true
  if x.lasting then lastingWord s d u row 2 else s

/-! ## The Keeper (R403) -/

/-- Locks that the Keeper of a die holds are freed and marked (R174). -/
def dropKeeperLocks (s : State) (d : Nat) : State := forEach (locksOf s d (keeperId d)) (fun s n => abandonLock s d n (keeperId d)) s

/-- The Keeper of a die stops and restarts, or is lasting and its die retires. -/
def keeperFault (s : State) (d : Nat) : State :=
  let s := cnt s .fltCntKprMismatch d 0
  let (x, s) := trackEvent s d .keeper 3 false
  let s := recordF s 5 d 0x0010 (keeperId d) [nw d, nw x.count]
  if x.lasting then retireDie s d 5 true
  else
    let s := dropKeeperLocks s d
    { s with kpr := { s.kpr with restarting := kset s.kpr.restarting d (some (mono s d)) none } }

/-- KEEPER_MISMATCH. -/
def execKeeperMismatch (die : Nat) (s : State) : Host.Outcome State Fault Refusal :=
  .next (if s.pkg.running ∧ dieAlive s die ∧ (kget s.kpr.restarting die none).isNone then keeperFault s die else s)

/-! ## The scrub (R350) -/

/-- An uncorrectable word of a memory that is no power unit (R395, R401, R403). -/
def otherUe (s : State) (d u row word : Nat) : State :=
  let s := recordF (cnt s .fltCntSramUe d 0) 2 d 0xA011 (keeperId d) [nw u, nw row, nw word, keeperId d]
  if u = unitMap then
    let key := mapKey d (row % 18) (word % 48)
    let s := { s with kpr := { s.kpr with mapBad := addNew key s.kpr.mapBad } }
    if d = s.pkg.lead ∨ mapSick s s.pkg.lead then mapDrift s d 1 else s
  else if u = unitProg then
    let image := row % 16 % 2
    let s := spoilWords s (0x40000000 + progKey (d * 8 + row % 16 / 2) image (word % 65536)) 1
    driftIn s d (fun n => decide (slotPimg s d n = image))
  else if u = unitGraph then
    let s := spoilWords s (0x50000000 + graphKey d (row % 2) (word % 32768)) 1
    driftIn s d (fun n => decide (slotGimg s d n = row % 2))
  else if u = unitConst then
    let s := spoilWords s (constAddr (d * 8 + row % 32 / 4) (row % 4) (word % 8192)) 1
    driftIn s d (fun n => decide (n = row % 4))
  else if u = unitKeeper then
    if (kget s.kpr.restarting d none).isNone then keeperFault s d else s
  else spoilWords s ((d * 2048 + row % 2048) * 0x2000 + word % 4096) 1

/-- SRAM_SCRUB: the scrub reads the next row of a HELD unit; `flips` bits of a word are in error. -/
def execSramScrub (die unit row word flips : Nat) (s : State) : Host.Outcome State Fault Refusal :=
  .next (
    if !s.pkg.running ∨ !dieAlive s die ∨ flips = 0 then s
    else if unit < 339 then
      if !unitHeld s die unit ∨ die * 512 + unit ∈ s.flt.retiredUnits then s
      else if flips = 1 then sramCe s die unit row word
      else sramUe s die unit row word
    else if unit ≤ unitPrivate then
      if flips = 1 then
        let (b, s) := drawWord s
        recordK (cnt s .fltCntSramCe die 0) die 0xA010 [nw unit, nw row, nw word, nw (b % 72)]
      else otherUe s die unit row word
    else s)

/-! ## Cells (R402) -/

/-- ILLEGAL_STATE: `check` is 1 parity, 2 thread state, 3 scoreboard, 4 issue rule. The failure counts as one inspection failure. -/
def execIllegalState (cell check stage : Nat) (s : State) : Host.Outcome State Fault Refusal :=
  .next (
    let d := cellDie cell
    if !s.pkg.running ∨ !usable s d ∨ (getCell s cell).retired ∨ (placeOf s cell).isNone ∨ check = 0 ∨ check > 4 then s
    else
      let s := recordF (cnt s .fltCntIllegal d 0) 4 d 0x4020 (keeperId d) [nw (cell * 8), nw check, nw stage]
      let (x, s) := trackEvent s d (.cell cell) 1 false
      if x.lasting then retireCell s cell x.count else cellReset s cell)

/-! ## Clocks and supplies (R405, R503) -/

/-- The front ports of a die have no SerDes reference: every link is lost at once (R297). -/
def loseSerdes (s : State) (d : Nat) : State :=
  let s := { s with phy := { s.phy with noRef := kset s.phy.noRef d true false } }
  forEach (List.range 32) (fun s p =>
    let g := gpnOf d p
    let s := modPort s g (fun x => { x with pcsUp := false, pcsSince := mono s d })
    refreshGroups (loseLink s g)) s

/-- CLOCK_FAULT. -/
def execClockFault (die : Nat) (src : ClockSource) (s : State) : Host.Outcome State Fault Refusal :=
  .next (
    if !s.pkg.running ∨ !dieAlive s die then s
    else
      let note (s : State) (k : Nat) : State := recordF s 8 die 0x0013 (keeperId die) [nw die, nw k]
      match src with
      | .coreRef => retireDie (note s 0) die 8 true
      | .serdesRef => if kget s.phy.noRef die false then s else loseSerdes (note s 1) die
      | .timeClk => note { s with time := { s.time with tenMHz := { s.time.tenMHz with valid := false } } } 2
      | .pll => retireDie (note s 3) die 8 true)

/-- SERDES_REFERENCE_VALID: the links may return. -/
def execSerdesReferenceValid (die : Nat) (s : State) : Host.Outcome State Fault Refusal :=
  .next (if die < s.pkg.n then { s with phy := { s.phy with noRef := kset s.phy.noRef die false false } } else s)

/-- The number of a supply, in the order of R500, and its nominal value in mV (R500, R501). -/
def supplyNo (x : Supply) : Nat := match x with | .core => 0 | .sram => 1 | .a0v9 => 2 | .a1v2 => 3 | .vddq => 4 | .io => 5
def supplyMv (x : Supply) : Nat :=
  match x with
  | .core => 700 + 5 * Config.vid.toNat
  | .sram => 800
  | .a0v9 => 900
  | .a1v2 => 1200
  | .vddq => 1100
  | .io => 1800

/-- SUPPLY_FAULT: a supply has been more than 6 % from its nominal value for 5 µs. -/
def execSupplyFault (die : Nat) (supply : Supply) (mV : Nat) (s : State) : Host.Outcome State Fault Refusal :=
  .next (
    let off := 100 * (mV - supplyMv supply + (supplyMv supply - mV))
    if !s.pkg.running ∨ !dieAlive s die ∨ off ≤ 6 * supplyMv supply then s
    else retireDie (recordF s 10 die 0x0014 (keeperId die) [nw die, nw (supplyNo supply), nw mV]) die 10 true)

/-! ## Temperatures (R417, R510, R511) -/

def freshThermal : Thermal := ⟨[], 0, 0, 0, 0, false, 0⟩
def thermal (s : State) (d : Nat) : Thermal := kget s.flt.thermal d freshThermal
def setThermal (s : State) (d : Nat) (x : Thermal) : State :=
  { s with flt := { s.flt with thermal := kset s.flt.thermal d x freshThermal } }

/-- The hottest of the readings and its sensor. -/
def hottest (l : List Int) : Int × Nat :=
  l.zipIdx.foldl (fun a b => if b.1 > a.1 then b else a) (l.headD 0, 0)

/-- EV_THERMAL where the die's temperature, that of its hottest sensor, crosses a limit (DEDUCED, log entry 73). -/
def thermalCross (d limit : Nat) (old new : Int) (sensor : Nat) (s : State) : State :=
  if decide (old > (limit : Int) * 10) = decide (new > (limit : Int) * 10) then s
  else recordF s 12 d 0x0016 (keeperId d) ([nw d, nw sensor] ++ intWords 1 new ++ [nw limit])

/-- The history after a reading (R417): ms above 95 °C, peak, time-weighted sum. -/
def agedThermal (x : Thermal) (now : Nat) (temps : List Int) (hot : Int) : Thermal :=
  let ms := (now - x.lastRead) / 1000000
  { x with
    temps := temps, above95 := x.above95 + (if hot > 950 then ms else 0), peak := if x.temps = [] then hot else max x.peak hot,
    weighted := x.weighted + hot * ms, time := x.time + ms, lastRead := x.lastRead + ms * 1000000 }

/-- Whether the conditions of the service life are gone (R417). -/
def lifePassed (x : Thermal) : Bool := decide (x.above95 > 35064 * 3600000) || decide (x.peak > 1050)

/-- THERMTRIP (R511): the die shuts down, and THERMTRIP_N goes low until a cold reset. -/
def thermTrip (s : State) (d : Nat) : State :=
  let s := retireDie s d 12 true
  let out := if s.flt.thermTrip then s.out else s.out ++ [.thermTrip true]
  { s with out := out, flt := { s.flt with thermTrip := true, tripped := s.flt.tripped ||| BitVec.ofNat 8 (2 ^ d) } }

/-- THERMAL_READ: the four sensors of a die are read; temperatures in 0.1 °C. -/
def execThermalRead (die : Nat) (t0 t1 t2 t3 : Int) (s : State) : Host.Outcome State Fault Refusal :=
  .next (
    if !s.pkg.running ∨ die ≥ s.pkg.n then s
    else
      let temps := [t0, t1, t2, t3]
      let (hot, sensor) := hottest temps
      let x := thermal s die
      let old := if x.temps = [] then 0 else (hottest x.temps).1
      let y := agedThermal x (mono s die) temps hot
      let reg (s : State) (r : RegName) (v : Int) : State := setR s r die 0 (encInt 16 (clampInt 16 v))
      let s := reg (reg (reg (reg s .pwrTemp0 t0) .pwrTemp1 t1) .pwrTemp2 t2) .pwrTemp3 t3
      let s := thermalCross die 105 old hot sensor (thermalCross die 95 old hot sensor (setThermal s die y))
      let s :=
        if lifePassed y ∧ !x.lifeGone then
          recordF (setThermal s die { y with lifeGone := true }) 12 die 0x0017 (keeperId die)
            (nw die :: wordsOf 2 (y.above95 / 3600000) ++ intWords 1 y.peak)
        else s
      if hot ≥ 1150 ∧ dieAlive s die then thermTrip s die else s)

/-! ## Alignment of the followers (R37) -/

/-- ALIGN_FAULT: an error above 1 µs holds the follower's front ports down. -/
def execAlignFault (die : Nat) (err : Int) (s : State) : Host.Outcome State Fault Refusal :=
  .next (
    if err.natAbs > 1000 ∧ die ≠ s.pkg.lead ∧ usable s die ∧ fieldR s .timeStatus die 0 9 1 = 0 then
      recordK (settlePorts (setField s .timeStatus die 0 9 1 1) die) die 0x1005 (nw die :: intWords 2 err)
    else s)

/-- ALIGN_RECOVER: within 4 ns for 1 s, the ports rise again. -/
def execAlignRecover (die : Nat) (s : State) : Host.Outcome State Fault Refusal :=
  .next (
    if usable s die ∧ fieldR s .timeStatus die 0 9 1 = 1 then settlePorts (setField s .timeStatus die 0 9 1 0) die else s)

/-! ## Commands (R407, R413) -/

/-- The words of a location. -/
def locWords (l : Loc) : List Word :=
  match l with
  | .word u r w => [0, nw u, nw r, nw w]
  | .cell c => [1, nw (c * 8), 0, 0]
  | .lane k l => [2, nw k, nw l, 0]
  | .keeper => [3, 0, 0, 0]
  | .unit u => [4, nw u, 0, 0]

/-- A list behind its length. -/
def counted (l : List Word) (n : Nat) : List Word := nw n :: l

/-- What FLT_STATUS returns for a die: FLT.GUARANTEE, the retired cells, banks and lanes, the occupied tracker lines, the thermal history. -/
def fltWords (s : State) (d : Nat) : List Word :=
  let cells := s.core.cells.filterMap (fun e => if cellDie e.1 = d ∧ e.2.retired then some (nw (e.1 * 8)) else none)
  let units := s.flt.retiredUnits.filterMap (fun k => if k / 512 = d then some (nw (k % 512)) else none)
  let lanes := s.flt.retiredLanes.filterMap (fun k => if k / 2048 = d then some (nw (k % 2048)) else none)
  let lines := (trackOf s d).filter (fun l => !lineFree s d l)
  let x := thermal s d
  wordsOf 2 (getR s .fltGuarantee d 0) ++ counted cells cells.length ++ counted units units.length ++ counted lanes lanes.length ++
    counted (lines.flatMap (fun l => nw (l.kind + if l.lasting then 256 else 0) :: locWords l.loc ++ [nw (lineTimes s d l).length]))
      lines.length ++
    wordsOf 2 (x.above95 / 3600000) ++ intWords 1 x.peak ++ intWords 1 (if x.time = 0 then 0 else x.weighted / x.time)

/-- FLT_STATUS. -/
def execFltStatus (m : EmpMsg) (dies : BitVec 8) (s : State) : Host.Outcome State Fault Refusal :=
  .next (empCmd s m 0x09C0 observer (fun s _ => onDies s dies (fun s ds => answerOk s (ds.flatMap (fltWords s)))))

/-- FLT_THRESH_SET: a new threshold applies to later events (R407). -/
def execFltThreshSet (m : EmpMsg) (kind : Nat) (value : BitVec 32) (s : State) : Host.Outcome State Fault Refusal :=
  .next (empCmd s m 0x09C1 owner (fun s _ =>
    let v := value.toNat
    inRange s (decide (kind < 5 ∧ v % 256 ≠ 0 ∧ 1 ≤ v / 256 ∧ v / 256 ≤ 86400)) (fun s => answerOk (setAll s .fltThresh kind v) [])))

end Sys2Proof.Machine
end

