-- ==== Sys2Proof/Machine/Memories.lean ====
section
/-!
DEFINITION. External DRAM (R341 to R352): the controller's choice, corrected and uncorrectable reads, parity alerts, patrol scrub, power-down.
-/

namespace Sys2Proof.Machine

/-- 64-byte blocks of a die's DRAM (R341). -/
def dieBlocks (s : State) (d : Nat) : Nat := rankGib s d * (1 + fieldR s .memDramCfg d 0 21 1) * 2 * 16777216

/-- Add a result record of a die: the last 256 are kept (R436). -/
def pushResult (s : State) (d : Nat) (ws : List Word) : State :=
  let l := kget s.insp.results d [] ++ [ws]
  { s with insp := { s.insp with results := kset s.insp.results d (l.drop (l.length - 256)) [] } }

/-- A result record of KIND 4: a block that a scrub or a DRAM test reports (R349, R436). -/
def dramResult (d block outcome : Nat) : List Word :=
  [nw (0x4000 + d), 0, 0, 0, 0] ++ wordsOf 2 block ++ List.replicate 7 0 ++ [1, nw outcome]

/-! ## Reads (R343, R349) -/

/-- What a read of a block gives: its data, perhaps corrected, or poison. `flips` counts the bits in error, `retryFlips` those of the second read. -/
def readBlock (s : State) (d port block flips retryFlips : Nat) : Bool × State :=
  let ch := blockChan block
  let sick := blockPoison s d block 1
  if !sick ∧ (flips = 0 ∨ (flips ≥ 2 ∧ retryFlips = 0)) then (true, s)
  else if !sick ∧ (flips = 1 ∨ retryFlips = 1) then
    let (b, s) := drawWord s
    (true, recordK (cnt s .memCntDramCe d ch) d 0xA001 ([nw ch, nw (blockRank s d block)] ++ wordsOf 2 block ++ [nw (b % 40)]))
  else
    let s := { s with memo := { s.memo with dramPoison := addNew (poisonKey d block) s.memo.dramPoison } }
    (false, recordF (cnt s .memCntDramUe d ch) 7 d 0xA002 (keeperId d) ([nw ch, nw port] ++ wordsOf 2 block))

/-! ## The controller's choice (R344, R345) -/

/-- Target of a port in ns. -/
def portTarget (p : Nat) : Nat :=
  match p with | 0 => 600 | 1 => 5000 | 2 => 10000 | 3 => 50000 | 4 => 20000 | _ => 100000

/-- Urgency of a request. -/
def urgency (s : State) (d : Nat) (r : DramReq) : Nat :=
  let age := 100 * (mono s d - r.at_)
  let t := portTarget r.port
  if age ≥ 90 * t then 3 else if age ≥ 75 * t then 2 else if age ≥ 50 * t then 1 else 0

/-- Transfers of a port's share in a window of 1 µs, in 32nds, at the rate in use. -/
def shareLimit (s : State) (d port : Nat) : Nat :=
  let rate := match fieldR s .memDramCfg d 0 16 2 with | 0 => 32 | 1 => 28 | _ => 24
  getR s (shareReg port) d 0 * 25 * rate

/-- Transfers that a port has used in the present window. -/
def usedNow (s : State) (d port : Nat) : Nat :=
  if kget s.memo.window d 0 = mono s d / 1000 then kget s.memo.used (d * 8 + port) 0 else 0

/-- Count transfers of a port. -/
def useShare (s : State) (d port n : Nat) : State :=
  let w := mono s d / 1000
  let s := if kget s.memo.window d 0 = w then s
           else { s with memo := { s.memo with window := kset s.memo.window d w 0, used := notOf s.memo.used 8 d } }
  { s with memo := { s.memo with used := kset s.memo.used (d * 8 + port) (kget s.memo.used (d * 8 + port) 0 + n) 0 } }

/-- Whether request `a` is served before `b`, which stands behind it in order of arrival (R345): greater urgency, a port within its
share, the lower port. -/
def servedFirst (s : State) (d : Nat) (a b : DramReq) : Bool :=
  let over_ (r : DramReq) : Nat := if usedNow s d r.port * 32 ≤ shareLimit s d r.port then 0 else 1
  let ra := (3 - urgency s d a, over_ a, a.port)
  let rb := (3 - urgency s d b, over_ b, b.port)
  decide (ra.1 < rb.1) || (decide (ra.1 = rb.1) && (decide (ra.2.1 < rb.2.1) ||
    (decide (ra.2.1 = rb.2.1) && decide (ra.2.2 ≤ rb.2.2))))

/-- The request that a command slot serves. -/
def choose (s : State) (d : Nat) : List DramReq → Option DramReq
  | [] => none
  | a :: t => match choose s d t with | none => some a | some b => if servedFirst s d a b then some a else some b

/-! ## What a read brings (R211, R322, R349) -/

/-- A tenant's line restarts at zero for the open minute; the FAULT notification names the die, the tenant and the minute (R349). -/
def restartLine (s : State) (d tenant block : Nat) : State :=
  let minute := minuteOf s (stime s d)
  let s := setTenantLines s d tenant ((tenantLines s d tenant).filter (fun l => l.minute ≠ minute))
  let s := cleanBlocks s d block 1
  if s.pkg.noLead then s
  else notify s 0x8002 (7 :: [nw d, nw tenant] ++ wordsOf 2 minute ++ List.replicate 12 0)

/-- The data of a request. -/
def dramData (s : State) (d : Nat) (r : DramReq) (ok : Bool) : State :=
  if r.port = 0 then (if ok then setTag s r.tag r.bucket else s)
  else
    let s := cacheLine s d r.tag
    if ok then s else restartLine s d r.tag r.block

/-- DRAM_REQUEST: the controller serves a request in a command slot. -/
def execDramRequest (die flips retryFlips : Nat) (s : State) : Host.Outcome State Fault Refusal :=
  .next (
    match (if dieAlive s die then choose s die (dramReqs s die) else none) with
    | none => s
    | some r =>
      let s := setDramReqs s die ((dramReqs s die).erase r)
      let k := rankKey s die r.block
      let s := { s with memo := { s.memo with idleSince := kset s.memo.idleSince k (mono s die) 0 } }
      let s := useShare s die r.port r.blocks
      let s := if mono s die - r.at_ > portTarget r.port then cnt s .memCntDramLate die r.port else s
      let (ok, s) := readBlock s die r.port r.block flips retryFlips
      dramData s die r ok)

/-- DRAM_REFRESH: the contents stay, in power-down too (R346, R351); what it costs in time is not modelled. -/
def execDramRefresh (_die _channel : Nat) (s : State) : Host.Outcome State Fault Refusal := .next s

/-! ## Alerts, scrub, power-down (R348, R350, R351) -/

/-- A channel has failed: its die retires, and its requests complete as uncorrectable with it. -/
def failChannel (s : State) (d ch : Nat) : State :=
  let s := setField s .memDramCfg d 0 (22 + ch) 1 1
  let s := recordF s 7 d 0xA004 (keeperId d) [nw ch, 3]
  retireDie (setDramReqs s d []) d 7 true

/-- DRAM_ALERT: the controller replays; `again` says that the replay raised ALERT_n too, which happens at most three times in a row. -/
def execDramAlert (die channel commands : Nat) (again : Bool) (s : State) : Host.Outcome State Fault Refusal :=
  .next (
    let k := die * 2 + channel
    let n := kget s.memo.alerts k 0 + 1
    let put (n : Nat) : State := { s with memo := { s.memo with alerts := kset s.memo.alerts k n 0 } }
    if !s.pkg.running ∨ !dieAlive s die ∨ channel ≥ 2 ∨ commands > 64 then s
    else if !again then recordF (cnt (put 0) .memCntDramAlert die channel) 7 die 0xA003 (keeperId die) [nw channel, nw commands]
    else if n ≥ 3 then failChannel (put 0) die channel
    else put n)

/-- PATROL_SCRUB: the inspection port reads the next block. -/
def execPatrolScrub (die flips retryFlips : Nat) (s : State) : Host.Outcome State Fault Refusal :=
  .next (
    if !s.pkg.running ∨ !dieAlive s die then s
    else
      let b := kget s.memo.scrubPos die 0
      let (ok, s) := readBlock (useShare s die 5 1) die 5 b flips retryFlips
      let s := if ok then s else pushResult s die (dramResult die b 2)
      let next := if b + 1 ≥ dieBlocks s die then 0 else b + 1
      let s := if next = 0 then cntWrap s .memScrubPass die 0 else s
      { s with memo := { s.memo with scrubPos := kset s.memo.scrubPos die next 0 } })

/-- RANK_POWER_DOWN: a rank with no request waiting, PD_TIMER × 100 ns after its last one. -/
def execRankPowerDown (die channel rank : Nat) (s : State) : Host.Outcome State Fault Refusal :=
  .next (
    let k := (die * 2 + channel) * 2 + rank
    let idle := decide (mono s die ≥ kget s.memo.idleSince k 0 + fieldR s .memDramCfg die 0 8 8 * 100)
    let none_ := (dramReqs s die).all (fun r => decide (rankKey s die r.block ≠ k))
    if s.pkg.running ∧ dieAlive s die ∧ channel < 2 ∧ rank ≤ fieldR s .memDramCfg die 0 21 1 ∧ fieldR s .memDramCfg die 0 0 1 = 1 ∧ idle ∧
        none_ then
      { s with memo := { s.memo with down := kset s.memo.down k true false } }
    else s)

end Sys2Proof.Machine
end

