-- ==== Sys2Proof/Machine/Inspection.lean ====
section
/-!
DEFINITION. Inspection (R420 to R437): cell slices, bank steps, march tests on request, repairs and their commands.
-/

namespace Sys2Proof.Machine

/-! ## Result records (R436) -/

/-- Draw free words. -/
def drawWords (n : Nat) (s : State) : List Word × State :=
  ((List.range n).map (fun k => Config.freeWord (s.free + k)), { s with free := s.free + n })

/-- A result record of a march test or a bank step. What the engine read and where it failed first are free values. -/
def marchResult (s : State) (kind d u : Nat) (rows : List Nat) (outcome : Nat) : State :=
  if rows = [] then pushResult s d ([nw (kind * 4096 + d), nw u] ++ List.replicate 13 0 ++ [nw outcome])
  else
    let (ws, s) := drawWords 12 s
    let g (k : Nat) : Nat := (wordAt ws k).toNat
    let w0 := kind * 4096 + (g 0 % 6 + 1) * 256 + d
    let body := [nw (g 2 % 256)] ++ (ws.drop 3).take 4 ++ [nw (g 7 % 256)] ++ (ws.drop 8).take 4
    pushResult s d ([nw w0, nw u, nw (rows.headD 0), nw (g 1 % 576)] ++ body ++ [nw rows.length, nw outcome])

/-- A result record of a cell slice: the signatures are free values. -/
def sliceResult (s : State) (c : Nat) (step outcome : Nat) : State :=
  let a := (Config.bistSignature s.free).toNat
  let b := (Config.bistSignature (s.free + 1)).toNat
  pushResult { s with free := s.free + 2 } (cellDie c)
    ([nw (0x2000 + cellDie c), nw (c * 8), nw step, 0, 0] ++ wordsOf 4 a ++ [0] ++ wordsOf 4 b ++ [0, nw outcome])

/-! ## Cell slices (R424 to R428) -/

def lanes : List Nat := [0, 1]
/-- Slices of a die and their lanes. -/
def sliceKey (d lane : Nat) : Nat := d * 2 + lane
def getSlice (s : State) (key : Nat) : Option Slice := kget s.insp.slices key none

/-- The cell that a comb tests next: from the one noted, in ascending order modulo 17, skipping retired cells and, where fault masking
holds the spare, cells without a position. -/
def nextCellOf (s : State) (k : Nat) : Option Nat :=
  let from_ := kget s.insp.nextCell k 0
  ((List.range 17).map (fun j => (from_ + j) % 17)).find? (fun c =>
    cellUsable s (k * 32 + c) && (!masked s 2 k || (placeOf s (k * 32 + c)).isSome))

def setNextCell (s : State) (k c : Nat) : State := { s with insp := { s.insp with nextCell := kset s.insp.nextCell k (c % 17) 0 } }

/-- Whether a debugging session holds a cell. -/
def sessionHolds (s : State) (c : Nat) : Bool := match (getCell s c).dbg with | some (.session _) => true | _ => false

/-- Why a comb is passed over (R426, R382); 0 where it is not. -/
def combWhy (s : State) (k : Nat) : Nat :=
  if combStat s k 11 1 = 1 then 2
  else if masked s 2 k ∧ noCaploss s (k / 8) then 3
  else
    match nextCellOf s k with
    | none => 3
    | some c => if sessionHolds s (k * 32 + c) then 1 else 0

/-- A comb or unit is passed over. -/
def passOver (s : State) (d what why : Nat) : State := recordK (cnt s .inspCntPassover d 0) d 0xB003 [nw what, nw why]

/-- PASSOVER of a comb, which suspends its bound. -/
def setPass (s : State) (k v : Nat) : State :=
  if combStat s k 12 1 = v then s else refreshGuar (setCombStat s k 12 1 v) (k / 8)

/-- Start a slice on a lane (step 1): of a cell in service it waits for the drain; a spare is tested at once. -/
def startSlice (s : State) (d lane k c : Nat) : State :=
  let s := setPass s k 0
  let spare := combStat s k 0 5
  let fallback := masked s 2 k
  let s := if fallback then s else match takeClaim s 2 k 2 0 (keeperId d) c with | .ok t => t | .error _ => s
  let u := cellUnit (k * 32 + spare)
  let s := if fallback then s else setUnitState (setField s .memBankPwr d u 0 2 0) d u 0
  let step := if (placeOf s (k * 32 + c)).isNone then 5 else 2
  let s := setCombStat s k 5 5 c
  setSlice (setNextCell s k (c + 1)) (sliceKey d lane) (some ⟨k, c, spare, step, mono s d, fallback⟩)

/-- Start the next slice of a lane: combs are taken in rotating order. -/
def fireLane (d : Nat) (s : State) (lane : Nat) : State :=
  if (getSlice s (sliceKey d lane)).isSome ∨ fieldR s .inspCfg d 0 21 1 = 0 then s
  else
    let from_ := kget s.insp.nextComb (sliceKey d lane) 0
    let order := (List.range 4).map (fun j => (from_ + j) % 4)
    let comb (j : Nat) : Nat := d * 8 + lane * 4 + j
    let skipped := order.takeWhile (fun j => decide (combWhy s (comb j) ≠ 0))
    let s := forEach skipped (fun s j =>
      let why := combWhy s (comb j)
      setPass (passOver s d (comb j % 8) why) (comb j) (if why = 1 then 1 else 0)) s
    match order[skipped.length]? with
    | none => s
    | some j =>
      let s := { s with insp := { s.insp with nextComb := kset s.insp.nextComb (sliceKey d lane) ((j + 1) % 4) 0 } }
      match nextCellOf s (comb j) with
      | some c => startSlice s d lane (comb j) c
      | none => s

/-! ## Bank steps (R429 to R433) -/

/-- Whether a unit is a spare bank. -/
def isSpareBank (u : Nat) : Bool := decide (u = 64 ∨ u = 193 ∨ u = 194)

/-- The bit of a unit's group in INSP_STOP and FLT.GUARANTEE. -/
def groupBit (u : Nat) : Nat := if u ≤ 64 then 0 else if u ≤ 128 ∨ u = 193 then 1 else 2

/-- Why a bank is passed over (R429); 0 where it is not. -/
def bankWhy (s : State) (d u : Nat) : Nat :=
  let g := groupOf d u
  if (kget s.insp.stopGroups d 0).getLsbD (groupBit u) then 2
  else if isSpareBank u then (if (getClaim s g.1 g.2.1).isSome then 3 else 0)
  else if unitHeld s d u then (if (getClaim s g.1 g.2.1).isSome then 3 else 0)
  else if unitState s d u ≠ 0 then 4 else 0

/-- Begin a bank step: a HELD bank is copied to its group's spare; a spare, claimed for itself, and an unheld bank are tested in place. -/
def startBank (s : State) (d u : Nat) : State :=
  let g := groupOf d u
  let heldU := unitHeld s d u
  let s :=
    if isSpareBank u ∨ heldU then
      let s := match takeClaim s g.1 g.2.1 2 0 (keeperId d) u with | .ok t => t | .error _ => s
      powerSpare s d g.2.2 0
    else s
  let s := { s with insp := { s.insp with nextUnit := kset s.insp.nextUnit d ((u + 1) % 195) 0 } }
  setBankStep s d (some ⟨u, if heldU && !isSpareBank u then 2 else 4, mono s d, none, false⟩)

/-- Start the next bank step of a die when none is running: units in ascending order, modulo 195. -/
def fireBank (s : State) (d : Nat) : State :=
  if (bankStep s d).isSome ∨ fieldR s .inspCfg d 0 22 1 = 0 then s
  else
    let from_ := kget s.insp.nextUnit d 0
    let order := ((List.range 195).map (fun j => (from_ + j) % 195)).filter (fun u => decide (d * 512 + u ∉ s.flt.retiredUnits))
    let skipped := order.takeWhile (fun u => decide (bankWhy s d u ≠ 0))
    let s := forEach skipped (fun s u => passOver s d (0x8000 + u) (bankWhy s d u)) s
    match order[skipped.length]? with
    | some u => startBank s d u
    | none => s

/-- INSPECT_SLICE: the entry has fired; while STIME is frozen the Keeper fires on MONO at the same period (R426). Nothing starts while the
Keeper restarts (R469). -/
def execInspectSlice (die : Nat) (s : State) : Host.Outcome State Fault Refusal :=
  .next (
    let byMono := frozen s die && decide (mono s die ≥ kget s.insp.firedAt die 0 + fieldR s .inspCfg die 0 0 10 * 1000000)
    let fired :=
      match takeFired s die 5 with
      | some (_, t) => some t
      | none => if byMono then some s else none
    match (if dieAlive s die then fired else none) with
    | none => s
    | some s =>
      let s := { s with insp := { s.insp with firedAt := kset s.insp.firedAt die (mono s die) 0 } }
      if keeperDown s die then s else fireBank (lanes.foldl (fireLane die) s) die)

/-! ## The drain and the takeover (R424) -/

/-- The items that a cell holds. -/
def cellItems (s : State) (c : Nat) : Nat := ((cellThreads c).filter (fun t => (getT s t).item.isSome)).length

/-- Enable the threads of a cell as another one had them. -/
def enableThreads (s : State) (c : Nat) (en : BitVec 8) : State :=
  let s := modCell s c (fun x => { x with thrEn := en })
  forEach (range' 1 7) (fun s j => if en.getLsbD j then setSt s (c * 8 + j) .free else s) s

/-- Reset a cell and leave its threads stopped. -/
def haltCell (s : State) (c : Nat) : State :=
  let s := cellReset s c
  let s := forEach (cellThreads c) (fun s t => setT s t idleThread) s
  modCell s c (fun x => { x with started := false })

/-- SLICE_DRAIN_DONE: the cell has drained, or DRAIN has passed and what it still holds ends; its state goes to the stand-in, which takes its
position (steps 2 to 5). A capacity-taking slice keeps the state aside instead. -/
def execSliceDrainDone (die lane : Nat) (s : State) : Host.Outcome State Fault Refusal :=
  .next (
    match getSlice s (sliceKey die lane) with
    | none => s
    | some x =>
      let c := x.comb * 32 + x.cell
      let late := decide (mono s die ≥ x.since + fieldR s .inspCfg die 0 10 11 * 1000)
      if lane ≥ 2 ∨ x.step ≠ 2 ∨ (cellItems s c ≠ 0 ∧ !late) then s
      else
        let s := cntN s .inspCntDrainCut die 0 (cellItems s c)
        let en := (getCell s c).thrEn
        if x.fallback then
          let s := modCell (haltCell s c) c (fun y => { y with thrEn := en })
          setSlice s (sliceKey die lane) (some { x with step := 5, since := mono s die })
        else
          let s := moveCellArrays s c (x.comb * 32 + x.spare)
          let s := match placeOf s c with | some p => setCellAt s x.comb p x.spare | none => s
          let s := cellReset s c
          let s := enableThreads (cellReset s (x.comb * 32 + x.spare)) (x.comb * 32 + x.spare) en
          setSlice s (sliceKey die lane) (some { x with step := 5, since := mono s die }))

/-! ## The end of a slice (R424, R425, R427) -/

/-- The cell under test goes back: it becomes the spare, its claim is freed and its scratch goes OFF; in a capacity-taking slice it returns
to its position with its state. -/
def closeSlice (s : State) (key : Nat) (x : Slice) : State :=
  let c := x.comb * 32 + x.cell
  let s := setCombStat (setSlice s key none) x.comb 5 5 31
  if x.fallback then
    let en := (getCell s c).thrEn
    if (getCell s c).retired then s else enableThreads (cellReset s c) c en
  else sleepCell (freeClaim (setCombStat (reinitCell s c) x.comb 0 5 x.cell) 2 x.comb) c

/-- A cell that is lasting after its re-test is retired: the inspection claim becomes one of fault masking (R427). -/
def retireTested (s : State) (key : Nat) (x : Slice) (n : Nat) : State :=
  let c := x.comb * 32 + x.cell
  let d := cellDie c
  let s := setCombStat (setSlice s key none) x.comb 5 5 31
  if x.fallback then retireCell s c n
  else
    let s := raiseClaim (modCell s c (fun y => { y with retired := true })) 2 x.comb x.cell (keeperId d)
    recordF s 4 d 0x4021 (keeperId d) [nw (c * 8), nw n, 0]

/-- SLICE_TEST_DONE: 2 ms of test, and 2 ms more of a re-test, have ended. -/
def execSliceTestDone (die lane : Nat) (r : TestResult) (s : State) : Host.Outcome State Fault Refusal :=
  .next (
    match getSlice s (sliceKey die lane) with
    | none => s
    | some x =>
      let c := x.comb * 32 + x.cell
      let key := sliceKey die lane
      let ran := match r with | .pass => 2000000 | _ => 4000000
      if lane ≥ 2 ∨ x.step ≠ 5 ∨ mono s die < x.since + ran then s
      else
        match r with
        | .pass => closeSlice (cnt s .inspCntCellPass die 0) key x
        | .retestPass =>
          let (b, s) := drawWord s
          closeSlice (cnt (sliceResult s c (b % 16384) 0) .inspCntCellPass die 0) key x
        | .fail _ =>
          let (b, s) := drawWord s
          let s := cnt s .inspCntCellFail die 0
          let (t, s) := trackEvent s die (.cell c) 1 false
          let s := recordF s 4 die 0xB001 (keeperId die) [nw (c * 8), nw (b % 16384), nw t.count]
          let s := sliceResult s c (b % 16384) (if t.lasting then 3 else 2)
          if t.lasting then retireTested s key x t.count else closeSlice (setNextCell s x.comb x.cell) key x)

/-! ## The end of a bank step (R431 to R433) -/

/-- BANK_COPY_DONE: the spare serves every access of the bank, which is then tested (steps 3 and 4). -/
def execBankCopyDone (die : Nat) (s : State) : Host.Outcome State Fault Refusal :=
  .next (
    match bankStep s die with
    | some b => if b.step = 2 then setBankStep s die (some { b with step := 4, since := mono s die }) else s
    | none => s)

/-- The bank serves again, and the spare is freed or goes to the unit that waits for it. -/
def endBank (s : State) (d : Nat) (b : BankStep) : State :=
  let g := groupOf d b.unit
  let own := match getClaim s g.1 g.2.1 with | some c => decide (c.rank = 2) && decide (c.value = b.unit) | none => false
  let s := setBankStep s d none
  let s := if own then powerSpare (freeClaim s g.1 g.2.1) d g.2.2 2 else s
  match b.waiter with
  | some w => retireBank (recordK (cnt s .inspCntAbort d 0) d 0xB004 [nw (0x8000 + b.unit), nw b.step]) d w
  | none => if b.bad then s else cnt s .inspCntBankPass d 0

/-- What follows a test: a bank that was copied is reloaded; one tested in place is done, its contents zero. -/
def afterTest (s : State) (d : Nat) (b : BankStep) : State :=
  let g := groupOf d b.unit
  if !isSpareBank b.unit && (match getClaim s g.1 g.2.1 with | some c => decide (c.rank = 2) && decide (c.value = b.unit) | none => false) then
    setBankStep s d (some { b with step := 5, since := mono s d })
  else endBank (if unitHeld s d b.unit then s else loseUnit s d b.unit) d b

/-- Offer failing rows to soft repair: how many are repaired (R432, R434). -/
def repairRows (s : State) (d u : Nat) (rows : List Nat) : Nat × State :=
  rows.foldl (fun (a : Nat × State) r =>
    match softRow a.2 d u r with
    | some t => (a.1 + 1, recordF t 14 d 0xA012 (keeperId d) [nw u, nw r, nw (fieldR t .inspRepair d u 0 4)])
    | none => a) (0, s)

/-- A bank that is lasting retires: the spare keeps serving (R432). -/
def retireTestedBank (s : State) (d : Nat) (b : BankStep) : State :=
  let s := setBankStep s d none
  let g := groupOf d b.unit
  if (getClaim s g.1 g.2.1).isSome then maskBank s d b.unit else retireBank s d b.unit

/-- BANK_TEST_DONE. -/
def execBankTestDone (die : Nat) (r : TestResult) (s : State) : Host.Outcome State Fault Refusal :=
  .next (
    match bankStep s die with
    | none => s
    | some b =>
      if b.step ≠ 4 ∨ b.waiter.isSome then s
      else
        match r with
        | .pass => afterTest s die b
        | .retestPass => afterTest (marchResult s 3 die b.unit [0] 0) die b
        | .fail rows =>
          let (n, s) := repairRows s die b.unit rows
          if n = rows.length then afterTest (marchResult s 3 die b.unit rows 1) die b
          else
            let (t, s) := trackEvent s die (.unit b.unit) 4 false
            let s := recordF (cnt s .inspCntBankFail die 0) 14 die 0xB002 (keeperId die) [nw b.unit, nw rows.length, nw n]
            let s := marchResult s 3 die b.unit rows (if t.lasting then 3 else 2)
            if t.lasting then retireTestedBank s die b else afterTest s die { b with bad := true })

/-- BANK_RELOAD_DONE: the bank is reloaded, at the end of the step or because a retired one waits for the spare (R433). -/
def execBankReloadDone (die : Nat) (s : State) : Host.Outcome State Fault Refusal :=
  .next (
    match bankStep s die with
    | some b => if b.step = 5 ∨ (b.step = 4 ∧ b.waiter.isSome) then endBank s die b else s
    | none => s)

/-! ## Commands (R422, R426, R435 to R437) -/

/-- INSP_STATUS. -/
def execInspStatus (m : EmpMsg) (dies : BitVec 8) (s : State) : Host.Outcome State Fault Refusal :=
  .next (empCmd s m 0x0900 observer (fun s _ => onDies s dies (fun s ds =>
    answerOk s (ds.flatMap (fun d =>
      wordsOf 2 (getR s .inspCfg d 0) ++ (List.range 8).flatMap (fun k => wordsOf 2 (regView s .inspCombStat d 7 k)) ++
        (match bankStep s d with | some b => [nw b.unit, nw b.step] | none => [0xFFFF, 0]) ++
        [RegName.inspCntCellPass, .inspCntCellFail, .inspCntBankPass, .inspCntBankFail, .inspCntPassover, .inspCntAbort,
          .inspCntDrainCut].flatMap (fun r => wordsOf 2 (getR s r d 0)))))))

/-- INSP_CFG_SET: a new SLICE_MS applies from the next firing. -/
def execInspCfgSet (m : EmpMsg) (value : BitVec 32) (s : State) : Host.Outcome State Fault Refusal :=
  .next (empCmd s m 0x0901 owner (fun s _ =>
    let v := value.toNat
    let ms := v % 1024
    let drain := bitsOf v 10 11
    inRange s (decide (10 ≤ ms ∧ ms ≤ 850 ∧ 100 ≤ drain ∧ drain ≤ 2000 ∧ v < 2 ^ 23)) (fun s =>
      let s := setAll s .inspCfg 0 v
      let s := forEach (allDies s) (fun s d =>
        match getSched s d entInspect with
        | some e => setSched s d entInspect (some { e with period := ms * 1000 })
        | none => s) s
      answerOk (refreshAllGuar s) [])))

/-- Stop or resume combs and groups of a die. -/
def setStops (s : State) (d : Nat) (combs : BitVec 8) (groups : BitVec 3) (stop : Bool) : State :=
  let s := forEach (diesOf combs) (fun s k => setCombStat s (d * 8 + k) 11 1 (if stop then 1 else 0)) s
  let g := kget s.insp.stopGroups d 0
  let g := if stop then g ||| groups else g &&& ~~~groups
  refreshGuar { s with insp := { s.insp with stopGroups := kset s.insp.stopGroups d g 0 } } d

/-- INSP_STOP. -/
def execInspStop (m : EmpMsg) (die : Nat) (combs : BitVec 8) (groups : BitVec 3) (s : State) : Host.Outcome State Fault Refusal :=
  .next (empCmd s m 0x0902 owner (fun s _ => onDie s die (fun s => answerOk (setStops s die combs groups true) [])))

/-- INSP_START. -/
def execInspStart (m : EmpMsg) (die : Nat) (combs : BitVec 8) (groups : BitVec 3) (s : State) : Host.Outcome State Fault Refusal :=
  .next (empCmd s m 0x0903 owner (fun s _ => onDie s die (fun s => answerOk (setStops s die combs groups false) [])))

/-- Rows of a scratch array that a preserving test could not restore hold free values (R421). -/
def scrambleRows (s : State) (d u : Nat) (rows : List Nat) : State :=
  if u < 195 then s
  else
    let base := if u < 331 then 0x10000000 + ((d * 8 + (u - 195) / 17) * 32 + (u - 195) % 17) * 0x4000 else 0x20000000 + (d * 8 + (u - 331)) * 0x8000
    let len := if u < 331 then 512 else 1024
    forEach (rows.filter (fun r => decide (r < len))) (fun s r =>
      let (ws, s) := drawWords 32 s
      forEach ws.zipIdx (fun s e => setMem s (base + r * 32 + e.2) e.1) s) s

/-- A march test of a unit that is not HELD: it is brought ON for the test. -/
def marchFree (s : State) (d u : Nat) (preserving : Bool) (rows : List Nat) : Nat × State :=
  let old := unitState s d u
  let s := setUnitState s d u 0
  let s := if preserving then scrambleRows s d u rows else loseUnit s d u
  let outcome := if rows = [] then 0 else 2
  (outcome, setUnitState (marchResult s 1 d u rows outcome) d u old)

/-- A march test of a HELD bank: a bank step through its group's spare, performed as a whole. -/
def marchHeld (s : State) (d u : Nat) (rows : List Nat) : Nat × State :=
  let g := groupOf d u
  let s := match takeClaim s g.1 g.2.1 2 0 (keeperId d) u with | .ok t => t | .error _ => s
  let s := powerSpare s d g.2.2 0
  let b : BankStep := ⟨u, 5, mono s d, none, false⟩
  let (n, s) := repairRows s d u rows
  if n = rows.length then
    let outcome := if rows = [] then 0 else 1
    (outcome, endBank (marchResult s 1 d u rows outcome) d b)
  else
    let (t, s) := trackEvent s d (.unit u) 4 false
    let s := recordF (cnt s .inspCntBankFail d 0) 14 d 0xB002 (keeperId d) [nw u, nw rows.length, nw n]
    let outcome := if t.lasting then 3 else 2
    let s := marchResult s 1 d u rows outcome
    (outcome, if t.lasting then retireTestedBank s d b else endBank s d { b with bad := true })

/-- INSP_MARCH: the reply carries the result record (R422, R436). -/
def execInspMarch (m : EmpMsg) (die unit : Nat) (preserving : Bool) (r : TestResult) (s : State) : Host.Outcome State Fault Refusal :=
  .next (empCmd s m 0x0904 operator (fun s _ => onDie s die (fun s =>
    inRange s (decide (unit < 339)) (fun s =>
      let rows := match r with | .fail l => l | _ => []
      let g := groupOf die unit
      let heldU := unitHeld s die unit
      let done (x : Nat × State) : Reply :=
        let s := recordK x.2 die 0xB005 [nw unit, if preserving then 1 else 0, nw x.1]
        answerOk s ((kget s.insp.results die []).getLast?.getD [])
      if heldU ∧ unit ≥ 195 then answerNo s stsBusy
      else if (bankStep s die).isSome ∧ unit < 195 then answerNo s stsBusy
      else if !heldU ∧ preserving ∧ unitState s die unit = 2 then answerNo s stsBusy
      else if heldU ∨ isSpareBank unit then
        match getClaim s g.1 g.2.1 with
        | some c => answerConflict s (conflictWords g.1 g.2.1 c)
        | none => done (if isSpareBank unit then marchFree s die unit preserving rows else marchHeld s die unit rows)
      else done (marchFree s die unit preserving rows)))))

/-- INSP_RESULT: up to 64 records, newest first, behind the next cursor. -/
def execInspResult (m : EmpMsg) (die cursor : Nat) (s : State) : Host.Outcome State Fault Refusal :=
  .next (empCmd s m 0x0905 observer (fun s _ => onDie s die (fun s =>
    let l := ((kget s.insp.results die []).reverse).drop cursor
    answerOk s ((if l.length > 64 then nw (cursor + 64) else 0xFFFF) :: (l.take 64).flatten))))

/-- The repairs of a die: unit and row, a column with bit 15. -/
def repairsOf (d : Nat) (l : List (Nat × Nat × Nat)) : List (Nat × Nat) := l.filterMap (fun e => if e.1 = d then some e.2 else none)

/-- INSP_REPAIR_LIST. -/
def execInspRepairList (m : EmpMsg) (die : Nat) (s : State) : Host.Outcome State Fault Refusal :=
  .next (empCmd s m 0x0906 observer (fun s _ => onDie s die (fun s =>
    let part (l : List (Nat × Nat)) : List Word := nw l.length :: l.flatMap (fun e => [nw e.1, nw e.2])
    answerOk s (part (repairsOf die s.insp.soft) ++ part (repairsOf die s.insp.fused)))))

/-- INSP_FUSE: the soft repairs of a die are fused (R435). -/
def execInspFuse (m : EmpMsg) (die : Nat) (s : State) : Host.Outcome State Fault Refusal :=
  .next (empCmd s m 0x0907 owner (fun s _ => onDie s die (fun s =>
    let l := repairsOf die s.insp.soft
    let used := kget s.insp.fuses die 0
    if used + l.length > 256 then answerNo s stsNoRoom
    else
      let insp := { s.insp with
        soft := s.insp.soft.filter (fun e => decide (e.1 ≠ die)), fused := s.insp.fused ++ l.map (fun e => (die, e)),
        fuses := kset s.insp.fuses die (used + l.length) 0 }
      let s := forEach l (fun s e => setField s .inspRepair die e.1 8 8 (fieldR s .inspRepair die e.1 8 8 + 1)) { s with insp := insp }
      answerOk (recordK s die 0xB006 [nw die, nw l.length, nw (256 - used - l.length)]) [])))

/-- Whether a region of DRAM blocks overlaps the reserved area, a deep table's region or the retention region. -/
def dramBusy (s : State) (d base n : Nat) : Bool :=
  let hit (a len : Nat) : Bool := decide (a < base + n) && decide (base < a + len)
  hit 0 4194304 || (decide (d = s.pkg.lead) && hit (retainBase s / 64) (retainSize s / 64)) ||
    (liveSlots s d).any (fun k => (List.range 64).any (fun t =>
      let x := tblDesc s d k t
      x.en && decide (x.mode = 2) && hit (x.dramBase * 128) (2 ^ x.deepLog * descRows x)))

/-- INSP_DRAM: March C− of a region, whose contents are lost; the reply gives the failing blocks (R390, R436). -/
def execInspDram (m : EmpMsg) (die base blocks : Nat) (bad : List Nat) (s : State) : Host.Outcome State Fault Refusal :=
  .next (empCmd s m 0x0908 operator (fun s i => onDie s die (fun s =>
    inRange s (decide (blocks ≠ 0 ∧ base + blocks ≤ dieBlocks s die)) (fun s =>
      granting s i (fun row => mayDram s s.pkg.lead row (base / 64) ((base % 64 + blocks + 63) / 64)) (fun s =>
        if dramBusy s die base blocks then answerNo s stsBusy
        else
          let hit := bad.filter (fun b => decide (base ≤ b ∧ b < base + blocks))
          let s := cleanBlocks s die base blocks
          let s := forEach hit (fun s b => pushResult s die (dramResult die b 2)) s
          answerOk s (wordsOf 2 hit.length ++ hit.flatMap (wordsOf 2)))))))

end Sys2Proof.Machine
end

