-- ==== Sys2Proof/Machine/Start.lean ====
section
/-!
DEFINITION. Start-up and resets (20): the cold and warm reset, the start-up timeline, the reset and the restoration of a die.
-/

namespace Sys2Proof.Machine

/-! ## Firmware images and the board configuration record (R454 to R457) -/

/-- A slot as an erase leaves it. -/
def erasedSlot : FwSlot := ⟨0xFFFF, 0xFFFF, 0xFFFFFFFF, 0xFFFFFFFF, []⟩
/-- Firmware slot `k` of the device of die `d`. -/
def fwSlot (s : State) (d k : Nat) : FwSlot := kget s.boot.slots (d * 2 + k) erasedSlot
def setFwSlot (s : State) (d k : Nat) (x : FwSlot) : State :=
  { s with boot := { s.boot with slots := kset s.boot.slots (d * 2 + k) x erasedSlot } }

/-- A word of an image; STATE is kept beside it. -/
def fwWord (x : FwSlot) (k : Nat) : Word := kget x.words k 0xFFFF

/-- Whether an image is valid: its signature over words 2 to 6 and the body verifies (R456). -/
def imageValid (x : FwSlot) : Bool :=
  decide (fwWord x 0 = 0x5146) && decide (x.length ≤ 4194304 - 4096) &&
    Config.signatureVerifies ((range' 2 5).map (fwWord x) ++ (range' 2048 ((x.length + 1) / 2)).map (fwWord x)) ((range' 7 48).map (fwWord x))

/-- The slot of a device that boots: confirmed and valid, of two the one with the higher IMAGE_SEQ (R457). -/
def bootSlot (s : State) (d : Nat) : Option Nat :=
  let ok (k : Nat) : Bool := decide ((fwSlot s d k).state = 0xFFF8) && imageValid (fwSlot s d k)
  match ok 0, ok 1 with
  | true, true => if (fwSlot s d 0).imageSeq.toNat ≥ (fwSlot s d 1).imageSeq.toNat then some 0 else some 1
  | true, false => some 0
  | false, true => some 1
  | false, false => none

def bcrWord (s : State) (k : Nat) : Word := kget s.boot.bcr k 0

/-- Whether the record's MAGIC and CRC are right (R455); a store that no command has written is judged by the start-up test alone. -/
def bcrOk (s : State) : Bool :=
  s.boot.bcr.isEmpty ||
    (decide (bcrWord s 0 = 0x5142) &&
      decide (wordsOf 2 (crc32c 0xFFFFFFFF (bytesOf ((List.range 2046).map (bcrWord s)))).toNat = [bcrWord s 2046, bcrWord s 2047]))

/-! ## Resets of the package (R9, R465, R466) -/

/-- A repair in force: the unit has one spare row, or column, fewer (R434, R435). -/
def applyRepair (s : State) (d u row : Nat) (fused : Bool) : State :=
  let s :=
    if row ≥ 0x8000 then setField s .inspRepair d u 4 2 (fieldR s .inspRepair d u 4 2 - 1)
    else setField s .inspRepair d u 0 4 (fieldR s .inspRepair d u 0 4 - 1)
  if fused then setField s .inspRepair d u 8 8 (fieldR s .inspRepair d u 8 8 + 1) else s

/-- What a cold reset leaves: the nonvolatile store and the eFuses; an image that was being written is invalid (R507). -/
def coldBase (s : State) : State :=
  let images := match s.log.flush with
    | some _ => kset s.log.images (nvKey s.pkg.lead (flushSlot s s.pkg.lead)) none none
    | none => s.log.images
  let r := State.reset
  let pkg := { r.pkg with n := s.pkg.n }
  let kpr := { r.kpr with keys := s.kpr.keys }
  let pair := { r.pair with key := s.pair.key }
  let boot := { r.boot with bcr := s.boot.bcr, slots := s.boot.slots }
  let log := { r.log with images := images, stateBlocks := s.log.stateBlocks, lastImage := s.log.lastImage }
  let insp := { r.insp with fused := s.insp.fused, fuses := s.insp.fuses }
  let t := { r with
    pkg := pkg, kpr := kpr, pair := pair, boot := boot, log := log, insp := insp, out := s.out, free := s.free, pending := s.pending }
  forEach s.insp.fused (fun t e => applyRepair t e.1 e.2.1 e.2.2 true) t

/-- COLD_RESET: RESET_N or PWRGOOD goes low; THERMTRIP_N is released (R511). -/
def execColdReset (s : State) : Host.Outcome State Fault Refusal :=
  .next (
    let t := coldBase s
    if s.flt.thermTrip then { t with out := t.out ++ [.thermTrip false] } else t)

/-- A package warm reset: it also keeps the soft repairs, the access map, the thermal history and what DRAM holds. The start-up timeline
that follows is POWER_ON_START. -/
def warmReset (s : State) (ses : Word) : State :=
  let t := coldBase s
  let t := forEach s.insp.soft (fun t e => applyRepair t e.1 e.2.1 e.2.2 false) t
  let t := forEach (List.range 8) (fun t d => setField t .bootDieStat s.pkg.lead d 1 1 (fieldR s .bootDieStat s.pkg.lead d 1 1)) t
  let kpr := { t.kpr with mapRows := s.kpr.mapRows, mapBad := s.kpr.mapBad }
  let memo := { t.memo with dramPoison := s.memo.dramPoison }
  let flt := { t.flt with thermal := s.flt.thermal, thermTrip := s.flt.thermTrip, tripped := s.flt.tripped }
  { t with
    kpr := kpr, memo := memo, flt := flt, insp := { t.insp with soft := s.insp.soft }, boot := { t.boot with warm := some ses } }

/-! ## The entries that the Keeper places (R46, R230, R259, R323, R426, R448) -/

/-- How far the first audit and the first inspection of a die follow those of die 0. -/
def auditOffset (s : State) (d : Nat) : Nat := d * 900 * nsPerS / s.pkg.n
def inspectOffset (s : State) (d : Nat) : Nat := d * (fieldR s .inspCfg d 0 0 10 * 1000000) / 8

/-- The entries of a die when enumeration completes. -/
def placeEntries (s : State) (d : Nat) : State :=
  let t := stime s d
  let age := s.tbl.ageSet.1
  let slice := fieldR s .inspCfg d 0 0 10
  let s := setSched s d entTallyClose (some (sysEntry 2 true (closeOf s (stime s d)) 60000000 0))
  let s := setSched s d entAgeTick (some (sysEntry 3 true (t + age * 1000000) (age * 1000) 0))
  let s := setSched s d entAuditStart (some (sysEntry 4 true ((t / (900 * nsPerS) + 1) * 900 * nsPerS + auditOffset s d) 900000000 0))
  setSched s d entInspect (some (sysEntry 5 true (t + slice * 1000000 + inspectOffset s d) (slice * 1000) 0))

/-- The T of an entry of the lead moved to the phase of another die. -/
def phased (t period now a b : Nat) : Nat := let x := t - a + b; if x ≤ now then x + period else x

/-- The entries of a die that joins: those of the lead, at the same T but for the offsets. -/
def joinEntries (s : State) (d : Nat) : State :=
  let l := s.pkg.lead
  let put (s : State) (i a b : Nat) : State :=
    match getSched s l i with
    | some e => setSched s d i (some { e with t := if a = b then e.t else phased e.t (e.period * 1000) (stime s d) a b })
    | none => s
  let s := put (put s entTallyClose 0 0) entAgeTick 0 0
  let s := put s entAuditStart (auditOffset s l) (auditOffset s d)
  put s entInspect (inspectOffset s l) (inspectOffset s d)

/-! ## The start-up tests (R458 to R461) -/

/-- Table banks of a die that cannot be repaired. -/
def badTables (r : BootResult) : List Nat := r.badUnits.filter (fun u => decide (u ≤ 64))

/-- The step at which a die becomes unusable; 0 where it starts (R459). A warm reset does not retrain DRAM. -/
def bootFails (s : State) (d : Nat) (r : BootResult) : Nat :=
  let dram := if s.boot.warm.isSome then decide (fieldR s .bootDieStat s.pkg.lead d 1 1 = 1) else r.dramOk
  if !r.keeperOk then 1
  else if !r.fwOk ∨ !dram ∨ (d < 2 ∧ !(r.recordOk && bcrOk s)) then 2
  else if (badTables r).length > 1 then 3
  else if !r.enumOk then 4
  else 0

/-- Combs of a die whose scratch cannot be repaired. -/
def badCombs (d : Nat) (r : BootResult) : List Nat := r.badUnits.filterMap (fun u => if 331 ≤ u ∧ u < 339 then some (d * 8 + (u - 331)) else none)

/-- Cells of a die that fail: by their BIST, by their scratch. A cell is named by comb × 17 + cell. -/
def badCellsOf (d : Nat) (r : BootResult) : List Nat :=
  let ofIdx (i : Nat) : Nat := (d * 8 + i / 17 % 8) * 32 + i % 17
  r.badCells.map ofIdx ++ (r.badUnits.filter (fun u => decide (195 ≤ u ∧ u < 331))).map (fun u => ofIdx (u - 195))

/-- EV_BOOT_DEGRADED. -/
def degraded (d kind id step : Nat) (s : State) : State := recordK s d 0x0020 [nw d, nw kind, nw id, nw step]

/-- The cells of a comb that fail: the spare stands in for the first (R459). -/
def bootComb (s : State) (k : Nat) (bad : List Nat) : State :=
  let d := k / 8
  let s := { s with boot := { s.boot with unusableCells := bad.foldl (fun l c => addNew c l) s.boot.unusableCells } }
  let s := forEach bad (fun s c => degraded d 3 (c * 8) 3 s) s
  match bad with
  | [] => s
  | c :: _ =>
    if k * 32 + 16 ∈ bad then raiseClaim s 2 k 16 (keeperId d)
    else
      let s := raiseClaim s 2 k (c % 32) (keeperId d)
      match placeOf s c with | some p => placeCell s k p 16 | none => s

/-- A bank that fails: the spare of its group stands in, and where none is left R408 applies. A spare that fails serves nobody. -/
def bootBank (s : State) (d u : Nat) : State :=
  let s := degraded d 4 u 3 s
  let g := groupOf d u
  let gone := { s with flt := { s.flt with retiredUnits := addNew (d * 512 + u) s.flt.retiredUnits } }
  if (getClaim s g.1 g.2.1).isSome then (if isSpareBank u then gone else bankWithoutSpare s d u)
  else if isSpareBank u then raiseClaim gone g.1 g.2.1 u (keeperId d)
  else raiseClaim (powerSpare gone d g.2.2 0) g.1 g.2.1 u (keeperId d)

/-- What the tests of a die that starts leave: repairs, cells, banks. -/
def bootUnits (s : State) (d : Nat) (r : BootResult) : State :=
  let s := forEach r.soft (fun s e =>
    applyRepair { s with insp := { s.insp with soft := s.insp.soft ++ [(d, e.1, e.2)] } } d e.1 e.2 false) s
  let s := forEach (badCombs d r) (fun s k =>
    let cells := combCells k
    degraded d 2 (k % 8) 3 { s with boot := { s.boot with unusableCells := cells.foldl (fun l c => addNew c l) s.boot.unusableCells } }) s
  let cells := (badCellsOf d r).filter (fun c => decide (c / 32 ∉ badCombs d r))
  let s := forEach (dieCombs d) (fun s k => bootComb s k (cells.filter (fun c => decide (c / 32 = k)))) s
  let banks := r.badUnits.filter (fun u => decide (u < 195))
  forEach ((banks.filter isSpareBank) ++ banks.filter (fun u => !isSpareBank u)) (fun s u => bootBank s d u) s

/-- BOOT.DIE_STAT of a die. -/
def dieStat (s : State) (d : Nat) (r : BootResult) : Nat :=
  let step := bootFails s d r
  let dram := if s.boot.warm.isSome then decide (fieldR s .bootDieStat s.pkg.lead d 1 1 = 1) else r.dramOk
  let off := (badCellsOf d r).filter (fun c => decide (c / 32 ∉ badCombs d r))
  bitIf 0 r.fwOk + bitIf 1 dram + bitIf 2 (decide (step = 0 ∨ step = 4)) + bitIf 3 (r.enumOk && decide (step = 0)) +
    bitIf 4 (r.calDone && decide (step = 0)) + min 136 (off.length + 17 * (badCombs d r).length) * 256 +
    min 195 (r.badUnits.filter (fun u => decide (u < 195))).length * 65536

/-- The image that runs: the one that the booting die's slots give, else the release that the part is delivered with (DESIGN CHOICE, log
entry 80). -/
def bootImage (s : State) (boot : Nat) (r : BootResult) : State :=
  match bootSlot s boot with
  | some k => { s with boot := { s.boot with running := k, image := (nw (fwSlot s boot k).release.toNat, (fwSlot s boot k).imageSeq) } }
  | none => { s with boot := { s.boot with running := if r.slotBooted then 1 else 0, image := (0x0402, 0) } }

/-- Registers that the board configuration record gives (R455). -/
def bcrRegisters (s : State) : State :=
  if s.boot.bcr.isEmpty then s
  else
    let mac := valOf [bcrWord s 2, bcrWord s 3, bcrWord s 4]
    let w := (bcrWord s 5).toNat
    forEach (allDies s) (fun s d =>
      let s := setField s .kprMgmtCfg d 0 0 48 mac
      setField (setField (setField s .memDramCfg d 0 16 2 (w % 4)) .memDramCfg d 0 18 3 (w / 4 % 8)) .memDramCfg d 0 21 1 (w / 32 % 2)) s

/-- Tally goes on behind the newest state block (R329): SEQ, and after a power loss the first minute lost. A part that was in a pair leaves
that to its partner. The thermal history comes from there too after a cold reset (R417). -/
def resumeTally (s : State) : State :=
  match newestBlock s s.pkg.lead with
  | none => s
  | some b =>
    let lost := decide (b.nextSeq ≠ 0) && decide (s.pair.key = 0) && s.boot.warm.isNone
    let tal := { s.tal with nextSeq := b.nextSeq, lastMinute := b.minute, resume := if lost then some (b.minute + 1) else none }
    let flt := if s.boot.warm.isSome then s.flt else { s.flt with thermal := b.thermal }
    { s with tal := tal, flt := flt }

/-- The lead rewrites die 1's slots where its confirmed image is another one (R457). -/
def resyncFirmware (s : State) : State :=
  if s.pkg.lead ≠ 0 ∨ !usable s 1 then s
  else
    let a := fwSlot s 0 s.boot.running
    let same : Bool := match bootSlot s 1 with | some k => decide (fwSlot s 1 k = a) | none => false
    if (bootSlot s 0).isNone ∨ same then s
    else recordK (setFwSlot (setFwSlot s 1 0 (fwSlot s 0 0)) 1 1 (fwSlot s 0 1)) 0 0x0022 (wordsOf 2 a.imageSeq.toNat)

/-- The result of a die's tests; a die without one does not answer. -/
def resultOf (rs : List BootResult) (d : Nat) : BootResult :=
  (rs[d]?).getD ⟨false, false, false, false, false, false, false, [], [], []⟩

/-- The dies that start, the lead among them (R13, R24, R27). -/
def enumerateDies (s : State) (rs : List BootResult) : State :=
  let up := (allDies s).filter (fun d => decide (bootFails s d (resultOf rs d) = 0))
  let mask := up.foldl (fun m d => m ||| BitVec.ofNat 8 (2 ^ d)) (0 : BitVec 8)
  let all := BitVec.ofNat 8 (2 ^ s.pkg.n - 1)
  let lead := if 0 ∈ up ∨ 1 ∉ up then 0 else 1
  { s with pkg := { s.pkg with
    lead := lead, noLead := decide (0 ∉ up ∧ 1 ∉ up), usable := mask, retired := all &&& ~~~mask, running := true } }

/-- POWER_ON_START: the start-up timeline with the test results of each die. What it takes in time is not modelled. -/
def execPowerOnStart (results : List BootResult) (s : State) : Host.Outcome State Fault Refusal :=
  .next (
    if s.pkg.running then s
    else
      let res (d : Nat) : BootResult := resultOf results d
      let stats := (allDies s).map (fun d => (d, dieStat s d (res d)))
      let fails := (allDies s).map (fun d => (d, bootFails s d (res d)))
      let s := enumerateDies s results
      let s := bootImage s s.pkg.lead (res s.pkg.lead)
      let s := { s with time := { s.time with tenMHz := ⟨true, 0, 0⟩ } }
      let s := bcrRegisters s
      let s := forEach stats (fun s e => setR s .bootDieStat s.pkg.lead e.1 (e.2 + s.boot.running * 16777216)) s
      let s := forEach fails (fun s e => if e.2 = 0 then bootUnits s e.1 (res e.1) else degraded e.1 1 0 e.2 s) s
      let s := resumeTally s
      let s := forEach (usableDies s) placeEntries s
      let s := if s.pkg.noLead then s else resyncFirmware s
      let s := match s.boot.warm with
        | some w => recordK { s with boot := { s.boot with warm := none } } s.pkg.lead 0x0023 [1, 0, 0, w]
        | none => s
      refreshAllGuar (forEach (usableDies s) settlePorts s))

/-! ## The reset and the restoration of a die (R410, R465 to R467) -/

/-- Registers that no reset of a die changes although programs do not write them: they are no counters. -/
def dieState (r : RegName) : Bool :=
  r ∈ [
    .pkgDieIdent, .timeStatus, .timeUtcOffset, .genSlot0, .genSlot1, .genSlot2, .genSlot3, .genCommitT, .bufPoolCfg, .memDramShare0,
    .memDramShare1, .memDramShare2, .memDramShare3, .memDramShare4, .memDramShare5, .fltGuarantee, .inspCombStat, .inspRepair,
    .bootDieStat, .bootCntPregen, .pairCfg, .pairStatus, .phyPortStat, .pwrVid, .pwrTemp0, .pwrTemp1, .pwrTemp2, .pwrTemp3]

/-- Whether a reset of its die clears a register (R95, R214, R285, R313, R331, R352, R418, R437, R487, R512). The counters of the Keeper and
the recorder are cleared by a cold reset only. -/
def dieCounter (r : RegName) : Bool :=
  !(r.spec.access == Access.rw) && !dieState r && decide (r.spec.block ≠ 0x15 ∧ r.spec.block ≠ 0x23)

/-- The counters of a die, as indexes. -/
def counterIdx : List Nat := (((List.range 40).flatMap blockRegs).filter dieCounter).map (·.ctorIdx)

def clearCounters (s : State) (d : Nat) : State :=
  let gone (k : Nat) : Bool := decide (k / 1048576 / 8 % 8 = d) && decide (k / 1048576 / 64 ∈ counterIdx)
  { s with regs := s.regs.filter (fun e => !gone e.1) }

/-- Words of the flat store below 0x30000000 that belong to a die: private words, cell scratch, comb scratch. -/
def dieWord (d a : Nat) : Bool :=
  if a < 0x10000000 then decide (a / 0x2000 / 2048 = d)
  else if a < 0x20000000 then decide ((a - 0x10000000) / 0x4000 / 256 = d)
  else decide (a < 0x30000000) && decide ((a - 0x20000000) / 0x8000 / 8 = d)

/-- The die's cells, queues, buffers, tables, reorder stage, counters and entries are reset. -/
def dieReset (s : State) (d : Nat) : State :=
  let s := clearCounters (wipeDie s d) d
  let core := { s.core with
    mem := s.core.mem.filter (fun e => !dieWord d e.1), poison := s.core.poison.filter (fun a => !dieWord d a) }
  let tbl := { s.tbl with
    entries := s.tbl.entries.filter (fun e => decide (posDie e.1 ≠ d)), deepTags := notOf s.tbl.deepTags 1048576 d,
    storm := s.tbl.storm.filter (fun e => decide (gpnDie (e.1 / 2) ≠ d)), ticks := notOf s.tbl.ticks 1 d }
  let tal := { s.tal with
    lines := notOf s.tal.lines 65536 d, queues := s.tal.queues.filter (fun e => decide (e.1 / 16 ≠ d)),
    late := notOf s.tal.late 72057594037927936 d, closed := notOf s.tal.closed 1 d, cache := notOf s.tal.cache 1 d }
  let egr := { s.egr with
    shapers := s.egr.shapers.filter (fun e => decide (qidDie e.1 ≠ d)), ports := s.egr.ports.filter (fun e => decide (gpnDie e.1 ≠ d)) }
  let gen := { s.gen with audit := kset s.gen.audit d [] [] }
  let memo := { s.memo with queue := kset s.memo.queue d [] [] }
  { s with core := core, tbl := tbl, tal := tal, egr := egr, gen := gen, memo := memo }

/-- A die takes part again, with the clocks of the lead. -/
def joinDie (s : State) (d : Nat) : State :=
  let bit := BitVec.ofNat 8 (2 ^ d)
  let l := clock s s.pkg.lead
  let s := setClock s d { clock s d with tod := l.tod, stime := l.stime }
  let s := { s with
    pkg := { s.pkg with
      usable := s.pkg.usable ||| bit, retired := s.pkg.retired &&& ~~~bit, heard := kset s.pkg.heard d (mono s (hearer s d)) 0 },
    kpr := { s.kpr with restarting := kset s.kpr.restarting d none none },
    flt := { s.flt with tripped := s.flt.tripped &&& ~~~bit } }
  let s := restoreLinks (joinEntries s d) d
  let s := forEach (dieCombs d) (fun s k => forEach (List.range 16) (fun s p =>
    let c := cellAt s k p
    if (curSlot s d).isSome ∧ cellUsable s c ∧ !(getCell s c).started then startSup s c else s) s) s
  refreshGuar (refreshGroups (settlePorts (wakeHeld s d) d)) d

/-- The die from which configured content is copied: the usable one with the lowest number. -/
def donorDie (s : State) (d : Nat) : Option Nat := (usableDies s).find? (fun e => decide (e ≠ d))

/-- The restore steps of R410, from a die that is out of service: the step that fails, or 0. `failStep` is the step whose test fails. -/
def restoreDie (s : State) (d failStep : Nat) : Nat × State :=
  let s := dieReset s d
  let s := match donorDie s d with | some e => repairFrom s e d | none => s
  let step := if failStep ≠ 0 then failStep else if agrees s d then 0 else 4
  let s := if step = 0 then joinDie s d else s
  (step, recordK s s.pkg.lead 0x0012 [nw d, nw step])

/-- Whether a generation is OPEN, SEALED or PENDING. -/
def genStaged (s : State) : Bool := (stagedSlot s).isSome

/-- FLT_DIE_RESTORE (R410, R511). -/
def execFltDieRestore (m : EmpMsg) (die failStep : Nat) (s : State) : Host.Outcome State Fault Refusal :=
  .next (empCmd s m 0x09C2 owner (fun s _ =>
    inRange s (decide (die < s.pkg.n ∧ !usable s die ∧ !s.pkg.fenced.getLsbD die ∧ failStep ≤ 4)) (fun s =>
      if genStaged s then answerNo s stsBusy
      else if s.flt.tripped.getLsbD die ∧ (thermal s die).temps.any (fun t => decide (t > 1000)) then answerNo s stsBusy
      else
        let (step, s) := restoreDie s die failStep
        if step = 0 then answerOk s [] else ⟨stsDegraded, [nw step], s⟩)))

/-! ## FW_RESET (R465 to R467) -/

/-- EV_RESET. -/
def resetRecord (s : State) (scope die what : Nat) (ses : Word) : State :=
  recordK s s.pkg.lead 0x0023 [nw scope, nw die, nw what, ses]

/-- FW_RESET scope 1: DOWN to the partner, the reply, then the reset. A scope that does not exist is refused. -/
def execFwResetPackage (m : EmpMsg) (s : State) : Host.Outcome State Fault Refusal :=
  .next (
    if 2 ≤ pw m 0 ∧ pw m 0 ≤ 4 then s
    else
      empThen s m 0x0A04 owner (fun s _ => inRange s (decide (pw m 0 = 1)) (fun s => answerOk (sendDown s) [])) (fun s _ => warmReset s m.session))

/-- FW_RESET scope 2: the die is out of service during its reset; the restore steps follow. -/
def execFwResetDie (m : EmpMsg) (s : State) : Host.Outcome State Fault Refusal :=
  .next (
    if pw m 0 ≠ 2 then s
    else empCmd s m 0x0A04 owner (fun s _ =>
      let d := pw m 1
      onDie s d (fun s =>
        if d = s.pkg.lead then answerNo s stsRange
        else if genStaged s then answerNo s stsBusy
        else
          let bit := BitVec.ofNat 8 (2 ^ d)
          let s := resetRecord s 2 d 0 m.session
          let s := withdrawDie s d
          let s := settlePorts { s with pkg := { s.pkg with usable := s.pkg.usable &&& ~~~bit } } d
          let s := dieReset s d
          let s := match donorDie s d with | some e => repairFrom s e d | none => s
          if agrees s d then answerOk (joinDie s d) []
          else ⟨stsDegraded, [4], { s with pkg := { s.pkg with retired := s.pkg.retired ||| bit } }⟩)))

/-- FW_RESET scope 3: every cell of the comb and its bulk unit. -/
def execFwResetComb (m : EmpMsg) (s : State) : Host.Outcome State Fault Refusal :=
  .next (
    if pw m 0 ≠ 3 then s
    else empCmd s m 0x0A04 owner (fun s _ => onDie s (pw m 1) (fun s => inRange s (decide (pw m 2 < 8)) (fun s =>
      let k := pw m 1 * 8 + pw m 2
      let s := forEach (combCells k) cellReset s
      let s := modComb s k (fun x => { freshComb with next := x.next, abandoned := x.abandoned || x.claim.isSome })
      answerOk (resetRecord s 3 (pw m 1) (pw m 2) m.session) []))))

/-- FW_RESET scope 4: a cell; a retired one is refused (DEDUCED, log entry 81). -/
def execFwResetCell (m : EmpMsg) (s : State) : Host.Outcome State Fault Refusal :=
  .next (
    if pw m 0 ≠ 4 then s
    else empCmd s m 0x0A04 owner (fun s _ => onDie s (pw m 1) (fun s =>
      let c := (pw m 1 * 8 + pw m 2) * 32 + pw m 3
      inRange s (decide (pw m 2 < 8 ∧ pw m 3 < 17 ∧ !(getCell s c).retired)) (fun s =>
        answerOk (resetRecord (cellReset s c) 4 (pw m 1) (c * 8) m.session) []))))

end Sys2Proof.Machine
end

