-- ==== Sys2Proof/Machine/DbgCmds.lean ====
section
/-! DEFINITION. The debug commands of a session (R118 to R122). -/

namespace Sys2Proof.Machine

/-! ## What a debug command names -/

/-- The cell that a master ID with thread 0 names, when it exists on a usable die. -/
def namedCell (s : State) (w : Word) : Option Nat :=
  let t := w.toNat
  if t < 0x4000 ∧ t % 8 = 0 ∧ t % 256 < 136 ∧ usable s (thrDie t) then some (t / 8) else none

/-- The thread that a master ID names. -/
def namedThread (s : State) (w : Word) : Option Nat :=
  let t := w.toNat
  if t < 0x4000 ∧ t % 256 < 136 ∧ usable s (thrDie t) then some t else none

/-- A command on a cell that session `i` must have attached. -/
def onCell (s : State) (i : Nat) (w : Word) (body : State → Nat → Reply) : Reply :=
  match namedCell s w with
  | none => answerNo s stsRange
  | some c => if (getCell s c).dbg = some (.session i) then body s c else answerNo s stsNotOwner

/-- A command that halts, steps or changes a thread: its cell must be attached to session `i`. -/
def onThread (s : State) (i : Nat) (w : Word) (body : State → Nat → Reply) : Reply :=
  match namedThread s w with
  | none => answerNo s stsRange
  | some t => if (getCell s (thrCell t)).dbg = some (.session i) then body s t else answerNo s stsNotOwner

/-- A command that only reads a thread: no attachment is needed, as it changes nothing (DEDUCED, log entry 90). -/
def onRead (s : State) (w : Word) (body : State → Nat → Reply) : Reply :=
  match namedThread s w with
  | none => answerNo s stsRange
  | some t => body s t

/-- A command that requires a HALTED thread. -/
def onHalted (s : State) (i : Nat) (w : Word) (body : State → Nat → Reply) : Reply :=
  onThread s i w (fun s t => if (getT s t).st = .halted then body s t else answerNo s stsBusy)

/-! ## Attaching, halting, stepping -/

/-- DBG_ATTACH. -/
def execDbgAttach (m : EmpMsg) (cell : Word) (s : State) : Host.Outcome State Fault Refusal :=
  .next (empCmd s m 0x0D00 operator (fun s i =>
    match namedCell s cell with
    | none => answerNo s stsRange
    | some c =>
      match (getCell s c).dbg with
      | some (.session j) =>
        if j = i then answerOk s [] else answerConflict s [0, cell, 1, 0x0D00, sessionId j]
      | some .supervisor => answerConflict s [0, cell, 1, 0, thrMaster (c * 8)]
      | none => answerOk (modCell s c (fun x => { x with dbg := some (.session i) })) []))

/-- DBG_DETACH. -/
def execDbgDetach (m : EmpMsg) (cell : Word) (s : State) : Host.Outcome State Fault Refusal :=
  .next (empCmd s m 0x0D01 operator (fun s i => onCell s i cell (fun s c => answerOk (dbgDetachCell s c) [])))

/-- DBG_HALT: a thread that is FAULTED or RESETTING is in no state to be halted. -/
def execDbgHalt (m : EmpMsg) (thread : Word) (freeze : Bool) (s : State) : Host.Outcome State Fault Refusal :=
  .next (empCmd s m 0x0D02 operator (fun s i =>
    onThread s i thread (fun s t =>
      match (getT s t).st with
      | .faulted | .resetting => answerNo s stsBusy
      | .halted =>
        answerOk (if freeze ∧ (getT s t).freeze.isNone then modT s t (fun x => { x with freeze := some (mono s (thrDie t)) }) else s) []
      | _ => answerOk (dbgHaltT s t freeze) [])))

/-- DBG_RESUME. -/
def execDbgResume (m : EmpMsg) (thread : Word) (s : State) : Host.Outcome State Fault Refusal :=
  .next (empCmd s m 0x0D03 operator (fun s i => onHalted s i thread (fun s t => answerOk (dbgResumeT s t) [])))

/-- DBG_STEP. -/
def execDbgStep (m : EmpMsg) (thread : Word) (s : State) : Host.Outcome State Fault Refusal :=
  .next (empCmd s m 0x0D04 operator (fun s i => onHalted s i thread (fun s t => answerOk (dbgStepT s t) [])))

/-- DBG_THREAD_RESET: never of thread 0 (R122). -/
def execDbgThreadReset (m : EmpMsg) (thread : Word) (s : State) : Host.Outcome State Fault Refusal :=
  .next (empCmd s m 0x0D0B operator (fun s i =>
    onThread s i thread (fun s t =>
      inRange s (!isSup t) (fun s => answerOk (threadReset s t reasonThreadReset false) []))))

/-! ## Breakpoints and watchpoints (R121) -/

/-- Whether a breakpoint or watchpoint is the one that a command names: an instruction breakpoint by image and address, a watchpoint by
address. -/
def sameBreak (watch image : Bool) (addr : Word) (b : BreakPt) : Bool :=
  decide (b.watch = watch) && decide (b.addr = addr) && (watch || decide (b.image = image))

/-- DBG_BREAK_SET: at most 4 breakpoints and 2 watchpoints; one that is set again takes its new threads and accesses. -/
def execDbgBreakSet (m : EmpMsg) (cell : Word) (watch image : Bool) (addr : Word) (threads : BitVec 8) (rd wr : Bool) (s : State) :
    Host.Outcome State Fault Refusal :=
  .next (empCmd s m 0x0D05 operator (fun s i =>
    onCell s i cell (fun s c =>
      let kept := (getCell s c).breaks.filter (fun b => !sameBreak watch image addr b)
      let n := (kept.filter (fun b => b.watch = watch)).length
      if n ≥ (if watch then 2 else 4) then answerNo s stsNoRoom
      else answerOk (modCell s c (fun x => { x with breaks := kept ++ [⟨watch, image, addr, threads, rd, wr⟩] })) [])))

/-- DBG_BREAK_CLR. -/
def execDbgBreakClr (m : EmpMsg) (cell : Word) (watch image : Bool) (addr : Word) (s : State) : Host.Outcome State Fault Refusal :=
  .next (empCmd s m 0x0D06 operator (fun s i =>
    onCell s i cell (fun s c =>
      answerOk (modCell s c (fun x => { x with breaks := x.breaks.filter (fun b => !sameBreak watch image addr b) })) [])))

/-! ## Registers and memory -/

/-- DBG_REG_READ: W0 to W15, X0 to X7, P, ACC0, ACC1, BC, PS, PC, the state, the scoreboard bits, the cycle count, the staged channel
words. -/
def execDbgRegRead (m : EmpMsg) (thread : Word) (s : State) : Host.Outcome State Fault Refusal :=
  .next (empCmd s m 0x0D07 observer (fun s _ =>
    onRead s thread (fun s t =>
      let x := getT s t
      if x.st = .halted ∨ x.st = .faulted then
        let r := x.regs
        let p := sumN ((List.range 8).map (fun k => if r.p.toList.getD k false then 2 ^ k else 0))
        answerOk s (r.w.toList ++ r.x.toList ++ [nw p] ++ wordsOf 3 r.acc0.toNat ++ wordsOf 3 r.acc1.toNat ++ [r.bc, r.ps, r.pc] ++
          [stWord s t, nw x.sb.toNat] ++ wordsOf 2 (cycles s t).toNat ++ (List.range 8).map (chanWord s t))
      else answerNo s stsBusy)))

/-- Write register `n` of DBG_REG_WRITE: 0 to 15 W, 16 to 23 X, 24 to 31 P, 32 and 33 ACC, 34 BC, 35 PS, 36 PC (DESIGN CHOICE, log entry
91). P0 always reads 1, and RPT and reserved bits of PS are not written (R125, R126). -/
def dbgPut (s : State) (t n : Nat) (v : BitVec 40) : State :=
  let w : Word := v.extractLsb' 0 16
  if h : n < 16 then setW s t ⟨n, h⟩ w
  else if n < 24 then setX s t (Fin.ofNat 8 (n - 16)) w
  else if n < 32 then setP s t (Fin.ofNat 8 (n - 24)) (v.getLsbD 0)
  else if n = 32 then mapRegs s t (fun r => { r with acc0 := v })
  else if n = 33 then mapRegs s t (fun r => { r with acc1 := v })
  else if n = 34 then setBc s t w
  else if n = 35 then setPs s t (((regsOf s t).ps &&& 0xFFC0) ||| (w &&& 0x003F))
  else setPc s t w

/-- The width of register `n` of DBG_REG_WRITE. -/
def dbgWidth (n : Nat) : Nat := if 24 ≤ n ∧ n < 32 then 1 else if n = 32 ∨ n = 33 then 40 else 16

/-- DBG_REG_WRITE. -/
def execDbgRegWrite (m : EmpMsg) (thread : Word) (reg : Nat) (value : BitVec 40) (s : State) : Host.Outcome State Fault Refusal :=
  .next (empCmd s m 0x0D08 operator (fun s i =>
    onThread s i thread (fun s t =>
      inRange s (decide (reg ≤ 36 ∧ value.toNat < 2 ^ dbgWidth reg)) (fun s =>
        if (getT s t).st = .halted then answerOk (dbgPut s t reg value) [] else answerNo s stsBusy))))

/-- DBG_MEM_READ: words that the thread may read; poisoned data fails the command. -/
def execDbgMemRead (m : EmpMsg) (thread : Word) (addr : Word) (count : Nat) (s : State) : Host.Outcome State Fault Refusal :=
  .next (empCmd s m 0x0D09 observer (fun s _ =>
    onRead s thread (fun s t =>
      let as_ := range' addr.toNat count
      inRange s (decide (1 ≤ count ∧ count ≤ 4096 ∧ addr.toNat + count ≤ 65536)) (fun s =>
        inRange s (as_.all (readable s t)) (fun s =>
          if as_.any (poisonedW s t) then answerNo s stsDegraded else answerOk s (as_.map (readW s t)))))))

/-- The words that DBG_MEM_WRITE may write: private words, the packet window, carry words, cell scratch. -/
def dbgWritable (s : State) (t a : Nat) : Bool :=
  decide (a < 0x1000) || (decide (0x1000 ≤ a ∧ a < 0x1800) && writable s t a) || decide (0x1890 ≤ a ∧ a < 0x18A0) ||
    decide (0x2000 ≤ a ∧ a < 0x6000)

/-- DBG_MEM_WRITE. -/
def execDbgMemWrite (m : EmpMsg) (thread : Word) (addr : Word) (words : List Word) (s : State) : Host.Outcome State Fault Refusal :=
  .next (empCmd s m 0x0D0A operator (fun s i =>
    onThread s i thread (fun s t =>
      inRange s (decide (words ≠ [] ∧ words.length ≤ 4480) && (range' addr.toNat words.length).all (dbgWritable s t)) (fun s =>
        answerOk (writeWs s t addr.toNat words) []))))

end Sys2Proof.Machine
end

