-- ==== Sys2Proof/Machine/Digest.lean ====
section
/-! DEFINITION. The digest unit of a cell (R155, R158 to R163, R167): its five modes, its instructions, the end of a feed. -/

namespace Sys2Proof.Machine

/-! ## The modes (R160) -/

/-- The start state of a mode. -/
def dgStartAcc (mode : Nat) (keys : List Word) : DigestAcc :=
  if mode = 3 then
    let v := sipStart (bytesOf (keys.take 8))
    ⟨0, 0, [], v.v0, v.v1, v.v2, v.v3⟩
  else ⟨if mode ≤ 1 then 0xFFFFFFFF else 0, 0, [], 0, 0, 0, 0⟩

/-- Feed one byte. -/
def dgByte (mode : Nat) (keys : List Word) (a : DigestAcc) (b : Byte) : DigestAcc :=
  let n := a.n + 1
  match mode with
  | 0 => { a with s := crcByte polyCrc32 a.s b, n := n }
  | 1 => { a with s := crcByte polyCrc32c a.s b, n := n }
  | 2 => { a with s := toepByte keys a.n a.s b, n := n }
  | 3 =>
    let part := a.part ++ [b]
    if part.length < 8 then { a with part := part, n := n }
    else
      let v := sipBlock ⟨a.v0, a.v1, a.v2, a.v3⟩ (BitVec.ofNat 64 (leNat part))
      ⟨a.s, n, [], v.v0, v.v1, v.v2, v.v3⟩
  | _ => { a with s := onesAdd a.s (a.n % 2 = 1) b, n := n }

/-- Result word `k` of a mode. -/
def dgResult (mode : Nat) (a : DigestAcc) (k : Nat) : Word :=
  match mode with
  | 3 => wordAt (wordsOf 4 (sipEnd ⟨a.v0, a.v1, a.v2, a.v3⟩ a.n a.part).toNat) k
  | 4 => (match k with | 0 => onesFold a.s | 1 => ~~~ onesFold a.s | _ => 0)
  | 2 => wordAt (wordsOf 2 a.s.toNat) k
  | _ => wordAt (wordsOf 2 (a.s ^^^ 0xFFFFFFFF).toNat) k

def getDg (s : State) (t : Nat) : Digest := (getCell s (thrCell t)).digest
def setDg (s : State) (t : Nat) (x : Digest) : State := modCell s (thrCell t) (fun c => { c with digest := x })

/-- Feed bytes to the unit of a thread's cell. -/
def dgFeedBytes (s : State) (t : Nat) (bs : List Byte) : State :=
  let x := getDg s t
  setDg s t { x with acc := bs.foldl (dgByte x.mode x.keys) x.acc }

/-! ## The instructions (R158, R161 to R163) -/

/-- An instruction of the digest unit: it faults NOT_CLAIMED without the claim and does not issue while the unit is busy. -/
def issueDg (s : State) (i : Issue) (ok : Bool) (reads : List WReg) (whileBusy : Bool) (body : State → Act) : State :=
  issue s i ok reads false (fun s =>
    if !holdsDg s i.tid then .fault 6 0
    else if !whileBusy && (getDg s i.tid).op.isSome then .stall
    else body s)

/-- DG.START k. -/
def execDgStart (i : Issue) (k : BitVec 4) (s : State) : Host.Outcome State Fault Refusal :=
  .next (issueDg s i (okPlain i && decide (k.toNat < 5)) [] false (fun s =>
    let x := getDg s i.tid
    .done (setDg s i.tid { x with mode := k.toNat, acc := dgStartAcc k.toNat x.keys, err := false, trunc := false }) 1 []))

/-- DG.SEED Wa, Wb. -/
def execDgSeed (i : Issue) (a b : WReg) (s : State) : Host.Outcome State Fault Refusal :=
  .next (issueDg s i (okPlain i) [a, b] false (fun s =>
    let x := getDg s i.tid
    let r := regsOf s i.tid
    let v : BitVec 32 := if x.mode ≤ 1 then r.w[a] ++ r.w[b] else if x.mode = 4 then (r.w[b]).zeroExtend 32 else x.acc.s
    .done (setDg s i.tid { x with acc := { x.acc with s := v } }) 1 []))

/-- DG.W Wa. -/
def execDgW (i : Issue) (a : WReg) (s : State) : Host.Outcome State Fault Refusal :=
  .next (issueDg s i (okPlain i) [a] false (fun s => .done (dgFeedBytes s i.tid (bytesOf [(regsOf s i.tid).w[a]])) 1 []))

/-- DG.B Wa. -/
def execDgB (i : Issue) (a : WReg) (s : State) : Host.Outcome State Fault Refusal :=
  .next (issueDg s i (okPlain i) [a] false (fun s => .done (dgFeedBytes s i.tid [((regsOf s i.tid).w[a]).extractLsb' 0 8]) 1 []))

/-- DG.RD Wd, k: UNCORRECTABLE while ERR is 1. -/
def execDgRd (i : Issue) (d : WReg) (k : BitVec 4) (s : State) : Host.Outcome State Fault Refusal :=
  .next (issueDg s i (okPlain i && decide (k.toNat < 4)) [] false (fun s =>
    let x := getDg s i.tid
    if x.err then .fault 9 0 else .done (setW s i.tid d (dgResult x.mode x.acc k.toNat)) 1 []))

/-- The status word. -/
def dgStatus (x : Digest) : Word :=
  nw ((if x.op.isSome then 32768 else 0) + x.mode * 4096 + (if x.err then 2048 else 0) + if x.trunc then 1024 else 0)

/-- DG.STAT Wd. -/
def execDgStat (i : Issue) (d : WReg) (s : State) : Host.Outcome State Fault Refusal :=
  .next (issueDg s i (okPlain i) [] true (fun s => .done (setW s i.tid d (dgStatus (getDg s i.tid))) 1 []))

/-- DG.BUSY Pd. -/
def execDgBusy (i : Issue) (pd : PReg) (s : State) : Host.Outcome State Fault Refusal :=
  .next (issueDg s i (okPlain i && decide (pd ≠ 0)) [] true (fun s =>
    .done (setP s i.tid pd (getDg s i.tid).op.isSome) 1 []))

/-- The words of a span; addresses advance modulo 65,536. -/
def spanWords (a : Word) (n : Nat) : List Nat := (List.range n).map (fun k => (a.toNat + k) % 65536)

/-- A feed or key load of `n` words (R162): REGION, then NOT_CLAIMED, by their codes; then it waits for a forager result in its span. -/
def issueSpan (s : State) (i : Issue) (ok : Bool) (reads : List WReg) (x : XReg) (words : State → Nat) (start : State → Word → State) : State :=
  issue s i ok reads false (fun s =>
    let a := (regsOf s i.tid).x[x]
    let span := spanWords a (words s)
    match span.find? (fun k => !readable s i.tid k) with
    | some k => .fault 3 (nw k)
    | none =>
      if !holdsDg s i.tid then .fault 6 0
      else if (getDg s i.tid).op.isSome || span.any (waitsSlot s i.tid) then .stall
      else .done (start s a) 1 (span.map (fun k => (k, false))))

/-- The bytes that DG.FEED takes of register `b`. -/
def feedCount (s : State) (i : Issue) (b : WReg) : Nat := min 8192 ((regsOf s i.tid).w[b]).toNat

/-- DG.FEED Xa, Wb. -/
def execDgFeed (i : Issue) (x : XReg) (b : WReg) (s : State) : Host.Outcome State Fault Refusal :=
  .next (issueSpan s i (okPlain i) [b] x (fun s => (feedCount s i b + 1) / 2) (fun s a =>
    let n := feedCount s i b
    let y := getDg s i.tid
    let y := { y with trunc := y.trunc || decide (((regsOf s i.tid).w[b]).toNat > 8192) }
    setDg s i.tid (if n = 0 then y else { y with op := some ⟨false, a, n⟩ })))

/-- DG.KEYS Xa. -/
def execDgKeys (i : Issue) (x : XReg) (b : WReg) (s : State) : Host.Outcome State Fault Refusal :=
  .next (issueSpan s i (okPlain i && decide (b = 0)) [] x (fun _ => 32) (fun s a =>
    setDg s i.tid { getDg s i.tid with op := some ⟨true, a, 64⟩ }))

/-- The end of an operation: the unit reads its words, a poisoned one as 0 with ERR set; then UNIT is raised (R162, R163). -/
def dgFinish (s : State) (t : Nat) (o : DigestOp) : State :=
  let span := spanWords o.addr ((o.count + 1) / 2)
  let bad := span.any (poisonedW s t)
  let ws := span.map (fun k => if poisonedW s t k then 0 else readW s t k)
  let x := { getDg s t with op := none }
  let s := setDg s t { x with err := x.err || bad, keys := if o.keys then ws else x.keys }
  raiseEvent (if o.keys then s else dgFeedBytes s t ((bytesOf ws).take o.count)) t 14

/-- DG_OP_DONE. -/
def execDgOpDone (cell : Nat) (s : State) : Host.Outcome State Fault Refusal :=
  .next (
    let x := (getCell s (cell / 8)).digest
    match x.op, x.claim with
    | some o, some t => dgFinish s t o
    | _, _ => s)

end Sys2Proof.Machine
end

