-- ==== Sys2Proof/Machine/Firmware.lean ====
section
/-!
DEFINITION. Keeper firmware (R468 to R470) and the commands of the firmware family; Keepers that come back (R403, R470).
-/

namespace Sys2Proof.Machine

/-! ## The slots on both devices (R454, R468) -/

/-- The slot that does not hold the running image. -/
def spareSlot (s : State) : Nat := 1 - s.boot.running

/-- Change a slot on both devices. -/
def bothSlots (s : State) (k : Nat) (f : FwSlot → FwSlot) : State :=
  setFwSlot (setFwSlot s 0 k (f (fwSlot s 0 k))) 1 k (f (fwSlot s 1 k))

/-- The header's fields as the words written give them. -/
def withHeader (x : FwSlot) : FwSlot :=
  { x with
    release := fwWord x 2, imageSeq := BitVec.ofNat 32 (valOf [fwWord x 3, fwWord x 4]), length := valOf [fwWord x 5, fwWord x 6] }

/-- Words written at an offset of a slot; STATE stays at loaded. -/
def writeImage (at_ : Nat) (ws : List Word) (x : FwSlot) : FwSlot :=
  let words := ws.zipIdx.foldl (fun m e => kset m (at_ + e.2) e.1 0xFFFF) x.words
  withHeader { x with state := 0xFFFE, words := words }

/-- FW_LOAD: a chunk of 1 to 4,400 words at a byte offset; the chunk at offset 0 erases the slot first. -/
def execFwLoad (m : EmpMsg) (offset : Nat) (words : List Word) (s : State) : Host.Outcome State Fault Refusal :=
  .next (empCmd s m 0x0A01 owner (fun s _ =>
    inRange s (decide (1 ≤ words.length ∧ words.length ≤ 4400 ∧ offset % 2 = 0 ∧ offset + 2 * words.length ≤ 4194304)) (fun s =>
      let s := { s with boot := { s.boot with verified := false } }
      let s := if offset = 0 then bothSlots s (spareSlot s) (fun _ => erasedSlot) else s
      answerOk (bothSlots s (spareSlot s) (writeImage (offset / 2) words)) [])))

/-- FW_VERIFY: RELEASE and IMAGE_SEQ of an image whose signature verifies on both devices. -/
def execFwVerify (m : EmpMsg) (s : State) : Host.Outcome State Fault Refusal :=
  .next (empCmd s m 0x0A02 owner (fun s _ =>
    let a := fwSlot s 0 (spareSlot s)
    let b := fwSlot s 1 (spareSlot s)
    inRange s (decide (a.state = 0xFFFE ∧ b = a) && imageValid a) (fun s =>
      answerOk { s with boot := { s.boot with verified := true } } (a.release :: wordsOf 2 a.imageSeq.toNat))))

/-! ## Activation (R468 to R470) -/

/-- FW_ACTIVATE: the slot is on trial, and every Keeper restarts; the reply follows the restart. -/
def execFwActivate (m : EmpMsg) (s : State) : Host.Outcome State Fault Refusal :=
  .next (empWith s m 0x0A03 owner (fun s i =>
    if m.len ≠ 0 then .now (answerNo s stsRange)
    else if genStaged s ∨ !s.boot.verified then .now (answerNo s stsBusy)
    else
      let s := bothSlots s (spareSlot s) (fun x => { x with state := 0xFFFC })
      let s := forEach (usableDies s) dropKeeperLocks s
      .wait { s with boot := { s.boot with
        verified := false, activating := some ⟨leadMono s, 0, false, i, m⟩ } }) (fun s _ => s))

/-- Answer the command that asked for the activation. -/
def answerActivation (s : State) (a : Activation) (status : Nat) : State :=
  match session s a.ses with
  | some x => if sesIdOf a.ses x = a.msg.session then reply s a.msg 0x0A03 a.ses x.key status [] else s
  | none => s

/-- Every Keeper has reported: the new image is confirmed, or the old one is back. -/
def endActivation (s : State) (a : Activation) : State :=
  let s := { s with boot := { s.boot with activating := none } }
  let note (s : State) (old : Nat) : State :=
    recordK s s.pkg.lead 0x0021 ([s.boot.image.1] ++ wordsOf 2 s.boot.image.2.toNat ++ [nw old])
  if a.old then answerActivation (note { s with boot := { s.boot with fwFailed := true } } 1) a stsDegraded
  else
    let k := spareSlot s
    let s := bothSlots s s.boot.running (fun x => { x with state := 0xFFF0 })
    let s := bothSlots s k (fun x => { x with state := 0xFFF8 })
    let x := fwSlot s 0 k
    let s := { s with boot := { s.boot with running := k, image := (x.release, x.imageSeq), fwFailed := false } }
    answerActivation (note s 0) a stsOk

/-- KEEPER_RESTART_DONE: a restarted Keeper is back in service (R403), or reports ready on its image (R470). -/
def execKeeperRestartDone (die : Nat) (s : State) : Host.Outcome State Fault Refusal :=
  .next (
    let s := { s with kpr := { s.kpr with restarting := kset s.kpr.restarting die none none } }
    match s.boot.activating with
    | none => s
    | some a =>
      let a := { a with ready := a.ready ||| BitVec.ofNat 8 (2 ^ die) }
      if (allDies s).all (fun d => !dieAlive s d || a.ready.getLsbD d) then endActivation s a
      else { s with boot := { s.boot with activating := some a } })

/-- FW_ACTIVATE_TIMEOUT: a Keeper has not verified the image, or not reported within 2 s: every Keeper restarts from the old image. -/
def execFwActivateTimeout (die : Nat) (s : State) : Host.Outcome State Fault Refusal :=
  .next (
    match s.boot.activating with
    | none => s
    | some a =>
      if a.old ∨ a.ready.getLsbD die ∨ !dieAlive s die then s
      else
        let s := bothSlots s (spareSlot s) (fun x => { x with state := 0xFFF0 })
        { s with boot := { s.boot with activating := some { a with old := true, ready := 0, at_ := leadMono s } } })

/-! ## Status, the record, the key area (R455, R461, R463) -/

/-- Whether anything is unusable since start-up, or the last activation was undone. -/
def bootDegraded (s : State) : Bool :=
  s.boot.fwFailed || (allDies s).any (fun d =>
    let v := getR s .bootDieStat s.pkg.lead d
    decide (v % 16 ≠ 15) || decide (v / 256 % 65536 ≠ 0))

/-- A slot's header: 55 words, STATE as it stands. -/
def headerWords (x : FwSlot) : List Word := (List.range 55).map (fun k => if k = 1 then nw x.state else fwWord x k)

/-- FW_STATUS. -/
def execFwStatus (m : EmpMsg) (s : State) : Host.Outcome State Fault Refusal :=
  .next (empCmd s m 0x0A00 observer (fun s _ =>
    inRange s (decide (m.len = 0)) (fun s =>
      let ws := (allDies s).flatMap (fun d => wordsOf 2 (getR s .bootDieStat s.pkg.lead d)) ++ [s.boot.image.1] ++
        wordsOf 2 s.boot.image.2.toNat ++ headerWords (fwSlot s s.pkg.lead 0) ++ headerWords (fwSlot s s.pkg.lead 1)
      ⟨if bootDegraded s then stsDegraded else stsOk, ws, s⟩)))

/-- FW_BCR_GET. -/
def execFwBcrGet (m : EmpMsg) (s : State) : Host.Outcome State Fault Refusal :=
  .next (empCmd s m 0x0A05 observer (fun s _ => inRange s (decide (m.len = 0)) (fun s => answerOk s ((List.range 2048).map (bcrWord s)))))

/-- FW_BCR_SET: it takes effect at the next cold reset. -/
def execFwBcrSet (m : EmpMsg) (record : List Word) (s : State) : Host.Outcome State Fault Refusal :=
  .next (empCmd s m 0x0A06 owner (fun s _ =>
    inRange s (decide (record.length = 2048)) (fun s =>
      let bcr := record.zipIdx.foldl (fun m e => kset m e.2 e.1 0) ([] : Map Word)
      answerOk { s with boot := { s.boot with bcr := bcr } } [])))

/-- Every key slot is emptied, and every session ends (R463, R368). -/
def unclaim (s : State) : State :=
  let s := forEach (range' 1 41) (fun s i => endSession s i 2) s
  { s with kpr := { s.kpr with keys := [] } }

/-- FW_UNCLAIM: the reply goes before its session ends. -/
def execFwUnclaim (m : EmpMsg) (s : State) : Host.Outcome State Fault Refusal :=
  .next (empThen s m 0x0A07 owner (fun s _ => inRange s (decide (m.len = 0)) (fun s => answerOk s [])) (fun s _ => unclaim s))

end Sys2Proof.Machine
end

