-- ==== Sys2Proof/Machine/Jtag.lean ====
section
/-! DEFINITION. The TAP (R509, R463): boundary scan, bypass, identification, the key register, the record dump, the warm reset. -/

namespace Sys2Proof.Machine

/-- Bits of a number, least significant first, as a data register shifts them out. -/
def scanBits (n v : Nat) : List Bool := (List.range n).map (fun k => v.testBit k)

/-- An instruction is loaded, and its data register shifts out what it captured. -/
def scanOut (s : State) (code : Nat) (bits : List Bool) : State :=
  { s with out := s.out ++ [.scan bits], boot := { s.boot with jtag := code } }

/-- Boundary scan: the levels captured are free values (the manual gives the cells but not their order); the update latches take what was
shifted in. -/
def boundaryScan (s : State) (code : Nat) (shift : List Bool) : State :=
  let bits := (List.range shift.length).map (fun k => Config.scanBit (s.free + k))
  let s := scanOut { s with free := s.free + shift.length } code bits
  { s with boot := { s.boot with scan := shift } }

/-- EXTEST. -/
def execJtagExtest (shift : List Bool) (s : State) : Host.Outcome State Fault Refusal := .next (boundaryScan s 0x00 shift)

/-- SAMPLE/PRELOAD. -/
def execJtagSamplePreload (shift : List Bool) (s : State) : Host.Outcome State Fault Refusal := .next (boundaryScan s 0x02 shift)

/-- The part number in IDCODE. -/
def partNumber (s : State) : Nat :=
  match s.pkg.n with | 2 => 0x1282 | 4 => 0x2564 | 6 => 0x3846 | _ => 0x5128

/-- The 32 bits of IDCODE. -/
def idcode (s : State) : Nat := Config.siliconRevision.toNat * 2 ^ 28 + partNumber s * 2 ^ 12 + 0x2E9 * 2 + 1

/-- IDCODE. -/
def execJtagIdcode (s : State) : Host.Outcome State Fault Refusal := .next (scanOut s 0x01 (scanBits 32 (idcode s)))

/-- CLAMP: bypass, with the outputs held. -/
def execJtagClamp (s : State) : Host.Outcome State Fault Refusal := .next (scanOut s 0x03 [false])

/-- HIGHZ: bypass, with the outputs high impedance. -/
def execJtagHighz (s : State) : Host.Outcome State Fault Refusal := .next (scanOut s 0x04 [false])

/-- Codes of instructions other than BYPASS. -/
def assignedCodes : List Nat := [0x00, 0x01, 0x02, 0x03, 0x04, 0x10, 0x11, 0x12, 0x13]

/-- BYPASS, or any unassigned code. -/
def execJtagBypass (code : Byte) (s : State) : Host.Outcome State Fault Refusal :=
  .next (if code.toNat ∈ assignedCodes then s else scanOut s code.toNat [false])

/-- Whether a lead stands that can write the key area. -/
def leadStands (s : State) : Bool := s.pkg.running && !s.pkg.noLead

/-- The low 16 bits of the CRC-32C of a key's bytes. -/
def keyCrc (key : BitVec 256) : Word := BitVec.ofNat 16 (crc32c 0xFFFFFFFF (bytesOf (wordsOf 16 key.toNat))).toNat

/-- KEY_CLAIM: Update-DR writes the Owner key to an empty slot 0; the register captures what came of the last claim. -/
def execKeyClaim (key : BitVec 256) (crc : Word) (s : State) : Host.Outcome State Fault Refusal :=
  .next (
    let s := scanOut s 0x10 (scanBits 272 s.boot.keyCap)
    let cap (s : State) (v : Nat) : State := { s with boot := { s.boot with keyCap := v } }
    if !leadStands s then s
    else if (kget s.kpr.keys 0 ⟨0, 0⟩).priv ≠ 0 then cap s 2
    else if keyCrc key ≠ crc then cap s 3
    else
      let s := { s with kpr := { s.kpr with keys := kset s.kpr.keys 0 ⟨owner, key⟩ ⟨0, 0⟩ } }
      cap (record s s.pkg.lead 0x0006 0xC000 [0, nw owner, 0]) 1)

/-- KEY_ERASE: Update-DR with 1 unclaims the part. -/
def execKeyErase (bit : Bool) (s : State) : Host.Outcome State Fault Refusal :=
  .next (
    let s := scanOut s 0x11 [false]
    if bit ∧ leadStands s then unclaim s else s)

/-- REC_DUMP: the next buffered record of a die, from the oldest on, or 0xFF in [7:0] when none remains. -/
def execRecDump (die : BitVec 3) (s : State) : Host.Outcome State Fault Refusal :=
  .next (
    let d := die.toNat
    let n := kget s.log.dumpAt d 0
    match (dieBuf s d)[n]? with
    | some r =>
      scanOut { s with log := { s.log with dumpAt := kset s.log.dumpAt d (n + 1) 0 } } 0x12 (scanBits 264 (valOf (recWords r) * 256))
    | none => scanOut s 0x12 (scanBits 264 0xFF))

/-- WARM_RESET: Update-DR with 1 causes a package warm reset. -/
def execWarmReset (bit : Bool) (s : State) : Host.Outcome State Fault Refusal :=
  .next (
    let s := scanOut s 0x13 [false]
    if bit ∧ s.pkg.running then warmReset s 0 else s)

end Sys2Proof.Machine
end

