-- ==== Sys2Proof/Machine/PortCmds.lean ====
section
/-! DEFINITION. The commands of ports, flow control, scheduling, marking, mirroring and sampling (12). -/

namespace Sys2Proof.Machine

/-- Whether a GPN exists and its port's die serves it. -/
def portNamed (s : State) (g : Nat) : Bool := gpnExists s g && portServes s g

/-- A command on a port. -/
def onPort (s : State) (g : Nat) (body : State → Reply) : Reply := inRange s (portNamed s g) body

/-! ## Links (R297) -/

/-- What PORT_STATUS tells of a port: the link state, PCS_UP, the stopped classes, their remaining times in ns, the FIFO occupancy in bytes,
XOFF and XON in KiB. -/
def portStatus (s : State) (g : Nat) : List Word :=
  let p := getPort s g
  let rest (c : Nat) : Nat := (kget p.pausedUntil c none).getD 0 - mono s (gpnDie g)
  [nw (linkCode s g % 4), if p.pcsUp then 1 else 0, nw (sumN ((List.range 8).map (fun c => if classStopped s g c then 2 ^ c else 0)))] ++
    (List.range 8).flatMap (fun c => wordsOf 2 (rest c)) ++ wordsOf 2 (occupancy s g) ++ [nw (xoffBytes s g / 1024), nw (xonBytes s g / 1024)]

/-- PORT_STATUS. -/
def execPortStatus (m : EmpMsg) (gpns : List Nat) (s : State) : Host.Outcome State Fault Refusal :=
  .next (empCmd s m 0x0400 observer (fun s _ =>
    inRange s (gpns.all (portNamed s)) (fun s => answerOk s (gpns.flatMap (portStatus s)))))

/-- PORT_LINK_SET: ADMIN takes effect at once (R297). -/
def execPortLinkSet (m : EmpMsg) (gpn : Nat) (value : BitVec 32) (s : State) : Host.Outcome State Fault Refusal :=
  .next (empCmd s m 0x0401 operator (fun s _ =>
    onPort s gpn (fun s =>
      let v := value.toNat
      inRange s (definedBits .egrLinkCfg v && decide (bitsOf v 16 10 ≤ 1000)) (fun s =>
        answerOk (settlePort (setR s .egrLinkCfg (gpnDie gpn) (gpnPort gpn) v) gpn) []))))

/-! ## Flow control (R302 to R304) -/

/-- Transmit and receive latency of a lane rate, added, in ns: 212.5, 106.25, 53.125 PAM4, 25.78125 NRZ (R303). -/
def latencyNs (lane : Nat) : Nat := match lane with | 3 => 200 | 2 => 230 | 1 => 260 | _ => 400

/-- The lane rate of a port: 0 25.78125, 1 53.125, 2 106.25, 3 212.5 Gbit/s (R489, R491). -/
def laneRate (s : State) (g : Nat) : Nat :=
  if isHostPort g then (if (bcrWord s 6).getLsbD 0 then 0 else 1)
  else
    match portMode s g with
    | 1 | 3 => 0
    | 2 | 4 | 6 | 9 => 1
    | 5 | 7 | 10 | 12 => 2
    | _ => 3

/-- H of R303 in KiB, rounded up: `cable` in m, `peer` in ns. -/
def headroomKib (s : State) (g cable peer : Nat) : Nat :=
  ceilDiv (portRate s g * (200 + latencyNs (laneRate s g) + 10 * cable + peer) + 2 * 73888 + 672) 8192

/-- XOFF and XON of PORT_FC_SET in KiB: none where AUTO = 1 is refused (R304). -/
def fcMarks (s : State) (g : Nat) (auto : Bool) (a b : Nat) : Option (Nat × Nat) :=
  if !auto then some (a, b)
  else
    let h := headroomKib s g a b
    let fifo := fifoBytes s g / 1024
    if a > 2000 ∨ h + 32 > fifo then none else some (fifo - h, fifo - h - 19)

/-- The bits set in a number of 8 bits. -/
def bitCount (n : Nat) : Nat := ((List.range 8).filter (fun k => n.testBit k)).length

/-- The field rules of EGR.PORT_FC for a port. -/
def fcOk (s : State) (g v xoff xon : Nat) : Bool :=
  let mode := v % 4
  definedBits .egrPortFc v && decide (mode ≠ 3) && decide (bitsOf v 2 2 ≠ 3) && decide (bitCount (bitsOf v 8 8) ≤ 3) &&
    (decide (mode ≠ 2) || decide (bitsOf v 8 8 ≠ 0)) && decide (bitsOf v 16 10 ≤ 1000) && decide (xoff < 2048 ∧ xon < 2048) &&
    decide (xoff ≤ fifoBytes s g / 1024) && (decide (mode = 0) || decide (1 ≤ xoff ∧ xon < xoff))

/-- EGR.PORT_FC takes a value. A peer that is stopped is released where the mode changes (DEDUCED, log entry 92), and the new marks are
compared at once. -/
def setPortFc (s : State) (g v : Nat) : State :=
  let s :=
    if (getPort s g).xoffSent ∧ fcMode s g ≠ v % 4 then modPort (sendPause s g 0) g (fun p => { p with xoffSent := false }) else s
  let s := setR s .egrPortFc (gpnDie g) (gpnPort g) v
  checkXon (checkXoff s g) g

/-- PORT_FC_SET: the reply carries XOFF and XON. -/
def execPortFcSet (m : EmpMsg) (s : State) : Host.Outcome State Fault Refusal :=
  .next (empCmd s m 0x0402 operator (fun s _ =>
    let g := pw m 0
    onPort s g (fun s =>
      inRange s (decide (m.len = 6) && portConfigured s g && decide (Nat.land (pw m 1) 0x7F80 = 0 ∧ pw m 2 < 256 ∧ pw m 3 < 1024)) (fun s =>
        match fcMarks s g (decide (pw m 1 ≥ 32768)) (pw m 4) (pw m 5) with
        | none => answerNo s stsRange
        | some (xoff, xon) =>
          let v := pw m 1 % 128 + pw m 2 * 2 ^ 8 + pw m 3 * 2 ^ 16 + xoff * 2 ^ 32 + xon * 2 ^ 48
          inRange s (decide (xoff < 2048 ∧ xon < 2048) && fcOk s g v xoff xon) (fun s => answerOk (setPortFc s g v) [nw xoff, nw xon])))))

/-! ## Scheduling, shaping, marking (R290, R291, R305) -/

/-- PORT_CLASS_SET. -/
def execPortClassSet (m : EmpMsg) (gpn cls : Nat) (value : BitVec 32) (s : State) : Host.Outcome State Fault Refusal :=
  .next (empCmd s m 0x0403 operator (fun s _ =>
    onPort s gpn (fun s =>
      let v := value.toNat
      inRange s (decide (cls < 8) && definedBits .egrClassCfg v && decide (bitsOf v 1 8 ≠ 0)) (fun s =>
        answerOk (setR s .egrClassCfg (gpnDie gpn) (gpnPort gpn * 8 + cls) v) []))))

/-- PORT_TG_SET. -/
def execPortTgSet (m : EmpMsg) (die group : Nat) (value : BitVec 32) (s : State) : Host.Outcome State Fault Refusal :=
  .next (empCmd s m 0x0404 operator (fun s _ =>
    onDie s die (fun s =>
      let v := value.toNat
      inRange s (decide (group < 4096) && definedBits .egrTgSched v && decide (v ≠ 0)) (fun s =>
        answerOk (setR s .egrTgSched die group v) []))))

/-- The field rules of EGR.Q_SCHED. -/
def qSchedOk (v : Nat) : Bool :=
  let rate := bitsOf v 32 21
  definedBits .egrQSched v && decide (v % 256 ≠ 0) && decide (1 ≤ bitsOf v 8 16 ∧ bitsOf v 8 16 ≤ 62500) &&
    (decide (bitsOf v 28 1 = 0) || decide (1 ≤ rate ∧ rate ≤ 1600000)) && decide (bitsOf v 53 11 ≠ 0)

/-- EGR.Q_SCHED of a queue takes a value: SHAPE = 1 fills the token count (R291). -/
def setQSched (s : State) (d l v : Nat) : State :=
  let s := setR s .egrQSched d l v
  if bitsOf v 28 1 = 1 then setShaper s (d * 262144 + l) ((bitsOf v 53 11 * 1024 * 8000 : Nat) : Int) else s

/-- PORT_QSCHED_SET: consecutive queues of one die. -/
def execPortQschedSet (m : EmpMsg) (die first : Nat) (values : List (BitVec 64)) (s : State) : Host.Outcome State Fault Refusal :=
  .next (empCmd s m 0x0405 operator (fun s i =>
    onDie s die (fun s =>
      inRange s (queueSpan first values.length 1024 && values.all (fun v => qSchedOk v.toNat)) (fun s =>
        queueRight s i die first values.length (fun s =>
          answerOk (forEach values.zipIdx (fun s e => setQSched s die (first + e.2) e.1.toNat) s) [])))))

/-- PORT_ECN_SET. -/
def execPortEcnSet (m : EmpMsg) (die profile : Nat) (value : BitVec 64) (s : State) : Host.Outcome State Fault Refusal :=
  .next (empCmd s m 0x0406 operator (fun s _ =>
    onDie s die (fun s =>
      let v := value.toNat
      inRange s (decide (profile < 16) && definedBits .egrEcnProf v && decide (bitsOf v 16 16 < bitsOf v 32 16)) (fun s =>
        answerOk (setR s .egrEcnProf die profile v) []))))

/-! ## Mirror sessions and samplers (R308 to R310) -/

/-- Whether any mirror session or sampler of a die is enabled. -/
def copyOn (s : State) (d : Nat) : Bool :=
  (List.range 8).any (fun i => decide (fieldR s .egrMirCfg d i 0 1 = 1)) ||
    (List.range 64).any (fun i => decide (fieldR s .egrSmpCfg d i 0 1 = 1))

/-- The copy engine is held for owner features while any session or sampler of its die is enabled (R308). -/
def holdCopier (s : State) (d : Nat) (feature who : Word) : State :=
  match getClaim s 5 d with
  | none => if copyOn s d then (match takeClaim s 5 d 1 feature who 0 with | .ok s => s | .error _ => s) else s
  | some c =>
    if copyOn s d then s
    else if c.rank = 1 then (if claimStays c then freeClaim s 5 d else s)
    else match c.under with
      | some (_, f, _, _) => if f = 0x0407 ∨ f = 0x0408 then dropUnder s 5 d else s
      | none => s

/-- A command that would enable a session or sampler while the engine is held by a higher rank is refused (R308). -/
def copierFree (s : State) (d : Nat) (enables : Bool) (body : State → Reply) : Reply :=
  match getClaim s 5 d with
  | some c => if enables ∧ c.rank ≥ 2 then answerConflict s (conflictWords 5 d c) else body s
  | none => body s

/-- Whether a PORT field of a session or sampler names a lane of the die or its host port. -/
def sourcePort (d p : Nat) : Bool := decide (p < 32 ∨ (p = 32 ∧ d < 2))

/-- PORT_MIRROR_SET. -/
def execPortMirrorSet (m : EmpMsg) (die session : Nat) (value : BitVec 32) (s : State) : Host.Outcome State Fault Refusal :=
  .next (empCmd s m 0x0407 owner (fun s i =>
    onDie s die (fun s =>
      let v := value.toNat
      inRange s (decide (session < 8 ∧ bitsOf v 8 3 ≤ 4) && sourcePort die (bitsOf v 2 6) && qidExists s (bitsOf v 11 21)) (fun s =>
        copierFree s die (decide (v % 2 = 1 ∧ fieldR s .egrMirCfg die session 0 1 = 0)) (fun s =>
          answerOk (holdCopier (setR s .egrMirCfg die session v) die 0x0407 (sessionId i)) [])))))

/-- The field rules of EGR.SMP_CFG. -/
def smpOk (d v : Nat) : Bool :=
  let point := bitsOf v 1 2
  let vmask := bitsOf v 16 4
  definedBits .egrSmpCfg v && decide (point ≤ 1) && sourcePort d (bitsOf v 3 6) && (if point = 0 then decide (vmask ≠ 0) else decide (vmask = 0)) &&
    decide (bitsOf v 32 16 ≠ 0)

/-- The count of a sampler that is enabled (R310). -/
def firstCount (s : State) (d v : Nat) : Nat := if bitsOf v 9 1 = 1 then 1 + (lfsr s d).toNat % bitsOf v 32 16 else bitsOf v 32 16

/-- PORT_SAMPLE_SET. -/
def execPortSampleSet (m : EmpMsg) (die sampler : Nat) (value : BitVec 64) (s : State) : Host.Outcome State Fault Refusal :=
  .next (empCmd s m 0x0408 operator (fun s i =>
    onDie s die (fun s =>
      let v := value.toNat
      inRange s (decide (sampler < 64) && smpOk die v) (fun s =>
        let enables := decide (v % 2 = 1 ∧ fieldR s .egrSmpCfg die sampler 0 1 = 0)
        copierFree s die enables (fun s =>
          let x := Machine.sampler s die sampler
          let s := if enables then setSampler s die sampler { x with count := firstCount s die v } else s
          answerOk (holdCopier (setR s .egrSmpCfg die sampler v) die 0x0408 (sessionId i)) [])))))

/-! ## Counters (R313) -/

/-- The counters of a port, in the order of R313: those of each class by class. -/
def portCounters (s : State) (g : Nat) : List Word :=
  let d := gpnDie g
  let p := gpnPort g
  let perClass (r : RegName) : List Word := (List.range 8).flatMap (fun c => valueWords s r d (p * 8 + c))
  perClass .egrCntTx ++ perClass .egrCntTxB ++
    [RegName.egrCntUnderrun, .egrCntTxAbort, .egrCntLinkLoss, .egrCntFlush, .egrCntDownRef, .egrCntPauseTx, .egrCntPauseRx,
      .egrCntPauseGuard, .egrCntMacctlOther].flatMap (fun r => valueWords s r d p) ++
    perClass .egrCntPfcWd ++ perClass .egrPausedNs

/-- PORT_STATS: ports by GPN, queues by QID, sessions as die × 8 + number, samplers as die × 64 + number (DESIGN CHOICE, log entry 93). -/
def execPortStats (m : EmpMsg) (gpns queues sessions samplers : List Nat) (s : State) : Host.Outcome State Fault Refusal :=
  .next (empCmd s m 0x0409 observer (fun s _ =>
    inRange s (gpns.all (portNamed s) && queues.all (fun q => qidExists s q && usable s (qidDie q)) &&
        sessions.all (fun k => usable s (k / 8)) && samplers.all (fun k => usable s (k / 64))) (fun s =>
      answerOk s (gpns.flatMap (portCounters s) ++
        queues.flatMap (fun q => [RegName.egrCntEcnMark, .egrCntEcnNotect].flatMap (fun r => valueWords s r (qidDie q) (qidLocal q))) ++
        sessions.flatMap (fun k => [RegName.egrCntMir, .egrCntMirSkip].flatMap (fun r => valueWords s r (k / 8) (k % 8))) ++
        samplers.flatMap (fun k => [RegName.egrCntSmp, .egrCntSmpSkip].flatMap (fun r => valueWords s r (k / 64) (k % 64)))))))

end Sys2Proof.Machine
end

