-- ==== Sys2Proof/Machine/TalCmds.lean ====
section
/-! DEFINITION. The commands of tally (R315, R319, R320, R323, R328, R331). -/

namespace Sys2Proof.Machine

/-! ## TAL_CFG (R323, R329, R342) -/

/-- Whether a span of DRAM bytes meets the reserved area or the region of a deep table in a live slot of a die. -/
def retainClash (s : State) (d base size : Nat) : Bool :=
  spansMeet base size 0 268435456 ||
    (liveSlots s d).any (fun n => (List.range 64).any (fun t =>
      let x := tblDesc s d n t
      x.en && decide (x.mode = 2) && spansMeet base size (deepBase x) (deepSize x)))

/-- Whether a retention region may be had: it lies in the DRAM of die 0 and of die 1 and meets nothing else there. -/
def retainOk (s : State) (base size : Nat) : Bool :=
  [0, 1].all (fun d => decide (s.pkg.n ≤ d) || (decide (base + size ≤ dramBytes s d) && !retainClash s d base size))

/-- Whether TAL_CFG accepts its values. -/
def talCfgOk (s : State) (ctl retain : Nat) : Bool :=
  let settle := bitsOf ctl 16 16
  let size := bitsOf retain 32 16 * 1048576
  definedBits .tallyCloseCtl ctl && definedBits .tallyRetainCfg retain && decide (bitsOf ctl 1 2 ≠ 0) &&
    decide (500 ≤ settle ∧ settle ≤ 10000) && (decide (ctl % 2 = 0) || decide (size ≠ 0)) &&
    (decide (size = 0) || retainOk s (bitsOf retain 0 32 * 4096) size)

/-- With another SETTLE, the pending close of each die moves with it; it still closes the same minute (R323). -/
def moveSettle (old : Nat) (s : State) : State :=
  forEach (allDies s) (fun s d =>
    match getSched s d entTallyClose with
    | some e => if e.t > stime s d then setSched s d entTallyClose (some { e with t := closeOf s (e.t - old - 1) }) else s
    | none => s) s

/-- TAL_CFG: enabling tally makes its next batch PARTIAL (R329). -/
def execTalCfg (m : EmpMsg) (closeCtl : BitVec 32) (retain : BitVec 64) (s : State) : Host.Outcome State Fault Refusal :=
  .next (empCmd s m 0x0600 owner (fun s _ =>
    inRange s (talCfgOk s closeCtl.toNat retain.toNat) (fun s =>
      let old := settleNs s
      let first := !talOn s && decide (closeCtl.toNat % 2 = 1)
      let s := setAll (setAll s .tallyCloseCtl 0 closeCtl.toNat) .tallyRetainCfg 0 retain.toNat
      let s := { s with tal := { s.tal with partialNext := s.tal.partialNext || first } }
      answerOk (makeRoom s.tal.batches.length (moveSettle old s)) [])))

/-! ## TAL_STATUS, TAL_ACK, TAL_RESEND (R328, R331, R349) -/

/-- The sequence of the oldest retained batch; of the next one where none is retained (DESIGN CHOICE, log entry 95). -/
def oldestSeq (s : State) : BitVec 32 := match s.tal.batches with | b :: _ => b.seq | [] => s.tal.nextSeq

/-- The counters of tally, as R331 lists them. -/
def talCounters : List RegName :=
  [.tallyCntDenied, .tallyCntLate, .tallyCntFolded, .tallyCntMiss, .tallyCntPolExceed, .tallyCntRetainLost]

/-- TAL_STATUS. -/
def execTalStatus (m : EmpMsg) (dies : BitVec 8) (s : State) : Host.Outcome State Fault Refusal :=
  .next (empCmd s m 0x0601 observer (fun s _ =>
    onDies s dies (fun s ds =>
      answerOk s (wordsOf 2 (s.tal.nextSeq - 1).toNat ++ wordsOf 3 (minuteStart s s.tal.lastMinute).toNat ++
        wordsOf 2 (oldestSeq s).toNat ++ ds.flatMap (fun d => talCounters.flatMap (fun r => wordsOf 4 (getR s r d 0)))))))

/-- Whether sequence `a` is not behind `b`, in sequences that wrap. -/
def seqReaches (a b : BitVec 32) : Bool := decide ((a - b).toNat < 2147483648)

/-- TAL_ACK. -/
def execTalAck (m : EmpMsg) (seq : BitVec 32) (s : State) : Host.Outcome State Fault Refusal :=
  .next (empCmd s m 0x0602 operator (fun s _ =>
    answerOk { s with tal := { s.tal with batches := s.tal.batches.filter (fun b => !seqReaches seq b.seq) } } []))

/-- Whether a retained batch meets a poisoned block of the lead's DRAM. -/
def batchPoison (s : State) (b : Batch) : Bool :=
  blockPoison s s.pkg.lead (retainBase s / 64 + b.base / 64) (batchBytes b / 64 + 1)

/-- Send a batch again; a poisoned one is not sent and is counted (R349). -/
def resendBatch (s : State) (b : Batch) : State :=
  if batchPoison s b then cnt s .tallyCntRetainLost s.pkg.lead 0 else sendBatch s b

/-- TAL_RESEND. -/
def execTalResend (m : EmpMsg) (seq : BitVec 32) (s : State) : Host.Outcome State Fault Refusal :=
  .next (empCmd s m 0x0603 operator (fun s _ =>
    inRange s (seqReaches seq (oldestSeq s)) (fun s =>
      let bs := s.tal.batches.filter (fun b => seqReaches b.seq seq)
      ⟨if bs.any (batchPoison s) then stsDegraded else stsOk, [], forEach bs resendBatch s⟩)))

/-! ## TAL_READ, TAL_POL_SET, TAL_POL_GET (R315, R319, R320, R391) -/

/-- The counters of a tenant in the minute of a die's STIME. -/
def openCounts (s : State) (d tenant : Nat) : Vector (BitVec 64) 8 :=
  (((tenantLines s d tenant).find? (fun l => decide (l.minute = minuteOf s (stime s d)))).map (·.counts)).getD zeroCounts

/-- TAL_READ. -/
def execTalRead (m : EmpMsg) (dies : BitVec 8) (tenant : Word) (s : State) : Host.Outcome State Fault Refusal :=
  .next (empCmd s m 0x0604 observer (fun s i =>
    onDies s dies (fun s ds =>
      granting s i (fun row => mayTenant s s.pkg.lead row tenant.toNat) (fun s =>
        answerOk s (ds.flatMap (fun d => (openCounts s d tenant.toNat).toList.flatMap (fun v => wordsOf 4 v.toNat)))))))

/-- The rate of a die: its share of the package rate. -/
def polRate (rate share : Nat) : Nat := rate * share / 256

/-- Whether R320 accepts the shares: those of the usable dies add up to 256, and no other die has one. -/
def sharesOk (s : State) (shares : List Nat) : Bool :=
  decide (sumN ((usableDies s).map (fun d => shares.getD d 0)) = 256) &&
    shares.zipIdx.all (fun e => usable s e.2 || decide (e.1 = 0))

/-- Write a policer; its bucket is filled (R319). TAL_POL_SET enables the policers that it writes (DEDUCED, log entry 94). -/
def putPolicer (dir v d : Nat) (s : State) (tenant : Nat) : State :=
  let s := setR s .tallyPol d (tenant * 2 + dir) v
  { s with tal := { s.tal with polTokens := kset s.tal.polTokens (polKey d tenant dir) none none } }

/-- TAL_POL_SET. -/
def execTalPolSet (m : EmpMsg) (first count : Nat) (egress : Bool) (rate burst : Nat) (shares : List Nat) (s : State) :
    Host.Outcome State Fault Refusal :=
  .next (empCmd s m 0x0605 operator (fun s i =>
    let dir := if egress then 1 else 0
    inRange s (decide (1 ≤ count ∧ first + count ≤ 65536) && decide (1 ≤ burst ∧ burst ≤ 65535) && sharesOk s shares &&
        shares.all (fun x => decide (polRate rate x < 16777216))) (fun s =>
      granting s i (fun row => (range' first count).all (mayTenant s s.pkg.lead row)) (fun s =>
        answerOk (forEach (usableDies s) (fun s d =>
          forEach (range' first count) (putPolicer dir (1 + polRate rate (shares.getD d 0) * 256 + burst * 4294967296) d) s) s) []))))

/-- TAL_POL_GET: for each named die TALLY.POL and the whole bytes of tokens, ingress then egress. -/
def execTalPolGet (m : EmpMsg) (dies : BitVec 8) (tenant : Word) (s : State) : Host.Outcome State Fault Refusal :=
  .next (empCmd s m 0x0606 observer (fun s i =>
    onDies s dies (fun s ds =>
      granting s i (fun row => mayTenant s s.pkg.lead row tenant.toNat) (fun s =>
        answerOk s (ds.flatMap (fun d => [0, 1].flatMap (fun dir =>
          wordsOf 4 (polReg s d tenant.toNat dir) ++ wordsOf 2 (polTokens s d tenant.toNat dir / 1000000))))))))

end Sys2Proof.Machine
end

