-- ==== Sys2Proof/Machine/LaneCmds.lean ====
section
/-! DEFINITION. The commands of the lanes (R489 to R492, R512). -/

namespace Sys2Proof.Machine

/-! ## LANE_PORT_SET (R490) -/

/-- MODE of a front lane of a die. -/
def laneMode (s : State) (d l : Nat) : Nat := fieldR s .phyPortCfg d l 0 4

/-- The first lane of the port that a lane belongs to: itself, or the nearest first lane below it. -/
def laneOwner (s : State) (d : Nat) : Nat → Option Nat
  | 0 => if laneMode s d 0 = 0 then none else some 0
  | l + 1 => if laneMode s d (l + 1) = 0 then none else if laneMode s d (l + 1) = 15 then laneOwner s d l else some (l + 1)

/-- The lanes after a first lane that a mode takes. -/
def otherLanes (f mode : Nat) : List Nat := range' (f + 1) (modeLanes mode - 1)

/-- The field rules of PHY.PORT_CFG. -/
def portCfgOk (v : Nat) : Bool :=
  definedBits .phyPortCfg v && decide (v % 16 ≠ 15) && decide (bitsOf v 6 2 ≠ 3) && decide (bitsOf v 16 10 ≤ 1000) && decide (bitsOf v 26 6 ≠ 0)

/-- Whether the span of a mode at a first lane may be had. -/
def spanFree (s : State) (d f mode : Nat) : Bool :=
  decide (f % max 1 (modeLanes mode) = 0) && (f :: otherLanes f mode).all (fun l => laneOwner s d l = none || laneOwner s d l = some f)

/-- Whether an enabled queue of a die names a port. -/
def queueNames (s : State) (d p : Nat) : Bool :=
  s.regs.any (fun e => decide (e.1 / 1048576 = rkey .qmQCfg d 7 0 / 1048576) && decide (qCfg s (d * 262144 + e.1 % 1048576) % 2 = 1) &&
    decide (qPort s (d * 262144 + e.1 % 1048576) = p))

/-- Whether an enabled queue, mirror session or sampler, a pair port or a pair group names a first lane (log entry 97). -/
def laneNamed (s : State) (d f : Nat) : Bool :=
  queueNames s d f ||
    (List.range 8).any (fun k => decide (fieldR s .egrMirCfg d k 0 1 = 1 ∧ fieldR s .egrMirCfg d k 2 6 = f)) ||
    (List.range 64).any (fun k => decide (fieldR s .egrSmpCfg d k 0 1 = 1 ∧ fieldR s .egrSmpCfg d k 3 6 = f)) ||
    (pairOn s && decide (gpnOf d f ∈ pairPorts s)) || s.pair.groups.any (fun e => decide (e.2 = some (gpnOf d f)))

/-- Whether LANE_PORT_SET must wait. -/
def laneBusy (s : State) (d f mode : Nat) : Bool :=
  let old := laneMode s d f
  decide (old ≠ 0) && (decide (fieldR s .egrLinkCfg d f 0 1 = 1) || (decide (mode = 0) && laneNamed s d f))

/-- A port takes its configuration: lanes it leaves are free, lanes it takes read MODE 15. A port of another mode starts without link. -/
def setLanePort (s : State) (d f v : Nat) (who : Word) : State :=
  let old := laneMode s d f
  let s := forEach (otherLanes f old) (fun s l => setField s .phyPortCfg d l 0 4 0) s
  let s := forEach (otherLanes f (v % 16)) (fun s l => setField s .phyPortCfg d l 0 4 15) (setR s .phyPortCfg d f v)
  if old = v % 16 then s
  else
    let s := modPort s (gpnOf d f) (fun p => { p with pcsUp := false, pcsSince := mono s d, link := .down, linkUp := false })
    recordK s d 0x8010 [nw (gpnOf d f), nw old, nw (v % 16), who]

/-- LANE_PORT_SET. -/
def execLanePortSet (m : EmpMsg) (s : State) : Host.Outcome State Fault Refusal :=
  .next (empCmd s m 0x0480 operator (fun s _ =>
    let d := pw m 0
    let f := pw m 1
    let v := pw2 m 2
    inRange s (decide (m.len = 4 ∧ d < 8 ∧ f < 32) && usable s d && portCfgOk v && spanFree s d f (v % 16)) (fun s =>
      if laneBusy s d f (v % 16) then answerNo s stsBusy else answerOk (setLanePort s d f v m.session) [])))

/-! ## LANE_STATUS (R512) -/

/-- The lanes of a port, as R515 numbers the instances of PHY.FEC_SYM: a die's host lanes are 32 to 35. -/
def lanesOf (s : State) (g : Nat) : List Nat :=
  if isHostPort g then range' 32 (if laneRate s g = 0 then 4 else 2) else range' (gpnPort g) (modeLanes (portMode s g))

/-- PHY.PORT_CFG (0 for a host port), PHY.PORT_STAT, whether the port has negotiated (bit 0) and trained (bit 1), the counters of R512. -/
def laneWords (s : State) (g : Nat) : List Word :=
  let d := gpnDie g
  let p := gpnPort g
  let stat := portStat s d p
  wordsOf 2 (if isHostPort g then 0 else getR s .phyPortCfg d p) ++ wordsOf 2 stat ++ [nw (stat / 2 % 4)] ++
    [RegName.phyCntRxOk, .phyCntRxB, .phyCntRxFcs, .phyCntRxShort, .phyCntRxLong, .phyCntRxErr, .phyFecCwCorr,
      .phyFecCwUncorr].flatMap (fun r => valueWords s r d p) ++
    (lanesOf s g).flatMap (fun l => valueWords s .phyFecSym d l)

/-- LANE_STATUS. -/
def execLaneStatus (m : EmpMsg) (gpns : List Nat) (s : State) : Host.Outcome State Fault Refusal :=
  .next (empCmd s m 0x0481 observer (fun s _ =>
    inRange s (gpns.all (portNamed s)) (fun s => answerOk s (gpns.flatMap (laneWords s)))))

/-! ## LANE_TUNE_SET, LANE_PRBS -/

/-- TRAIN of the port that a lane belongs to; of the lane itself where it is free. -/
def laneTrains (s : State) (d l : Nat) : Bool := decide (fieldR s .phyPortCfg d ((laneOwner s d l).getD l) 5 1 = 1)

/-- The transmit equaliser taps of a lane. -/
def setTaps (taps : List Int) (d : Nat) (s : State) (l : Nat) : State :=
  forEach taps.zipIdx (fun s e =>
    let ts := kset s.phy.taps ((d * 32 + l) * 65536 + e.2) e.1 0
    { s with phy := { s.phy with taps := ts } }) s

/-- LANE_TUNE_SET. -/
def execLaneTuneSet (m : EmpMsg) (die : Nat) (lanes : List Nat) (taps : List Int) (s : State) : Host.Outcome State Fault Refusal :=
  .next (empCmd s m 0x0482 operator (fun s _ =>
    onDie s die (fun s =>
      inRange s (lanes.all (fun l => decide (l < 32)) && decide (taps.length < 65536)) (fun s =>
        if lanes.any (laneTrains s die) then answerNo s stsBusy else answerOk (forEach lanes (setTaps taps die) s) []))))

/-- LANE_PRBS: the bit errors of each lane, in 4 words, are free values. -/
def execLanePrbs (m : EmpMsg) (gpn : Nat) (s : State) : Host.Outcome State Fault Refusal :=
  .next (empCmd s m 0x0483 operator (fun s _ =>
    onPort s gpn (fun s =>
      inRange s (portConfigured s gpn) (fun s =>
        if fieldR s .egrLinkCfg (gpnDie gpn) (gpnPort gpn) 0 1 = 1 then answerNo s stsBusy
        else
          let n := (lanesOf s gpn).length
          let errors := (List.range n).flatMap (fun k => wordsOf 4 (Config.prbsErrors (s.free + k)))
          answerOk { s with free := s.free + n } errors))))

end Sys2Proof.Machine
end

