-- ==== Sys2Proof/Machine/LrnCmds.lean ====
section
/-! DEFINITION. The commands of learning, ageing and port guards (R241). -/

namespace Sys2Proof.Machine

/-- The counters of R242 that a die keeps once, in its order. -/
def lrnCounters : List RegName :=
  [.lrnCntLearn, .lrnCntMove, .lrnCntRefused, .lrnCntBad, .lrnCntQDrop, .lrnCntTrackFull, .lrnCntRefreshDrop, .lrnCntAssistLost,
   .lrnContestedNow]

/-- The GPNs of a package: front ports, then the host ports. -/
def allGpns (s : State) : List Nat := List.range (s.pkg.n * 32) ++ [256, 257]

/-- LRN_STATS: for each named die the counters of R242, then the learned count of every GPN, then that of each named tenant. -/
def execLrnStats (m : EmpMsg) (dies : BitVec 8) (tenants : List Word) (s : State) : Host.Outcome State Fault Refusal :=
  .next (empCmd s m 0x0310 observer (fun s _ =>
    onDies s dies (fun s ds =>
      answerOk s (ds.flatMap (fun d =>
        lrnCounters.flatMap (fun r => valueWords s r d 0) ++
          [RegName.pguardCntStorm, .pguardCntSrcBad].flatMap (fun r => (List.range 32).flatMap (valueWords s r d)) ++
          (allGpns s).flatMap (fun g => wordsOf 2 (learnedPort s d g)) ++
          tenants.flatMap (fun t => wordsOf 2 (learnedTenant s d t.toNat)))))))

/-- LRN_AGE_SET: a pass must end before the next begins (R234, R235). -/
def execLrnAgeSet (m : EmpMsg) (periodMs passTicks : Nat) (s : State) : Host.Outcome State Fault Refusal :=
  .next (empCmd s m 0x0311 operator (fun s _ =>
    let ends (d : Nat) : Bool :=
      match curSlot s d with
      | some n => decide (deepPassUs s d n (getR s (shareReg 2) d 0) ≤ periodMs * passTicks * 1000)
      | none => true
    inRange s (decide (1 ≤ periodMs ∧ periodMs ≤ 60000 ∧ 1 ≤ passTicks ∧ passTicks ≤ 8192 ∧ 20 ≤ periodMs * passTicks) &&
        (usableDies s).all ends) (fun s =>
      answerOk { s with tbl := { s.tbl with ageSet := (periodMs, passTicks) } } [])))

/-- LRN_FLUSH_PORT (R238). -/
def execLrnFlushPort (m : EmpMsg) (gpn : Nat) (s : State) : Host.Outcome State Fault Refusal :=
  .next (empCmd s m 0x0312 operator (fun s _ => inRange s (gpnExists s gpn) (fun s => answerOk (flushGpn s gpn) [])))

/-- LRN_NOTIFY_SET. -/
def execLrnNotifySet (m : EmpMsg) (value : Word) (s : State) : Host.Outcome State Fault Refusal :=
  .next (empCmd s m 0x0313 operator (fun s _ =>
    inRange s (definedBits .lrnNotifyCtl value.toNat) (fun s => answerOk (setAll s .lrnNotifyCtl 0 value.toNat) [])))

/-- LRN_GUARD_STAGE: elements of one of the sets of R241. -/
def execLrnGuardStage (m : EmpMsg) (gen : Word) (setId : Nat) (first : Nat) (values : List (BitVec 32)) (s : State) :
    Host.Outcome State Fault Refusal :=
  .next (empCmd s m 0x0314 operator (fun s i =>
    stageTarget s i gen.toNat (fun s n =>
      inRange s (decide (0x000D ≤ setId ∧ setId ≤ 0x0012)) (fun s =>
        match setRegs setId with
        | none => answerNo s stsRange
        | some rs => stageSet s n rs first (values.map (·.toNat))))))

/-- LRN_TENANT_STAGE: the classes of consecutive tenants in the open slot. -/
def execLrnTenantStage (m : EmpMsg) (gen : Word) (first : Nat) (classes : List (BitVec 4)) (s : State) : Host.Outcome State Fault Refusal :=
  .next (empCmd s m 0x0315 operator (fun s i =>
    stageTarget s i gen.toNat (fun s n =>
      inRange s (decide (1 ≤ classes.length ∧ classes.length ≤ 4096 ∧ first + classes.length ≤ 65536)) (fun s =>
        answerOk (forEach (usableDies s) (fun s d =>
          forEach classes.zipIdx (fun s e =>
            let map_ := kset s.tbl.tenantClass (tclassKey d n (first + e.2)) e.1.toNat 0
            { s with tbl := { s.tbl with tenantClass := map_ } }) s) s) []))))

/-- LRN_CONTEST_LIST: for each occupied tracker line its table, its key's length and words, its count, and the MONO at which its
quarantine ends, 0 where it has none. -/
def execLrnContestList (m : EmpMsg) (die : Nat) (s : State) : Host.Outcome State Fault Refusal :=
  .next (empCmd s m 0x0316 observer (fun s _ =>
    onDie s die (fun s =>
      let window := bitsOf (getRS s .lrnMoveCfg die (curOf s die) 0) 16 16 * 1000000
      answerOk s (((trackerOf s die).filter (lineHeld s die window)).flatMap (fun l =>
        [nw l.tableId, nw l.key.length] ++ l.key ++ [nw l.count] ++ wordsOf 4 (l.quarUntil.getD 0))))))

/-- LRN_CONTEST_CLEAR (R223). -/
def execLrnContestClear (m : EmpMsg) (dies : BitVec 8) (table : Nat) (key : List Word) (s : State) : Host.Outcome State Fault Refusal :=
  .next (empCmd s m 0x0317 operator (fun s _ =>
    onDies s dies (fun s ds =>
      inRange s (decide (table < 64)) (fun s =>
        answerOk (forEach ds (fun s d =>
          let k := maskKey (curDesc s d table) key
          if (trackerOf s d).any (fun l => l.tableId = table && l.key = k && l.quarUntil.isSome) then endQuarantine s d table k else s) s)
          []))))

end Sys2Proof.Machine
end

