-- ==== Sys2Proof/Machine/PairCmds.lean ====
section
/-! DEFINITION. The commands of the redundant pair (21). -/

namespace Sys2Proof.Machine

/-- Whether a GPN names a configured front port of a usable die. -/
def frontPort (s : State) (g : Nat) : Bool := decide (g < 256) && gpnExists s g && usable s (gpnDie g) && portConfigured s g

/-- Whether a table may be the group table (R472). -/
def groupTableOk (s : State) (t : Nat) : Bool :=
  let r := refDie s
  let x := curDesc s r t
  decide (t < 64) && (curSlot s r).isSome && x.en && decide (x.mode = 0 ∧ x.width = 0 ∧ x.keyWords = 1) && x.dyn && !x.age &&
    !lrnOn (lrnCfg s r t)

/-- PAIR.CFG of a pair. -/
def pairCfgValue (a b : Nat) (sec : Bool) (id : Word) (table : Nat) : Nat :=
  1 + (if sec then 2 else 0) + a * 2 ^ 16 + b * 2 ^ 32 + table * 2 ^ 48 + id.toNat * 2 ^ 64

/-- The heartbeat entries of the two pair ports, every 1 ms from the next whole millisecond (R46, R476). -/
def placeHeartbeats (s : State) : State :=
  forEach [(0, portA s), (1, portB s)] (fun s e =>
    let d := gpnDie e.2
    setSched s d (entHeartbeat e.1) (some (sysEntry 6 true ((stime s d / 1000000 + 1) * 1000000) 1000 (nw e.1)))) s

/-- What the pair has learned of the partner, forgotten. -/
def freshPair (s : State) (key : BitVec 256) : State :=
  { s with pair := { s.pair with
    key := key, partner := none, hi := 0, seen := 0, helloAt := leadMono s, hbRun := [], hbLast := [], lastHb := (0, 0), offsets := [],
    members := [], retry := [], probeStart := none, probeAcked := none, downAt := none, joint := none, withdraw := none, ckpts := 0,
    sent := [], held := [], theirs := (0, 0), behalf := 0, theirDigest := none } }

/-- PAIR_SET. The slot number in the pad of the wrapped key is 16 (DESIGN CHOICE, log entry 65). -/
def execPairSet (m : EmpMsg) (portA portB : Nat) (secondary : Bool) (pairId : Word) (table : Nat) (wrapped : BitVec 256) (s : State) :
    Host.Outcome State Fault Refusal :=
  .next (empCmd s m 0x0C01 owner (fun s i =>
    let ok (g : Nat) : Bool := frontPort s g && decide (portRate s g ≥ 400)
    match session s i with
    | none => answerNo s stsAuth
    | some x =>
      if pairState s ≠ pairOff then answerNo s stsBusy
      else
        inRange s (ok portA && ok portB && decide (gpnDie portA ≠ gpnDie portB) && groupTableOk s table) (fun s =>
          let s := freshPair s (wrapped ^^^ keyPad x.key 16 m.seq)
          let s := setAll s .pairCfg 0 (pairCfgValue portA portB secondary pairId table)
          let s := recordK s s.pkg.lead 0x0006 [16, 0, m.session]
          answerOk (setPairState (placeHeartbeats s) pairForming 5) [])))

/-- Every group's entry leaves the group table; the groups stay as they were set. -/
def removeGroups (s : State) : State :=
  let gs := s.pair.groups
  let s := forEach (gs.map (·.1)) putGroup { s with pair := { s.pair with groups := [] } }
  { s with pair := { s.pair with groups := gs, retry := [] } }

/-- PAIR_LEAVE. -/
def execPairLeave (m : EmpMsg) (s : State) : Host.Outcome State Fault Refusal :=
  .next (empCmd s m 0x0C02 owner (fun s _ =>
    if pairState s = pairOff then answerOk s []
    else
      let s := removeGroups (sendDown s)
      let gs := s.pair.groups
      let d0 := gpnDie (portA s)
      let d1 := gpnDie (portB s)
      let s := setSched (setSched s d0 (entHeartbeat 0) none) d1 (entHeartbeat 1) none
      let s := setPairState { s with pair := { s.pair with groups := [] } } pairOff 5
      let s := freshPair (setAll (setAll s .pairCfg 0 0) .pairStatus 0 0) 0
      answerOk { s with pair := { s.pair with groups := gs } } []))

/-- PAIR_TAKEOVER: only in ISOLATED. -/
def execPairTakeover (m : EmpMsg) (s : State) : Host.Outcome State Fault Refusal :=
  .next (empCmd s m 0x0C03 owner (fun s _ =>
    if pairState s ≠ pairIsolated then answerNo s stsBusy else answerOk (setPairState s pairFailed 5) []))

/-- PAIR_GROUP_SET: groups from `first` on take their local members, or are disabled. -/
def execPairGroupSet (m : EmpMsg) (first : Nat) (gpns : List (Option Nat)) (s : State) : Host.Outcome State Fault Refusal :=
  .next (empCmd s m 0x0C04 operator (fun s _ =>
    let ok (o : Option Nat) : Bool :=
      match o with
      | some g => frontPort s g && !(pairOn s && decide (g ∈ pairPorts s))
      | none => true
    inRange s (decide (gpns ≠ [] ∧ first + gpns.length ≤ 1024) && gpns.all ok) (fun s =>
      let before := s.pair.groups.filterMap (·.2)
      let s := forEach gpns.zipIdx (fun s e =>
        let gs := kset s.pair.groups (first + e.2) e.1 none
        { s with pair := { s.pair with groups := gs } }) s
      let s := if pairState s ≥ pairIsolated then forEach (before ++ gpns.filterMap id) settlePort s else s
      answerOk (if pairOn s then forEach (range' first gpns.length) putGroup s else s) [])))

/-- PAIR_GROUP_LIST: each enabled group, its entry words, the partner's MEMBERS bit. -/
def execPairGroupList (m : EmpMsg) (s : State) : Host.Outcome State Fault Refusal :=
  .next (empCmd s m 0x0C05 observer (fun s _ =>
    answerOk s (s.pair.groups.flatMap (fun e =>
      match e.2 with
      | some g => nw e.1 :: groupAction s e.1 g ++ [if e.1 ∈ s.pair.members then 1 else 0]
      | none => []))))

/-- PAIR_STATUS: PAIR.CFG, PAIR.STATUS, the partner's MAC, role and RELEASE, then the counters of R487 of each usable die. -/
def execPairStatus (m : EmpMsg) (s : State) : Host.Outcome State Fault Refusal :=
  .next (empCmd s m 0x0C00 observer (fun s _ =>
    let lead := s.pkg.lead
    let them :=
      match s.pair.partner with
      | some (mac, role, rel) => wordsOf 3 mac.toNat ++ [if role then 1 else 0, rel]
      | none => [0, 0, 0, 0, 0]
    answerOk s (wordsOf 5 (pairCfg s) ++ wordsOf 2 (getR s .pairStatus lead 0) ++ them ++
      (usableDies s).flatMap (fun d =>
        [RegName.pairCntHbTx, .pairCntHbRx, .pairCntAuthFail, .pairCntCkptTx, .pairCntCkptRx].flatMap (fun r => wordsOf 4 (getR s r d 0))))))

end Sys2Proof.Machine
end

