-- ==== Sys2Proof/Machine/RecCmds.lean ====
section
/-! DEFINITION. The falling edge of PFAIL_N (R449, R478) and the commands of the event recorder (19). -/

namespace Sys2Proof.Machine

/-- PFAIL: every die buffer reaches the lead, DOWN goes to the partner, and a flush starts, in place of one in progress. A second edge
during its flush has no effect (R507). -/
def execPfail (s : State) : Host.Outcome State Fault Refusal :=
  .next (
    if !s.pkg.running ∨ s.log.pfail.isSome then s
    else
      let s := { s with log := { s.log with pfail := some (leadMono s) } }
      if s.pkg.noLead then s
      else
        let s := forEach (allDies s) (fun s d => if forwards s d then forwardAll s d else s) s
        beginFlush (sendDown s) 2)

/-- SEQ of the first entry of the log, or the next one. -/
def firstSeq (s : State) : BitVec 24 := ((s.log.log.head?).map (·.seq)).getD s.log.nextSeq

/-- REC_STATUS: REC.CFG, REC.LOG_STAT, FIRST_SEQ, the last SEQ, the counters of R452, then IMAGE, TIME and REASON of each valid image. -/
def execRecStatus (m : EmpMsg) (s : State) : Host.Outcome State Fault Refusal :=
  .next (empCmd s m 0x0800 observer (fun s _ =>
    let d := s.pkg.lead
    answerOk s (wordsOf 2 (getR s .recCfg d 0) ++ wordsOf 2 (logStat s) ++ wordsOf 2 (firstSeq s).toNat ++
      wordsOf 2 (if s.log.nextSeq = 0 then 0xFFFFFE else (s.log.nextSeq - 1).toNat) ++
      (usableDies s).flatMap (fun e => wordsOf 4 (getR s .recCntSupp e 0) ++ wordsOf 2 (getR s .recCntDieLost e 0)) ++
      wordsOf 2 (getR s .recCntNotrec d 0) ++ wordsOf 2 (getR s .recCntFlush d 0) ++
      (validImages s).flatMap (fun x =>
        wordsOf 2 x.image.toNat ++ wordsOf 4 (x.time / nsPerS % 2 ^ 34 * 2 ^ 30 + x.time % nsPerS) ++ [nw x.reason]))))

/-- REC_READ: FIRST_SEQ, CLEARS, then up to 128 entries from a log index. -/
def execRecRead (m : EmpMsg) (index count : Nat) (s : State) : Host.Outcome State Fault Refusal :=
  .next (empCmd s m 0x0801 observer (fun s _ =>
    inRange s (decide (1 ≤ count ∧ count ≤ 128 ∧ index < 65536)) (fun s =>
      answerOk s (wordsOf 2 (firstSeq s).toNat ++ [nw (s.log.clears % 4096)] ++ ((s.log.log.drop index).take count).flatMap recWords))))

/-- REC_CLEAR. -/
def execRecClear (m : EmpMsg) (s : State) : Host.Outcome State Fault Refusal :=
  .next (empCmd s m 0x0802 owner (fun s _ =>
    if s.log.flush.isSome then answerNo s stsBusy
    else
      let n := s.log.log.length
      let lost := getR s .recCntNotrec s.pkg.lead 0
      let s := setR { s with log := { s.log with log := [], stopped := false, clears := s.log.clears + 1 } } .recCntNotrec s.pkg.lead 0 0
      answerOk (recordK s s.pkg.lead 0xF001 ([m.session] ++ wordsOf 2 n ++ wordsOf 2 lost)) []))

/-- REC_FLUSH. -/
def execRecFlush (m : EmpMsg) (s : State) : Host.Outcome State Fault Refusal :=
  .next (empCmd s m 0x0803 operator (fun s _ => answerOk (requestFlush s 3) []))

/-- Whether 1 to 256 codes are named. -/
def codesOk (codes : List Word) : Bool := decide (codes ≠ [] ∧ codes.length ≤ 256)

/-- REC_RATE_SET: on every die a new bucket starts full. -/
def execRecRateSet (m : EmpMsg) (codes : List Word) (rate : Word) (burst : Nat) (s : State) : Host.Outcome State Fault Refusal :=
  .next (empCmd s m 0x0804 operator (fun s _ =>
    inRange s (codesOk codes && codes.all (fun c => decide (c.toNat < 0xF000)) && decide (1 ≤ burst ∧ burst ≤ 4096)) (fun s =>
      answerOk (forEach (allDies s) (fun s d => forEach codes (fun s c =>
        setRateBucket s d c ⟨rate.toNat, burst, burst, mono s d, (rateBucket s d c).supp⟩) s) s) [])))

/-- REC_RATE_GET: RATE, BURST and the suppression count (two words) of each code, per die. -/
def execRecRateGet (m : EmpMsg) (dies : BitVec 8) (codes : List Word) (s : State) : Host.Outcome State Fault Refusal :=
  .next (empCmd s m 0x0805 observer (fun s _ =>
    onDies s dies (fun s ds => inRange s (codesOk codes) (fun s =>
      answerOk s (ds.flatMap (fun d => codes.flatMap (fun c =>
        let b := rateBucket s d c
        [nw b.rate, nw b.burst] ++ wordsOf 2 b.supp)))))))

/-- REC_NV_READ: the next cursor, 0xFFFF_FFFF at the end, then up to 128 records of an image. -/
def execRecNvRead (m : EmpMsg) (older : Bool) (cursor : Nat) (s : State) : Host.Outcome State Fault Refusal :=
  .next (empCmd s m 0x0806 observer (fun s _ =>
    match (validImages s)[if older then 1 else 0]? with
    | none => answerNo s stsRange
    | some x =>
      inRange s (decide (cursor ≤ x.records.length)) (fun s =>
        let after := if cursor + 128 < x.records.length then cursor + 128 else 0xFFFFFFFF
        answerOk s (wordsOf 2 after ++ ((x.records.drop cursor).take 128).flatMap recWords))))

/-- REC_DIE_READ: the records that wait in a die's buffer. -/
def execRecDieRead (m : EmpMsg) (die : Nat) (s : State) : Host.Outcome State Fault Refusal :=
  .next (empCmd s m 0x0807 observer (fun s _ => onDie s die (fun s => answerOk s ((dieBuf s die).flatMap recWords))))

/-- REC_CFG_SET. -/
def execRecCfgSet (m : EmpMsg) (value : BitVec 32) (s : State) : Host.Outcome State Fault Refusal :=
  .next (empCmd s m 0x0808 owner (fun s _ =>
    let v := value.toNat
    inRange s (definedBits .recCfg v && decide (1 ≤ bitsOf v 0 11 ∧ bitsOf v 0 11 ≤ 1440)) (fun s =>
      answerOk (placeCheckpoint (setR (setR s .recCfg 0 0 v) .recCfg 1 0 v)) [])))

end Sys2Proof.Machine
end

