-- ==== Sys2Proof/Machine/TimeCmds.lean ====
section
/-! DEFINITION. The commands of external time and the schedule (02). -/

namespace Sys2Proof.Machine

/-- TIME_GET: TOD, STIME, MONO, TIME.STATUS and the last offset from the source, all of the lead. -/
def execTimeGet (m : EmpMsg) (s : State) : Host.Outcome State Fault Refusal :=
  .next (empCmd s m 0x0700 observer (fun s _ =>
    let d := s.pkg.lead
    answerOk s (timeWords (tod s d) ++ timeWords (stime s d) ++ wordsOf 4 (mono s d) ++ wordsOf 2 (regView s .timeStatus d 7 0) ++
      intWords 4 s.time.offset)))

/-- The words of R381 for a TIME pin without a PPS-in claim: its holder, or the Keeper with rank 0. -/
def pinConflict (s : State) (pin : Nat) : List Word :=
  match getClaim s 1 pin with
  | some c => conflictWords 1 pin c
  | none => [1, nw pin, 0, 0, keeperId s.pkg.lead]

/-- Whether a value of TIME.SRC_CTL names PPS as a source. -/
def namesPps (v : Nat) : Bool := decide (bitsOf v 0 2 = 1) || decide (bitsOf v 2 2 = 1)

/-- TIME.SRC_CTL takes a value: TIME.STATUS.UTC follows it, the source is chosen again (R35), and the minutes may move (R44). -/
def setSrcCtl (s : State) (v : Nat) : State :=
  let utc := utcMode s
  let s := setStatus (setAll s .timeSrcCtl 0 v) 3 1 (bitsOf v 5 1)
  let s := selectSource s .none
  if utcMode s ≠ utc then moveCloses s else s

/-- TIME_SRC_SET. -/
def execTimeSrcSet (m : EmpMsg) (value : BitVec 32) (s : State) : Host.Outcome State Fault Refusal :=
  .next (empCmd s m 0x0701 owner (fun s _ =>
    let v := value.toNat
    let pin := bitsOf v 6 1
    inRange s (definedBits .timeSrcCtl v && decide (bitsOf v 0 2 ≠ 3)) (fun s =>
      if namesPps v ∧ pinFunction s pin ≠ 1 then answerConflict s (pinConflict s pin) else answerOk (setSrcCtl s v) [])))

/-- TIME_SET: at the next PPS edge where TIME.SRC_CTL names PPS, else at once (R42). A step that is on its way allows no other correction
(R40). -/
def execTimeSet (m : EmpMsg) (sec : BitVec 48) (ns : BitVec 32) (s : State) : Host.Outcome State Fault Refusal :=
  .next (empCmd s m 0x0702 operator (fun s _ =>
    let t := sec.toNat * nsPerS + ns.toNat
    if ns.toNat > 999999999 then answerNo s stsRange
    else if sourceInUse s = 1 then answerNo s stsBusy
    else if namesPps (srcCtl s) then answerOk { s with time := { s.time with pendingSet := some t } } []
    else if stepSent s then answerNo s stsBusy
    else answerOk (correct s ((t : Int) - tod s s.pkg.lead)) []))

/-- TIME_UTC_SET (R45). -/
def execTimeUtcSet (m : EmpMsg) (offset : BitVec 16) (leap61 leap59 : Bool) (s : State) : Host.Outcome State Fault Refusal :=
  .next (empCmd s m 0x0703 operator (fun s _ =>
    inRange s (!(leap61 && leap59)) (fun s =>
      if sourceInUse s = 1 then answerNo s stsBusy else answerOk (setUtc s offset.toInt leap61 leap59) [])))

/-! ## The schedule (R46, R47) -/

/-- Whether ten words are a PROGRAM_ALARM entry that the host may write. -/
def alarmOk (e : List Word) : Bool :=
  let w0 := (wordAt e 0).toNat
  let period := valOf [wordAt e 6, wordAt e 7]
  decide (e.length = 10 ∧ (w0 = 0x1000 ∨ w0 = 0x1001) ∧ valOf [wordAt e 4, wordAt e 5] ≤ 999999999) &&
    decide (wordAt e 8 &&& 0x08FF = 0) && (if w0 = 0x1001 then decide (100 ≤ period ∧ period ≤ 4000000000) else decide (period = 0))

/-- The entry that ten words give. -/
def entryOf (e : List Word) : SchedEntry :=
  { action := (wordAt e 0).toNat / 256, periodic := (wordAt e 0).getLsbD 0, late := false,
    t := valOf [wordAt e 1, wordAt e 2, wordAt e 3] * nsPerS + valOf [wordAt e 4, wordAt e 5], period := valOf [wordAt e 6, wordAt e 7],
    domain := (wordAt e 8).toNat / 4096, prio := (wordAt e 8).toNat / 256 % 8, arg := wordAt e 9, armer := 0 }

/-- The ten words of an entry. -/
def schedWords (e : SchedEntry) : List Word :=
  [nw (e.action * 256 + (if e.late then 2 else 0) + if e.periodic then 1 else 0)] ++ timeWords e.t ++ wordsOf 2 e.period ++
    [nw (e.domain * 4096 + e.prio * 256), e.arg]

/-- TIME_SCHED_SET: a PROGRAM_ALARM in entry 64 to 191 of the named dies. -/
def execTimeSchedSet (m : EmpMsg) (dies : BitVec 8) (index : Nat) (entry : List Word) (s : State) : Host.Outcome State Fault Refusal :=
  .next (empCmd s m 0x0710 operator (fun s _ =>
    onDies s dies (fun s ds =>
      inRange s (decide (64 ≤ index ∧ index ≤ 191) && alarmOk entry) (fun s =>
        let e := entryOf entry
        if ds.any (fun d => decide (e.t < stime s d + 1000000)) then answerNo s stsTimePast
        else answerOk (forEach ds (fun s d => setSched s d index (some e)) s) []))))

/-- TIME_SCHED_CANCEL: host entries become free. -/
def execTimeSchedCancel (m : EmpMsg) (dies : BitVec 8) (first count : Nat) (s : State) : Host.Outcome State Fault Refusal :=
  .next (empCmd s m 0x0711 operator (fun s _ =>
    onDies s dies (fun s ds =>
      inRange s (decide (64 ≤ first ∧ 1 ≤ count ∧ first + count ≤ 192)) (fun s =>
        answerOk (forEach ds (fun s d => forEach (range' first count) (fun s i => setSched s d i none) s) s) []))))

/-- TIME_SCHED_LIST: the occupied entries of a die, in ascending index. -/
def execTimeSchedList (m : EmpMsg) (die : Nat) (s : State) : Host.Outcome State Fault Refusal :=
  .next (empCmd s m 0x0712 observer (fun s _ =>
    onDie s die (fun s => answerOk s ((entriesOf s die).flatMap (fun e => schedWords e.2)))))

end Sys2Proof.Machine
end

