-- ==== Sys2Proof/Machine/Dispatch.lean ====
section
/-! DEFINITION. What each command does: one direct call of its meaning. -/

namespace Sys2Proof.Machine

/-- The effect of a command on everything but the queue of waiting commands. -/
def exec (i : Instr) (s : State) : Host.Outcome State Fault Refusal :=
  match i with
  | .add iss d a b => Sys2Proof.Machine.execAdd iss d a b s
  | .adc iss d a b => Sys2Proof.Machine.execAdc iss d a b s
  | .sub iss d a b => Sys2Proof.Machine.execSub iss d a b s
  | .sbb iss d a b => Sys2Proof.Machine.execSbb iss d a b s
  | .and iss d a b => Sys2Proof.Machine.execAnd iss d a b s
  | .or iss d a b => Sys2Proof.Machine.execOr iss d a b s
  | .xor iss d a b => Sys2Proof.Machine.execXor iss d a b s
  | .andn iss d a b => Sys2Proof.Machine.execAndn iss d a b s
  | .shl iss d a b => Sys2Proof.Machine.execShl iss d a b s
  | .shr iss d a b => Sys2Proof.Machine.execShr iss d a b s
  | .sar iss d a b => Sys2Proof.Machine.execSar iss d a b s
  | .rol iss d a b => Sys2Proof.Machine.execRol iss d a b s
  | .min iss d a b => Sys2Proof.Machine.execMin iss d a b s
  | .max iss d a b => Sys2Proof.Machine.execMax iss d a b s
  | .minu iss d a b => Sys2Proof.Machine.execMinu iss d a b s
  | .maxu iss d a b => Sys2Proof.Machine.execMaxu iss d a b s
  | .mov iss d a => Sys2Proof.Machine.execMov iss d a s
  | .not iss d a => Sys2Proof.Machine.execNot iss d a s
  | .neg iss d a => Sys2Proof.Machine.execNeg iss d a s
  | .bswap iss d a => Sys2Proof.Machine.execBswap iss d a s
  | .popc iss d a => Sys2Proof.Machine.execPopc iss d a s
  | .clz iss d a => Sys2Proof.Machine.execClz iss d a s
  | .ctz iss d a => Sys2Proof.Machine.execCtz iss d a s
  | .addi iss d a imm14 => Sys2Proof.Machine.execAddi iss d a imm14 s
  | .andi iss d a imm14 => Sys2Proof.Machine.execAndi iss d a imm14 s
  | .ori iss d a imm14 => Sys2Proof.Machine.execOri iss d a imm14 s
  | .xori iss d a imm14 => Sys2Proof.Machine.execXori iss d a imm14 s
  | .movi iss d k => Sys2Proof.Machine.execMovi iss d k s
  | .shiShl iss d a amt => Sys2Proof.Machine.execShiShl iss d a amt s
  | .shiShr iss d a amt => Sys2Proof.Machine.execShiShr iss d a amt s
  | .shiSar iss d a amt => Sys2Proof.Machine.execShiSar iss d a amt s
  | .shiRol iss d a amt => Sys2Proof.Machine.execShiRol iss d a amt s
  | .cmp iss pd a b cond => Sys2Proof.Machine.execCmp iss pd a b cond s
  | .cmpi iss pd cond a imm11 => Sys2Proof.Machine.execCmpi iss pd cond a imm11 s
  | .bfx iss d a pos wm1 => Sys2Proof.Machine.execBfx iss d a pos wm1 s
  | .bfxs iss d a pos wm1 => Sys2Proof.Machine.execBfxs iss d a pos wm1 s
  | .bfi iss d a pos wm1 => Sys2Proof.Machine.execBfi iss d a pos wm1 s
  | .extb iss d a pos wm1 => Sys2Proof.Machine.execExtb iss d a pos wm1 s
  | .insb iss d a pos wm1 => Sys2Proof.Machine.execInsb iss d a pos wm1 s
  | .mul iss d a b => Sys2Proof.Machine.execMul iss d a b s
  | .mulh iss d a b => Sys2Proof.Machine.execMulh iss d a b s
  | .mulhu iss d a b => Sys2Proof.Machine.execMulhu iss d a b s
  | .aclr iss n d a b sh => Sys2Proof.Machine.execAclr iss n d a b sh s
  | .macS iss n d a b sh => Sys2Proof.Machine.execMacS iss n d a b sh s
  | .macU iss n d a b sh => Sys2Proof.Machine.execMacU iss n d a b sh s
  | .ard iss n d a b sh => Sys2Proof.Machine.execArd iss n d a b sh s
  | .ards iss n d a b sh => Sys2Proof.Machine.execArds iss n d a b sh s
  | .awr iss n d a b sh => Sys2Proof.Machine.execAwr iss n d a b sh s
  | .macd iss n sgn xa xb => Sys2Proof.Machine.execMacd iss n sgn xa xb s
  | .pand iss pd pa pb w => Sys2Proof.Machine.execPand iss pd pa pb w s
  | .por iss pd pa pb w => Sys2Proof.Machine.execPor iss pd pa pb w s
  | .pxor iss pd pa pb w => Sys2Proof.Machine.execPxor iss pd pa pb w s
  | .pandn iss pd pa pb w => Sys2Proof.Machine.execPandn iss pd pa pb w s
  | .pnot iss pd pa pb w => Sys2Proof.Machine.execPnot iss pd pa pb w s
  | .pset iss pd pa pb w => Sys2Proof.Machine.execPset iss pd pa pb w s
  | .movwp iss pd pa pb w => Sys2Proof.Machine.execMovwp iss pd pa pb w s
  | .movpw iss pd pa pb w => Sys2Proof.Machine.execMovpw iss pd pa pb w s
  | .movps iss pd pa pb w => Sys2Proof.Machine.execMovps iss pd pa pb w s
  | .movsp iss pd pa pb w => Sys2Proof.Machine.execMovsp iss pd pa pb w s
  | .lea iss xd xa k => Sys2Proof.Machine.execLea iss xd xa k s
  | .movxw iss xd xa w => Sys2Proof.Machine.execMovxw iss xd xa w s
  | .movwx iss xd xa w => Sys2Proof.Machine.execMovwx iss xd xa w s
  | .addxw iss xd xa w => Sys2Proof.Machine.execAddxw iss xd xa w s
  | .movx iss xd xa w => Sys2Proof.Machine.execMovx iss xd xa w s
  | .movbc iss xd xa w => Sys2Proof.Machine.execMovbc iss xd xa w s
  | .movwbc iss xd xa w => Sys2Proof.Machine.execMovwbc iss xd xa w s
  | .ld iss d x mode off => Sys2Proof.Machine.execLd iss d x mode off s
  | .st iss a x mode off => Sys2Proof.Machine.execSt iss a x mode off s
  | .push iss mask => Sys2Proof.Machine.execPush iss mask s
  | .pop iss mask => Sys2Proof.Machine.execPop iss mask s
  | .movs iss v pd => Sys2Proof.Machine.execMovs iss v pd s
  | .cmps iss v pd => Sys2Proof.Machine.execCmps iss v pd s
  | .scans iss v pd => Sys2Proof.Machine.execScans iss v pd s
  | .fills iss v pd => Sys2Proof.Machine.execFills iss v pd s
  | .br iss k => Sys2Proof.Machine.execBr iss k s
  | .dbnz iss d k => Sys2Proof.Machine.execDbnz iss d k s
  | .brx iss x => Sys2Proof.Machine.execBrx iss x s
  | .call iss k => Sys2Proof.Machine.execCall iss k s
  | .callx iss k => Sys2Proof.Machine.execCallx iss k s
  | .ret iss mask => Sys2Proof.Machine.execRet iss mask s
  | .retx iss mask => Sys2Proof.Machine.execRetx iss mask s
  | .inp iss d port => Sys2Proof.Machine.execInp iss d port s
  | .outp iss a port => Sys2Proof.Machine.execOutp iss a port s
  | .inr iss d x => Sys2Proof.Machine.execInr iss d x s
  | .outr iss a x => Sys2Proof.Machine.execOutr iss a x s
  | .ldis iss d x h => Sys2Proof.Machine.execLdis iss d x h s
  | .wait iss d mask => Sys2Proof.Machine.execWait iss d mask s
  | .signal iss a ev => Sys2Proof.Machine.execSignal iss a ev s
  | .nop iss => Sys2Proof.Machine.execNop iss s
  | .brk iss => Sys2Proof.Machine.execBrk iss s
  | .dgStart iss k => Sys2Proof.Machine.execDgStart iss k s
  | .dgSeed iss a b => Sys2Proof.Machine.execDgSeed iss a b s
  | .dgW iss a => Sys2Proof.Machine.execDgW iss a s
  | .dgB iss a => Sys2Proof.Machine.execDgB iss a s
  | .dgRd iss d k => Sys2Proof.Machine.execDgRd iss d k s
  | .dgStat iss d => Sys2Proof.Machine.execDgStat iss d s
  | .dgBusy iss pd => Sys2Proof.Machine.execDgBusy iss pd s
  | .dgFeed iss x b => Sys2Proof.Machine.execDgFeed iss x b s
  | .dgKeys iss x b => Sys2Proof.Machine.execDgKeys iss x b s
  | .dgOpDone cell => Sys2Proof.Machine.execDgOpDone cell s
  | .bkSrc iss a b => Sys2Proof.Machine.execBkSrc iss a b s
  | .bkDst iss a b => Sys2Proof.Machine.execBkDst iss a b s
  | .bkCopy iss a => Sys2Proof.Machine.execBkCopy iss a s
  | .bkFill iss a b => Sys2Proof.Machine.execBkFill iss a b s
  | .bkCsum iss a => Sys2Proof.Machine.execBkCsum iss a s
  | .bkSumset iss a => Sys2Proof.Machine.execBkSumset iss a s
  | .bkRd iss d => Sys2Proof.Machine.execBkRd iss d s
  | .bkStat iss d => Sys2Proof.Machine.execBkStat iss d s
  | .bkBusy iss pd => Sys2Proof.Machine.execBkBusy iss pd s
  | .bkOpStart comb => Sys2Proof.Machine.execBkOpStart comb s
  | .bkOpDone comb => Sys2Proof.Machine.execBkOpDone comb s
  | .inResult tid => Sys2Proof.Machine.execInResult tid s
  | .ioStageWrite iss a port => Sys2Proof.Machine.execIoStageWrite iss a port s
  | .timeLatch iss d => Sys2Proof.Machine.execTimeLatch iss d s
  | .cycLatch iss d => Sys2Proof.Machine.execCycLatch iss d s
  | .almArm iss d => Sys2Proof.Machine.execAlmArm iss d s
  | .almCancel iss a => Sys2Proof.Machine.execAlmCancel iss a s
  | .postGo iss d => Sys2Proof.Machine.execPostGo iss d s
  | .thrEnWrite iss a => Sys2Proof.Machine.execThrEnWrite iss a s
  | .verdictSend iss d => Sys2Proof.Machine.execVerdictSend iss d s
  | .verdictDrop iss d => Sys2Proof.Machine.execVerdictDrop iss d s
  | .verdictRecirc iss d => Sys2Proof.Machine.execVerdictRecirc iss d s
  | .verdictDefault iss d => Sys2Proof.Machine.execVerdictDefault iss d s
  | .verdictEnd iss d => Sys2Proof.Machine.execVerdictEnd iss d s
  | .supResume iss a => Sys2Proof.Machine.execSupResume iss a s
  | .supSkip iss a => Sys2Proof.Machine.execSupSkip iss a s
  | .supKill iss a => Sys2Proof.Machine.execSupKill iss a s
  | .supReset iss a => Sys2Proof.Machine.execSupReset iss a s
  | .dbgSel iss a => Sys2Proof.Machine.execDbgSel iss a s
  | .dbgCmdHalt iss a => Sys2Proof.Machine.execDbgCmdHalt iss a s
  | .dbgCmdResume iss a => Sys2Proof.Machine.execDbgCmdResume iss a s
  | .dbgCmdStep iss a => Sys2Proof.Machine.execDbgCmdStep iss a s
  | .dbgCmdReset iss a => Sys2Proof.Machine.execDbgCmdReset iss a s
  | .cycleLimit tid => Sys2Proof.Machine.execCycleLimit tid s
  | .supFaultCellReset cell => Sys2Proof.Machine.execSupFaultCellReset cell s
  | .dgClaim iss d => Sys2Proof.Machine.execDgClaim iss d s
  | .dgFree iss a => Sys2Proof.Machine.execDgFree iss a s
  | .bkClaim iss d => Sys2Proof.Machine.execBkClaim iss d s
  | .bkFree iss a => Sys2Proof.Machine.execBkFree iss a s
  | .lockAcq iss d n => Sys2Proof.Machine.execLockAcq iss d n s
  | .lockRel iss a => Sys2Proof.Machine.execLockRel iss a s
  | .lockStat iss d => Sys2Proof.Machine.execLockStat iss d s
  | .lockBankOp die bank firstComb => Sys2Proof.Machine.execLockBankOp die bank firstComb s
  | .evClr iss a => Sys2Proof.Machine.execEvClr iss a s
  | .evLocksub iss a => Sys2Proof.Machine.execEvLocksub iss a s
  | .evLocksubCancel iss a => Sys2Proof.Machine.execEvLocksubCancel iss a s
  | .evTimerStart iss a => Sys2Proof.Machine.execEvTimerStart iss a s
  | .evTimerStop iss a => Sys2Proof.Machine.execEvTimerStop iss a s
  | .timerExpire tid => Sys2Proof.Machine.execTimerExpire tid s
  | .stall cell combTest => Sys2Proof.Machine.execStall cell combTest s
  | .fgLookup iss a => Sys2Proof.Machine.execFgLookup iss a s
  | .fgInsert iss a => Sys2Proof.Machine.execFgInsert iss a s
  | .fgUpdate iss a => Sys2Proof.Machine.execFgUpdate iss a s
  | .fgDelete iss a => Sys2Proof.Machine.execFgDelete iss a s
  | .fgAdd iss a => Sys2Proof.Machine.execFgAdd iss a s
  | .fgGlookup iss a => Sys2Proof.Machine.execFgGlookup iss a s
  | .foragerResult tid slot => Sys2Proof.Machine.execForagerResult tid slot s
  | .tableWrite die engine => Sys2Proof.Machine.execTableWrite die engine s
  | .stampRefresh die engine => Sys2Proof.Machine.execStampRefresh die engine s
  | .lrnGo iss a => Sys2Proof.Machine.execLrnGo iss a s
  | .learnPerform die => Sys2Proof.Machine.execLearnPerform die s
  | .remoteRecord die fromDie => Sys2Proof.Machine.execRemoteRecord die fromDie s
  | .quarantineEnd die table key => Sys2Proof.Machine.execQuarantineEnd die table key s
  | .lrnNotify die => Sys2Proof.Machine.execLrnNotify die s
  | .learnAssistDeliver die => Sys2Proof.Machine.execLearnAssistDeliver die s
  | .sweepRemove die engine => Sys2Proof.Machine.execSweepRemove die engine s
  | .talCountIn iss a => Sys2Proof.Machine.execTalCountIn iss a s
  | .talCountDrop iss a => Sys2Proof.Machine.execTalCountDrop iss a s
  | .talPolice iss d => Sys2Proof.Machine.execTalPolice iss d s
  | .tallyUpdate die queue => Sys2Proof.Machine.execTallyUpdate die queue s
  | .bufAlloc iss d => Sys2Proof.Machine.execBufAlloc iss d s
  | .bufRelease iss d => Sys2Proof.Machine.execBufRelease iss d s
  | .bufFree iss d => Sys2Proof.Machine.execBufFree iss d s
  | .bufSend iss d => Sys2Proof.Machine.execBufSend iss d s
  | .frameRx gpn bytes fcsOk codeErr early => Sys2Proof.Machine.execFrameRx gpn bytes fcsOk codeErr early s
  | .pauseExpire die port cls => Sys2Proof.Machine.execPauseExpire die port cls s
  | .pfcWatchdog die port cls => Sys2Proof.Machine.execPfcWatchdog die port cls s
  | .pauseRefresh die port => Sys2Proof.Machine.execPauseRefresh die port s
  | .parseStart die port => Sys2Proof.Machine.execParseStart die port s
  | .parseDone die pipe => Sys2Proof.Machine.execParseDone die pipe s
  | .dispatchEnqueue die pipe => Sys2Proof.Machine.execDispatchEnqueue die pipe s
  | .combDeal die comb => Sys2Proof.Machine.execCombDeal die comb s
  | .reorderRelease die dom => Sys2Proof.Machine.execReorderRelease die dom s
  | .reorderTimeout die dom => Sys2Proof.Machine.execReorderTimeout die dom s
  | .bridgeFlitRx die xfer crcOk lane => Sys2Proof.Machine.execBridgeFlitRx die xfer crcOk lane s
  | .bridgeAck die xfer => Sys2Proof.Machine.execBridgeAck die xfer s
  | .bridgeLinkFail die far => Sys2Proof.Machine.execBridgeLinkFail die far s
  | .queueAdmission die => Sys2Proof.Machine.execQueueAdmission die s
  | .schedulePick die port => Sys2Proof.Machine.execSchedulePick die port s
  | .txComplete die port => Sys2Proof.Machine.execTxComplete die port s
  | .txUnderrun die port sent => Sys2Proof.Machine.execTxUnderrun die port sent s
  | .copyEngineDone die => Sys2Proof.Machine.execCopyEngineDone die s
  | .pcsUpChange gpn up => Sys2Proof.Machine.execPcsUpChange gpn up s
  | .linkLost gpn => Sys2Proof.Machine.execLinkLost gpn s
  | .linkUp gpn => Sys2Proof.Machine.execLinkUp gpn s
  | .holdExpire gpn => Sys2Proof.Machine.execHoldExpire gpn s
  | .schedFire die => Sys2Proof.Machine.execSchedFire die s
  | .genCommitFire die => Sys2Proof.Machine.execGenCommitFire die s
  | .commitTimeReached => Sys2Proof.Machine.execCommitTimeReached s
  | .tallyClose die => Sys2Proof.Machine.execTallyClose die s
  | .ageTick die => Sys2Proof.Machine.execAgeTick die s
  | .auditStart die => Sys2Proof.Machine.execAuditStart die s
  | .inspectSlice die => Sys2Proof.Machine.execInspectSlice die s
  | .pairHeartbeat die => Sys2Proof.Machine.execPairHeartbeat die s
  | .recCheckpoint die => Sys2Proof.Machine.execRecCheckpoint die s
  | .programAlarm die => Sys2Proof.Machine.execProgramAlarm die s
  | .alarmDeliver die => Sys2Proof.Machine.execAlarmDeliver die s
  | .ptpMessageRx m => Sys2Proof.Machine.execPtpMessageRx m s
  | .ppsEdge pin => Sys2Proof.Machine.execPpsEdge pin s
  | .ppsOut pin => Sys2Proof.Machine.execPpsOut pin s
  | .sourceTimeout src => Sys2Proof.Machine.execSourceTimeout src s
  | .sourceValid src => Sys2Proof.Machine.execSourceValid src s
  | .xcheck diff => Sys2Proof.Machine.execXcheck diff s
  | .timeCorrection offset => Sys2Proof.Machine.execTimeCorrection offset s
  | .stepApply => Sys2Proof.Machine.execStepApply s
  | .freezeEnd die => Sys2Proof.Machine.execFreezeEnd die s
  | .leapSecond => Sys2Proof.Machine.execLeapSecond s
  | .alignFault die err => Sys2Proof.Machine.execAlignFault die err s
  | .alignRecover die => Sys2Proof.Machine.execAlignRecover die s
  | .dieHeartbeat fromDie => Sys2Proof.Machine.execDieHeartbeat fromDie s
  | .dieLost die fatal => Sys2Proof.Machine.execDieLost die fatal s
  | .slotRetire slot => Sys2Proof.Machine.execSlotRetire slot s
  | .slotClearDone slot => Sys2Proof.Machine.execSlotClearDone slot s
  | .retireForced slot => Sys2Proof.Machine.execRetireForced slot s
  | .digestRecomputeDone die slot uncorr => Sys2Proof.Machine.execDigestRecomputeDone die slot uncorr s
  | .ledgerBatchEmit => Sys2Proof.Machine.execLedgerBatchEmit s
  | .retainExpire => Sys2Proof.Machine.execRetainExpire s
  | .dramRequest die flips retryFlips => Sys2Proof.Machine.execDramRequest die flips retryFlips s
  | .dramRefresh die channel => Sys2Proof.Machine.execDramRefresh die channel s
  | .dramAlert die channel commands again => Sys2Proof.Machine.execDramAlert die channel commands again s
  | .rankPowerDown die channel rank => Sys2Proof.Machine.execRankPowerDown die channel rank s
  | .patrolScrub die flips retryFlips => Sys2Proof.Machine.execPatrolScrub die flips retryFlips s
  | .sramScrub die unit row word flips => Sys2Proof.Machine.execSramScrub die unit row word flips s
  | .bankPwrReq m die unit req => Sys2Proof.Machine.execBankPwrReq m die unit req s
  | .bankPwrDone die unit => Sys2Proof.Machine.execBankPwrDone die unit s
  | .wqHistArm m die queue => Sys2Proof.Machine.execWqHistArm m die queue s
  | .keeperMismatch die => Sys2Proof.Machine.execKeeperMismatch die s
  | .keeperRestartDone die => Sys2Proof.Machine.execKeeperRestartDone die s
  | .illegalState cell check stage => Sys2Proof.Machine.execIllegalState cell check stage s
  | .clockFault die src => Sys2Proof.Machine.execClockFault die src s
  | .supplyFault die supply mV => Sys2Proof.Machine.execSupplyFault die supply mV s
  | .thermalRead die t0 t1 t2 t3 => Sys2Proof.Machine.execThermalRead die t0 t1 t2 t3 s
  | .sliceDrainDone die lane => Sys2Proof.Machine.execSliceDrainDone die lane s
  | .sliceTestDone die lane r => Sys2Proof.Machine.execSliceTestDone die lane r s
  | .bankCopyDone die => Sys2Proof.Machine.execBankCopyDone die s
  | .bankTestDone die r => Sys2Proof.Machine.execBankTestDone die r s
  | .bankReloadDone die => Sys2Proof.Machine.execBankReloadDone die s
  | .recordForward die => Sys2Proof.Machine.execRecordForward die s
  | .recTokenRefill die code => Sys2Proof.Machine.execRecTokenRefill die code s
  | .flushDone ok => Sys2Proof.Machine.execFlushDone ok s
  | .stateBlockWrite => Sys2Proof.Machine.execStateBlockWrite s
  | .pfail => Sys2Proof.Machine.execPfail s
  | .pfailRise => Sys2Proof.Machine.execPfailRise s
  | .coldReset => Sys2Proof.Machine.execColdReset s
  | .powerOnStart results => Sys2Proof.Machine.execPowerOnStart results s
  | .sessionIdle index => Sys2Proof.Machine.execSessionIdle index s
  | .pairHelloSend => Sys2Proof.Machine.execPairHelloSend s
  | .pairHelloRx m => Sys2Proof.Machine.execPairHelloRx m s
  | .pairHeartbeatRx m => Sys2Proof.Machine.execPairHeartbeatRx m s
  | .pairCheckpointRx m => Sys2Proof.Machine.execPairCheckpointRx m s
  | .pairDigestRx m => Sys2Proof.Machine.execPairDigestRx m s
  | .pairProposeRx m => Sys2Proof.Machine.execPairProposeRx m s
  | .pairAckRx m => Sys2Proof.Machine.execPairAckRx m s
  | .pairWithdrawRx m => Sys2Proof.Machine.execPairWithdrawRx m s
  | .pairProbeRx m => Sys2Proof.Machine.execPairProbeRx m s
  | .pairProbeAckRx m => Sys2Proof.Machine.execPairProbeAckRx m s
  | .pairDownRx m => Sys2Proof.Machine.execPairDownRx m s
  | .pairHbLoss => Sys2Proof.Machine.execPairHbLoss s
  | .pairProbeSend => Sys2Proof.Machine.execPairProbeSend s
  | .pairProbeTimeout => Sys2Proof.Machine.execPairProbeTimeout s
  | .pairAckTimeout => Sys2Proof.Machine.execPairAckTimeout s
  | .pairWithdrawSend => Sys2Proof.Machine.execPairWithdrawSend s
  | .groupEntryRetry => Sys2Proof.Machine.execGroupEntryRetry s
  | .timeGet m => Sys2Proof.Machine.execTimeGet m s
  | .timeSrcSet m value => Sys2Proof.Machine.execTimeSrcSet m value s
  | .timeSet m sec ns => Sys2Proof.Machine.execTimeSet m sec ns s
  | .timeUtcSet m offset leap61 leap59 => Sys2Proof.Machine.execTimeUtcSet m offset leap61 leap59 s
  | .timeSchedSet m dies index entry => Sys2Proof.Machine.execTimeSchedSet m dies index entry s
  | .timeSchedCancel m dies first count => Sys2Proof.Machine.execTimeSchedCancel m dies first count s
  | .timeSchedList m die => Sys2Proof.Machine.execTimeSchedList m die s
  | .dbgAttach m cell => Sys2Proof.Machine.execDbgAttach m cell s
  | .dbgDetach m cell => Sys2Proof.Machine.execDbgDetach m cell s
  | .dbgHalt m thread freeze => Sys2Proof.Machine.execDbgHalt m thread freeze s
  | .dbgResume m thread => Sys2Proof.Machine.execDbgResume m thread s
  | .dbgStep m thread => Sys2Proof.Machine.execDbgStep m thread s
  | .dbgBreakSet m cell watch image addr threads rd wr => Sys2Proof.Machine.execDbgBreakSet m cell watch image addr threads rd wr s
  | .dbgBreakClr m cell watch image addr => Sys2Proof.Machine.execDbgBreakClr m cell watch image addr s
  | .dbgRegRead m thread => Sys2Proof.Machine.execDbgRegRead m thread s
  | .dbgRegWrite m thread reg value => Sys2Proof.Machine.execDbgRegWrite m thread reg value s
  | .dbgMemRead m thread addr count => Sys2Proof.Machine.execDbgMemRead m thread addr count s
  | .dbgMemWrite m thread addr words => Sys2Proof.Machine.execDbgMemWrite m thread addr words s
  | .dbgThreadReset m thread => Sys2Proof.Machine.execDbgThreadReset m thread s
  | .tblInfo m table slot dies => Sys2Proof.Machine.execTblInfo m table slot dies s
  | .tblLookup m => Sys2Proof.Machine.execTblLookup m s
  | .tblInsert m => Sys2Proof.Machine.execTblInsert m s
  | .tblInsertStaged m => Sys2Proof.Machine.execTblInsertStaged m s
  | .tblUpdate m => Sys2Proof.Machine.execTblUpdate m s
  | .tblUpdateStaged m => Sys2Proof.Machine.execTblUpdateStaged m s
  | .tblDelete m => Sys2Proof.Machine.execTblDelete m s
  | .tblDeleteStaged m => Sys2Proof.Machine.execTblDeleteStaged m s
  | .tblRead m die table slot cursor count => Sys2Proof.Machine.execTblRead m die table slot cursor count s
  | .tblFlush m dies table => Sys2Proof.Machine.execTblFlush m dies table s
  | .tblStats m dies table => Sys2Proof.Machine.execTblStats m dies table s
  | .tblDescStage m gen table desc masks => Sys2Proof.Machine.execTblDescStage m gen table desc masks s
  | .tblGroupStage m gen group cfg members => Sys2Proof.Machine.execTblGroupStage m gen group cfg members s
  | .lrnStats m dies tenants => Sys2Proof.Machine.execLrnStats m dies tenants s
  | .lrnAgeSet m periodMs passTicks => Sys2Proof.Machine.execLrnAgeSet m periodMs passTicks s
  | .lrnFlushPort m gpn => Sys2Proof.Machine.execLrnFlushPort m gpn s
  | .lrnNotifySet m value => Sys2Proof.Machine.execLrnNotifySet m value s
  | .lrnGuardStage m gen setId first values => Sys2Proof.Machine.execLrnGuardStage m gen setId first values s
  | .lrnTenantStage m gen first classes => Sys2Proof.Machine.execLrnTenantStage m gen first classes s
  | .lrnContestList m die => Sys2Proof.Machine.execLrnContestList m die s
  | .lrnContestClear m dies table key => Sys2Proof.Machine.execLrnContestClear m dies table key s
  | .genStatus m => Sys2Proof.Machine.execGenStatus m s
  | .genOpen m => Sys2Proof.Machine.execGenOpen m s
  | .genRegStage m gen setId first values => Sys2Proof.Machine.execGenRegStage m gen setId first values s
  | .genGraphStage m gen first records => Sys2Proof.Machine.execGenGraphStage m gen first records s
  | .genProgStage m gen pdom addr units => Sys2Proof.Machine.execGenProgStage m gen pdom addr units s
  | .genConstStage m gen pdom off words => Sys2Proof.Machine.execGenConstStage m gen pdom off words s
  | .genSeal m gen => Sys2Proof.Machine.execGenSeal m gen s
  | .genCommit m gen sec ns => Sys2Proof.Machine.execGenCommit m gen sec ns s
  | .genCancel m gen => Sys2Proof.Machine.execGenCancel m gen s
  | .genAbort m gen => Sys2Proof.Machine.execGenAbort m gen s
  | .genDigestGet m slot => Sys2Proof.Machine.execGenDigestGet m slot s
  | .genAuditNow m dies => Sys2Proof.Machine.execGenAuditNow m dies s
  | .genPolicySet m value => Sys2Proof.Machine.execGenPolicySet m value s
  | .genRepair m die source => Sys2Proof.Machine.execGenRepair m die source s
  | .bufCarve m dies counts => Sys2Proof.Machine.execBufCarve m dies counts s
  | .bufOwnerSet m dies cls first count pool value => Sys2Proof.Machine.execBufOwnerSet m dies cls first count pool value s
  | .bufStatus m dies owners => Sys2Proof.Machine.execBufStatus m dies owners s
  | .qmQueueSet m => Sys2Proof.Machine.execQmQueueSet m s
  | .qmProfileSet m die profile value => Sys2Proof.Machine.execQmProfileSet m die profile value s
  | .qmTgroupSet m die group value => Sys2Proof.Machine.execQmTgroupSet m die group value s
  | .qmPortSet m die port value => Sys2Proof.Machine.execQmPortSet m die port value s
  | .qmMcSet m => Sys2Proof.Machine.execQmMcSet m s
  | .qmMcGet m group => Sys2Proof.Machine.execQmMcGet m group s
  | .qmFlush m die first count => Sys2Proof.Machine.execQmFlush m die first count s
  | .qmQueueGet m die first count => Sys2Proof.Machine.execQmQueueGet m die first count s
  | .qmStats m dies => Sys2Proof.Machine.execQmStats m dies s
  | .portStatus m gpns => Sys2Proof.Machine.execPortStatus m gpns s
  | .portLinkSet m gpn value => Sys2Proof.Machine.execPortLinkSet m gpn value s
  | .portFcSet m => Sys2Proof.Machine.execPortFcSet m s
  | .portClassSet m gpn cls value => Sys2Proof.Machine.execPortClassSet m gpn cls value s
  | .portTgSet m die group value => Sys2Proof.Machine.execPortTgSet m die group value s
  | .portQschedSet m die first values => Sys2Proof.Machine.execPortQschedSet m die first values s
  | .portEcnSet m die profile value => Sys2Proof.Machine.execPortEcnSet m die profile value s
  | .portMirrorSet m die session value => Sys2Proof.Machine.execPortMirrorSet m die session value s
  | .portSampleSet m die sampler value => Sys2Proof.Machine.execPortSampleSet m die sampler value s
  | .portStats m gpns queues sessions samplers => Sys2Proof.Machine.execPortStats m gpns queues sessions samplers s
  | .talCfg m closeCtl retain => Sys2Proof.Machine.execTalCfg m closeCtl retain s
  | .talStatus m dies => Sys2Proof.Machine.execTalStatus m dies s
  | .talAck m seq => Sys2Proof.Machine.execTalAck m seq s
  | .talResend m seq => Sys2Proof.Machine.execTalResend m seq s
  | .talRead m dies tenant => Sys2Proof.Machine.execTalRead m dies tenant s
  | .talPolSet m first count egress rate burst shares => Sys2Proof.Machine.execTalPolSet m first count egress rate burst shares s
  | .talPolGet m dies tenant => Sys2Proof.Machine.execTalPolGet m dies tenant s
  | .sesHello m => Sys2Proof.Machine.execSesHello m s
  | .sesOpen m => Sys2Proof.Machine.execSesOpen m s
  | .sesClose m => Sys2Proof.Machine.execSesClose m s
  | .sesPing m => Sys2Proof.Machine.execSesPing m s
  | .sesSubscribe m => Sys2Proof.Machine.execSesSubscribe m s
  | .sesList m => Sys2Proof.Machine.execSesList m s
  | .sesEndOther m session => Sys2Proof.Machine.execSesEndOther m session s
  | .sesKeySet m slot priv wrapped => Sys2Proof.Machine.execSesKeySet m slot priv wrapped s
  | .sesMgmtSet m value => Sys2Proof.Machine.execSesMgmtSet m value s
  | .regRead m => Sys2Proof.Machine.execRegRead m s
  | .regWrite m => Sys2Proof.Machine.execRegWrite m s
  | .regList m block first => Sys2Proof.Machine.execRegList m block first s
  | .claimList m => Sys2Proof.Machine.execClaimList m s
  | .claimSet m cls index value => Sys2Proof.Machine.execClaimSet m cls index value s
  | .claimFree m cls index => Sys2Proof.Machine.execClaimFree m cls index s
  | .claimPolicySet m value => Sys2Proof.Machine.execClaimPolicySet m value s
  | .claimLockAcq m die lock => Sys2Proof.Machine.execClaimLockAcq m die lock s
  | .claimLockRel m die lock => Sys2Proof.Machine.execClaimLockRel m die lock s
  | .claimLockList m => Sys2Proof.Machine.execClaimLockList m s
  | .mapGet m rows => Sys2Proof.Machine.execMapGet m rows s
  | .mapSet m => Sys2Proof.Machine.execMapSet m s
  | .mapDigestGet m => Sys2Proof.Machine.execMapDigestGet m s
  | .mapAuditNow m => Sys2Proof.Machine.execMapAuditNow m s
  | .fltStatus m dies => Sys2Proof.Machine.execFltStatus m dies s
  | .fltThreshSet m kind value => Sys2Proof.Machine.execFltThreshSet m kind value s
  | .fltDieRestore m die failStep => Sys2Proof.Machine.execFltDieRestore m die failStep s
  | .inspStatus m dies => Sys2Proof.Machine.execInspStatus m dies s
  | .inspCfgSet m value => Sys2Proof.Machine.execInspCfgSet m value s
  | .inspStop m die combs groups => Sys2Proof.Machine.execInspStop m die combs groups s
  | .inspStart m die combs groups => Sys2Proof.Machine.execInspStart m die combs groups s
  | .inspMarch m die unit preserving r => Sys2Proof.Machine.execInspMarch m die unit preserving r s
  | .inspResult m die cursor => Sys2Proof.Machine.execInspResult m die cursor s
  | .inspRepairList m die => Sys2Proof.Machine.execInspRepairList m die s
  | .inspFuse m die => Sys2Proof.Machine.execInspFuse m die s
  | .inspDram m die base blocks bad => Sys2Proof.Machine.execInspDram m die base blocks bad s
  | .recStatus m => Sys2Proof.Machine.execRecStatus m s
  | .recRead m index count => Sys2Proof.Machine.execRecRead m index count s
  | .recClear m => Sys2Proof.Machine.execRecClear m s
  | .recFlush m => Sys2Proof.Machine.execRecFlush m s
  | .recRateSet m codes rate burst => Sys2Proof.Machine.execRecRateSet m codes rate burst s
  | .recRateGet m dies codes => Sys2Proof.Machine.execRecRateGet m dies codes s
  | .recNvRead m older cursor => Sys2Proof.Machine.execRecNvRead m older cursor s
  | .recDieRead m die => Sys2Proof.Machine.execRecDieRead m die s
  | .recCfgSet m value => Sys2Proof.Machine.execRecCfgSet m value s
  | .fwStatus m => Sys2Proof.Machine.execFwStatus m s
  | .fwLoad m offset words => Sys2Proof.Machine.execFwLoad m offset words s
  | .fwVerify m => Sys2Proof.Machine.execFwVerify m s
  | .fwActivate m => Sys2Proof.Machine.execFwActivate m s
  | .fwResetPackage m => Sys2Proof.Machine.execFwResetPackage m s
  | .fwResetDie m => Sys2Proof.Machine.execFwResetDie m s
  | .fwResetComb m => Sys2Proof.Machine.execFwResetComb m s
  | .fwResetCell m => Sys2Proof.Machine.execFwResetCell m s
  | .fwBcrGet m => Sys2Proof.Machine.execFwBcrGet m s
  | .fwBcrSet m record => Sys2Proof.Machine.execFwBcrSet m record s
  | .fwUnclaim m => Sys2Proof.Machine.execFwUnclaim m s
  | .pairStatus m => Sys2Proof.Machine.execPairStatus m s
  | .pairSet m portA portB secondary pairId table wrapped => Sys2Proof.Machine.execPairSet m portA portB secondary pairId table wrapped s
  | .pairLeave m => Sys2Proof.Machine.execPairLeave m s
  | .pairTakeover m => Sys2Proof.Machine.execPairTakeover m s
  | .pairGroupSet m first gpns => Sys2Proof.Machine.execPairGroupSet m first gpns s
  | .pairGroupList m => Sys2Proof.Machine.execPairGroupList m s
  | .lanePortSet m => Sys2Proof.Machine.execLanePortSet m s
  | .laneStatus m gpns => Sys2Proof.Machine.execLaneStatus m gpns s
  | .laneTuneSet m die lanes taps => Sys2Proof.Machine.execLaneTuneSet m die lanes taps s
  | .lanePrbs m gpn => Sys2Proof.Machine.execLanePrbs m gpn s
  | .jtagExtest shift => Sys2Proof.Machine.execJtagExtest shift s
  | .jtagIdcode => Sys2Proof.Machine.execJtagIdcode s
  | .jtagSamplePreload shift => Sys2Proof.Machine.execJtagSamplePreload shift s
  | .jtagClamp => Sys2Proof.Machine.execJtagClamp s
  | .jtagHighz => Sys2Proof.Machine.execJtagHighz s
  | .jtagBypass code => Sys2Proof.Machine.execJtagBypass code s
  | .keyClaim key crc => Sys2Proof.Machine.execKeyClaim key crc s
  | .keyErase bit => Sys2Proof.Machine.execKeyErase bit s
  | .recDump die => Sys2Proof.Machine.execRecDump die s
  | .warmReset bit => Sys2Proof.Machine.execWarmReset bit s
  | .slewDone => Sys2Proof.Machine.execSlewDone s
  | .timeAlignError die err => Sys2Proof.Machine.execTimeAlignError die err s
  | .threadResetDone tid => Sys2Proof.Machine.execThreadResetDone tid s
  | .pfcWatchdogEnd die port cls => Sys2Proof.Machine.execPfcWatchdogEnd die port cls s
  | .sweeperRead die table cursor => Sys2Proof.Machine.execSweeperRead die table cursor s
  | .serdesReferenceValid die => Sys2Proof.Machine.execSerdesReferenceValid die s
  | .empUnknownCmd m code => Sys2Proof.Machine.execEmpUnknownCmd m code s
  | .fwActivateTimeout die => Sys2Proof.Machine.execFwActivateTimeout die s

end Sys2Proof.Machine
end

