-- ==== Sys2Proof/Machine/Tick.lean ====
section
/-! DEFINITION. The passing of time when no command waits (log entry 2): the clocks and what follows them without a row of the table. -/

namespace Sys2Proof.Machine

/-! ## The clocks (R31, R41) -/

/-- What a slew moves TOD by in the nanosecond that ends at the lead's MONO `m`: 1 ns in each 2,000, which is 500 ppm. -/
def slewStep (c : Correction) (m : Nat) : Int :=
  match c with
  | .slew rest at_ =>
    if rest = 0 ∨ m ≤ at_ ∨ (m - at_) % 2000 ≠ 0 then 0 else if rest < 0 then -1 else 1
  | _ => 0

/-- What is left of a slew. -/
def slewRest (c : Correction) (x : Int) : Correction := match c with | .slew rest at_ => .slew (rest - x) at_ | c => c

/-- One nanosecond passes on die `d` (R31): MONO and TOD advance, and STIME follows unless it is frozen (R42); a slew moves TOD by `x` more. -/
def tickDie (x : Int) (s : State) (d : Nat) : State :=
  let c := clock s d
  let step : Nat := ((1 + x : Int)).toNat
  setClock s d { tod := c.tod + step, stime := if frozen s d then c.stime else c.stime + step, mono := c.mono + 1 }

/-- The clocks of every die advance. -/
def tickClocks (s : State) : State :=
  let x := slewStep s.time.correction (leadMono s + 1)
  let c := slewRest s.time.correction x
  forEach (allDies s) (tickDie x) { s with time := { s.time with correction := c } }

/-! ## What runs on the clocks of a die -/

/-- The clocks of a rate of `a`/`b` per ns that fall in the nanosecond that ends at MONO `m`. -/
def clocksIn (a b m : Nat) : Nat := m * a / b - (m - 1) * a / b

/-- The LFSR steps at each TCLK, 6/5 per ns (R305). -/
def tickLfsr (s : State) (d : Nat) : State := setLfsr s d (lfsrSteps (clocksIn 6 5 (mono s d)) (lfsr s d))

/-- The threads of a die that hold a work item. -/
def busyThreads (s : State) (d : Nat) : List Nat :=
  (s.core.threads.filter (fun e => decide (thrDie e.1 = d) && e.2.item.isSome)).map (·.1)

/-- DISP.CELL_LOAD: a thread with a work item counts at each CCLK, 12/5 per ns; a window of 1 ms of MONO ends (R95). -/
def tickLoad (s : State) (d : Nat) : State :=
  let k := clocksIn 12 5 (mono s d)
  let s := forEach (busyThreads s d) (fun s t => modCell s (thrCell t) (fun x => { x with loadNow := x.loadNow + k })) s
  if mono s d % 1000000 = 0 then
    forEach ((dieCombs d).flatMap combCells) (fun s c => modCell (setR s .dispCellLoad d (cellInst c) (getCell s c).loadNow) c (fun x => { x with loadNow := 0 })) s
  else s

/-- A follower reloads a map that has met an uncorrectable word from the lead's (R395). -/
def tickMap (s : State) (d : Nat) : State :=
  if d ≠ s.pkg.lead ∧ !s.pkg.noLead ∧ mapSick s d ∧ !mapSick s s.pkg.lead then mapDrift s d 1 else s

/-! ## What the package does -/

/-- The host ports that are up send the oldest waiting notification of each of their sessions (R374). -/
def drainNotes (s : State) : State :=
  forEach (range' 1 41) (fun s i =>
    match session s i with
    | some x => if portIsUp s x.port then drainNote s i else s
    | none => s) s

/-- The pair link as time passes: heartbeats that have stopped, the held minutes that have closed, the group entries (R477, R481, R485). -/
def tickPair (s : State) : State := if pairOn s then refreshGroups (emitBehalf (quietHeartbeats s)) else s

/-- One die of a running package. -/
def tickUnits (s : State) (d : Nat) : State := dueGuar (tickMap (tickLoad (tickLfsr s d) d) d) d

/-- One nanosecond passes on every die of a running package. -/
def tick (s : State) : State :=
  if s.pkg.running then tickPair (drainNotes (forEach (allDies s) tickUnits (tickClocks s))) else s

end Sys2Proof.Machine
end

