-- ==== Sys2Proof/Safety.lean ====
section
/-!
DEFINITION. The terms that claims are stated in: a safe step; when an instruction issues and what its commit leaves alone; when a session's
command is taken and what its answer is.
-/

namespace Sys2Proof.Safety

open Sys2Proof.Machine

/-- A step is safe when the machine goes on. -/
def SafeStep (s : State) : Prop := ∃ t, step s = .next t

/-! ## Instructions -/

/-- Thread `i.tid` may issue an instruction of a legal form (`ok`) that reads the word registers `reads`; `branch` marks BR, BRX, RET and
RETX: the thread is ACTIVE or STALLED (R98), no breakpoint stops it (R121), its units can be fetched (R401), the form is legal and may stand at
its PC (R128), its guard is true (R127), and no source register waits for an IN (R103). -/
structure Issues (s : State) (i : Issue) (ok : Bool) (reads : List WReg) (branch : Bool) : Prop where
  runs : (getT s i.tid).st = .active ∨ (getT s i.tid).st = .stalled
  noBreak : breakHit s i.tid = false
  fetched : (fetchPoison s i.tid (regsOf s i.tid).pc.toNat ||
    (decide (unitsOf i = 2) && fetchPoison s i.tid ((regsOf s i.tid).pc + 1).toNat)) = false
  formOk : ok = true
  mayStand : badEnd i (regsOf s i.tid).pc branch = false
  guarded : guardTrue (regsOf s i.tid) i.guard = true
  sources : waitsIn s i.tid reads = false

/-- The state in which an instruction that issues takes effect: its thread is ACTIVE, and its PC has moved past the instruction's units. -/
def ready (s : State) (i : Issue) : State :=
  advance (if (getT s i.tid).st = .stalled then setSt s i.tid .active else s) i.tid (unitsOf i)

/-- An instruction of `n` issue cycles has committed in `u`, having accessed the words `accs`. -/
def commits (u : State) (i : Issue) (n : Nat) (accs : List (Nat × Bool)) : State := afterCommit u i.tid n accs

/-- Nothing but thread `t` and the issue count of its cell has changed: no other thread, no register of the package, no word of memory, no
other part. Of the thread, only its registers, its state and what follows its state have. -/
structure OnlyThread (s u : State) (t : Nat) : Prop where
  parts : u = { s with core := { s.core with threads := u.core.threads }, regs := u.regs }
  others : ∀ k, k ≠ t → getT u k = getT s k
  counters : ∀ k v, k ≠ rkey .cellCntIssue (thrDie t) 7 (cellInst (thrCell t)) → kget u.regs k v = kget s.regs k v
  thread : getT u t = { getT s t with
    regs := regsOf u t, st := (getT u t).st, cycBase := (getT u t).cycBase, cycFrom := (getT u t).cycFrom, since := (getT u t).since,
    haltFrom := (getT u t).haltFrom, stepping := false }

/-- A command issues, changes the registers of its thread by `f`, moves its PC past its units and changes nothing else; the thread is ACTIVE, or
HALTED where the debugger steps it (R120). -/
def Writes (s : State) (c : Instr) (i : Issue) (f : Regs → Regs) : Prop :=
  ∃ u, exec c s = .next u ∧ regsOf u i.tid = { f (regsOf s i.tid) with pc := (regsOf s i.tid).pc + BitVec.ofNat 16 (unitsOf i) } ∧
    (getT u i.tid).st = (if (getT s i.tid).stepping then .halted else .active) ∧
    ((getT s i.tid).stepping = false → OnlyThread s u i.tid)

/-! ## EMP commands -/

/-- The lead Keeper takes a command frame of session place `i` (R360): the mailbox is up, the frame passes its checks, its session `x` is open,
the tag verifies, the sequence is accepted, the privilege suffices, the start rate is not exceeded, and the frame is not a fragment. -/
structure Accepted (s : State) (m : EmpMsg) (code priv i : Nat) (x : Session) : Prop where
  up : mailboxUp s m = true
  frame : empFrameCheck s m code false = none
  found : findSession s m.session = some (i, x)
  tag : empTag x.key (empCovered m code) = m.tag
  fresh : seqKind x.hi x.seen m.seq = .new ∨ seqKind x.hi x.seen m.seq = .late
  known : priv ≤ owner
  privilege : priv ≤ x.priv
  rate : startLimit s = false
  whole : m.w0.toNat / 256 % 4 = 0

/-- The state in which a command that is taken is performed: its session's window and binding, and the started count. -/
def taken (s : State) (m : EmpMsg) (i : Nat) (x : Session) : State :=
  startCmd (setSession s i (some (acceptSeq x (leadMono s) m.port m.src m.vlan m.seq m.tag)))

/-- A command taken for session place `i` has been performed, leaving `u`, and is answered with a status and payload words. -/
def answered (u : State) (m : EmpMsg) (code i : Nat) (x : Session) (status : Nat) (ws : List Word) : State :=
  reply u m code i x.key status ws

end Sys2Proof.Safety
end

