-- ==== Sys2Proof/Certificates/Slice0/Obligations.lean ====
section
/-!
DEFINITION. The statements for the provers. Words that several of them share come first, in `Claims`.
-/

namespace Sys2Proof.Claims

open Sys2Proof.Machine Sys2Proof.Safety

/-- Registers with a new word register and a new PS. -/
def withWPs (r : Regs) (d : WReg) (v ps : Word) : Regs := { r with w := r.w.set d v, ps := ps }
/-- Registers with a new word register. -/
def withW (r : Regs) (d : WReg) (v : Word) : Regs := { r with w := r.w.set d v }
/-- Registers with a new address register. -/
def withX (r : Regs) (d : XReg) (v : Word) : Regs := { r with x := r.x.set d v }
/-- Registers with a new predicate. -/
def withP (r : Regs) (d : PReg) (v : Bool) : Regs := { r with p := r.p.set d v }
/-- PS with C, Z, N and V (R126). -/
def flags4 (ps : Word) (c z n v : Bool) : Word := psBit (psBit (psBit (psBit ps 0 c) 1 z) 2 n) 3 v
/-- PS with C, Z and N. -/
def flags3 (ps : Word) (c z n : Bool) : Word := psBit (psBit (psBit ps 0 c) 1 z) 2 n
/-- PS with Z and N of a result. -/
def flags2 (ps v : Word) : Word := psBit (psBit ps 1 (decide (v = 0))) 2 (v.getLsbD 15)
/-- A signed value that 16 bits do not hold. -/
def outside16 (v : Int) : Bool := decide (v < -32768 ∨ 32767 < v)

/-- What ADD, ADC and ADDI do: `c` is the carry that enters (R134). -/
def sumTo (r : Regs) (d : WReg) (x y : Word) (c : Bool) : Regs :=
  let v : Word := x + y + BitVec.ofNat 16 c.toNat
  withWPs r d v (flags4 r.ps (decide (65536 ≤ x.toNat + y.toNat + c.toNat)) (decide (v = 0)) (v.getLsbD 15)
    (outside16 (x.toInt + y.toInt + c.toNat)))
/-- What SUB, SBB and NEG do: `c` is the borrow that enters (R134). -/
def diffTo (r : Regs) (d : WReg) (x y : Word) (c : Bool) : Regs :=
  let v : Word := x - y - BitVec.ofNat 16 c.toNat
  withWPs r d v (flags4 r.ps (decide (x.toNat < y.toNat + c.toNat)) (decide (v = 0)) (v.getLsbD 15)
    (outside16 (x.toInt - y.toInt - c.toNat)))
/-- What a logical instruction does. -/
def logicTo (r : Regs) (d : WReg) (v : Word) : Regs := withWPs r d v (flags2 r.ps v)

/-- A left shift and its C (R135). -/
def shlTo (r : Regs) (d : WReg) (x : Word) (n : Nat) : Regs :=
  withWPs r d (x <<< n) (flags3 r.ps (decide (1 ≤ n ∧ n ≤ 16) && x.getLsbD (16 - n)) (decide (x <<< n = 0)) ((x <<< n).getLsbD 15))
/-- A right shift with zeros and its C (R135). -/
def shrTo (r : Regs) (d : WReg) (x : Word) (n : Nat) : Regs :=
  withWPs r d (x >>> n) (flags3 r.ps (decide (1 ≤ n ∧ n ≤ 16) && x.getLsbD (n - 1)) (decide (x >>> n = 0)) ((x >>> n).getLsbD 15))
/-- A right shift with copies of bit 15 and its C (R135). -/
def sarTo (r : Regs) (d : WReg) (x : Word) (n : Nat) : Regs :=
  let v := x.sshiftRight n
  let c : Bool := if n = 0 then false else if n ≤ 16 then x.getLsbD (n - 1) else x.getLsbD 15
  withWPs r d v (flags3 r.ps c (decide (v = 0)) (v.getLsbD 15))
/-- A rotation to the left and its C (R135). -/
def rolTo (r : Regs) (d : WReg) (x : Word) (n : Nat) : Regs :=
  let v := x.rotateLeft (n % 16)
  withWPs r d v (flags3 r.ps (decide (n % 16 ≠ 0) && v.getLsbD 0) (decide (v = 0)) (v.getLsbD 15))

/-- The second operand of an immediate form: the 16 bits of an IMM prefix, else the short field as extended (R129, R134). -/
def immediate (i : Issue) (short : Word) : Word := match i.pfx with | .imm k => k | _ => short

/-- The condition of CMP and CMPI (R136). -/
def compares (cond : Nat) (x y : Word) : Bool :=
  match cond with
  | 0 => decide (x = y) | 1 => decide (x ≠ y)
  | 2 => decide (x.toInt < y.toInt) | 3 => decide (y.toInt ≤ x.toInt) | 4 => decide (x.toInt ≤ y.toInt) | 5 => decide (y.toInt < x.toInt)
  | 6 => decide (x.toNat < y.toNat) | 7 => decide (y.toNat ≤ x.toNat) | 8 => decide (x.toNat ≤ y.toNat) | 9 => decide (y.toNat < x.toNat)
  | 10 => decide (x &&& y ≠ 0) | _ => decide (x &&& y = 0)

/-- The word whose bits are `f`. -/
def HasBits (v : Word) (f : Nat → Bool) : Prop := ∀ k, k < 16 → v.getLsbD k = f k

/-- The number of 1 bits. -/
def ones (x : Word) : Nat := ((List.range 16).filter (fun k => x.getLsbD k)).length

/-- An accumulator with its sticky AV bit (R139): `exact` is the sum, which lies inside when `fits`. -/
def accTo (r : Regs) (n : Bool) (v : BitVec 40) (fits : Bool) : Regs :=
  let r := if n then { r with acc1 := v } else { r with acc0 := v }
  { r with ps := if fits then r.ps else psBit r.ps (if n then 5 else 4) true }
/-- The accumulator that N selects. -/
def accSel (r : Regs) (n : Bool) : BitVec 40 := if n then r.acc1 else r.acc0
/-- A signed accumulation. -/
def macSigned (r : Regs) (n : Bool) (x y : Word) : Regs :=
  let v : Int := (accSel r n).toInt + x.toInt * y.toInt
  accTo r n (BitVec.ofInt 40 v) (decide (-(2 ^ 39) ≤ v ∧ v < 2 ^ 39))
/-- An unsigned accumulation. -/
def macUnsigned (r : Regs) (n : Bool) (x y : Word) : Regs :=
  let v : Nat := (accSel r n).toNat + x.toNat * y.toNat
  accTo r n (BitVec.ofNat 40 v) (decide (v < 2 ^ 40))
/-- An accumulator shifted right arithmetically. -/
def accShifted (r : Regs) (n : Bool) (sh : BitVec 5) : Int := (accSel r n).toInt / 2 ^ sh.toNat

/-- A predicate as a source: P0 reads 1 (R125). -/
def pred (r : Regs) (p : PReg) : Bool := if p = 0 then true else r.p[p]
/-- Bit `k` of the predicate word (R137): 1, then P1 to P7. -/
def predicateBit (r : Regs) (k : Nat) : Bool :=
  match k with
  | 0 => true | 1 => r.p[1] | 2 => r.p[2] | 3 => r.p[3] | 4 => r.p[4] | 5 => r.p[5] | 6 => r.p[6] | 7 => r.p[7] | _ => false
/-- P1 to P7 from bits [7:1] of a word; P0 stays 1. -/
def predsFrom (r : Regs) (w : Word) : Regs :=
  { r with p := #v[true, w.getLsbD 1, w.getLsbD 2, w.getLsbD 3, w.getLsbD 4, w.getLsbD 5, w.getLsbD 6, w.getLsbD 7] }

end Sys2Proof.Claims

open Sys2Proof Sys2Proof.Machine Sys2Proof.Safety Sys2Proof.Claims

/-! ## Jatal-16 -/

/-- From R134: ADD, ADC, SUB, SBB, NEG and ADDI write the result and C, Z, N and V; nothing else of the machine changes. -/
def Obligations.AdditionsAndSubtractions : Prop :=
  ∀ (s : State) (i : Issue) (d a b : WReg) (imm : BitVec 14),
    (Issues s i (okPlain i) [a, b] false →
      Writes s (.add i d a b) i (fun r => sumTo r d r.w[a] r.w[b] false) ∧
      Writes s (.adc i d a b) i (fun r => sumTo r d r.w[a] r.w[b] (r.ps.getLsbD 0)) ∧
      Writes s (.sub i d a b) i (fun r => diffTo r d r.w[a] r.w[b] false) ∧
      Writes s (.sbb i d a b) i (fun r => diffTo r d r.w[a] r.w[b] (r.ps.getLsbD 0))) ∧
    (Issues s i (okPlain i) [a] false → Writes s (.neg i d a) i (fun r => diffTo r d 0 r.w[a] false)) ∧
    (Issues s i (okImm i imm.toNat) [a] false →
      Writes s (.addi i d a imm) i (fun r => sumTo r d r.w[a] (immediate i (imm.signExtend 16)) false))

/-- From R134: the logical instructions write the result, Z and N.
From R134: minima, maxima, moves and bit counts write one word register and leave PS. -/
def Obligations.LogicMinimaMovesAndCounts : Prop :=
  (∀ (s : State) (i : Issue) (d a b : WReg) (imm : BitVec 14),
    (Issues s i (okPlain i) [a, b] false →
      Writes s (.and i d a b) i (fun r => logicTo r d (r.w[a] &&& r.w[b])) ∧
      Writes s (.or i d a b) i (fun r => logicTo r d (r.w[a] ||| r.w[b])) ∧
      Writes s (.xor i d a b) i (fun r => logicTo r d (r.w[a] ^^^ r.w[b])) ∧
      Writes s (.andn i d a b) i (fun r => logicTo r d (r.w[a] &&& ~~~r.w[b]))) ∧
    (Issues s i (okPlain i) [a] false → Writes s (.not i d a) i (fun r => logicTo r d (~~~r.w[a]))) ∧
    (Issues s i (okImm i imm.toNat) [a] false →
      Writes s (.andi i d a imm) i (fun r => logicTo r d (r.w[a] &&& immediate i (imm.zeroExtend 16))) ∧
      Writes s (.ori i d a imm) i (fun r => logicTo r d (r.w[a] ||| immediate i (imm.zeroExtend 16))) ∧
      Writes s (.xori i d a imm) i (fun r => logicTo r d (r.w[a] ^^^ immediate i (imm.zeroExtend 16))))) ∧
  (∀ (s : State) (i : Issue) (d a b : WReg) (k : Word),
    (Issues s i (okPlain i) [a, b] false →
      Writes s (.min i d a b) i (fun r => withW r d (if r.w[b].toInt < r.w[a].toInt then r.w[b] else r.w[a])) ∧
      Writes s (.max i d a b) i (fun r => withW r d (if r.w[a].toInt < r.w[b].toInt then r.w[b] else r.w[a])) ∧
      Writes s (.minu i d a b) i (fun r => withW r d (if r.w[b].toNat < r.w[a].toNat then r.w[b] else r.w[a])) ∧
      Writes s (.maxu i d a b) i (fun r => withW r d (if r.w[a].toNat < r.w[b].toNat then r.w[b] else r.w[a]))) ∧
    (Issues s i (okPlain i) [a] false →
      Writes s (.mov i d a) i (fun r => withW r d r.w[a]) ∧
      Writes s (.bswap i d a) i (fun r => withW r d (r.w[a].extractLsb' 0 8 ++ r.w[a].extractLsb' 8 8)) ∧
      Writes s (.popc i d a) i (fun r => withW r d (BitVec.ofNat 16 (ones r.w[a]))) ∧
      (∀ n, (∀ k, k < n → (regsOf s i.tid).w[a].getLsbD (15 - k) = false) → (n = 16 ∨ n < 16 ∧ (regsOf s i.tid).w[a].getLsbD (15 - n) = true) →
        Writes s (.clz i d a) i (fun r => withW r d (BitVec.ofNat 16 n))) ∧
      (∀ n, (∀ k, k < n → (regsOf s i.tid).w[a].getLsbD k = false) → (n = 16 ∨ n < 16 ∧ (regsOf s i.tid).w[a].getLsbD n = true) →
        Writes s (.ctz i d a) i (fun r => withW r d (BitVec.ofNat 16 n)))) ∧
    (Issues s i (okPlain i) [] false → Writes s (.movi i d k) i (fun r => withW r d k)))

/-- R135: the shifts and rotations, by a register's low five bits or by an immediate, write the result, C, Z and N; V stays. SHI stands in
format S under its KIND. -/
def Obligations.ShiftsAndRotations : Prop :=
  ∀ (s : State) (i : Issue) (d a b : WReg) (amt : BitVec 4),
    (Issues s i (okPlain i) [a, b] false →
      Writes s (.shl i d a b) i (fun r => shlTo r d r.w[a] (r.w[b].toNat % 32)) ∧
      Writes s (.shr i d a b) i (fun r => shrTo r d r.w[a] (r.w[b].toNat % 32)) ∧
      Writes s (.sar i d a b) i (fun r => sarTo r d r.w[a] (r.w[b].toNat % 32)) ∧
      Writes s (.rol i d a b) i (fun r => rolTo r d r.w[a] (r.w[b].toNat % 32))) ∧
    (Issues s i (okPlain i) [a] false →
      Writes s (.shiShl i d a amt) i (fun r => shlTo r d r.w[a] amt.toNat) ∧
      Writes s (.shiShr i d a amt) i (fun r => shrTo r d r.w[a] amt.toNat) ∧
      Writes s (.shiSar i d a amt) i (fun r => sarTo r d r.w[a] amt.toNat) ∧
      Writes s (.shiRol i d a amt) i (fun r => rolTo r d r.w[a] amt.toNat)) ∧
    (∀ (kind : Nat) (c : Instr),
      (kind, c) ∈ [(0, Instr.shiShl i d a amt), (1, .shiShr i d a amt), (2, .shiSar i d a amt), (3, .shiRol i d a amt)] →
        encodeUnit c = some (unitAt i 0x09 (d.val * 2 ^ 18 + a.val * 2 ^ 14 + kind * 2 ^ 12 + amt.toNat)))

/-- From R136, R137: comparisons and the PRED group write a predicate, the predicates, a word register or PS. -/
def Obligations.ComparisonsAndPredicates : Prop :=
  ∀ (s : State) (i : Issue) (pd pa pb : PReg) (a b w : WReg) (cond : BitVec 4) (imm : BitVec 11),
    (Issues s i (okPlain i && okCond pd cond) [a, b] false →
      Writes s (.cmp i pd a b cond) i (fun r => withP r pd (compares cond.toNat r.w[a] r.w[b]))) ∧
    (Issues s i (okImm i imm.toNat && okCond pd cond) [a] false →
      Writes s (.cmpi i pd cond a imm) i (fun r => withP r pd (compares cond.toNat r.w[a]
        (immediate i (if cond.toNat ≤ 5 then imm.signExtend 16 else imm.zeroExtend 16))))) ∧
    (Issues s i (okPlain i && okPred2 pd w) [] false →
      Writes s (.pand i pd pa pb w) i (fun r => withP r pd (pred r pa && pred r pb)) ∧
      Writes s (.por i pd pa pb w) i (fun r => withP r pd (pred r pa || pred r pb)) ∧
      Writes s (.pxor i pd pa pb w) i (fun r => withP r pd (pred r pa != pred r pb)) ∧
      Writes s (.pandn i pd pa pb w) i (fun r => withP r pd (pred r pa && !pred r pb))) ∧
    (Issues s i (okPlain i && okPnot pd pb w) [] false → Writes s (.pnot i pd pa pb w) i (fun r => withP r pd (!pred r pa))) ∧
    (Issues s i (okPlain i && okPset pd pa pb w) [] false → Writes s (.pset i pd pa pb w) i (fun r => withP r pd (decide (pa = 1)))) ∧
    (Issues s i (okPlain i && okPmove pd pa pb) [] false →
      (∀ v, HasBits v (predicateBit (regsOf s i.tid)) → Writes s (.movwp i pd pa pb w) i (fun r => withW r w v)) ∧
      Writes s (.movps i pd pa pb w) i (fun r => withW r w r.ps)) ∧
    (Issues s i (okPlain i && okPmove pd pa pb) [w] false →
      Writes s (.movpw i pd pa pb w) i (fun r => predsFrom r r.w[w]) ∧
      (∀ v, HasBits v (fun k => if k < 6 then (regsOf s i.tid).w[w].getLsbD k else (regsOf s i.tid).ps.getLsbD k) →
        Writes s (.movsp i pd pa pb w) i (fun r => { r with ps := v })))

/-- From R138: the BITF group moves fields and bytes between word registers: the result `v`, bit by bit. -/
def Obligations.BitFields : Prop :=
  ∀ (s : State) (i : Issue) (d a : WReg) (pos wm1 : BitVec 4) (v : Word),
    let w := wm1.toNat + 1
    let p := pos.toNat
    let x := (regsOf s i.tid).w[a]
    let y := (regsOf s i.tid).w[d]
    (Issues s i (okPlain i && okField pos wm1) [a] false →
      (HasBits v (fun k => decide (k < w) && x.getLsbD (p + k)) → Writes s (.bfx i d a pos wm1) i (fun r => withW r d v)) ∧
      (HasBits v (fun k => x.getLsbD (p + min k wm1.toNat)) → Writes s (.bfxs i d a pos wm1) i (fun r => withW r d v))) ∧
    (Issues s i (okPlain i && okField pos wm1) [a, d] false →
      HasBits v (fun k => if p ≤ k ∧ k < p + w then x.getLsbD (k - p) else y.getLsbD k) →
      Writes s (.bfi i d a pos wm1) i (fun r => withW r d v)) ∧
    (Issues s i (okPlain i && okByte pos wm1) [a] false →
      HasBits v (fun k => decide (k < 8) && x.getLsbD (if pos = 0 then k + 8 else k)) →
      Writes s (.extb i d a pos wm1) i (fun r => withW r d v)) ∧
    (Issues s i (okPlain i && okByte pos wm1) [a, d] false →
      HasBits v (fun k =>
        if pos = 0 then (if 8 ≤ k then x.getLsbD (k - 8) else y.getLsbD k) else if k < 8 then x.getLsbD k else y.getLsbD k) →
      Writes s (.insb i d a pos wm1) i (fun r => withW r d v))

/-- From R139: the reckoner's products and accumulations. An accumulation keeps its sum modulo 2^40 and sets its AV bit when the exact sum lies
outside the range; ARDS clamps and sets V. -/
def Obligations.Reckoner : Prop :=
  ∀ (s : State) (i : Issue) (n : Bool) (d a b : WReg) (sh : BitVec 5),
    (Issues s i (okPlain i) [a, b] false →
      Writes s (.mul i d a b) i (fun r => withW r d (BitVec.ofNat 16 (r.w[a].toNat * r.w[b].toNat))) ∧
      Writes s (.mulh i d a b) i (fun r => withW r d (BitVec.ofInt 16 (r.w[a].toInt * r.w[b].toInt / 65536))) ∧
      Writes s (.mulhu i d a b) i (fun r => withW r d (BitVec.ofNat 16 (r.w[a].toNat * r.w[b].toNat / 65536)))) ∧
    (Issues s i (okPlain i && okAclr d a b sh) [] false →
      Writes s (.aclr i n d a b sh) i (fun r => { accTo r n 0 true with ps := psBit r.ps (if n then 5 else 4) false })) ∧
    (Issues s i (okPlain i && okMac d sh) [a, b] false →
      Writes s (.macS i n d a b sh) i (fun r => macSigned r n r.w[a] r.w[b]) ∧
      Writes s (.macU i n d a b sh) i (fun r => macUnsigned r n r.w[a] r.w[b]) ∧
      Writes s (.awr i n d a b sh) i (fun r =>
        accTo r n (BitVec.ofInt 40 ((r.w[a].toInt * 65536) + r.w[b].toNat)) true)) ∧
    (Issues s i (okPlain i && okArd a b sh) [] false →
      Writes s (.ard i n d a b sh) i (fun r => withW r d (BitVec.ofInt 16 (accShifted r n sh))) ∧
      Writes s (.ards i n d a b sh) i (fun r =>
        let v := accShifted r n sh
        withWPs r d (BitVec.ofInt 16 (max (-32768) (min 32767 v))) (psBit r.ps 3 (outside16 v))))

namespace Sys2Proof.Claims

/-- The address of a load or store (R142). -/
def address (i : Issue) (r : Regs) (x : XReg) (mode : BitVec 2) (off : BitVec 13) : Word :=
  if mode = 0 then r.x[x] + immediate i (off.signExtend 16)
  else if mode = 1 then r.x[x]
  else if mode = 2 then r.x[x] - 1
  else immediate i (off.zeroExtend 16)
/-- Its X register afterwards. -/
def pointerAfter (r : Regs) (x : XReg) (mode : BitVec 2) : Word :=
  if mode = 1 then r.x[x] + 1 else if mode = 2 then r.x[x] - 1 else r.x[x]
/-- Byte `k` of a frame of the package. -/
def byteAt (s : State) (f k : Nat) : Option Byte := (getFrame s f).map (fun x => frameByte x k)
/-- Whether a thread may read word `a` now: the region allows it, no forager result is awaited there, the word is not poisoned (R103 to R105). -/
def Reads (u : State) (t a : Nat) : Prop := readable u t a = true ∧ waitsSlot u t a = false ∧ poisonedW u t a = false
/-- The words named by a mask, in ascending register order (R144). -/
def named (r : Regs) (mask : Word) : List Word := (maskRegs mask).map (fun d => r.w[d])
/-- A span of words that a thread may write. -/
def MayWrite (u : State) (t a n : Nat) : Prop := ∀ k, k < n → writable u t (a + k) = true
/-- A span of words that hold no poison. -/
def Sound (u : State) (t a n : Nat) : Prop := ∀ k, k < n → poisonedW u t (a + k) = false
/-- The accesses of a span. -/
def accesses (a n : Nat) (w : Bool) : List (Nat × Bool) := (List.range n).map (fun k => (a + k, w))

end Sys2Proof.Claims

/-- From R142: a load reads the word at its address into its register, a store writes it; modes 1 and 2 move the address register. An access that
is not allowed faults REGION, poisoned data UNCORRECTABLE, and a load from an awaited result slot stalls. -/
def Obligations.LoadsAndStores : Prop :=
  ∀ (s : State) (i : Issue) (d : WReg) (x : XReg) (mode : BitVec 2) (off : BitVec 13),
    let u := ready s i
    let r := regsOf u i.tid
    let a := address i r x mode off
    (Issues s i (okMem i x mode off) [] false →
      (Reads u i.tid a.toNat →
        exec (.ld i d x mode off) s =
          .next (commits (setW (setX u i.tid x (pointerAfter r x mode)) i.tid d (readW u i.tid a.toNat)) i 1 [(a.toNat, false)])) ∧
      (readable u i.tid a.toNat = false →
        exec (.ld i d x mode off) s = .next (faultAt (if (getT s i.tid).st = .stalled then setSt s i.tid .active else s) i.tid 3
          (regsOf s i.tid).pc a (unitsOf i))) ∧
      (readable u i.tid a.toNat = true → waitsSlot u i.tid a.toNat = true →
        exec (.ld i d x mode off) s = .next (setSt (if (getT s i.tid).st = .stalled then setSt s i.tid .active else s) i.tid .stalled)) ∧
      (readable u i.tid a.toNat = true → waitsSlot u i.tid a.toNat = false → poisonedW u i.tid a.toNat = true →
        exec (.ld i d x mode off) s = .next (faultAt (if (getT s i.tid).st = .stalled then setSt s i.tid .active else s) i.tid 9
          (regsOf s i.tid).pc a (unitsOf i)))) ∧
    (Issues s i (okMem i x mode off) [d] false →
      (writable u i.tid a.toNat = true →
        exec (.st i d x mode off) s =
          .next (commits (setX (writeW u i.tid a.toNat r.w[d]) i.tid x (pointerAfter r x mode)) i 1 [(a.toNat, true)])) ∧
      (writable u i.tid a.toNat = false →
        exec (.st i d x mode off) s = .next (faultAt (if (getT s i.tid).st = .stalled then setSt s i.tid .active else s) i.tid 3
          (regsOf s i.tid).pc a (unitsOf i))))

/-- The frame of a load and of a store (R142): a load changes no word and no byte; a store changes the one word at its address (in the
packet window the two bytes of it, high byte first) and nothing else; neither changes PS, a predicate, an accumulator or BC. -/
def Obligations.LoadAndStoreFrames : Prop :=
  ∀ (s u : State) (i : Issue) (d : WReg) (x : XReg) (mode : BitVec 2) (off : BitVec 13),
    let r := regsOf (ready s i) i.tid
    let a := (address i r x mode off).toNat
    (Issues s i (okMem i x mode off) [] false → Reads (ready s i) i.tid a → exec (.ld i d x mode off) s = .next u →
      (∀ b, memAt u b = memAt s b) ∧ (∀ f k, byteAt u f k = byteAt s f k) ∧
      (∀ e : WReg, e ≠ d → (regsOf u i.tid).w[e] = r.w[e]) ∧ (∀ e : XReg, e ≠ x → (regsOf u i.tid).x[e] = r.x[e]) ∧
      (regsOf u i.tid).ps = r.ps ∧ (regsOf u i.tid).p = r.p ∧ (regsOf u i.tid).acc0 = r.acc0 ∧ (regsOf u i.tid).acc1 = r.acc1 ∧
      (regsOf u i.tid).bc = r.bc) ∧
    (Issues s i (okMem i x mode off) [d] false → writable (ready s i) i.tid a = true → exec (.st i d x mode off) s = .next u →
      (∀ b, (b ≠ flatAddr (ready s i) i.tid a ∨ 0x1000 ≤ a ∧ a < 0x1800) → memAt u b = memAt s b) ∧
      (¬(0x1000 ≤ a ∧ a < 0x1800) → memAt u (flatAddr (ready s i) i.tid a) = r.w[d] ∧ ∀ f k, byteAt u f k = byteAt s f k) ∧
      (∀ it, (getT s i.tid).item = some it → 0x1000 ≤ a ∧ a < 0x1800 →
        byteAt u it.frame (2 * (a - 0x1000)) = some (r.w[d].extractLsb' 8 8) ∧
        byteAt u it.frame (2 * (a - 0x1000) + 1) = some (r.w[d].extractLsb' 0 8) ∧
        (∀ f k, ¬(f = it.frame ∧ k / 2 = a - 0x1000) → byteAt u f k = byteAt s f k)) ∧
      (regsOf u i.tid).w = r.w ∧ (∀ e : XReg, e ≠ x → (regsOf u i.tid).x[e] = r.x[e]) ∧
      (regsOf u i.tid).ps = r.ps ∧ (regsOf u i.tid).p = r.p ∧ (regsOf u i.tid).acc0 = r.acc0 ∧ (regsOf u i.tid).acc1 = r.acc1 ∧
      (regsOf u i.tid).bc = r.bc)

/-- From R144, R146: pushes, pops, calls and returns move a frame between the registers and the words at X7, two words in an issue cycle.
From R144, R146: a push or call whose frame would reach below STK_LO, and a pop or return whose frame begins below it or passes 0x1000, faults
STACK before anything is written or read. -/
def Obligations.StackCallsAndReturns : Prop :=
  (∀ (s : State) (i : Issue) (mask k : Word),
    let u := ready s i
    let r := regsOf u i.tid
    let sp := r.x[7].toNat
    let put (ws : List Word) (v : State) : Prop := stkLo u i.tid + ws.length ≤ sp ∧ MayWrite u i.tid (sp - ws.length) ws.length ∧
      v = setX (writeWs u i.tid (sp - ws.length) ws) i.tid 7 (BitVec.ofNat 16 (sp - ws.length))
    let get (n : Nat) : Prop := stkLo u i.tid ≤ sp ∧ sp + n ≤ 0x1000 ∧ Sound u i.tid sp n
    let words (n : Nat) : List Word := (List.range n).map (fun j => readW u i.tid (sp + j))
    let n := (maskRegs mask).length
    let cm : Word := match i.pfx with | .imm m => m | _ => 0
    let xs : List Word := [r.x[0], r.x[1], r.x[2], r.x[3], r.x[4], r.x[5], r.x[6]]
    (Issues s i (okPlain i && decide (mask ≠ 0)) (maskRegs mask) false → ∀ v, put (named r mask) v →
      exec (.push i mask) s = .next (commits v i ((n + 1) / 2) (accesses (sp - n) n true))) ∧
    (Issues s i (okPlain i && decide (mask ≠ 0)) [] false → get n →
      exec (.pop i mask) s = .next (commits (loadRegs (setX u i.tid 7 (BitVec.ofNat 16 (sp + n))) i.tid (maskRegs mask) (words n)) i
        ((n + 1) / 2) (accesses sp n false))) ∧
    (Issues s i (okCall i) (maskRegs cm) false → ∀ v, put (r.pc :: named r cm) v →
      exec (.call i k) s = .next (commits (setPc v i.tid k) i (((maskRegs cm).length + 2) / 2)
        (accesses (sp - ((maskRegs cm).length + 1)) ((maskRegs cm).length + 1) true))) ∧
    (∀ pw, HasBits pw (predicateBit r) → Issues s i (okCall i) (maskRegs cm) false → ∀ v, put (r.pc :: pw :: xs ++ named r cm) v →
      exec (.callx i k) s = .next (commits (setPc v i.tid k) i (((maskRegs cm).length + 10) / 2)
        (accesses (sp - ((maskRegs cm).length + 9)) ((maskRegs cm).length + 9) true))) ∧
    (Issues s i (okPlain i) [] true → get (1 + n) →
      exec (.ret i mask) s = .next (commits (loadRegs (setPc (setX u i.tid 7 (BitVec.ofNat 16 (sp + (1 + n)))) i.tid (readW u i.tid sp)) i.tid
        (maskRegs mask) ((words (1 + n)).drop 1)) i ((1 + n + 1) / 2) (accesses sp (1 + n) false))) ∧
    (Issues s i (okPlain i) [] true → get (9 + n) → ∀ v, regsOf v i.tid = { predsFrom (regsOf u i.tid) (readW u i.tid (sp + 1)) with
        pc := readW u i.tid sp
        x := #v[readW u i.tid (sp + 2), readW u i.tid (sp + 3), readW u i.tid (sp + 4), readW u i.tid (sp + 5), readW u i.tid (sp + 6),
          readW u i.tid (sp + 7), readW u i.tid (sp + 8), BitVec.ofNat 16 (sp + (9 + n))] } → v = mapRegs u i.tid (fun _ => regsOf v i.tid) →
      exec (.retx i mask) s = .next (commits (loadRegs v i.tid (maskRegs mask) ((words (9 + n)).drop 9)) i ((9 + n + 1) / 2)
        (accesses sp (9 + n) false)))) ∧
  (∀ (s : State) (i : Issue) (mask k : Word),
    let u := ready s i
    let sp := (regsOf u i.tid).x[7].toNat
    let n := (maskRegs mask).length
    let cm : Word := match i.pfx with | .imm m => m | _ => 0
    let faults (c : Instr) (a : Word) : Prop :=
      exec c s = .next (faultAt (if (getT s i.tid).st = .stalled then setSt s i.tid .active else s) i.tid 7 (regsOf s i.tid).pc a (unitsOf i))
    let below (m : Nat) : Prop := sp < m + stkLo u i.tid
    let outside (m : Nat) : Prop := sp < stkLo u i.tid ∨ 0x1000 < sp + m
    (Issues s i (okPlain i && decide (mask ≠ 0)) (maskRegs mask) false → below n →
      faults (.push i mask) ((regsOf u i.tid).x[7] - BitVec.ofNat 16 n)) ∧
    (Issues s i (okCall i) (maskRegs cm) false → below (1 + (maskRegs cm).length) →
      faults (.call i k) ((regsOf u i.tid).x[7] - BitVec.ofNat 16 (1 + (maskRegs cm).length))) ∧
    (Issues s i (okCall i) (maskRegs cm) false → below (9 + (maskRegs cm).length) →
      faults (.callx i k) ((regsOf u i.tid).x[7] - BitVec.ofNat 16 (9 + (maskRegs cm).length))) ∧
    (Issues s i (okPlain i && decide (mask ≠ 0)) [] false → outside n → faults (.pop i mask) (regsOf u i.tid).x[7]) ∧
    (Issues s i (okPlain i) [] true → (outside (1 + n) → faults (.ret i mask) (regsOf u i.tid).x[7]) ∧
      (outside (9 + n) → faults (.retx i mask) (regsOf u i.tid).x[7])))

/-- R145: BR and BRX go to their target; DBNZ counts its register down and branches while it is not 0; their units.
From R141: LEA and the XMOV group move values between the register files and change no PS field. -/
def Obligations.AddressRegistersAndBranches : Prop :=
  (∀ (s : State) (i : Issue) (d : WReg) (x : XReg) (k : Word),
    let u := ready s i
    let r := regsOf u i.tid
    (Issues s i (okPlain i) [] true →
      exec (.br i k) s = .next (commits (setPc u i.tid k) i 1 []) ∧
      exec (.brx i x) s = .next (commits (setPc u i.tid r.x[x]) i 1 [])) ∧
    (Issues s i (okPlain i) [d] false →
      (r.w[d] ≠ 1 → exec (.dbnz i d k) s = .next (commits (setPc (setW u i.tid d (r.w[d] - 1)) i.tid k) i 1 [])) ∧
      (r.w[d] = 1 → exec (.dbnz i d k) s = .next (commits (setW u i.tid d 0) i 1 []))) ∧
    encodeUnit (.br i k) = some (unitK 0x18 i 0 k) ∧ encodeUnit (.dbnz i d k) = some (unitK 0x19 i d k) ∧
    encodeUnit (.brx i x) = some (unitX 0x1E i 0 x false)) ∧
  (∀ (s : State) (i : Issue) (xd xa : XReg) (w : WReg) (k : Word),
    (Issues s i (okPlain i) [] false → Writes s (.lea i xd xa k) i (fun r => withX r xd (r.x[xa] + k))) ∧
    (Issues s i (okPlain i && decide (xa = 0)) [w] false → Writes s (.movxw i xd xa w) i (fun r => withX r xd r.w[w])) ∧
    (Issues s i (okPlain i && decide (xd = 0)) [] false → Writes s (.movwx i xd xa w) i (fun r => withW r w r.x[xa])) ∧
    (Issues s i (okPlain i) [w] false → Writes s (.addxw i xd xa w) i (fun r => withX r xd (r.x[xa] + r.w[w]))) ∧
    (Issues s i (okPlain i && decide (w = 0)) [] false → Writes s (.movx i xd xa w) i (fun r => withX r xd r.x[xa])) ∧
    (Issues s i (okPlain i && decide (xd = 0) && decide (xa = 0)) [w] false →
      Writes s (.movbc i xd xa w) i (fun r => { r with bc := r.w[w] })) ∧
    (Issues s i (okPlain i && decide (xd = 0) && decide (xa = 0)) [] false →
      Writes s (.movwbc i xd xa w) i (fun r => withW r w r.bc)))

/-- From R147: one iteration of each string instruction without REP: the words it moves or compares, and how X5 and X6 advance; one that stops
changes no X register, and CMPS and SCANS tell so in their predicate.
From R140: MACD multiplies and accumulates the words at its two X registers and moves both on; operands in one bank cost one more issue cycle. -/
def Obligations.StringIterationsAndMacd : Prop :=
  (∀ (s : State) (i : Issue) (v : WReg) (pd : PReg),
    let u := ready s i
    let r := regsOf u i.tid
    let p := r.x[5]
    let q := r.x[6]
    i.pfx = .none →
    (Issues s i (okString i && decide (v = 0) && decide (pd = 0)) [] false → Reads u i.tid p.toNat → writable u i.tid q.toNat = true →
      exec (.movs i v pd) s = .next (commits (setX (setX (writeW u i.tid q.toNat (readW u i.tid p.toNat)) i.tid 5 (p + 1)) i.tid 6 (q + 1)) i 1
        [(p.toNat, false), (q.toNat, true)])) ∧
    (Issues s i (okString i && decide (v = 0) && decide (pd ≠ 0)) [] false → Reads u i.tid p.toNat → Reads u i.tid q.toNat →
      exec (.cmps i v pd) s = .next (commits
        (if readW u i.tid p.toNat = readW u i.tid q.toNat then setP (setX (setX u i.tid 5 (p + 1)) i.tid 6 (q + 1)) i.tid pd false
         else setP u i.tid pd true) i 1 [(p.toNat, false), (q.toNat, false)])) ∧
    (Issues s i (okString i && decide (pd ≠ 0)) [v] false → Reads u i.tid p.toNat →
      exec (.scans i v pd) s = .next (commits
        (if readW u i.tid p.toNat = r.w[v] then setP u i.tid pd true else setP (setX u i.tid 5 (p + 1)) i.tid pd false) i 1
        [(p.toNat, false)])) ∧
    (Issues s i (okString i && decide (pd = 0)) [v] false → writable u i.tid q.toNat = true →
      exec (.fills i v pd) s = .next (commits (setX (writeW u i.tid q.toNat r.w[v]) i.tid 6 (q + 1)) i 1 [(q.toNat, true)]))) ∧
  (∀ (s : State) (i : Issue) (n sgn : Bool) (xa xb : XReg),
    let u := ready s i
    let r := regsOf u i.tid
    let a := r.x[xa].toNat
    let b := r.x[xb].toNat
    let v := readW u i.tid a
    let w := readW u i.tid b
    let r' := if sgn then macSigned r n v w else macUnsigned r n v w
    Issues s i (okPlain i && decide (xa ≠ xb)) [] false → Reads u i.tid a → Reads u i.tid b →
      exec (.macd i n sgn xa xb) s =
        .next (commits (mapRegs u i.tid (fun _ => { r' with x := (r.x.set xa (r.x[xa] + 1)).set xb (r.x[xb] + 1) })) i
          (if regionOf a = regionOf b ∧ a % 8 = b % 8 then 2 else 1) [(a, false), (b, false)]))

/-- From R148: REP FILLS over private words fills BC words from X6 on, leaves every other word alone, and ends with X6 past the last one, BC 0 and
RPT 0. -/
def Obligations.RepeatedFill : Prop :=
  ∀ (s t : State) (i : Issue) (v : WReg),
    let u := ready s i
    let r := regsOf u i.tid
    let n := r.bc.toNat
    let q := r.x[6].toNat
    i.pfx = .rep → Issues s i (okString i && decide ((0 : PReg) = 0)) [v] false → (getT s i.tid).stepping = false → 1 ≤ n → q + n ≤ 0x1000 →
    exec (.fills i v 0) s = .next t →
      (∀ k, k < n → memAt t (i.tid * 0x2000 + (q + k)) = r.w[v]) ∧
      (∀ b, (b < i.tid * 0x2000 + q ∨ i.tid * 0x2000 + q + n ≤ b) → memAt t b = memAt s b) ∧
      (regsOf t i.tid).x[6] = BitVec.ofNat 16 (q + n) ∧ (regsOf t i.tid).bc = 0 ∧ (regsOf t i.tid).ps.getLsbD 6 = false ∧
      (regsOf t i.tid).w = r.w ∧ (regsOf t i.tid).p = r.p

/-- From R151 to R153, R177, R178: LDIS reads half an instruction unit; WAIT takes a pending event of its mask, the lowest first, or waits; SIGNAL
raises its event; NOP and BRK only pass, but that the cell's debugger halts a thread at BRK. -/
def Obligations.InstructionSpaceEventsAndSystem : Prop :=
  ∀ (s : State) (i : Issue) (d : WReg) (x : XReg) (h : Bool) (mask : Word) (ev : BitVec 4),
    let u := ready s i
    let t := i.tid
    (Issues s i (okPlain i) [] false →
      (fetchPoison u t (regsOf u t).x[x].toNat = false →
        exec (.ldis i d x h) s = .next (commits (setW u t d (if h then (progUnit u t (regsOf u t).x[x].toNat).extractLsb' 0 16
          else (progUnit u t (regsOf u t).x[x].toNat).extractLsb' 16 16)) i 1 [])) ∧
      exec (.nop i) s = .next (commits u i 1 []) ∧
      (canHalt u t = false → exec (.brk i) s = .next (commits u i 1 [])) ∧
      (canHalt u t = true → exec (.brk i) s = .next (commits (dbgRecord (haltThread u t) 0x4005 t) i 1 []))) ∧
    (Issues s i (okPlain i && decide (mask ≠ 0)) [] false →
      (∀ n, takenBit (isSup t) (getT u t).pend mask = some n →
        exec (.wait i d mask) s = .next (commits (setW (setT u t { getT u t with pend := clrBit (getT u t).pend n }) t d (BitVec.ofNat 16 n)) i 1 [])) ∧
      (takenBit (isSup t) (getT u t).pend mask = none →
        exec (.wait i d mask) s = .next (setSt (setPc (setT u t { getT u t with wait := some ⟨mask, d⟩ }) t (regsOf s t).pc) t .waiting))) ∧
    (Issues s i (okPlain i && okSignal ev) [d] false →
      exec (.signal i d ev) s = .next (commits (signalEvent u t (regsOf u t).w[d] ev.toNat) i 1 []))


/-! ## Ports -/

namespace Sys2Proof.Claims

/-- The state in which an instruction begins: a thread that was STALLED is ACTIVE. -/
def start (s : State) (i : Issue) : State := if (getT s i.tid).st = .stalled then setSt s i.tid .active else s
/-- An instruction faults with a cause and an address (R115). -/
def Faults (c : Instr) (s : State) (i : Issue) (cause : Nat) (a : Word) : Prop :=
  exec c s = .next (faultAt (start s i) i.tid cause (regsOf s i.tid).pc a (unitsOf i))
/-- An instruction does not issue: its thread is STALLED. -/
def Stalls (c : Instr) (s : State) (i : Issue) : Prop := exec c s = .next (setSt (start s i) i.tid .stalled)
/-- An instruction of one issue cycle leaves `u`. -/
def Leaves (c : Instr) (s : State) (i : Issue) (u : State) : Prop := exec c s = .next (commits u i 1 [])
/-- An IN gives its word at once. -/
def GivesNow (c : Instr) (s : State) (i : Issue) (d : WReg) (v : Word) (u : State) : Prop := Leaves c s i (setW u i.tid d v)
/-- An IN sets the IN scoreboard bit; its word arrives with IN_RESULT (R103). -/
def GivesLater (c : Instr) (s : State) (i : Issue) (d : WReg) (v : Word) (u : State) : Prop :=
  Leaves c s i (modT u i.tid (fun x => { x with sb := x.sb ||| 0x100, inPend := some ⟨d, some v, none⟩ }))
/-- An IN waits at a unit that has still to answer. -/
def Awaits (c : Instr) (s : State) (i : Issue) (d : WReg) (lock : Option Nat) (u : State) : Prop :=
  Leaves c s i (modT u i.tid (fun x => { x with sb := x.sb ||| 0x100, inPend := some ⟨d, none, lock⟩ }))

/-- The INs: who issues, into which register, from which port. A verdict is an IN of io:CH_GO with its kind staged. -/
def portIn (s : State) : Instr → Option (Issue × WReg × Nat)
  | .inp i d port => some (i, d, port.toNat)
  | .inr i d x => some (i, d, (regsOf s i.tid).x[x].toNat)
  | .cycLatch i d => some (i, d, 0x0001)
  | .timeLatch i d => some (i, d, 0x0400)
  | .almArm i d => some (i, d, 0x0417)
  | .talPolice i d => some (i, d, 0x0509)
  | .bufAlloc i d => some (i, d, 0x0601)
  | .bufRelease i d => some (i, d, 0x0603)
  | .bufFree i d => some (i, d, 0x0604)
  | .bufSend i d => some (i, d, 0x0608)
  | .postGo i d => some (i, d, 0x0709)
  | .lockAcq i d n => some (i, d, 0x1000 + n.toNat)
  | .lockStat i d => some (i, d, 0x2002)
  | .dgClaim i d => some (i, d, 0x2010)
  | .bkClaim i d => some (i, d, 0x2012)
  | .verdictSend i d => if (chanWord s i.tid 0).toNat % 8 = 0 then some (i, d, 0x020F) else none
  | .verdictDrop i d => if (chanWord s i.tid 0).toNat % 8 = 1 then some (i, d, 0x020F) else none
  | .verdictRecirc i d => if (chanWord s i.tid 0).toNat % 8 = 2 then some (i, d, 0x020F) else none
  | .verdictDefault i d => if (chanWord s i.tid 0).toNat % 8 = 3 then some (i, d, 0x020F) else none
  | .verdictEnd i d => if (chanWord s i.tid 0).toNat % 8 = 4 then some (i, d, 0x020F) else none
  | _ => none

/-- The value that an OUT writes. -/
def written (s : State) (i : Issue) (a : WReg) : Word := (regsOf s i.tid).w[a]

/-- The OUTs: who issues, from which register, to which port. A row that names a value, or a staged operation, is an OUT with it. -/
def portOut (s : State) : Instr → Option (Issue × WReg × Nat)
  | .outp i a port => some (i, a, port.toNat)
  | .outr i a x => some (i, a, (regsOf s i.tid).x[x].toNat)
  | .ioStageWrite i a port =>
    if (stageMask port.toNat).isSome ∨ port = 0x0012 ∨ port = 0x0016 then some (i, a, port.toNat) else none
  | .thrEnWrite i a => some (i, a, 0x0010)
  | .supResume i a => if written s i a = 1 then some (i, a, 0x0017) else none
  | .supSkip i a => if written s i a = 2 then some (i, a, 0x0017) else none
  | .supKill i a => if written s i a = 3 then some (i, a, 0x0017) else none
  | .supReset i a => if written s i a = 4 then some (i, a, 0x0017) else none
  | .evClr i a => some (i, a, 0x0101)
  | .evLocksub i a => if (written s i a).msb then some (i, a, 0x0102) else none
  | .evLocksubCancel i a => if (written s i a).msb then none else some (i, a, 0x0102)
  | .evTimerStart i a => if written s i a = 0 then none else some (i, a, 0x0103)
  | .evTimerStop i a => if written s i a = 0 then some (i, a, 0x0103) else none
  | .fgLookup i a => if (stage s i.tid 0x0300).toNat % 8 = 0 then some (i, a, 0x030F) else none
  | .fgInsert i a => if (stage s i.tid 0x0300).toNat % 8 = 1 then some (i, a, 0x030F) else none
  | .fgUpdate i a => if (stage s i.tid 0x0300).toNat % 8 = 2 then some (i, a, 0x030F) else none
  | .fgDelete i a => if (stage s i.tid 0x0300).toNat % 8 = 3 then some (i, a, 0x030F) else none
  | .fgAdd i a => if (stage s i.tid 0x0300).toNat % 8 = 4 then some (i, a, 0x030F) else none
  | .fgGlookup i a => if (stage s i.tid 0x0300).toNat % 8 = 5 then some (i, a, 0x030F) else none
  | .lrnGo i a => some (i, a, 0x032F)
  | .almCancel i a => some (i, a, 0x0418)
  | .talCountIn i a => if (stage s i.tid 0x0502).getLsbD 0 then none else some (i, a, 0x0508)
  | .talCountDrop i a => if (stage s i.tid 0x0502).getLsbD 0 then some (i, a, 0x0508) else none
  | .lockRel i a => some (i, a, 0x2000)
  | .dgFree i a => some (i, a, 0x2011)
  | .bkFree i a => some (i, a, 0x2013)
  | .dbgSel i a => some (i, a, 0x3000)
  | .dbgCmdHalt i a => if written s i a = 1 then some (i, a, 0x3001) else none
  | .dbgCmdResume i a => if written s i a = 2 then some (i, a, 0x3001) else none
  | .dbgCmdStep i a => if written s i a = 3 then some (i, a, 0x3001) else none
  | .dbgCmdReset i a => if written s i a = 4 then some (i, a, 0x3001) else none
  | _ => none

/-- `c` is an IN of port `p` that its thread may issue and use. -/
def Reading (s : State) (c : Instr) (i : Issue) (d : WReg) (p : Nat) : Prop :=
  portIn s c = some (i, d, p) ∧ Issues s i (okPlain i) [] false ∧ portOk (ready s i) i.tid p = true
/-- The same, of a port outside the cell, with the IN scoreboard bit clear. -/
def ReadingFar (s : State) (c : Instr) (i : Issue) (d : WReg) (p : Nat) : Prop :=
  Reading s c i d p ∧ (getT s i.tid).sb.getLsbD 8 = false
/-- `c` is an OUT of register `a` to port `p` that its thread may issue and use. -/
def Writing (s : State) (c : Instr) (i : Issue) (a : WReg) (p : Nat) : Prop :=
  portOut s c = some (i, a, p) ∧ Issues s i (okPlain i) [a] false ∧ portOk (ready s i) i.tid p = true

/-- The word that io:THR_STATE and io:DBG_STATE are made of: the state's code and bit 8 for a work item (R109). -/
def stateCode : ThrState → Nat
  | .disabled => 0 | .free => 1 | .active => 2 | .stalled => 3 | .waiting => 4 | .faulted => 5 | .halted => 6 | .resetting => 7

end Sys2Proof.Claims

/-- From R109, R114, R118, R150: the ports inside a cell give their word at the commit.
From R103, R108, R150: a port that is not assigned, is the supervisor's or is withheld by the program domain faults IO_DENIED; an IN from
outside the cell does not issue while the IN scoreboard bit is set. -/
def Obligations.PortsInsideTheCellAndDenials : Prop :=
  (∀ (s : State) (c : Instr) (i : Issue) (d : WReg) (p : Nat),
    let u := ready s i
    let t := i.tid
    let cell := getCell u (t / 8)
    let sel : Nat := t / 8 * 8 + cell.fltSel.toNat
    let fault : Option ThrFault :=
      if 1 ≤ cell.fltSel.toNat ∧ cell.fltSel.toNat ≤ 7 ∧ (getT u sel).st = .faulted then (getT u sel).fault else none
    Reading s c i d p →
      (p = 0x0000 → GivesNow c s i d (thrMaster t) u) ∧
      (p = 0x0001 → GivesNow c s i d ((cycles u t).extractLsb' 16 16) (modT u t (fun x => { x with cycLatch := cycles u t }))) ∧
      (p = 0x0002 → GivesNow c s i d ((getT u t).cycLatch.extractLsb' 0 16) u) ∧
      (p = 0x0011 → ∀ v, HasBits v (fun k => decide (k < 8 ∧ (getT u (t / 8 * 8 + k)).st = .faulted)) → GivesNow c s i d v u) ∧
      (p = 0x0012 → GivesNow c s i d cell.fltSel u) ∧
      (p = 0x0013 → GivesNow c s i d (nw ((fault.map (·.cause)).getD 0)) u) ∧
      (p = 0x0014 → GivesNow c s i d ((fault.map (·.pc)).getD 0) u) ∧
      (p = 0x0015 → GivesNow c s i d ((fault.map (·.addr)).getD 0) u) ∧
      (p = 0x0018 → 1 ≤ cell.fltSel.toNat → cell.fltSel.toNat ≤ 7 →
        GivesNow c s i d (nw (stateCode (getT u sel).st + if (getT u sel).item.isSome then 256 else 0)) u) ∧
      (p = 0x3000 → GivesNow c s i d cell.dbgSel u) ∧
      (p = 0x3002 → 1 ≤ cell.dbgSel.toNat → cell.dbgSel.toNat ≤ 7 →
        GivesNow c s i d (nw (stateCode (getT u (t / 8 * 8 + cell.dbgSel.toNat)).st)) u)) ∧
  (∀ (s : State) (c : Instr) (i : Issue) (r : WReg) (p : Nat),
    (portIn s c = some (i, r, p) → Issues s i (okPlain i) [] false →
      (portOk (ready s i) i.tid p = false → Faults c s i 4 (nw p)) ∧
      (portOk (ready s i) i.tid p = true → insideCell p = false → (getT s i.tid).sb.getLsbD 8 = true → Stalls c s i)) ∧
    (portOut s c = some (i, r, p) → Issues s i (okPlain i) [r] false → portOk (ready s i) i.tid p = false → Faults c s i 4 (nw p)) ∧
    (isPort p = false → portOk s i.tid p = false) ∧
    (supOnly p = true → i.tid % 8 ≠ 0 → portOk s i.tid p = false))

/-- From R84, R85, R88, R110 to R112, R173: a read of io:CH_GO with no item gives 0, with a lock or a unit held 0x4000; otherwise it enters the
staged verdict for the packet and ends the item, a verdict that R112 forbids becoming DROP 0xF3; an item of another kind just ends. -/
def Obligations.Verdicts : Prop :=
  ∀ (s : State) (c : Instr) (i : Issue) (d : WReg),
    let u := ready s i
    let t := i.tid
    let w (k : Nat) : Word := stage u t (0x0200 + k)
    let kind := (w 0).toNat % 8
    let prepend : List Byte :=
      (bytesOf ((List.range (((w 7).toNat + 1) / 2)).map (fun k => memAt u (t * 0x2000 + ((w 6).toNat + k))))).take (w 7).toNat
    let edits : Bool := decide (kind = 0 ∨ kind = 2)
    let dest : Nat := if kind = 0 then (if (w 0).getLsbD 8 then (w 2).toNat else (w 1).toNat % 32 * 65536 + (w 2).toNat)
      else if kind = 3 then 0 else (w 3).toNat % 256
    let v : Verdict := ⟨kind, dest, decide (kind = 0) && (w 0).getLsbD 8, if edits then (w 4).toNat else 0, if edits then (w 5).toNat else 0,
      if edits then prepend else [], thrMaster t⟩
    ReadingFar s c i d 0x020F →
      ((getT u t).item = none → GivesNow c s i d 0 u) ∧
      ((getT u t).item.isSome = true → ((getT u t).locks ≠ [] ∨ holdsDg u t = true ∨ holdsBk u t = true) → GivesNow c s i d 0x4000 u) ∧
      ((getT u t).locks = [] → holdsDg u t = false → holdsBk u t = false → ∀ it, (getT u t).item = some it →
        (it.kind = .packet → ∀ x, getFrame u it.frame = some x →
          let carried := modFrame u it.frame (fun y => { y with carry := (List.range 16).map (fun k => memAt u (t * 0x2000 + (0x1890 + k))) })
          (((w 7).toNat = 0 ∨ (w 6).toNat + ((w 7).toNat + 1) / 2 ≤ 0x1000) → (w 7).toNat ≤ 128 → (w 5).toNat ≤ x.len →
            kind ≤ 3 → (kind = 1 → (w 3).toNat % 256 < 0xF0) → x.late = false → ¬(kind = 2 ∧ 4 ≤ x.recirc) →
            Leaves c s i (endItem (modOut carried it.frame (fun o => { o with verdict := some v })) t)) ∧
          (4 ≤ kind → x.late = false → ∃ u', Leaves c s i u' ∧ (getT u' t).item = none)) ∧
        (it.kind ≠ .packet → Leaves c s i (endItem
          (if kind = 4 then u else record u (thrDie t) 0x3004 (thrMaster t) [0, 0, 0, 0, thrMaster t]) t)))

/-- From R34, R49 to R51, R75, R113, R180: the ports of time, alarms, events and posting. -/
def Obligations.TimeAndPostingPorts : Prop :=
  ∀ (s : State) (c : Instr) (i : Issue) (d : WReg) (p : Nat),
    let u := ready s i
    let t := i.tid
    let die := thrDie t
    let latched := modT u t (fun x => { x with timeLatch := (stime u die, mono u die) })
    let alarm : Nat := valOf [stage u t 0x0410, stage u t 0x0411, stage u t 0x0412] * nsPerS + valOf [stage u t 0x0413, stage u t 0x0414]
    let e : SchedEntry := ⟨0x10, false, false, alarm, 0, (stage u t 0x0415).toNat / 4096, (stage u t 0x0415).toNat / 256 % 8,
      stage u t 0x0416, t⟩
    let ns := valOf [stage u t 0x0413, stage u t 0x0414]
    let pdom := (stage u t 0x0708).toNat / 4096
    let level := (stage u t 0x0708).toNat / 256 % 8
    let served := domServed u die ((curSlot u die).getD 0) pdom
    let tooMany : Bool := decide (bitsOf (pdomCfg u t) 13 1 = 0 ∧
      bitsOf (getRS u .cellPdomShare die (thrSlot u t) (thrDom u t)) 8 8 ≤ postsWaiting u t)
    ReadingFar s c i d p →
      (p = 0x0100 → GivesLater c s i d (getT u t).pend u) ∧
      (p = 0x0104 → GivesLater c s i d (getCell u (t / 8)).stallInfo u) ∧
      (p = 0x0400 → GivesLater c s i d (nw (stime u die / nsPerS / 2 ^ 32)) latched) ∧
      (p = 0x0401 → GivesLater c s i d (nw ((getT u t).timeLatch.1 / nsPerS / 2 ^ 16)) u) ∧
      (p = 0x0402 → GivesLater c s i d (nw ((getT u t).timeLatch.1 / nsPerS)) u) ∧
      (p = 0x0403 → GivesLater c s i d (nw ((getT u t).timeLatch.1 % nsPerS / 2 ^ 16)) u) ∧
      (p = 0x0404 → GivesLater c s i d (nw ((getT u t).timeLatch.1 % nsPerS)) u) ∧
      (p = 0x0408 → GivesLater c s i d (nw (getT u t).timeLatch.2) u) ∧
      (p = 0x0417 →
        (999999999 < ns → GivesLater c s i d 0x2000 u) ∧
        (ns ≤ 999999999 → (∀ k, 192 ≤ k → k < 256 → (getSched u die k).isSome = true) → GivesLater c s i d 0x4000 u) ∧
        (∀ k, ns ≤ 999999999 → 192 ≤ k → k < 256 → (∀ j, 192 ≤ j → j < k → (getSched u die j).isSome = true) → getSched u die k = none →
          stime u die < alarm → GivesLater c s i d (nw (0x8000 + k)) (setSched u die k (some e))) ∧
        (∀ k, ns ≤ 999999999 → 192 ≤ k → k < 256 → (∀ j, 192 ≤ j → j < k → (getSched u die j).isSome = true) → getSched u die k = none →
          alarm ≤ stime u die →
            GivesLater c s i d (nw (0x8000 + k)) (setFired u die (firedOf u die ++ [⟨0x10, alarm, stime u die, true, 1, e⟩])))) ∧
      (p = 0x0709 →
        (served = false → GivesLater c s i d 0x2000 u) ∧
        (served = true → (heldBack u die (pdom * 8 + level) = true ∨ tooMany = true) → GivesLater c s i d 0x4000 u) ∧
        (served = true → heldBack u die (pdom * 8 + level) = false → tooMany = false →
          GivesLater c s i d 0x8000 (enqueue u die ⟨.post, level, (slotAt u die (stime u die)).getD 0, pdom, false,
            (List.range 8).map (fun k => stage u t (0x0700 + k)), 0, t, 0, 0⟩)))

/-- From R271 to R275: the buffer ports: allocation, release, free and submission by a handle. -/
def Obligations.BufferPorts : Prop :=
  ∀ (s : State) (c : Instr) (i : Issue) (d : WReg) (p : Nat),
    let u := ready s i
    let t := i.tid
    let die := thrDie t
    let h := (stage u t 0x0602).toNat
    let pool := (stage u t 0x0600).toNat
    let owner := ownerDomain (thrDom u t)
    let f := kget (getT u t).handles h 0
    let unheld : Prop := h = 0 ∨ f = 0
    let beyond : Prop := bitsOf (pdomCfg u t) 13 1 = 0 ∧
      bitsOf (getRS u .cellPdomShare die (thrSlot u t) (thrDom u t)) 0 8 ≤ (getT u t).handles.length
    let gives (v : Nat) (u' : State) : Prop := GivesLater c s i d (nw v) u'
    let refusedFree (reason pool : Nat) : State :=
      record (cnt u .bufCntFreeRefused die 0) die 0x7001 (thrMaster t) [thrMaster t, nw reason, nw pool, nw h]
    ReadingFar s c i d p →
      (p = 0x0601 →
        (255 ≤ (getT u t).handles.length → gives 0x2000 u) ∧
        ((getT u t).handles.length < 255 → beyond → gives 0x4000 u) ∧
        ((getT u t).handles.length < 255 → ¬beyond → granted u die owner pool 1 = false → gives 0x4000 (countRefused u die owner pool)) ∧
        (∀ k, (getT u t).handles.length < 255 → ¬beyond → granted u die owner pool 1 = true → 1 ≤ k → k < 256 →
          (∀ j, 1 ≤ j → j < k → kget (getT u t).handles j 0 ≠ 0) → kget (getT u t).handles k 0 = 0 → gives (0x8000 + k) (threadBuffer u t k pool))) ∧
      (p = 0x0603 →
        (unheld → gives 0x1000 u) ∧
        (¬unheld → gives 0x8000 (setHandle (endShare u f (.thread t h)) t h 0))) ∧
      (p = 0x0604 →
        (unheld → gives 0x1000 (refusedFree 1 0xFFFF)) ∧
        (∀ x, ¬unheld → getFrame u f = some x → mayFree x (.thread t h) = true → gives 0x8000 (setHandle (endShare u f (.thread t h)) t h 0)) ∧
        (∀ x, ¬unheld → getFrame u f = some x → mayFree x (.thread t h) = false → gives 0x0800 (refusedFree 2 x.pool))) ∧
      (p = 0x0608 →
        (unheld → gives 0x1000 u) ∧
        (∀ x, ¬unheld → getFrame u f = some x → (stage u t 0x0606).getLsbD 9 = true → 1024 ≤ x.shares.length → gives 0x0400 u) ∧
        (∀ x, ¬unheld → getFrame u f = some x → (stage u t 0x0606).getLsbD 9 = true → x.shares.length < 1024 →
          gives 0x8000 (sendBuffer (addShare u f (.thread t 0)) t f (.thread t 0))) ∧
        (¬unheld → (stage u t 0x0606).getLsbD 9 = false → gives 0x8000 (sendBuffer (setHandle u t h 0) t f (.thread t h)))) ∧
      (p = 0x0609 → gives (getT u t).handles.length u)

/-- From R155 to R157, R170, R172, R175, R319: the ports of locks, unit claims and policers that an IN reads. -/
def Obligations.LockClaimAndPolicePorts : Prop :=
  ∀ (s : State) (c : Instr) (i : Issue) (d : WReg) (p : Nat),
    let u := ready s i
    let t := i.tid
    let die := thrDie t
    let counted : Nat := (getT u t).locks.length + (match (getT u t).inPend with | some q => if q.acquire.isSome then 1 else 0 | none => 0)
    let cell := getCell u (t / 8)
    let comb := getComb u (thrComb t)
    let dir : Nat := if (stage u t 0x0502).getLsbD 4 then 1 else 0
    let ten := stagedTenant u t
    let bytes := countBytes u t
    ReadingFar s c i d p →
      (0x1000 ≤ p → p < 0x2000 →
        (counted < 16 → Awaits c s i d (some (p - 0x1000)) (bankAdd u die (p - 0x1000) (.acquire t (p - 0x1000)))) ∧
        (16 ≤ counted → GivesLater c s i d 0x3FFF u)) ∧
      (p = 0x2002 → Awaits c s i d none (bankAdd u die (stage u t 0x2001).toNat (.stat t (stage u t 0x2001).toNat))) ∧
      (p = 0x2003 → GivesLater c s i d (getT u t).lockOwner u) ∧
      (p = 0x2004 → GivesLater c s i d (nw (counted + (if cell.digest.claim = some t then 256 else 0) + if comb.claim = some t then 512 else 0)) u) ∧
      (p = 0x2010 →
        (cell.digest.claim = none → GivesLater c s i d (if cell.digest.abandoned then 0xC000 else 0x8000)
          (setCell u (t / 8) { cell with digest := { cell.digest with claim := some t, abandoned := false } })) ∧
        (∀ k, cell.digest.claim = some k → GivesLater c s i d (ownerCode (thrMaster k)) u)) ∧
      (p = 0x2012 →
        (comb.claim = none → GivesLater c s i d (if comb.abandoned then 0xC000 else 0x8000)
          (setComb u (thrComb t) { comb with claim := some t, abandoned := false })) ∧
        (∀ k, comb.claim = some k → GivesLater c s i d (ownerCode (thrMaster k)) u)) ∧
      (p = 0x0509 →
        (combQueueFull u t = true → Stalls c s i) ∧
        (combQueueFull u t = false → talGranted u t = false → GivesLater c s i d 0x1000 (talDenied u t)) ∧
        (combQueueFull u t = false → talGranted u t = true →
          (polReg u die ten dir % 2 = 0 → GivesLater c s i d 0x2000 u) ∧
          (polReg u die ten dir % 2 = 1 → bytes * 1000000 ≤ polTokens u die ten dir →
            GivesLater c s i d 0x8000 (setPolTokens u die ten dir (polTokens u die ten dir - bytes * 1000000))) ∧
          (polReg u die ten dir % 2 = 1 → polTokens u die ten dir < bytes * 1000000 →
            GivesLater c s i d 0x4000 (addCount (cnt (setPolTokens u die ten dir (polTokens u die ten dir)) .tallyCntPolExceed die 0) die
              (thrComb t % 8) ten 3 bytes (countTime u t)))))

/-- From R8, R10, R109, R116, R118, R119, R120, R122: writes to staging ports, and to those of the supervisor and its debugger. -/
def Obligations.SupervisorPorts : Prop :=
  ∀ (s : State) (c : Instr) (i : Issue) (a : WReg) (p : Nat),
    let u := ready s i
    let t := i.tid
    let v := written s i a
    let cell := getCell u (t / 8)
    let picks (w : Word) : Prop := 1 ≤ w.toNat ∧ w.toNat ≤ 7
    let fl := t / 8 * 8 + cell.fltSel.toNat
    let db := t / 8 * 8 + cell.dbgSel.toNat
    Writing s c i a p →
      (∀ m, stageMask p = some m → Leaves c s i (modT u t (fun x => { x with stage := kset x.stage p (v &&& m) 0 }))) ∧
      (p = 0x0010 → ∃ u', Leaves c s i u' ∧ (getCell u' (t / 8)).thrEn = v.setWidth 8 &&& 0xFE ∧
        (∀ k, 1 ≤ k → k < 8 → v.getLsbD k = true → (getT u (t / 8 * 8 + k)).st = .disabled → (getT u' (t / 8 * 8 + k)).st = .free) ∧
        (∀ k, 1 ≤ k → k < 8 → v.getLsbD k = false → (getT u (t / 8 * 8 + k)).st = .free → (getT u' (t / 8 * 8 + k)).st = .disabled)) ∧
      (p = 0x0012 → Leaves c s i (setCell u (t / 8) { cell with fltSel := v })) ∧
      (p = 0x0016 → Leaves c s i (setCell u (t / 8) { cell with supReason := v })) ∧
      (p = 0x0017 → picks cell.fltSel →
        (v = 1 → (getT u fl).st = .faulted → ∀ f, (getT u fl).fault = some f → Leaves c s i (modT (setSt u fl .active) fl
          (fun x => { x with fault := none, cycBase := if f.cause = 8 then 0 else x.cycBase }))) ∧
        (v = 2 → (getT u fl).st = .faulted → ∀ f, (getT u fl).fault = some f → f.cause ≠ 8 → ∃ u', Leaves c s i u' ∧
          (getT u' fl).st = .active ∧ (getT u' fl).fault = none ∧ (regsOf u' fl).pc = f.pc + nw f.units ∧
          (regsOf u' fl).w = (regsOf u fl).w) ∧
        (v = 3 → (getT u fl).st = .faulted → ∃ u', Leaves c s i u' ∧ (getT u' fl).st = .resetting ∧ (getT u' fl).item = none ∧
          (getT u' fl).locks = [] ∧ (getT u' fl).handles = []) ∧
        (v = 4 → ∃ u', Leaves c s i u' ∧ (getT u' fl).st = .resetting ∧ (getT u' fl).item = none ∧ (getT u' fl).locks = [] ∧
          (getT u' fl).handles = []) ∧
        ((getT u fl).st ≠ .faulted → (v = 1 ∨ v = 2 ∨ v = 3) → Leaves c s i u)) ∧
      (p = 0x3000 → (∀ k, cell.dbg ≠ some (.session k)) → Leaves c s i (setCell u (t / 8) { cell with dbg := some .supervisor, dbgSel := v })) ∧
      (p = 0x3000 → (∃ k, cell.dbg = some (.session k)) → Leaves c s i u) ∧
      (p = 0x3001 → cell.dbg = some .supervisor → picks cell.dbgSel →
        (v = 1 → ((getT u db).st = .free ∨ (getT u db).st = .active ∨ (getT u db).st = .stalled ∨ (getT u db).st = .waiting) →
          Leaves c s i (dbgRecord (haltThread u db) 0x4004 db)) ∧
        (v = 2 → (getT u db).st = .halted → (getT u db).haltFrom = some .active → ∃ u', Leaves c s i u' ∧ (getT u' db).st = .active ∧
          (getT u' db).haltFrom = none) ∧
        (v = 3 → (getT u db).st = .halted → (getT u db).haltFrom = some .active → ∃ u', Leaves c s i u' ∧ (getT u' db).st = .active ∧
          (getT u' db).stepping = true) ∧
        (v = 4 → ∃ u', Leaves c s i u' ∧ (getT u' db).st = .resetting ∧ (getT u' db).item = none)) ∧
      (p = 0x3001 → cell.dbg ≠ some .supervisor → Leaves c s i u)

/-- From R50, R157, R173, R179, R180: writes that clear events, subscribe to locks, set a timer, cancel an alarm, and free a lock or a unit. -/
def Obligations.EventLockAndAlarmPorts : Prop :=
  ∀ (s : State) (c : Instr) (i : Issue) (a : WReg) (p : Nat),
    let u := ready s i
    let t := i.tid
    let die := thrDie t
    let v := written s i a
    let n := v.toNat % 4096
    let k := v.toNat % 256
    let comb := getComb u (thrComb t)
    Writing s c i a p →
      (p = 0x0101 → Leaves c s i (modT u t (fun x => { x with pend := x.pend &&& ~~~ v }))) ∧
      (p = 0x0102 → v.msb = true → Leaves c s i (bankAdd (cancelSub u t) die n (.subscribe t n))) ∧
      (p = 0x0102 → v.msb = false → Leaves c s i (cancelSub u t) ∧ (getT (cancelSub u t) t).lockSub = none) ∧
      (p = 0x0103 → v ≠ 0 → Leaves c s i (modT u t (fun x => { x with timer := some (mono u die + v.toNat * 100) }))) ∧
      (p = 0x0103 → v = 0 → Leaves c s i (modT u t (fun x => { x with timer := none }))) ∧
      (p = 0x0418 →
        (k < 192 → Faults c s i 4 0x0418) ∧
        (192 ≤ k → getSched u die k = none → Leaves c s i u) ∧
        (∀ e, 192 ≤ k → getSched u die k = some e → e.armer / 8 = t / 8 → Leaves c s i (setSched u die k none)) ∧
        (∀ e, 192 ≤ k → getSched u die k = some e → e.armer / 8 ≠ t / 8 → Faults c s i 4 0x0418)) ∧
      ((p = 0x2000 ∨ p = 0x2011 ∨ p = 0x2013) → (getT s t).sb.getLsbD 8 = true → Stalls c s i) ∧
      ((getT s t).sb.getLsbD 8 = false →
        (p = 0x2000 → n ∈ (getT u t).locks →
          Leaves c s i (bankAdd (modT u t (fun x => { x with locks := x.locks.erase n })) die n (.release t n))) ∧
        (p = 0x2000 → n ∉ (getT u t).locks → Faults c s i 5 0x2000) ∧
        (p = 0x2011 → (getCell u (t / 8)).digest.op = none → (getCell u (t / 8)).digest.claim = some t →
          ∃ u', Leaves c s i u' ∧ (getCell u' (t / 8)).digest = { freshDigest with
            keys := (getCell u (t / 8)).digest.keys, abandoned := (getCell u (t / 8)).digest.abandoned }) ∧
        (p = 0x2011 → (getCell u (t / 8)).digest.op = none → (getCell u (t / 8)).digest.claim ≠ some t → Faults c s i 5 0x2011) ∧
        (p = 0x2011 → (getCell u (t / 8)).digest.op ≠ none → Stalls c s i) ∧
        (p = 0x2013 → comb.op = none → comb.claim = some t → Leaves c s i (setComb u (thrComb t)
          { freshComb with abandoned := comb.abandoned, next := comb.next, stallEpoch := comb.stallEpoch })) ∧
        (p = 0x2013 → comb.op = none → comb.claim ≠ some t → Faults c s i 5 0x2013) ∧
        (p = 0x2013 → comb.op ≠ none → Stalls c s i))

/-- From R201, R202, R205, R218, R317: a write to io:FG_GO launches the staged request, one to io:LRN_GO posts the staged learn request, one to
io:TAL_COUNT adds the staged count; they do not issue while their slot, request queue or count queue is taken. -/
def Obligations.ForagerLearnAndTallyPorts : Prop :=
  ∀ (s : State) (c : Instr) (i : Issue) (a : WReg) (p : Nat),
    let u := ready s i
    let t := i.tid
    let die := thrDie t
    let slot := (written s i a).toNat % 8
    let op := (stage u t 0x0300).toNat % 8
    let table := (stage u t 0x0301).toNat
    let ka := (stage u t 0x0302).toNat
    let kl := (stage u t 0x0303).toNat
    let da := (stage u t 0x0304).toNat
    let dl : Nat := if op = 1 ∨ op = 2 ∨ op = 4 then (stage u t 0x0305).toNat else 0
    let private_ (b n : Nat) : List Word := (List.range n).map (fun k => memAt u (t * 0x2000 + (b + k)))
    let u1 : State := { u with path := { u.path with nextId := u.path.nextId + 1 } }
    let lt := (stage u t 0x0320).toNat % 64
    let x := curDesc u die lt
    let kn := x.keyWords
    let an := 8 * 2 ^ x.width - 2 - x.keyWords
    let lk := (stage u t 0x0321).toNat
    let la := (stage u t 0x0322).toNat
    Writing s c i a p →
      (p = 0x030F →
        (((getT s t).sb.getLsbD slot = true ∨ 8 ≤ heldOf u (t / 8)) → Stalls c s i) ∧
        ((getT s t).sb.getLsbD slot = false → heldOf u (t / 8) < 8 → (kl = 0 ∨ ka + kl ≤ 0x1000) → (dl = 0 ∨ da + dl ≤ 0x1000) →
          Leaves c s i (launch u1 ⟨u.path.nextId, t, op, if op = 5 then table % 16 else table % 64, slot, thrSlot u t, thrDom u t,
            private_ ka kl, private_ da dl, (stage u t 0x0306).toNat, false, false⟩))) ∧
      (p = 0x032F → x.en = true →
        ((0x1000 < lk + kn ∧ kn ≠ 0) ∨ (0x1000 < la + an ∧ an ≠ 0) → Leaves c s i (learnBad u die lt (thrMaster t))) ∧
        ((kn = 0 ∨ lk + kn ≤ 0x1000) → (an = 0 ∨ la + an ≤ 0x1000) →
          Leaves c s i (postLearn u die ⟨false, t, thrDom u t, lt, decide ((stage u t 0x0320).toNat / 256 % 2 = 1), private_ lk kn,
            private_ la an⟩))) ∧
      (p = 0x0508 →
        (combQueueFull u t = true → Stalls c s i) ∧
        (combQueueFull u t = false → talGranted u t = false → Leaves c s i (talDenied u t)) ∧
        (combQueueFull u t = false → talGranted u t = true → Leaves c s i (addCount u die (thrComb t % 8) (stagedTenant u t)
          (if (stage u t 0x0502).getLsbD 0 then 2 else 0) (countBytes u t) (countTime u t))))

/-! ## The digest unit, the bulk unit, and what happens to threads -/

namespace Sys2Proof.Claims

/-- `c` issues, and its thread holds the digest unit of its cell. -/
def HasDigest (s : State) (i : Issue) (ok : Bool) (reads : List WReg) : Prop :=
  Issues s i ok reads false ∧ (getDg (ready s i) i.tid).claim = some i.tid
/-- The same, of the bulk unit of the comb. -/
def HasBulk (s : State) (i : Issue) (ok : Bool) (reads : List WReg) : Prop :=
  Issues s i ok reads false ∧ (getComb (ready s i) (thrComb i.tid)).claim = some i.tid
/-- The bytes of a word, high byte first. -/
def twoBytes (w : Word) : List Byte := [w.extractLsb' 8 8, w.extractLsb' 0 8]
/-- The unit after it has been fed bytes one by one (R160). -/
def fed (x : Digest) (bs : List Byte) : Digest := { x with acc := bs.foldl (dgByte x.mode x.keys) x.acc }
/-- A span of `n` words of data space from `a` on, modulo 65,536. -/
def wordsFrom (a : Word) (n : Nat) : List Nat := (List.range n).map (fun k => (a.toNat + k) % 65536)

end Sys2Proof.Claims

/-- From R155, R158 to R163: the digest unit's instructions: a start, a seed, words and bytes fed, results, status, and the start of a feed or key
load; ERR faults UNCORRECTABLE at a read of the result. -/
def Obligations.DigestInstructions : Prop :=
  ∀ (s : State) (i : Issue) (a b d : WReg) (pd : PReg) (xa : XReg) (k : BitVec 4),
    let u := ready s i
    let t := i.tid
    let x := getDg u t
    let r := regsOf u t
    let p := r.x[xa]
    let n := min 8192 r.w[b].toNat
    let idle := x.op = none
    (HasDigest s i (okPlain i && decide (k.toNat < 5)) [] → idle →
      Leaves (.dgStart i k) s i (setDg u t { x with mode := k.toNat, acc := dgStartAcc k.toNat x.keys, err := false, trunc := false })) ∧
    (HasDigest s i (okPlain i) [a, b] → idle →
      (x.mode ≤ 1 → Leaves (.dgSeed i a b) s i (setDg u t { x with acc := { x.acc with s := r.w[a] ++ r.w[b] } })) ∧
      (x.mode = 4 → Leaves (.dgSeed i a b) s i (setDg u t { x with acc := { x.acc with s := r.w[b].zeroExtend 32 } })) ∧
      (x.mode = 2 ∨ x.mode = 3 → Leaves (.dgSeed i a b) s i (setDg u t x))) ∧
    (HasDigest s i (okPlain i) [a] → idle →
      Leaves (.dgW i a) s i (setDg u t (fed x (twoBytes r.w[a]))) ∧
      Leaves (.dgB i a) s i (setDg u t (fed x [r.w[a].extractLsb' 0 8]))) ∧
    (HasDigest s i (okPlain i && decide (k.toNat < 4)) [] → idle →
      (x.err = false → Leaves (.dgRd i d k) s i (setW u t d (dgResult x.mode x.acc k.toNat))) ∧
      (x.err = true → Faults (.dgRd i d k) s i 9 0)) ∧
    (HasDigest s i (okPlain i) [] → ∀ v, HasBits v (fun j => match j with
        | 15 => x.op.isSome | 11 => x.err | 10 => x.trunc | 14 => x.mode.testBit 2 | 13 => x.mode.testBit 1 | 12 => x.mode.testBit 0 | _ => false) →
      x.mode < 5 → Leaves (.dgStat i d) s i (setW u t d v)) ∧
    (HasDigest s i (okPlain i && decide (pd ≠ 0)) [] → Leaves (.dgBusy i pd) s i (setP u t pd x.op.isSome)) ∧
    (HasDigest s i (okPlain i) [b] → idle → (∀ q ∈ wordsFrom p ((n + 1) / 2), readable u t q = true ∧ waitsSlot u t q = false) →
      exec (.dgFeed i xa b) s = .next (commits (setDg u t { x with
          trunc := x.trunc || decide (8192 < r.w[b].toNat), op := if n = 0 then none else some ⟨false, p, n⟩ }) i 1
        ((wordsFrom p ((n + 1) / 2)).map (fun q => (q, false))))) ∧
    (HasDigest s i (okPlain i && decide (b = 0)) [] → idle → (∀ q ∈ wordsFrom p 32, readable u t q = true ∧ waitsSlot u t q = false) →
      exec (.dgKeys i xa b) s = .next (commits (setDg u t { x with op := some ⟨true, p, 64⟩ }) i 1
        ((wordsFrom p 32).map (fun q => (q, false)))))

/-- From R164 to R166: the bulk unit's instructions set its handles, offsets and sum, commit an operation, and read its sum and status. -/
def Obligations.BulkInstructions : Prop :=
  ∀ (s : State) (i : Issue) (a b d : WReg) (pd : PReg),
    let u := ready s i
    let t := i.tid
    let c := getComb u (thrComb t)
    let r := regsOf u t
    let sets (x : Comb) : State := setComb u (thrComb t) x
    let started (fn : Nat) (fill : Byte) : Option BulkOp := if r.w[a] = 0 then none else some ⟨fn, r.w[a].toNat, fill, false⟩
    (HasBulk s i (okPlain i) [a, b] → c.op = none →
      Leaves (.bkSrc i a b) s i (sets { c with srcH := r.w[a], srcOff := r.w[b] }) ∧
      Leaves (.bkDst i a b) s i (sets { c with dstH := r.w[a], dstOff := r.w[b] }) ∧
      Leaves (.bkFill i a b) s i (sets { c with op := started 3 (r.w[b].extractLsb' 0 8) })) ∧
    (HasBulk s i (okPlain i) [a] → c.op = none →
      Leaves (.bkCopy i a) s i (sets { c with op := started 2 0 }) ∧
      Leaves (.bkCsum i a) s i (sets { c with op := started 4 0 }) ∧
      Leaves (.bkSumset i a) s i (sets { c with sum := r.w[a], err := false })) ∧
    (HasBulk s i (okPlain i) [] → c.op = none →
      (c.err = false → Leaves (.bkRd i d) s i (setW u t d c.sum)) ∧ (c.err = true → Faults (.bkRd i d) s i 9 0)) ∧
    (HasBulk s i (okPlain i) [] → Leaves (.bkStat i d) s i (setW u t d
      (nw ((if c.op.isSome then 0x8000 else 0) + (if c.err then 0x4000 else 0) + c.errCode * 256)))) ∧
    (HasBulk s i (okPlain i && decide (pd ≠ 0)) [] → Leaves (.bkBusy i pd) s i (setP u t pd c.op.isSome))

/-- From R155, R158, R162: an instruction of a unit faults NOT_CLAIMED without the claim, and but for the status and busy reads does not issue
while the unit is busy.
From R160, R162, R163, R165, R166: the end of a feed feeds its bytes, high byte of each word first, the end of a key load stores 32 words; a
bulk operation is checked at its start, and its end fills, copies or adds and moves the offsets on; each end raises UNIT. -/
def Obligations.UnitClaimsAndOperations : Prop :=
  (∀ (s : State) (i : Issue) (a b d : WReg) (pd : PReg) (k : BitVec 4),
    let u := ready s i
    let t := i.tid
    let unclaimed (digest : Bool) (c : Instr) (ok : Bool) (reads : List WReg) : Prop :=
      Issues s i ok reads false → (if digest then (getDg u t).claim else (getComb u (thrComb t)).claim) ≠ some t → Faults c s i 6 0
    let busy (digest : Bool) (c : Instr) (ok : Bool) (reads : List WReg) : Prop :=
      (if digest then HasDigest s i ok reads ∧ (getDg u t).op ≠ none else HasBulk s i ok reads ∧ (getComb u (thrComb t)).op ≠ none) →
        Stalls c s i
    (∀ c ok reads, (c, ok, reads) ∈ [(Instr.dgStart i k, okPlain i && decide (k.toNat < 5), ([] : List WReg)), (.dgSeed i a b, okPlain i, [a, b]),
        (.dgW i a, okPlain i, [a]), (.dgB i a, okPlain i, [a]), (.dgRd i d k, okPlain i && decide (k.toNat < 4), [])] →
      unclaimed true c ok reads ∧ busy true c ok reads) ∧
    unclaimed true (.dgStat i d) (okPlain i) [] ∧ unclaimed true (.dgBusy i pd) (okPlain i && decide (pd ≠ 0)) [] ∧
    (∀ c reads, (c, reads) ∈ [(Instr.bkSrc i a b, ([a, b] : List WReg)), (.bkDst i a b, [a, b]), (.bkFill i a b, [a, b]), (.bkCopy i a, [a]),
        (.bkCsum i a, [a]), (.bkSumset i a, [a]), (.bkRd i d, [])] →
      unclaimed false c (okPlain i) reads ∧ busy false c (okPlain i) reads) ∧
    unclaimed false (.bkStat i d) (okPlain i) [] ∧ unclaimed false (.bkBusy i pd) (okPlain i && decide (pd ≠ 0)) []) ∧
  (∀ (s : State) (cell comb : Nat),
    let x := (getCell s (cell / 8)).digest
    let c := getComb s comb
    (∀ o t, x.op = some o → x.claim = some t → t / 8 = cell / 8 →
      let q := wordsFrom o.addr ((o.count + 1) / 2)
      (∀ a ∈ q, poisonedW s t a = false) →
        exec (.dgOpDone cell) s = .next (raiseEvent (setDg s t
          (if o.keys then { x with op := none, keys := q.map (readW s t) }
           else fed { x with op := none } (((q.map (readW s t)).flatMap twoBytes).take o.count))) t 14)) ∧
    (∀ o t, c.op = some o → c.claim = some t → o.running = false →
      (startCheck s t c o = none → exec (.bkOpStart comb) s = .next (setComb s comb { c with errCode := 0, op := some { o with running := true } })) ∧
      (∀ code h off, startCheck s t c o = some (code, h, off) → ∃ u, exec (.bkOpStart comb) s = .next u ∧ (getComb u comb).op = none ∧
        (getComb u comb).errCode = code)) ∧
    (∀ o t f, c.op = some o → c.claim = some t → o.running = true → o.fn = 3 → bulkFrame s t c.dstH = some f → ∃ u,
      exec (.bkOpDone comb) s = .next u ∧ (getComb u comb).op = none ∧ (getComb u comb).dstOff = c.dstOff + nw o.len ∧
      (getComb u comb).srcOff = c.srcOff ∧
      (∀ k, k < o.len → (getFrame s f).isSome = true → byteAt u f (c.dstOff.toNat + k) = some o.fill) ∧
      (∀ g k, ¬(g = f ∧ c.dstOff.toNat ≤ k ∧ k < c.dstOff.toNat + o.len) → byteAt u g k = byteAt s g k)))

/-- From R103, R114, R117, R122, R180: a due IN result enters its register and clears the scoreboard bit; a timer that has expired raises its
event; the cycle limit faults CYCLE_LIMIT; a reset thread becomes FREE or DISABLED by its enable; a cell whose supervisor has faulted is
reset.
From R170 to R173, R175, R179: a bank performs what waits at it: a free lock that is asked for is held, with GOT and the mark of a lock
abandoned; a held one answers with its holder; a release frees it; a subscription to a free lock raises LOCK at once.
From R181 to R184: once the cell test has held for its window, STALL is raised on thread 0 of the cell, once for each episode; a test that has
not yet held so long changes nothing. -/
def Obligations.ThreadLockAndAllWaitHappenings : Prop :=
  ((∀ (s : State) (t cell : Nat),
    (∀ q v, (getT s t).inPend = some q → q.value = some v → (getT s t).st ≠ .halted → ∃ u, exec (.inResult t) s = .next u ∧
      (regsOf u t).w = (regsOf s t).w.set q.rd v ∧ (getT u t).inPend = none ∧ (getT u t).sb = (getT s t).sb &&& 0x0FF ∧
      (getT u t).st = (getT s t).st) ∧
    ((getT s t).st = .halted → exec (.inResult t) s = .next s) ∧
    (∀ due, (getT s t).timer = some due → due ≤ mono s (thrDie t) →
      exec (.timerExpire t) s = .next (raiseEvent (modT s t (fun x => { x with timer := none })) t 10)) ∧
    (((getT s t).st = .active ∨ (getT s t).st = .stalled ∨ (getT s t).st = .waiting) → (getT s t).item ≠ none →
      pdomCfg s t % 4096 * 1024 ≤ cycNs s t * 12 / 5 → ∃ u, exec (.cycleLimit t) s = .next u ∧ (getT u t).st = .faulted ∧
        (getT u t).fault = some ⟨8, (regsOf s t).pc, 0, 1⟩) ∧
    ((getT s t).st = .resetting → t % 8 ≠ 0 → ∃ u, exec (.threadResetDone t) s = .next u ∧
      (getT u t).st = (if (getCell s (t / 8)).thrEn.getLsbD (t % 8) then .free else .disabled)) ∧
    ((getCell s (cell / 8)).supFault ≠ none → ∃ u, exec (.supFaultCellReset cell) s = .next u ∧
      (getCell u (cell / 8)).supFault = none ∧ (∀ k, 1 ≤ k → k < 8 → (getT u (cell / 8 * 8 + k)).st = .disabled))) ∧
  (∀ (s : State) (die bank first t n : Nat) (v : Thread),
    let one (r : LockReq) : Prop := bankReqs s die bank = [r]
    let l := getLock s die n
    let empty := setBank s die bank []
    let out (u : State) : Prop := exec (.lockBankOp die bank first) s = .next u
    (one (.acquire t n) → l.owner = none → ∃ u, out u ∧ getLock u die n = ⟨some (thrMaster t), false⟩ ∧
      (getT u t).locks = (getT s t).locks ++ [n] ∧
      (∀ q, (getT s t).inPend = some q → (getT u t).inPend = some { q with value := some (if l.abandoned then 0xC000 else 0x8000), acquire := none })) ∧
    (∀ o, one (.acquire t n) → l.owner = some o → ∃ u, out u ∧ getLock u die n = l ∧ (getT u t).locks = (getT s t).locks ∧
      (∀ q, (getT s t).inPend = some q → (getT u t).inPend = some { q with value := some (ownerCode o), acquire := none })) ∧
    (one (.release t n) → ∃ u, out u ∧ (getLock u die n).owner = none ∧ (getLock u die n).abandoned = l.abandoned) ∧
    (one (.stat t n) → ∃ u, out u ∧ getLock u die n = l ∧ (getT u t).lockOwner = l.owner.getD 0) ∧
    (one (.subscribe t n) → l.owner = none → out (raiseEvent empty t 8)) ∧
    (one (.subscribe t n) → l.owner ≠ none → getT s t = v → out (setT empty t { v with lockSub := some n })))) ∧
  (∀ (s : State) (cell : Nat) (comb : Bool),
    let c := cell / 8
    let due (u : Bool) : Prop := testSince s u c + stallWindow s (cellDie c) (testSince s u c) ≤ mono s (cellDie c)
    (¬due comb → exec (.stall cell comb) s = .next s) ∧
    (due false → cellTest s false c = true → (getCell s c).stallEpoch ≠ some (testSince s false c) → ∃ u,
      exec (.stall cell false) s = .next u ∧ (getCell u c).stallEpoch = some (testSince s false c) ∧
      (∀ k, k < 8 → (getCell u c).stallInfo.getLsbD k = decide ((getT s (c * 8 + k)).st = .waiting)) ∧
      (getCell u c).stallInfo.getLsbD 15 = false) ∧
    (due false → (cellTest s false c = false ∨ (getCell s c).stallEpoch = some (testSince s false c)) → exec (.stall cell false) s = .next s) ∧
    (due true → combTest s (c / 32) = true → (getComb s (c / 32)).stallEpoch ≠ some (testSince s true c) → ∃ u,
      exec (.stall cell true) s = .next u ∧ (getComb u (c / 32)).stallEpoch = some (testSince s true c) ∧
      (∀ e ∈ liveCells s (c / 32), (getCell u e).stallInfo.getLsbD 15 = true)))


/-! ## The frame path -/

namespace Sys2Proof.Claims

/-- A command completes in a state of which `P` holds. -/
def Ends (c : Instr) (s : State) (P : State → Prop) : Prop := ∃ u, exec c s = .next u ∧ P u
/-- A command completes in `u`. -/
def EndsIn (c : Instr) (s u : State) : Prop := exec c s = .next u
/-- A port that is configured on a serving die and whose PCS is up receives frames. -/
def Receives (s : State) (g : Nat) : Prop := portConfigured s g = true ∧ portServes s g = true ∧ (getPort s g).pcsUp = true
/-- The 16-bit number at byte `k` of a frame. -/
def field16 (b : List Byte) (k : Nat) : Nat := ((b[k]?).getD 0).toNat * 256 + ((b[k + 1]?).getD 0).toNat
/-- A frame whose EtherType names none of those that the MAC takes out. -/
def DataFrame (s : State) (g : Nat) (b : List Byte) : Prop :=
  field16 b 12 ≠ 0x8808 ∧ field16 b 12 ≠ 0x88B6 ∧ usable s (gpnDie g) = true ∧ g < 256

end Sys2Proof.Claims

/-- From R55, R78, R268, R302, R493: a port counts a frame under the first test of R493 that it fails; a sound data frame enters the ingress FIFO
with its stamps and the slot of its instant, or is discarded where the FIFO refuses it. -/
def Obligations.FramesAtThePort : Prop :=
  ∀ (s : State) (g slot : Nat) (b : List Byte) (fcsOk codeErr early : Bool),
    let d := gpnDie g
    let p := gpnPort g
    let n := b.length + 4
    let sound : Prop := 64 ≤ n ∧ n ≤ 9216
    (¬Receives s g → EndsIn (.frameRx g b fcsOk codeErr early) s s) ∧
    (Receives s g →
      EndsIn (.frameRx g b false codeErr false) s (cnt s .phyCntRxFcs d p) ∧
      (n < 64 → EndsIn (.frameRx g b true codeErr false) s (cnt s .phyCntRxShort d p)) ∧
      (9216 < n → EndsIn (.frameRx g b true codeErr early) s (cnt s .phyCntRxLong d p)) ∧
      (sound → EndsIn (.frameRx g b true true false) s (cnt s .phyCntRxErr d p)) ∧
      (sound → DataFrame s g b → slotAt s d (stime s d) = none → Ends (.frameRx g b true false early) s (fun u => ∀ h, ingressOf u h = ingressOf s h)) ∧
      (sound → DataFrame s g b → slotAt s d (stime s d) = some slot → getRS s .pguardStorm d slot p = 0 → fifoRefuses s g b = false →
        Ends (.frameRx g b true false early) s (fun u =>
          ingressOf u g = ingressOf s g ++ [⟨b, false, early && decide (516 < n), stime s d, mono s d, slot⟩] ∧
          ∀ h, h ≠ g → ingressOf u h = ingressOf s h)) ∧
      (sound → DataFrame s g b → slotAt s d (stime s d) = some slot → getRS s .pguardStorm d slot p = 0 → fifoRefuses s g b = true →
        Ends (.frameRx g b true false early) s (fun u => ∀ h, ingressOf u h = ingressOf s h)))

/-- From R299 to R302: received PAUSE stops every class of a port for its quanta, or releases it; a stop ends when its time has run out; a class
stopped for WD ignores received frames for ten times as long; a stopped peer is told again while the FIFO stays at XON or above.
From R297, R298, R496: PCS_UP starts the filters of a port; a link lost for LOSS_US leaves UP for HOLD, or for DOWN where HOLD is 0, with what
was in transmission aborted; a link up for UP_MS comes UP from HOLD or, where the port is enabled, from DOWN; HOLD ends in DOWN. -/
def Obligations.FlowControlAndLinkStates : Prop :=
  (∀ (s : State) (die port c : Nat) (b : List Byte),
    let g := gpnOf die port
    let p := getPort s g
    let now := mono s die
    let q := field16 b 16
    let pause (P : State → Prop) : Prop :=
      Receives s g → 60 ≤ b.length → b.length ≤ 9212 → field16 b 12 = 0x8808 → field16 b 14 = 1 → portFc s g / 4 % 4 = 1 →
        (∀ k, k < 8 → ignores s g k = false) → Ends (.frameRx g b true false false) s P
    die < 8 → port ≤ 32 → c < 8 →
      (q ≠ 0 → pause (fun u => ∀ k, k < 8 → kget (getPort u g).pausedUntil k none = some (now + quantaNs s g q))) ∧
      (q = 0 → pause (fun u => ∀ k, k < 8 → kget (getPort u g).pausedUntil k none = none)) ∧
      (∀ t, kget p.pausedUntil c none = some t → t ≤ now → Ends (.pauseExpire die port c) s (fun u =>
        kget (getPort u g).pausedUntil c none = none ∧ kget (getPort u g).stoppedSince c none = none)) ∧
      (∀ t, kget p.pausedUntil c none = some t → now < t → EndsIn (.pauseExpire die port c) s s) ∧
      (∀ t a, kget p.pausedUntil c none = some t → now < t → kget p.stoppedSince c none = some a →
        bitsOf (portFc s g) 16 10 ≠ 0 → a + bitsOf (portFc s g) 16 10 * 1000000 ≤ now → Ends (.pfcWatchdog die port c) s (fun u =>
          kget (getPort u g).pausedUntil c none = none ∧
          kget (getPort u g).ignoreUntil c none = some (now + 10 * (bitsOf (portFc s g) 16 10 * 1000000)))) ∧
      (∀ t, kget p.ignoreUntil c none = some t → t ≤ now → Ends (.pfcWatchdogEnd die port c) s (fun u =>
        kget (getPort u g).ignoreUntil c none = none)) ∧
      (p.xoffSent = true → p.link = .up → xonBytes s g ≤ occupancy s g → p.xoffAt + quantaNs s g 32768 ≤ now →
        Ends (.pauseRefresh die port) s (fun u => (getPort u g).xoffAt = now ∧
          u.out = s.out ++ [.pause g (decide (portFc s g % 4 = 2)) (if portFc s g % 4 = 2 then BitVec.ofNat 8 (lossless s g) else 0xFF) 0xFFFF]))) ∧
  (∀ (s : State) (g : Nat) (up : Bool),
    let p := getPort s g
    let now := mono s (gpnDie g)
    (portConfigured s g = true → p.pcsUp ≠ up → (up = true → noSerdes s g = false) →
      EndsIn (.pcsUpChange g up) s (setPort s g { p with pcsUp := up, pcsSince := now })) ∧
    (p.linkUp = true → p.pcsUp = false → p.pcsSince + lossNs s g ≤ now → p.link = .up → gpnExists s g = true → s.pkg.n ≤ 8 → s.pkg.lead < 8 →
      Ends (.linkLost g) s (fun u => (getPort u g).linkUp = false ∧ (getPort u g).sending = none ∧
        (getPort u g).link = (if holdNs s g = 0 then .down else .hold))) ∧
    ((p.linkUp = false ∨ p.pcsUp = true ∨ now < p.pcsSince + lossNs s g) → EndsIn (.linkLost g) s s) ∧
    (p.linkUp = false → p.pcsUp = true → noSerdes s g = false → p.pcsSince + upNs s g ≤ now →
      (p.link = .hold ∨ p.link = .down ∧ admin s g = true) → Ends (.linkUp g) s (fun u =>
        (getPort u g).linkUp = true ∧ (getPort u g).link = .up)) ∧
    (p.linkUp = false → p.pcsUp = true → noSerdes s g = false → p.pcsSince + upNs s g ≤ now → p.link = .down → admin s g = false →
      Ends (.linkUp g) s (fun u => (getPort u g).linkUp = true ∧ (getPort u g).link = .down)) ∧
    (p.link = .hold → p.holdSince + holdNs s g ≤ now → Ends (.holdExpire g) s (fun u => (getPort u g).link = .down)) ∧
    ((p.link ≠ .hold ∨ now < p.holdSince + holdNs s g) → EndsIn (.holdExpire g) s s))

/-- From R53, R56, R76, R81, R264: a pipeline starts a recirculated packet first, else the oldest frame of its port's FIFO, in buffers that hold
its bytes; a parse ends with the frame's result in the result FIFO or the recirculation lane; a frame that failed the MAC's tests is freed;
the dispatcher gives the next sequence number of the order domain and puts the packet into its work queue. -/
def Obligations.ParsingAndDispatch : Prop :=
  ∀ (s : State) (die port pipe f : Nat) (rest : List Nat) (x : Frame) (fr : IngFrame) (more : List IngFrame),
    let g := gpnOf die port
    let k := portPipe g
    let p := getPipe s k
    let r := getPipe s (die * 8 + pipe)
    let n := fr.bytes.length + 4
    let room := p.fifo.length + (p.parsing.length - recircParsing s p.parsing) < 64
    let y := placed s x
    let dom := getDom s x.die y.odom
    (p.recirc = f :: rest → p.lane.length + recircParsing s p.parsing < 16 →
      EndsIn (.parseStart die port) s (setPipe s k { p with recirc := rest, parsing := p.parsing ++ [f] })) ∧
    (p.recirc = [] → ingressOf s g = fr :: more → room → fr.partial_ = false →
      granted s (gpnDie g) (ownerPort (gpnPort g)) (fitPool s (gpnDie g) n) (chainLen (fitPool s (gpnDie g) n) n) = true →
        Ends (.parseStart die port) s (fun u => ingressOf u g = more ∧ (getPipe u k).parsing = p.parsing ++ [s.path.nextId] ∧
          ∃ z, getFrame u s.path.nextId = some z ∧ z.len = fr.bytes.length ∧ z.gpn = g ∧ z.slot = fr.slot ∧ z.stime = fr.stime ∧
            z.recirc = 0 ∧ ∀ j, frameByte z j = (fr.bytes[j]?).getD 0)) ∧
    (r.parsing = f :: rest → getFrame s f = some x → x.badTail = false → x.whole = true →
      EndsIn (.parseDone die pipe) s
        (let u := setFrame s f (some { x with parse := parseFrame s x x.startNode })
         setPipe u (die * 8 + pipe) (if 0 < x.recirc then { r with parsing := rest, lane := r.lane ++ [f] }
           else { r with parsing := rest, fifo := r.fifo ++ [f] }))) ∧
    (r.parsing = f :: rest → getFrame s f = some x → x.badTail = true → x.shares = [.packet] →
      Ends (.parseDone die pipe) s (fun u => getFrame u f = none ∧ (getPipe u (die * 8 + pipe)).parsing = rest)) ∧
    (r.lane = [] → r.fifo = f :: rest → getFrame s f = some x → canEnter s y = true → parseStatus x.parse = 0 →
      Ends (.dispatchEnqueue die pipe) s (fun u => (getPipe u (die * 8 + pipe)).fifo = rest ∧
        (getDom u x.die y.odom).next = (dom.next + 1) % 65536 ∧
        (getDom u x.die y.odom).outs = dom.outs ++ [⟨dom.next, f, none, none, 0⟩] ∧
        (getFrame u f).map (·.seq) = some dom.next ∧
        (getWq u x.die (y.pdom * 8 + y.level)).items.length = (getWq s x.die (y.pdom * 8 + y.level)).items.length + 1))

/-- From R18, R266, R278, R293, R517: a sound flit brings its transfer on; the first offers the frame to its queue, the last makes it whole; an
acknowledgement drops the ingress buffers; a failed link is withdrawn in both directions.
From R79, R80, R87, R90, R91, R100: a comb gives the item of the highest eligible level, the first enqueued, to its next free thread, which
starts with fresh registers; a domain releases the next verdict that is present; one whose timer has expired is declared LATE. -/
def Obligations.DealReorderAndDieBridge : Prop :=
  (∀ (s : State) (die far k lane : Nat) (x : Xfer),
    getXfer s k = some x → x.dst = die → x.lost = false →
      (0 < x.got → x.got + 1 < x.flits → EndsIn (.bridgeFlitRx die k true lane) s (setXfer s k (some { x with got := x.got + 1 }))) ∧
      (0 < x.got → x.got + 1 = x.flits → ∀ f, x.dstFrame ≠ 0 → getFrame s x.dstFrame = some f →
        Ends (.bridgeFlitRx die k true lane) s (fun u => getXfer u k = some { x with got := x.flits } ∧
          getFrame u x.dstFrame = some { f with whole := true, xfer := 0 })) ∧
      (x.got = 0 → 0 < x.flits → x.mcast = false → Ends (.bridgeFlitRx die k true lane) s (fun u =>
        getXfer u k = some { x with got := 1 } ∧ ∃ o, offersOf u die = offersOf s die ++ [o] ∧ o.xfer = k ∧ o.qid = x.dest ∧
          o.txLen = x.txLen ∧ o.supply = x.supply ∧ o.stamp.slot = x.stamp.slot ∧ o.stamp.stime = x.stamp.stime)) ∧
      (x.got < x.flits → die < 8 → lastHop x < 8 → (countReplay s die (linkNo s die (lastHop x) (linkOfXfer s (lastHop x) die k)) (lane % 32)).2.1 = false →
        Ends (.bridgeFlitRx die k false lane) s (fun u => getXfer u k = some x)) ∧
      (x.flits ≤ x.got → (∀ o ∈ offersOf s die, o.xfer ≠ k) →
        EndsIn (.bridgeAck die k) s (endShare (setXfer s k none) x.frame (.switch k))) ∧
      ((x.got < x.flits ∨ ∃ o ∈ offersOf s die, o.xfer = k) → EndsIn (.bridgeAck die k) s s) ∧
      (∀ w, w = kget s.egr.links (die * 8 + far) 0 → usable s die = true → far < s.pkg.n → far ≠ die → far < 8 → die < 8 → w < pairLinks s →
        Ends (.bridgeLinkFail die far) s (fun u => kget u.egr.links (die * 8 + far) 0 = w + 1 ∧ kget u.egr.links (far * 8 + die) 0 = w + 1))) ∧
  (∀ (s : State) (die comb dom p t q : Nat) (it : Item) (o : Outstanding) (rest : List Outstanding) (x : Frame) (v : Verdict),
    let k := die * 8 + comb
    let y := getDom s die dom
    (nextFree s k = some (p, t) → selectItem s k = some (q, it) → Ends (.combDeal die comb) s (fun u =>
      (getT u t).item = some it ∧ (getT u t).st = .active ∧ regsOf u t = freshRegs (nw (kindCode it.kind)) ∧
      (getComb u k).next = (p + 1) % 16 ∧ (getWq u die q).items = (getWq s die q).items.drop 1)) ∧
    ((nextFree s k = none ∨ selectItem s k = none) → EndsIn (.combDeal die comb) s s) ∧
    (y.outs = [o] → o.verdict = some v → getFrame s o.frame = some x →
      EndsIn (.reorderRelease die dom) s (applyVerdict (cnt (setDom s die dom { y with outs := [] }) .ordCntRel die dom) o.frame x v)) ∧
    (y.outs = o :: rest → o.verdict = none → EndsIn (.reorderRelease die dom) s s) ∧
    (y.outs = o :: rest → getFrame s o.frame = some x → o.verdict = none → frozenFrom s o.frame = none →
      (∀ m, o.dealt = some m → m + o.held + bitsOf (getRS s .dispPortOrd x.die x.slot (gpnPort x.gpn)) 16 14 * 100 ≤ mono s die →
        Ends (.reorderTimeout die dom) s (fun u => (getDom u die dom).outs = rest ∧ getFrame u o.frame = some { x with late := true }))))

/-- From R278, R285, R289, R293, R294, R296, R307, R315, R495: the oldest offer of a die is admitted or refused by the checks of R278; a port
starts the copy that its scheduler picks, or discards one too old; a whole copy leaves padded to 60 bytes, one that underruns with a bad FCS;
the copy engine completes its oldest request. -/
def Obligations.QueuesAndTransmission : Prop :=
  ∀ (s : State) (die port sent : Nat) (o : Offer) (rest : List Offer) (q : Nat) (c : QCopy) (cs : List QCopy) (p : PortS) (x : Sending)
    (f : Frame) (j : CopyJob) (js : List CopyJob),
    let g := gpnOf die port
    let s' : State := { s with egr := { s.egr with offers := kset s.egr.offers die rest [] } }
    (offersOf s die = o :: rest → admitCheck s' o = 0 → Ends (.queueAdmission die) s (fun u => offersOf u die = rest ∧
      ∃ e, getQueue u o.qid = getQueue s o.qid ++ [e] ∧ e.txLen = o.txLen ∧ e.charge = o.txLen + 4 ∧ e.stamp = o.stamp)) ∧
    (offersOf s die = o :: rest → admitCheck s' o ≠ 0 → Ends (.queueAdmission die) s (fun u => offersOf u die = rest ∧
      getQueue u o.qid = getQueue s o.qid)) ∧
    ((getPort s g).sending = none → portIsUp s g = true → egrCountFull s die = false → pickQueue s g = some (q, p) → getQueue s q = c :: cs →
      (c.stamp.mono + bitsOf (qSched s q) 8 16 * 16000 < mono s (qidDie q) → EndsIn (.schedulePick die port) s (discardCopy 1 q s c)) ∧
      (mono s (qidDie q) ≤ c.stamp.mono + bitsOf (qSched s q) 8 16 * 16000 → Ends (.schedulePick die port) s (fun u =>
        (getPort u g).sending = some ⟨c, q, 0⟩ ∧ getQueue u q = getQueue s q))) ∧
    (((getPort s g).sending ≠ none ∨ portIsUp s g = false ∨ egrCountFull s die = true ∨ pickQueue s g = none) →
      EndsIn (.schedulePick die port) s s) ∧
    ((getPort s g).sending = some x → getFrame s x.copy.frame = some f → f.xfer = 0 → f.poison = [] → f.note = false → x.copy.mark = false →
      die < 8 → port ≤ 32 →
      Ends (.txComplete die port) s (fun u => (getPort u g).sending = none ∧ (∀ e ∈ getQueue u x.queue, e.id ≠ x.copy.id) ∧
        u.out = s.out ++ [.frame g (frameBytes f 0 x.copy.txLen ++ List.replicate (60 - x.copy.txLen) 0) false])) ∧
    ((getPort s g).sending = some x → getFrame s x.copy.frame = some f → x.copy.ct = true → f.xfer ≠ 0 → sent ≤ presentBytes s f →
      sent ≤ x.copy.txLen →
      Ends (.txUnderrun die port sent) s (fun u => (getPort u g).sending = none ∧ (∀ e ∈ getQueue u x.queue, e.id ≠ x.copy.id) ∧
        u.out = s.out ++ [.frame g (frameBytes f 0 sent) true])) ∧
    (jobsOf s die = j :: js → Ends (.copyEngineDone die) s (fun u => jobsOf u die = js))


/-! ## Time, tables, tally -/

/-- From R34 to R38, R40 to R45: what the sources of time say, corrections by slew or step, holdover, a leap second, the alignment of followers. -/
def Obligations.TimeHappenings : Prop :=
  ∀ (s : State) (die pin : Nat) (o err : Int) (m : PtpMsg) (x : TimeSource),
    let lead := s.pkg.lead
    let now := leadMono s
    let c := clock s die
    let T := s.time
    let sane : Prop := lead < s.pkg.n ∧ s.pkg.n ≤ 8
    (stepSent s = false → -1000000 ≤ o → o ≤ 1000000 → Ends (.timeCorrection o) s (fun u =>
      u.time.correction = .slew o now ∧ u.time.offset = o ∧ u.time.clocks = T.clocks)) ∧
    (stepSent s = false → (o < -1000000 ∨ 1000000 < o) → Ends (.timeCorrection o) s (fun u =>
      u.time.correction = .step o (now + 20000) ∧ u.time.clocks = T.clocks)) ∧
    (stepSent s = true → EndsIn (.timeCorrection o) s s) ∧
    (∀ a, T.correction = .slew 0 a → EndsIn .slewDone s { s with time := { T with correction := .idle } }) ∧
    (∀ due, T.correction = .step o due → due ≤ now → s.pkg.n ≤ 8 → lead < 8 → Ends .stepApply s (fun u => u.time.correction = .idle ∧
      ∀ d, d < s.pkg.n → (clock u d).tod = (((clock s d).tod : Int) + o).toNat ∧ (clock u d).mono = (clock s d).mono ∧
        (clock u d).stime = max (clock s d).stime (((clock s d).tod : Int) + o).toNat)) ∧
    (∀ due, T.correction = .step o due → now < due → EndsIn .stepApply s s) ∧
    (frozen s die = true → c.stime < c.tod → Ends (.freezeEnd die) s (fun u => (clock u die).stime = c.tod ∧ (clock u die).tod = c.tod)) ∧
    (m.clockClass < 187 → m.sync = true → Ends (.ptpMessageRx m) s (fun u => u.time.ptp.valid = true ∧ u.time.ptp.last = now)) ∧
    (187 ≤ m.clockClass → Ends (.ptpMessageRx m) s (fun u => u.time.ptp.valid = false)) ∧
    (pinFunction s pin = 1 → bitsOf (srcCtl s) 6 1 = pin → Ends (.ppsEdge pin) s (fun u => u.time.pps.valid = true ∧ u.time.pps.last = now)) ∧
    (pinFunction s pin ≠ 1 → EndsIn (.ppsEdge pin) s s) ∧
    (s.pkg.running = true → pinFunction s pin = 2 → frozen s lead = false → stime s lead % nsPerS ≤ 2 →
      kget T.ppsLast pin 0 < stime s lead / nsPerS + 1 → Ends (.ppsOut pin) s (fun u =>
        u.out = s.out ++ [.pulse pin (stime s lead / nsPerS * nsPerS)])) ∧
    (T.ptp.valid = true → Ends (.sourceTimeout .ptp) s (fun u => u.time.ptp.valid = false)) ∧
    (T.pps.valid = true → T.pps.last + 1100000000 ≤ now → Ends (.sourceTimeout .pps) s (fun u => u.time.pps.valid = false)) ∧
    (sane → srcOfCode (bitsOf (srcCtl s) 0 2) = x → srcReady s x = true → Ends (.sourceValid x) s (fun u =>
      sourceInUse u = srcCode x ∧ fieldR u .timeStatus lead 0 1 1 = 0)) ∧
    (T.ptp.valid = true → T.pps.valid = true → bitsOf (srcCtl s) 8 8 ≠ 0 →
      (bitsOf (srcCtl s) 8 8 * 10 < o.natAbs → Ends (.xcheck o) s (fun u => u.time.xfail = T.xfail + 1 ∧ u.time.xpass = 0)) ∧
      (o.natAbs ≤ bitsOf (srcCtl s) 8 8 * 10 → Ends (.xcheck o) s (fun u => u.time.xfail = 0 ∧ u.time.xpass = T.xpass + 1))) ∧
    (sane → T.leap ≠ 0 → T.leap ≤ (stime s lead / nsPerS : Nat) → -1000 < utcOffset s → utcOffset s < 1000 → Ends .leapSecond s (fun u =>
      u.time.leap = 0 ∧ utcOffset u = utcOffset s + (if fieldR s .timeStatus lead 0 8 1 = 1 then -1 else 1))) ∧
    (4 < err.natAbs → die ≠ lead → usable s die = true →
      EndsIn (.timeAlignError die err) s (record s die 0x1004 (keeperId die) (nw die :: intWords 2 err))) ∧
    (1000 < err.natAbs → die ≠ lead → usable s die = true → fieldR s .timeStatus die 0 9 1 = 0 → die < 8 → lead < 8 →
      Ends (.alignFault die err) s (fun u => ∀ p, p < 32 → (getPort u (gpnOf die p)).link = .down)) ∧
    (usable s die = true → fieldR s .timeStatus die 0 9 1 = 1 →
      EndsIn (.alignRecover die) s (settlePorts (setField s .timeStatus die 0 9 1 0) die))

/-- From R46 to R50: the first due entry of a die fires, a one-shot entry becoming free, a periodic one moving on by its period; an alarm enters
its work queue, or waits at the schedule while that holds back. -/
def Obligations.ScheduleAndAlarms : Prop :=
  ∀ (s s1 : State) (die i q : Nat) (e : SchedEntry) (f : Fired) (it : Item) (rest : List Item),
    let due := (entriesOf s die).filter (fun e => decide (e.2.t ≤ stime s die))
    let jump := jumped s die
    let aq := f.entry.domain * 8 + f.entry.prio
    (firstEntry due = none → EndsIn (.schedFire die) s s) ∧
    (firstEntry due = some (i, e) → ¬(jump.1 < e.t ∧ e.t ≤ jump.2) →
      (e.periodic = false → Ends (.schedFire die) s (fun u => getSched u die i = none ∧
        firedOf u die = firedOf s die ++ [⟨e.action, e.t, stime s die, false, 1, e⟩])) ∧
      (e.periodic = true → e.action ≠ 2 → Ends (.schedFire die) s (fun u =>
        getSched u die i = some { e with t := e.t + e.period * 1000, late := false } ∧
        firedOf u die = firedOf s die ++ [⟨e.action, e.t, stime s die, false, 1, e⟩]))) ∧
    (takeFired s die 0x10 = none → EndsIn (.programAlarm die) s s) ∧
    (takeFired s die 0x10 = some (f, s1) → alarmsAt s die aq = [] → heldBack s die aq = false → Ends (.programAlarm die) s (fun u =>
      firedOf u die = (firedOf s die).erase f ∧ (getWq u die aq).items.length = (getWq s die aq).items.length + 1)) ∧
    (takeFired s die 0x10 = some (f, s1) → heldBack s die aq = true → Ends (.programAlarm die) s (fun u =>
      (alarmsAt u die aq).length = (alarmsAt s die aq).length + 1 ∧ getWq u die aq = getWq s die aq)) ∧
    ((List.range 128).find? (fun q => decide (alarmsAt s die q ≠ []) && !heldBack s die q) = some q → alarmsAt s die q = it :: rest →
      EndsIn (.alarmDeliver die) s (enqueue (setAlarms s die q rest) die { it with gslot := (slotAt s die (stime s die)).getD 0 }))

/-- From R198, R202 to R205, R232 to R236: a forager's result reaches its slot, clears the scoreboard bit and raises FORAGER; a write engine
performs the request at its head; a refresh writes NOW, and a compare-and-remove frees its entry only while both still match; the sweeper
goes on to the next bucket. -/
def Obligations.TableEngines : Prop :=
  ∀ (s : State) (die engine table tid slot p cursor : Nat) (y : FgResult) (q : FgReq) (e : Entry) (key : List Word) (stamp : Word)
    (rest : List WriteReq),
    let k := die * 4 + engine
    let waits : Prop := (getT s tid).results.find? (fun z => z.slot = slot) = some y
    let came (u : State) : Prop := (getT u tid).sb = (getT s tid).sb &&& ~~~ BitVec.ofNat 9 (2 ^ slot) ∧
      ∀ z ∈ (getT u tid).results, z.slot ≠ slot
    (waits → y.lookup = none → y.ready = true → Ends (.foragerResult tid slot) s (fun u => came u ∧
      ∀ j, j < 32 → memAt u (tid * 0x2000 + (0x1900 + 32 * slot + j)) = (y.words[j]?).getD 0)) ∧
    (waits → y.lookup = some q → q.tid = tid → q.id = y.id → awaitsDram s q = false → Ends (.foragerResult tid slot) s came) ∧
    (waits → y.lookup = some q → awaitsDram s q = true → y.ready = false → EndsIn (.foragerResult tid slot) s s) ∧
    (engineOf s k = .forager q :: rest → Ends (.tableWrite die engine) s (fun u => engineOf u k = rest ∧
      ∀ z ∈ (getT u q.tid).results, z.id = q.id → z.ready = true)) ∧
    (engineOf s k = .refresh table p key :: rest → getEntry s p = some e →
      Ends (.stampRefresh die engine) s (fun u => engineOf u k = rest ∧
        getEntry u p = some (if e.key = key then { e with stamp := ageNow s die } else e))) ∧
    (engineOf s k = .sweep table p key stamp :: rest → getEntry s p = some e →
      (e.key = key → e.stamp = stamp → Ends (.sweepRemove die engine) s (fun u => engineOf u k = rest ∧ getEntry u p = none)) ∧
      (e.key ≠ key ∨ e.stamp ≠ stamp → EndsIn (.sweepRemove die engine) s (setEngine s k rest))) ∧
    ((sweepOf s die table).active = true → (sweepOf s die table).cursor = cursor → cursor + 1 < sweepLen (curDesc s die table) →
      Ends (.sweeperRead die table cursor) s (fun u => sweepOf u die table = ⟨true, cursor + 1⟩)) ∧
    ((sweepOf s die table).active = true → (sweepOf s die table).cursor = cursor → cursor + 1 = sweepLen (curDesc s die table) →
      Ends (.sweeperRead die table cursor) s (fun u => sweepOf u die table = ⟨false, 0⟩))

/-- From R220, R221, R223, R226, R231, R239, R240: the learn engine takes the head of its FIFO, and a learn of the key and port that an entry holds
writes its stamp and action; a remote record enters the FIFO; a quarantine ends; ageing counts; records leave when 64 wait. -/
def Obligations.Learning : Prop :=
  ∀ (s s1 : State) (die fromDie table p : Nat) (r : LearnReq) (rest : List LearnReq) (e : Entry) (es : List (Nat × Entry)) (key : List Word)
    (l : MoveLine) (t : Nat) (f : Fired) (it : Item) (items : List Item),
    let x := curDesc s die r.tableId
    let c := lrnCfg s die r.tableId
    let notes := kget s.tbl.notes die []
    (learnFifo s die = [] → EndsIn (.learnPerform die) s s) ∧
    (learnFifo s die = r :: rest → engineOf s (engKey die r.tableId) = [] → x.en = true → lrnOn c = true →
      (r.remote = true ∨ mayWriteTbl s die r.pdom r.tableId = true) → r.key.length = x.keyWords → r.action.length = descA x →
      metUncorr s die x (maskKey x r.key) = none → foundAt s die x (maskKey x r.key) = (p, e) :: es → e.static_ = false → e.learned = true →
      actionGpn c e.action = actionGpn c r.action → die < 8 → s.pkg.lead < 8 → Ends (.learnPerform die) s (fun u =>
        learnFifo u die = rest ∧ getEntry u p = some { e with stamp := ageNow s die, action := r.action })) ∧
    (kget s.tbl.flying (die * 8 + fromDie) [] = r :: rest → (learnFifo s die).length < 1024 → Ends (.remoteRecord die fromDie) s (fun u =>
      learnFifo u die = learnFifo s die ++ [r] ∧ kget u.tbl.flying (die * 8 + fromDie) [] = rest)) ∧
    (kget s.tbl.flying (die * 8 + fromDie) [] = r :: rest → 1024 ≤ (learnFifo s die).length → Ends (.remoteRecord die fromDie) s (fun u =>
      learnFifo u die = learnFifo s die ∧ kget u.tbl.flying (die * 8 + fromDie) [] = rest)) ∧
    ((trackerOf s die).find? (fun z => z.tableId = table && z.key = key) = some l → l.quarUntil = some t → t ≤ mono s die →
      Ends (.quarantineEnd die table key) s (fun u => (trackerOf u die).find? (fun z => z.tableId = table && z.key = key) = none)) ∧
    ((trackerOf s die).find? (fun z => z.tableId = table && z.key = key) = some l → l.quarUntil = some t → mono s die < t →
      EndsIn (.quarantineEnd die table key) s s) ∧
    (takeFired s die 3 = some (f, s1) → die < 8 → Ends (.ageTick die) s (fun u =>
      getR u .lrnAgeNow die 0 = (getR s .lrnAgeNow die 0 + f.periods) % 65536)) ∧
    (keeperDown s s.pkg.lead = false → 64 ≤ notes.length → Ends (.lrnNotify die) s (fun u =>
      kget u.tbl.notes die [] = notes.drop 64 ∧ kget u.tbl.notesLost die 0 = 0 ∧
      kget u.tbl.noteSeq die 0 = (kget s.tbl.noteSeq die 0 + 1) % 4294967296)) ∧
    (notes = [] → EndsIn (.lrnNotify die) s s) ∧
    (kget s.tbl.assist die [] = it :: items → heldBack s die (it.pdom * 8 + it.level) = false → Ends (.learnAssistDeliver die) s (fun u =>
      kget u.tbl.assist die [] = items ∧
      (getWq u die (it.pdom * 8 + it.level)).items.length = (getWq s die (it.pdom * 8 + it.level)).items.length + 1))

/-- From R318, R322 to R328: the tally unit adds the count at the head of a queue to the bank of its minute; the close of a minute streams and
clears its banks; the lead emits one batch for a minute that every usable die has closed, and keeps it for 1,440 minutes. -/
def Obligations.TallyAndLedger : Prop :=
  ∀ (s s1 : State) (die queue : Nat) (r : TallyReq) (rest : List TallyReq) (f : Fired) (x : ClosedMin) (b : Batch) (bs : List Batch),
    let pair (c : Vector (BitVec 64) 8) (k : Fin 8) : Nat :=
      if k.val = 2 * r.kind then (c.get k).toNat + 1 else if k.val = 2 * r.kind + 1 then (c.get k).toNat + r.bytes else (c.get k).toNat
    (talQueue s die queue = [] → EndsIn (.tallyUpdate die queue) s s) ∧
    (talQueue s die queue = r :: rest → r.late = false → r.tenant ∈ cacheOf s die → bankHeld s die r.tenant r.minute = false →
      (∀ l, tenantLines s die r.tenant = [l] → l.minute = r.minute → Ends (.tallyUpdate die queue) s (fun u => talQueue u die queue = rest ∧
        ∃ l', tenantLines u die r.tenant = [l'] ∧ l'.minute = r.minute ∧ l'.folded = l.folded ∧
          ∀ k : Fin 8, (l'.counts.get k).toNat = min (pair l.counts k) (2 ^ 64 - 1))) ∧
      (tenantLines s die r.tenant = [] → Ends (.tallyUpdate die queue) s (fun u => talQueue u die queue = rest ∧
        ∃ l', tenantLines u die r.tenant = [l'] ∧ l'.minute = r.minute ∧ l'.folded = false))) ∧
    (talQueue s die queue = r :: rest → r.late = false → r.tenant ∈ cacheOf s die → bankHeld s die r.tenant r.minute = true →
      EndsIn (.tallyUpdate die queue) s s) ∧
    (takeFired s die 2 = none → EndsIn (.tallyClose die) s s) ∧
    (takeFired s die 2 = some (f, s1) → f.late = false → die < 8 → s.pkg.lead < 8 → Ends (.tallyClose die) s (fun u =>
      kget u.tal.closedTo die 0 = minuteOf s f.t - 1 + 1)) ∧
    (keeperDown s s.pkg.lead = false → nextClosed s = some x → talOn s = true → s.tal.resume = none →
      (∀ d ∈ usableDies s, ∃ y ∈ closedOf s d, y.minute = x.minute) → Ends .ledgerBatchEmit s (fun u =>
        u.tal.nextSeq = s.tal.nextSeq + 1 ∧ u.tal.lastMinute = x.minute + x.span - 1 ∧ u.tal.partialNext = false ∧
        ∀ d ∈ usableDies s, ∀ y ∈ closedOf u d, y.minute ≠ x.minute)) ∧
    (nextClosed s = none → EndsIn .ledgerBatchEmit s s) ∧
    (s.tal.batches = b :: bs → b.at_ + 86400000000000 ≤ leadMono s → Ends .retainExpire s (fun u => u.tal.batches = bs))

/-! ## EMP commands -/

namespace Sys2Proof.Claims

open Sys2Proof.Machine Sys2Proof.Safety

/-- The frame, the CODE and the privilege of a command of a session (R364, R375): none for SES_HELLO and SES_OPEN, for what is no EMP
command, and for a row whose payload belongs to another row of its CODE. -/
def empOf (c : Instr) : Option (EmpMsg × Nat × Nat) :=
  match c with
  | .bankPwrReq m _ _ _ => some (m, 0x0E01, operator)
  | .wqHistArm m _ _ => some (m, 0x0E01, operator)
  | .timeGet m => some (m, 0x0700, observer)
  | .timeSrcSet m _ => some (m, 0x0701, owner)
  | .timeSet m _ _ => some (m, 0x0702, operator)
  | .timeUtcSet m _ _ _ => some (m, 0x0703, operator)
  | .timeSchedSet m _ _ _ => some (m, 0x0710, operator)
  | .timeSchedCancel m _ _ _ => some (m, 0x0711, operator)
  | .timeSchedList m _ => some (m, 0x0712, observer)
  | .dbgAttach m _ => some (m, 0x0D00, operator)
  | .dbgDetach m _ => some (m, 0x0D01, operator)
  | .dbgHalt m _ _ => some (m, 0x0D02, operator)
  | .dbgResume m _ => some (m, 0x0D03, operator)
  | .dbgStep m _ => some (m, 0x0D04, operator)
  | .dbgBreakSet m _ _ _ _ _ _ _ => some (m, 0x0D05, operator)
  | .dbgBreakClr m _ _ _ _ => some (m, 0x0D06, operator)
  | .dbgRegRead m _ => some (m, 0x0D07, observer)
  | .dbgRegWrite m _ _ _ => some (m, 0x0D08, operator)
  | .dbgMemRead m _ _ _ => some (m, 0x0D09, observer)
  | .dbgMemWrite m _ _ _ => some (m, 0x0D0A, operator)
  | .dbgThreadReset m _ => some (m, 0x0D0B, operator)
  | .tblInfo m _ _ _ => some (m, 0x0300, observer)
  | .tblLookup m => some (m, 0x0301, observer)
  | .tblInsert m => if tblStage m then none else some (m, 0x0302, operator)
  | .tblInsertStaged m => if tblStage m then some (m, 0x0302, operator) else none
  | .tblUpdate m => if tblStage m then none else some (m, 0x0303, operator)
  | .tblUpdateStaged m => if tblStage m then some (m, 0x0303, operator) else none
  | .tblDelete m => if tblStage m then none else some (m, 0x0304, operator)
  | .tblDeleteStaged m => if tblStage m then some (m, 0x0304, operator) else none
  | .tblRead m _ _ _ _ _ => some (m, 0x0305, observer)
  | .tblFlush m _ _ => some (m, 0x0306, operator)
  | .tblStats m _ _ => some (m, 0x0307, observer)
  | .tblDescStage m _ _ _ _ => some (m, 0x0308, operator)
  | .tblGroupStage m _ _ _ _ => some (m, 0x0309, operator)
  | .lrnStats m _ _ => some (m, 0x0310, observer)
  | .lrnAgeSet m _ _ => some (m, 0x0311, operator)
  | .lrnFlushPort m _ => some (m, 0x0312, operator)
  | .lrnNotifySet m _ => some (m, 0x0313, operator)
  | .lrnGuardStage m _ _ _ _ => some (m, 0x0314, operator)
  | .lrnTenantStage m _ _ _ => some (m, 0x0315, operator)
  | .lrnContestList m _ => some (m, 0x0316, observer)
  | .lrnContestClear m _ _ _ => some (m, 0x0317, operator)
  | .genStatus m => some (m, 0x0200, observer)
  | .genOpen m => some (m, 0x0201, operator)
  | .genRegStage m _ _ _ _ => some (m, 0x0202, operator)
  | .genGraphStage m _ _ _ => some (m, 0x0203, operator)
  | .genProgStage m _ _ _ _ => some (m, 0x0204, operator)
  | .genConstStage m _ _ _ _ => some (m, 0x0205, operator)
  | .genSeal m _ => some (m, 0x0206, operator)
  | .genCommit m _ _ _ => some (m, genCommitCode, operator)
  | .genCancel m _ => some (m, 0x0208, operator)
  | .genAbort m _ => some (m, 0x0209, operator)
  | .genDigestGet m _ => some (m, 0x020A, observer)
  | .genAuditNow m _ => some (m, 0x020B, operator)
  | .genPolicySet m _ => some (m, 0x020C, owner)
  | .genRepair m _ _ => some (m, 0x020D, owner)
  | .bufCarve m _ _ => some (m, 0x0500, owner)
  | .bufOwnerSet m _ _ _ _ _ _ => some (m, 0x0501, operator)
  | .bufStatus m _ _ => some (m, 0x0502, observer)
  | .qmQueueSet m => some (m, 0x0503, operator)
  | .qmProfileSet m _ _ _ => some (m, 0x0504, operator)
  | .qmTgroupSet m _ _ _ => some (m, 0x0505, operator)
  | .qmPortSet m _ _ _ => some (m, 0x0506, operator)
  | .qmMcSet m => some (m, 0x0507, operator)
  | .qmMcGet m _ => some (m, 0x0508, observer)
  | .qmFlush m _ _ _ => some (m, 0x0509, operator)
  | .qmQueueGet m _ _ _ => some (m, 0x050A, observer)
  | .qmStats m _ => some (m, 0x050B, observer)
  | .portStatus m _ => some (m, 0x0400, observer)
  | .portLinkSet m _ _ => some (m, 0x0401, operator)
  | .portFcSet m => some (m, 0x0402, operator)
  | .portClassSet m _ _ _ => some (m, 0x0403, operator)
  | .portTgSet m _ _ _ => some (m, 0x0404, operator)
  | .portQschedSet m _ _ _ => some (m, 0x0405, operator)
  | .portEcnSet m _ _ _ => some (m, 0x0406, operator)
  | .portMirrorSet m _ _ _ => some (m, 0x0407, owner)
  | .portSampleSet m _ _ _ => some (m, 0x0408, operator)
  | .portStats m _ _ _ _ => some (m, 0x0409, observer)
  | .talCfg m _ _ => some (m, 0x0600, owner)
  | .talStatus m _ => some (m, 0x0601, observer)
  | .talAck m _ => some (m, 0x0602, operator)
  | .talResend m _ => some (m, 0x0603, operator)
  | .talRead m _ _ => some (m, 0x0604, observer)
  | .talPolSet m _ _ _ _ _ _ => some (m, 0x0605, operator)
  | .talPolGet m _ _ => some (m, 0x0606, observer)
  | .sesClose m => some (m, 0x0102, observer)
  | .sesPing m => some (m, 0x0103, observer)
  | .sesSubscribe m => some (m, 0x0104, observer)
  | .sesList m => some (m, 0x0105, observer)
  | .sesEndOther m _ => some (m, 0x0106, owner)
  | .sesKeySet m _ _ _ => some (m, 0x0107, owner)
  | .sesMgmtSet m _ => some (m, 0x0108, owner)
  | .regRead m => some (m, 0x0E00, observer)
  | .regWrite m => some (m, 0x0E01, operator)
  | .regList m _ _ => some (m, 0x0E02, observer)
  | .claimList m => some (m, 0x0F00, observer)
  | .claimSet m _ _ _ => some (m, 0x0F01, owner)
  | .claimFree m _ _ => some (m, 0x0F02, owner)
  | .claimPolicySet m _ => some (m, 0x0F03, owner)
  | .claimLockAcq m _ _ => some (m, 0x0F10, operator)
  | .claimLockRel m _ _ => some (m, 0x0F11, operator)
  | .claimLockList m => some (m, 0x0F12, observer)
  | .mapGet m _ => some (m, 0x0B00, observer)
  | .mapSet m => some (m, 0x0B01, owner)
  | .mapDigestGet m => some (m, 0x0B02, observer)
  | .mapAuditNow m => some (m, 0x0B03, operator)
  | .fltStatus m _ => some (m, 0x09C0, observer)
  | .fltThreshSet m _ _ => some (m, 0x09C1, owner)
  | .fltDieRestore m _ _ => some (m, 0x09C2, owner)
  | .inspStatus m _ => some (m, 0x0900, observer)
  | .inspCfgSet m _ => some (m, 0x0901, owner)
  | .inspStop m _ _ _ => some (m, 0x0902, owner)
  | .inspStart m _ _ _ => some (m, 0x0903, owner)
  | .inspMarch m _ _ _ _ => some (m, 0x0904, operator)
  | .inspResult m _ _ => some (m, 0x0905, observer)
  | .inspRepairList m _ => some (m, 0x0906, observer)
  | .inspFuse m _ => some (m, 0x0907, owner)
  | .inspDram m _ _ _ _ => some (m, 0x0908, operator)
  | .recStatus m => some (m, 0x0800, observer)
  | .recRead m _ _ => some (m, 0x0801, observer)
  | .recClear m => some (m, 0x0802, owner)
  | .recFlush m => some (m, 0x0803, operator)
  | .recRateSet m _ _ _ => some (m, 0x0804, operator)
  | .recRateGet m _ _ => some (m, 0x0805, observer)
  | .recNvRead m _ _ => some (m, 0x0806, observer)
  | .recDieRead m _ => some (m, 0x0807, observer)
  | .recCfgSet m _ => some (m, 0x0808, owner)
  | .fwStatus m => some (m, 0x0A00, observer)
  | .fwLoad m _ _ => some (m, 0x0A01, owner)
  | .fwVerify m => some (m, 0x0A02, owner)
  | .fwActivate m => some (m, 0x0A03, owner)
  | .fwResetPackage m => if 2 ≤ pw m 0 ∧ pw m 0 ≤ 4 then none else some (m, 0x0A04, owner)
  | .fwResetDie m => if pw m 0 = 2 then some (m, 0x0A04, owner) else none
  | .fwResetComb m => if pw m 0 = 3 then some (m, 0x0A04, owner) else none
  | .fwResetCell m => if pw m 0 = 4 then some (m, 0x0A04, owner) else none
  | .fwBcrGet m => some (m, 0x0A05, observer)
  | .fwBcrSet m _ => some (m, 0x0A06, owner)
  | .fwUnclaim m => some (m, 0x0A07, owner)
  | .pairStatus m => some (m, 0x0C00, observer)
  | .pairSet m _ _ _ _ _ _ => some (m, 0x0C01, owner)
  | .pairLeave m => some (m, 0x0C02, owner)
  | .pairTakeover m => some (m, 0x0C03, owner)
  | .pairGroupSet m _ _ => some (m, 0x0C04, operator)
  | .pairGroupList m => some (m, 0x0C05, observer)
  | .lanePortSet m => some (m, 0x0480, operator)
  | .laneStatus m _ => some (m, 0x0481, observer)
  | .laneTuneSet m _ _ _ => some (m, 0x0482, operator)
  | .lanePrbs m _ => some (m, 0x0483, operator)
  | .empUnknownCmd m code => if knownCode code.toNat then none else some (m, code.toNat, owner + 1)
  | _ => none

/-- A command that is taken is performed: it answers ST_OK with `ws` and leaves `u`. -/
def Does (s : State) (m : EmpMsg) (i : Nat) (x : Session) (code priv : Nat) (c : Instr) (u : State) (ws : List Word) : Prop :=
  Accepted s m code priv i x → exec c s = .next (answered u m code i x stsOk ws)

/-- A command that is taken is performed, answers ST_OK, and its state and payload are as `P` says. -/
def DoesWith (s : State) (m : EmpMsg) (i : Nat) (x : Session) (code priv : Nat) (c : Instr) (P : State → List Word → Prop) : Prop :=
  Accepted s m code priv i x → ∃ u ws, exec c s = .next (answered u m code i x stsOk ws) ∧ P u ws

/-- A command that is taken is refused with a status: beyond its having been taken nothing changes. -/
def Refuses (s : State) (m : EmpMsg) (i : Nat) (x : Session) (code priv : Nat) (c : Instr) (st : Nat) (ws : List Word) : Prop :=
  Accepted s m code priv i x → exec c s = .next (answered (taken s m i x) m code i x st ws)

/-- The cell of thread `k` is attached to session `i` (R118). -/
def attached (s : State) (i k : Nat) : Prop := (getCell s (thrCell k)).dbg = some (.session i)

/-- Slot `n` holds the OPEN generation `gen`, which session `i` opened (R247). -/
def openFor (s : State) (i gen n : Nat) : Prop :=
  stagedSlot s = some n ∧ slotGen s (refDie s) n = gen ∧ slotState s (refDie s) n = 1 ∧ s.gen.openOwner = some i

end Sys2Proof.Claims

/-- From R356, R360, R363, R364, R369: what becomes of a command frame that is not performed: the mailbox is down, or the frame fails a check in
their order, is a duplicate, lacks privilege, exceeds the rate of starts, or is a fragment. -/
def Obligations.CommandsNotTaken : Prop :=
  ∀ (s : State) (c : Instr) (m : EmpMsg) (code priv : Nat), empOf c = some (m, code, priv) →
    let emp : Prop := 30 ≤ m.avail ∧ m.w0.toNat / 4096 = 1 ∧ m.w0.toNat % 256 = 1
    let whole : Prop := m.len ≤ 4480 ∧ 30 + 2 * m.len ≤ m.avail
    (mailboxUp s m = false → exec c s = .next s) ∧
    (mailboxUp s m = true →
      (¬emp → exec c s = .next (kcnt s .kprCntNotEmp)) ∧
      (emp → ¬whole → exec c s =
        .next (sendReply (kcnt s .kprCntLength) m code m.session ((findSession s m.session).map (·.2.key)) stsLength false [])) ∧
      (emp → whole → findSession s m.session = none →
        exec c s = .next (sendReply (kcnt s .kprCntAuthFail) m code m.session none stsAuth false [])) ∧
      (∀ i x, emp → whole → findSession s m.session = some (i, x) →
        let t := setSession s i (some (acceptSeq x (leadMono s) m.port m.src m.vlan m.seq m.tag))
        let fresh : Prop := seqKind x.hi x.seen m.seq = .new ∨ seqKind x.hi x.seen m.seq = .late
        (empTag x.key (empCovered m code) ≠ m.tag → exec c s = .next (authFail s m m.session)) ∧
        (empTag x.key (empCovered m code) = m.tag →
          (seqKind x.hi x.seen m.seq = .refused →
            exec c s = .next (sendReply (kcnt s .kprCntSeq) m code m.session (some x.key) stsSeq false [])) ∧
          (seqKind x.hi x.seen m.seq = .seen → ∀ r, x.window.find? (fun r => decide (r.seq = m.seq) && decide (r.tag = m.tag)) = some r →
            exec c s = .next (sendReply s m code m.session (some x.key) r.status true [])) ∧
          (fresh → owner < priv → exec c s = .next (reply t m code i x.key stsUnknown [])) ∧
          (fresh → priv ≤ owner → x.priv < priv → exec c s = .next (reply t m code i x.key stsPriv [])) ∧
          (fresh → priv ≤ owner → priv ≤ x.priv → startLimit s = true →
            exec c s = .next (reply (kcnt t .kprCntBusy) m code i x.key stsBusy [])) ∧
          (fresh → priv ≤ owner → priv ≤ x.priv → startLimit s = false → m.w0.toNat / 256 % 4 ≠ 0 →
            exec c s = .next (reply (startCmd t) m code i x.key stsRange [])))))


/-- From R118 to R122: the debug commands: a cell is attached to one session, which may halt, resume, step, change and reset its threads.
From R34, R42, R44 to R47: the commands of external time and of the schedule. -/
def Obligations.TimeAndDebugCommands : Prop :=
  (∀ (s : State) (m : EmpMsg) (i j c k reg count n : Nat) (x : Session) (cell thread addr : Word) (freeze watch image rd wr : Bool)
    (threads : BitVec 8) (value : BitVec 40) (words : List Word),
    let t := taken s m i x
    let mine : Prop := (getCell t c).dbg = some (.session i)
    let kept := (getCell t c).breaks.filter (fun b => !sameBreak watch image addr b)
    (namedCell t cell = some c →
      ((getCell t c).dbg = none →
        Does s m i x 0x0D00 operator (.dbgAttach m cell) (modCell t c (fun y => { y with dbg := some (.session i) })) []) ∧
      (mine → Does s m i x 0x0D00 operator (.dbgAttach m cell) t []) ∧
      ((getCell t c).dbg = some (.session j) → j ≠ i →
        Refuses s m i x 0x0D00 operator (.dbgAttach m cell) stsConflict [0, cell, 1, 0x0D00, sessionId j]) ∧
      (mine → Does s m i x 0x0D01 operator (.dbgDetach m cell) (dbgDetachCell t c) []) ∧
      (¬mine → Refuses s m i x 0x0D01 operator (.dbgDetach m cell) stsNotOwner []) ∧
      (mine → (kept.filter (fun b => b.watch = watch)).length < (if watch then 2 else 4) →
        Does s m i x 0x0D05 operator (.dbgBreakSet m cell watch image addr threads rd wr)
          (modCell t c (fun y => { y with breaks := kept ++ [⟨watch, image, addr, threads, rd, wr⟩] })) []) ∧
      (mine → (if watch then 2 else 4) ≤ (kept.filter (fun b => b.watch = watch)).length →
        Refuses s m i x 0x0D05 operator (.dbgBreakSet m cell watch image addr threads rd wr) stsNoRoom []) ∧
      (mine → Does s m i x 0x0D06 operator (.dbgBreakClr m cell watch image addr)
        (modCell t c (fun y => { y with breaks := y.breaks.filter (fun b => !sameBreak watch image addr b) })) [])) ∧
    (namedThread t thread = some k →
      (attached t i k →
        ((getT t k).st ≠ .faulted → (getT t k).st ≠ .resetting → (getT t k).st ≠ .halted →
          Does s m i x 0x0D02 operator (.dbgHalt m thread freeze) (dbgHaltT t k freeze) []) ∧
        ((getT t k).st = .faulted → Refuses s m i x 0x0D02 operator (.dbgHalt m thread freeze) stsBusy []) ∧
        ((getT t k).st = .halted →
          Does s m i x 0x0D03 operator (.dbgResume m thread) (dbgResumeT t k) [] ∧
          Does s m i x 0x0D04 operator (.dbgStep m thread) (dbgStepT t k) [] ∧
          (reg ≤ 36 → value.toNat < 2 ^ dbgWidth reg → Does s m i x 0x0D08 operator (.dbgRegWrite m thread reg value) (dbgPut t k reg value) [])) ∧
        ((getT t k).st ≠ .halted →
          Refuses s m i x 0x0D03 operator (.dbgResume m thread) stsBusy [] ∧ Refuses s m i x 0x0D04 operator (.dbgStep m thread) stsBusy []) ∧
        (isSup k = false → Does s m i x 0x0D0B operator (.dbgThreadReset m thread) (threadReset t k reasonThreadReset false) []) ∧
        (isSup k = true → Refuses s m i x 0x0D0B operator (.dbgThreadReset m thread) stsRange []) ∧
        (words ≠ [] → words.length ≤ 4480 → (∀ a ∈ range' addr.toNat words.length, dbgWritable t k a = true) →
          Does s m i x 0x0D0A operator (.dbgMemWrite m thread addr words) (writeWs t k addr.toNat words) [])) ∧
      (¬attached t i k →
        Refuses s m i x 0x0D02 operator (.dbgHalt m thread freeze) stsNotOwner [] ∧
        Refuses s m i x 0x0D0A operator (.dbgMemWrite m thread addr words) stsNotOwner []) ∧
      ((getT t k).st = .halted ∨ (getT t k).st = .faulted → DoesWith s m i x 0x0D07 observer (.dbgRegRead m thread) (fun u ws =>
        u = t ∧ ws.take 16 = (regsOf t k).w.toList ∧ (ws.drop 16).take 8 = (regsOf t k).x.toList ∧
          (n < 8 → (∀ v, (ws[24]?) = some v → v.getLsbD n = (regsOf t k).p.toList.getD n false)) ∧
          (ws.drop 31).take 3 = [(regsOf t k).bc, (regsOf t k).ps, (regsOf t k).pc])) ∧
      (1 ≤ count → count ≤ 4096 → addr.toNat + count ≤ 65536 → (∀ a ∈ range' addr.toNat count, readable t k a = true) →
        (∀ a ∈ range' addr.toNat count, poisonedW t k a = false) →
        Does s m i x 0x0D09 observer (.dbgMemRead m thread addr count) t ((range' addr.toNat count).map (readW t k))))) ∧
  (∀ (s : State) (m : EmpMsg) (i : Nat) (x : Session) (value : BitVec 32) (sec : BitVec 48) (ns : BitVec 32) (offset : BitVec 16)
    (leap61 leap59 : Bool) (dies : BitVec 8) (index first count die : Nat) (entry : List Word),
    let t := taken s m i x
    let lead := t.pkg.lead
    let v := value.toNat
    let at_ := sec.toNat * nsPerS + ns.toNat
    let ok : Prop := definedBits .timeSrcCtl v = true ∧ bitsOf v 0 2 ≠ 3
    let pps : Prop := bitsOf v 0 2 = 1 ∨ bitsOf v 2 2 = 1
    let held : Prop := bitsOf (srcCtl t) 0 2 = 1 ∨ bitsOf (srcCtl t) 2 2 = 1
    Does s m i x 0x0700 observer (.timeGet m) t (timeWords (tod t lead) ++ timeWords (stime t lead) ++ wordsOf 4 (mono t lead) ++
      wordsOf 2 (regView t .timeStatus lead 7 0) ++ intWords 4 t.time.offset) ∧
    (ok → (pps → pinFunction t (bitsOf v 6 1) = 1) → Does s m i x 0x0701 owner (.timeSrcSet m value) (setSrcCtl t v) []) ∧
    (ok → pps → pinFunction t (bitsOf v 6 1) ≠ 1 → getClaim t 1 (bitsOf v 6 1) = none →
      Refuses s m i x 0x0701 owner (.timeSrcSet m value) stsConflict [1, nw (bitsOf v 6 1), 0, 0, keeperId lead]) ∧
    (¬ok → Refuses s m i x 0x0701 owner (.timeSrcSet m value) stsRange []) ∧
    (ns.toNat < 1000000000 → sourceInUse t ≠ 1 → ¬held → stepSent t = false →
      Does s m i x 0x0702 operator (.timeSet m sec ns) (correct t ((at_ : Int) - tod t lead)) []) ∧
    (ns.toNat < 1000000000 → sourceInUse t ≠ 1 → held →
      Does s m i x 0x0702 operator (.timeSet m sec ns) { t with time := { t.time with pendingSet := some at_ } } []) ∧
    (ns.toNat < 1000000000 → sourceInUse t = 1 → Refuses s m i x 0x0702 operator (.timeSet m sec ns) stsBusy []) ∧
    (¬(leap61 = true ∧ leap59 = true) → sourceInUse t ≠ 1 →
      Does s m i x 0x0703 operator (.timeUtcSet m offset leap61 leap59) (setUtc t offset.toInt leap61 leap59) []) ∧
    (diesOk t dies = true → 64 ≤ index → index ≤ 191 → alarmOk entry = true →
      ((∀ d ∈ diesOf dies, stime t d + 1000000 ≤ (entryOf entry).t) → Does s m i x 0x0710 operator (.timeSchedSet m dies index entry)
        (forEach (diesOf dies) (fun s d => setSched s d index (some (entryOf entry))) t) []) ∧
      ((∃ d ∈ diesOf dies, (entryOf entry).t < stime t d + 1000000) →
        Refuses s m i x 0x0710 operator (.timeSchedSet m dies index entry) stsTimePast [])) ∧
    (diesOk t dies = true → 64 ≤ first → 1 ≤ count → first + count ≤ 192 → Does s m i x 0x0711 operator (.timeSchedCancel m dies first count)
      (forEach (diesOf dies) (fun s d => forEach (range' first count) (fun s k => setSched s d k none) s) t) []) ∧
    (diesOk t dies = true → ¬(64 ≤ first ∧ 1 ≤ count ∧ first + count ≤ 192) →
      Refuses s m i x 0x0711 operator (.timeSchedCancel m dies first count) stsRange []) ∧
    (usable t die = true →
      Does s m i x 0x0712 observer (.timeSchedList m die) t ((entriesOf t die).flatMap (fun e => schedWords e.2))))

/-- From R212, R213, R189, R209: the commands of tables, on one die for the dynamic ones: a write, a lookup and a read need the session's right.
From R223, R234, R235, R238, R240 to R242: the commands of learning, ageing and port guards. -/
def Obligations.TableAndLearningCommands : Prop :=
  (∀ (s : State) (m : EmpMsg) (i d n table slot cursor count group : Nat) (x : Session) (dies : BitVec 8) (a : TblArgs) (gen : Word)
    (desc : List (BitVec 32)) (masks members : List Word) (cfg : BitVec 32) (u : State) (r : TblRes) (e : Entry),
    let t := taken s m i x
    let may (tb : Nat) : Prop := permits t i (fun row => mayWriteTbl t t.pkg.lead row tb) = true
    let see (tb : Nat) : Prop := permits t i (fun row => mayLookup t t.pkg.lead row tb) = true
    let cur := curDesc t (refDie t) a.table
    let dyn (op : Nat) := dynWrite (flushEngine t d a.table) d a.table op a.key a.data 0 (sessionId i)
    let one : Prop := tblStage m = false ∧ tblArgs m = some a ∧ a.slot = 0 ∧ diesOk t a.dies = true ∧ diesOf a.dies = [d] ∧
      keyOutsideMask cur a.key = false ∧ may a.table
    let gs := slotGen t (refDie t) n
    let sd := tblDesc t (refDie t) n a.table
    let all (op : Nat) : Prop := ∀ e ∈ usableDies t,
      dieStatus (stageOn n i op a t e).1 (rehashOf t e a.table).outstanding = 0
    let staged : Prop := tblStage m = true ∧ tblArgs m = some a ∧ a.slot = 0 ∧ a.dies = 0 ∧ openFor t i gs n ∧
      keyOutsideMask sd a.key = false ∧ may a.table
    let zeros := dieWords ((usableDies t).map (fun e => (e, 0)))
    let put (op : Nat) := forEach (usableDies t) (fun s e => (stageOn n i op a s e).2) t
    let sees := tblDesc t d a.slot a.table
    let reads := tblDesc t d slot table
    let found := validFrom t d table reads cursor
    (one → fitsDesc cur a true = true → (dyn 1).1.status = stOk → Does s m i x 0x0302 operator (.tblInsert m) (dyn 1).2 (dieWords [(d, 0)])) ∧
    (one → fitsDesc cur a true = true → (dyn 1).1.status = stExists → Accepted s m 0x0302 operator i x →
      exec (.tblInsert m) s = .next (answered (dyn 1).2 m 0x0302 i x stsConflict (dieWords [(d, stsConflict)]))) ∧
    (one → fitsDesc cur a true = true → (dyn 2).1.status = stOk → Does s m i x 0x0303 operator (.tblUpdate m) (dyn 2).2 (dieWords [(d, 0)])) ∧
    (one → fitsDesc cur a false = true → (dyn 3).1.status = stOk → Does s m i x 0x0304 operator (.tblDelete m) (dyn 3).2 (dieWords [(d, 0)])) ∧
    (one → fitsDesc cur a false = true → (dyn 3).1.status = stNotFound →
      Does s m i x 0x0304 operator (.tblDelete m) (dyn 3).2 (dieWords [(d, 0x8000)])) ∧
    (staged → fitsDesc sd a true = true → all 1 → Does s m i x 0x0302 operator (.tblInsertStaged m) (put 1) zeros) ∧
    (staged → fitsDesc sd a true = true → all 2 → Does s m i x 0x0303 operator (.tblUpdateStaged m) (put 2) zeros) ∧
    (staged → fitsDesc sd a false = true → all 3 → Does s m i x 0x0304 operator (.tblDeleteStaged m) (put 3) zeros) ∧
    (tblArgs m = some a → a.stage = false → diesOk t a.dies = true → diesOf a.dies = [d] → slotLive t (refDie t) a.slot = true →
      fitsDesc (tblDesc t (refDie t) a.slot a.table) a false = true → see a.table →
      lookupKey t d a.slot a.table sees (maskKey sees a.key) (deepMiss t d sees (maskKey sees a.key)) = (r, u) → r.hit = true →
      r.entry = some e → Does s m i x 0x0301 observer (.tblLookup m) u (0 :: entryWords e)) ∧
    (diesOk t dies = true → table < 64 → slot < 4 → Does s m i x 0x0300 observer (.tblInfo m table slot dies) t
      (descRegs.flatMap (fun r => wordsOf 2 (getRS t r (refDie t) slot table)) ++ (tblDesc t (refDie t) slot table).masks ++
        [groupsOf t (refDie t) slot table] ++ (diesOf dies).flatMap (fun e => wordsOf 2 (occBucket t e table) ++
          [nw (occOvf t e table), if (rehashOf t e table).outstanding then 1 else 0]))) ∧
    (usable t d = true → table < 64 → slot < 4 → 1 ≤ count → count ≤ 64 → slotLive t d slot = true → reads.en = true → see table →
      found.length ≤ count → (∀ f ∈ found, f.2.uncorr = false) → Does s m i x 0x0305 observer (.tblRead m d table slot cursor count) t
        ([0xFFFF, 0xFFFF] ++ found.flatMap (fun f => posWords reads (cursorPos d reads f.1) ++ entryWords f.2))) ∧
    (diesOk t dies = true → diesOf dies = [d] → table < 64 → may table → Does s m i x 0x0306 operator (.tblFlush m dies table)
      (forEach ((dieEntries (flushEngine t d table) d).filter (fun f => decide (f.2.tableId = table) && !f.2.static_))
        (fun s f => removeEntry s d f.1) (flushEngine t d table)) []) ∧
    (diesOk t dies = true → table < 64 → ¬may table → Refuses s m i x 0x0306 operator (.tblFlush m dies table) stsPriv []) ∧
    (diesOk t dies = true → table < 64 → Does s m i x 0x0307 observer (.tblStats m dies table) t ((diesOf dies).flatMap (fun e =>
      [RegName.tblCntLookup, .tblCntHit, .tblCntInsert, .tblCntRemove, .tblCntNoRoom, .tblCntMoves, .tblCntDeepMiss, .tblOccBucket,
        .tblOccOvf].flatMap (fun r => valueWords t r e table) ++ valueWords t .tblCntReqErr e 0))) ∧
    (openFor t i gen.toNat n →
      (table < 64 → desc.length = 5 → masks.length = 24 →
        let l := (descRegs.zip desc).map (fun f => (f.1, table, f.2.toNat)) ++ (keyMaskRegs.zip masks).map (fun f => (f.1, table, f.2.toNat))
        let put (s : State) (e : Nat) : State := forEach l (fun s f => setRS s f.1 e n f.2.1 f.2.2) s
        (∀ e ∈ usableDies t, ∀ f ∈ l, definedBits f.1 f.2.2 = true ∧ stagedOk (put t e) e n f.1 f.2.1 = true) →
        Does s m i x 0x0308 operator (.tblDescStage m gen table desc masks) (wakeAll (forEach (usableDies t) put t)) []) ∧
      (group < 16 → members.length ≤ 32 →
        let l := (RegName.tblGrpCfg, group, cfg.toNat) :: (grpMemberRegs.zip members).map (fun f => (f.1, group, f.2.toNat))
        let put (s : State) (e : Nat) : State := forEach l (fun s f => setRS s f.1 e n f.2.1 f.2.2) s
        (∀ e ∈ usableDies t, ∀ f ∈ l, definedBits f.1 f.2.2 = true ∧ stagedOk (put t e) e n f.1 f.2.1 = true) →
        Does s m i x 0x0309 operator (.tblGroupStage m gen group cfg members) (wakeAll (forEach (usableDies t) put t)) [])) ∧
    (stagedSlot t = some n → slotGen t (refDie t) n = gen.toNat → slotState t (refDie t) n = 1 → t.gen.openOwner ≠ some i →
      Refuses s m i x 0x0308 operator (.tblDescStage m gen table desc masks) stsNotOwner [])) ∧
  (∀ (s : State) (m : EmpMsg) (i d n periodMs passTicks gpn setId first table : Nat) (x : Session) (dies : BitVec 8) (tenants key : List Word)
    (value gen : Word) (values : List (BitVec 32)) (classes : List (BitVec 4)) (rs : List RegName),
    let t := taken s m i x
    let window := bitsOf (getRS t .lrnMoveCfg d (curOf t d) 0) 16 16 * 1000000
    let vs := values.map (·.toNat)
    (diesOk t dies = true → Does s m i x 0x0310 observer (.lrnStats m dies tenants) t ((diesOf dies).flatMap (fun e =>
      lrnCounters.flatMap (fun r => valueWords t r e 0) ++
        [RegName.pguardCntStorm, .pguardCntSrcBad].flatMap (fun r => (List.range 32).flatMap (valueWords t r e)) ++
        (allGpns t).flatMap (fun g => wordsOf 2 (learnedPort t e g)) ++
        tenants.flatMap (fun k => wordsOf 2 (learnedTenant t e k.toNat))))) ∧
    (1 ≤ periodMs → periodMs ≤ 60000 → 1 ≤ passTicks → passTicks ≤ 8192 → 20 ≤ periodMs * passTicks →
      (∀ e ∈ usableDies t, ∀ c, curSlot t e = some c → deepPassUs t e c (getR t (shareReg 2) e 0) ≤ periodMs * passTicks * 1000) →
      Does s m i x 0x0311 operator (.lrnAgeSet m periodMs passTicks) { t with tbl := { t.tbl with ageSet := (periodMs, passTicks) } } []) ∧
    (¬(1 ≤ periodMs ∧ periodMs ≤ 60000 ∧ 1 ≤ passTicks ∧ passTicks ≤ 8192 ∧ 20 ≤ periodMs * passTicks) →
      Refuses s m i x 0x0311 operator (.lrnAgeSet m periodMs passTicks) stsRange []) ∧
    (gpnExists t gpn = true → Does s m i x 0x0312 operator (.lrnFlushPort m gpn) (flushGpn t gpn) []) ∧
    (definedBits .lrnNotifyCtl value.toNat = true →
      Does s m i x 0x0313 operator (.lrnNotifySet m value) (setAll t .lrnNotifyCtl 0 value.toNat) []) ∧
    (openFor t i gen.toNat n →
      (0x000D ≤ setId → setId ≤ 0x0012 → setRegs setId = some rs → (∀ e ∈ usableDies t, setWriteOk t e n rs first vs = true) →
        Does s m i x 0x0314 operator (.lrnGuardStage m gen setId first values)
          (wakeAll (forEach (usableDies t) (fun s e => writeSet rs e n s first vs) t)) []) ∧
      (1 ≤ classes.length → classes.length ≤ 4096 → first + classes.length ≤ 65536 →
        Does s m i x 0x0315 operator (.lrnTenantStage m gen first classes)
          (forEach (usableDies t) (fun s e => forEach classes.zipIdx (fun s c =>
            { s with tbl := { s.tbl with tenantClass := kset s.tbl.tenantClass (tclassKey e n (first + c.2)) c.1.toNat 0 } }) s) t) [])) ∧
    (usable t d = true → Does s m i x 0x0316 observer (.lrnContestList m d) t
      (((trackerOf t d).filter (lineHeld t d window)).flatMap (fun l =>
        [nw l.tableId, nw l.key.length] ++ l.key ++ [nw l.count] ++ wordsOf 4 (l.quarUntil.getD 0)))) ∧
    (diesOk t dies = true → diesOf dies = [d] → table < 64 →
      ((∃ l ∈ trackerOf t d, l.tableId = table ∧ l.key = maskKey (curDesc t d table) key ∧ l.quarUntil.isSome = true) →
        Does s m i x 0x0317 operator (.lrnContestClear m dies table key) (endQuarantine t d table (maskKey (curDesc t d table) key)) []) ∧
      ((∀ l ∈ trackerOf t d, l.tableId = table → l.key = maskKey (curDesc t d table) key → l.quarUntil = none) →
        Does s m i x 0x0317 operator (.lrnContestClear m dies table key) t [])))


/-- From R247 to R250, R253, R255, R258 to R260: the commands of generations: one generation is open at a time, for one session; its parts are
staged, it is sealed, committed at T, cancelled or aborted; audits and repair. -/
def Obligations.GenerationCommands : Prop :=
  ∀ (s : State) (m : EmpMsg) (i n at_ setId first pdom off slot die source : Nat) (x : Session) (gen : Word) (sec : BitVec 48) (ns : BitVec 32)
    (values units : List (BitVec 32)) (records : List (List Word)) (words : List Word) (dies : BitVec 8) (policy : BitVec 32)
    (rs : List RegName) (u : State),
    let t := taken s m i x
    let r := refDie t
    let ds := usableDies t
    let vs := values.map (·.toNat)
    let T := sec.toNat * nsPerS + ns.toNat
    let mine : Prop := openFor t i gen.toNat n
    let is (st : Nat) : Prop := stagedSlot t = some n ∧ slotGen t r n = gen.toNat ∧ slotState t r n = st
    Does s m i x 0x0200 observer (.genStatus m) t ((List.range 4).flatMap (fun k => wordsOf 2 (regView t (slotReg k) r 7 0)) ++
      wordsOf 5 (regView t .genCommitT r 7 0) ++ ds.flatMap (fun d => (List.range 4).flatMap (fun k => wordsOf 2 (holdersOf t d k)))) ∧
    (m.len = 0 → stagedSlot t = none → slotIn t r 0 = some n →
      Does s m i x 0x0201 operator (.genOpen m) (openGen t i n) [nw (nextGen t), nw n]) ∧
    (m.len = 0 → stagedSlot t = some n → Refuses s m i x 0x0201 operator (.genOpen m) stsBusy []) ∧
    (m.len = 0 → stagedSlot t = none → slotIn t r 0 = none → Refuses s m i x 0x0201 operator (.genOpen m) stsGenBusy []) ∧
    (mine → setRegs setId = some rs → (∀ d ∈ ds, setWriteOk t d n rs first vs = true) → Does s m i x 0x0202 operator
      (.genRegStage m gen setId first values) (wakeAll (forEach ds (fun s d => writeSet rs d n s first vs) t)) []) ∧
    (mine → 1 ≤ records.length → records.length ≤ 34 → first + records.length ≤ 256 → (∀ w ∈ records, stagedRecordOk w = true) →
      flipGraph t n = some u → Does s m i x 0x0203 operator (.genGraphStage m gen first records) (forEach (usableDies u) (fun s d =>
        let img := slotGimg s d n
        forEach (records.flatten.zipIdx) (fun s e => setGraph s (graphKey d img (first * 128 + e.2)) e.1) s) u) []) ∧
    (mine → pdom < 16 → 1 ≤ units.length → units.length ≤ 2200 → at_ + units.length ≤ 65536 → flipProg t n = some u →
      Does s m i x 0x0204 operator (.genProgStage m gen pdom at_ units) (forEach (usableDies u) (fun s d =>
        forEach (combsFor s d n pdom) (fun s k =>
          forEach units.zipIdx (fun s e => setProg s (progKey k (slotPimg s d n) (at_ + e.2)) e.1) s) s) u) []) ∧
    (mine → pdom < 16 → 1 ≤ words.length → words.length ≤ 4400 → off + words.length ≤ 8192 →
      Does s m i x 0x0205 operator (.genConstStage m gen pdom off words) (forEach ds (fun s d =>
        forEach (combsFor s d n pdom) (fun s k =>
          forEach words.zipIdx (fun s e => setMem s (constAddr k n (off + e.2)) e.1) s) s) t) []) ∧
    (is 1 → t.gen.openOwner ≠ some i →
      Refuses s m i x 0x0202 operator (.genRegStage m gen setId first values) stsNotOwner [] ∧
      Refuses s m i x 0x0206 operator (.genSeal m gen) stsNotOwner []) ∧
    (is 2 → Refuses s m i x 0x0205 operator (.genConstStage m gen pdom off words) stsBusy []) ∧
    (mine → sealFails t n = none → Does s m i x 0x0206 operator (.genSeal m gen) (sealGen t n)
      (nw (mismatchMask t n) :: ds.flatMap (fun d => digestOf t d n))) ∧
    (is 2 → ns.toNat < nsPerS → slotMismatch t n = false → pairState t ≠ pairPaired → t.pair.joint = none →
      (stime t t.pkg.lead + leadTime t ≤ T → Does s m i x genCommitCode operator (.genCommit m gen sec ns) (armCommit t n T) []) ∧
      (T < stime t t.pkg.lead + leadTime t → Refuses s m i x genCommitCode operator (.genCommit m gen sec ns) stsTimePast [])) ∧
    (is 2 → ns.toNat < nsPerS → slotMismatch t n = true → (pairState t ≠ pairPaired ∨ secondary t = false) → t.pair.joint = none →
      Refuses s m i x genCommitCode operator (.genCommit m gen sec ns) stsDigest [nw (mismatchMask t n)]) ∧
    (is 3 → stime t r + 1000000 < commitT t r → pairState t ≠ pairPaired → t.pkg.lead < 8 →
      Does s m i x 0x0208 operator (.genCancel m gen) (disarmCommit t n) []) ∧
    (is 3 → commitT t r ≤ stime t r + 1000000 → Refuses s m i x 0x0208 operator (.genCancel m gen) stsTimePast []) ∧
    (is 1 ∨ is 2 → t.pair.joint = none → Does s m i x 0x0209 operator (.genAbort m gen) (abortGen t n 0) []) ∧
    (is 3 → Refuses s m i x 0x0209 operator (.genAbort m gen) stsBusy []) ∧
    (slot < 4 → Does s m i x 0x020A observer (.genDigestGet m slot) t (fitTo 8 0 (slotDigest t r slot).sealed ++
      ds.flatMap (fun d => fitTo 8 0 (slotDigest t d slot).recomputed ++ timeWords (slotDigest t d slot).at_))) ∧
    (diesOk t dies = true → Does s m i x 0x020B operator (.genAuditNow m dies) (forEach (diesOf dies) startAudit t) []) ∧
    (definedBits .genPolicy policy.toNat = true →
      Does s m i x 0x020C owner (.genPolicySet m policy) (setAll t .genPolicy 0 policy.toNat) []) ∧
    (die < t.pkg.n → die ≠ source → dieServes t die = true → usable t source = true → agrees t source = true →
      let v := forEach (liveSlots (repairFrom t source die) die) (fun s k =>
        setDigest s die k { slotDigest s die k with recomputed := digestOf s die k, at_ := stime s die }) (repairFrom t source die)
      agrees v die = true →
      Does s m i x 0x020D owner (.genRepair m die source) (if v.pkg.fenced.getLsbD die then unfenceDie v die else v) [])

/-- From R265, R267, R277, R281, R284, R285: the commands of buffers and queues. -/
def Obligations.BufferAndQueueCommands : Prop :=
  ∀ (s : State) (m : EmpMsg) (i cls first count pool die profile group port : Nat) (x : Session) (dies : BitVec 8) (counts owners : List Nat)
    (value : BitVec 32) (wide : BitVec 64),
    let t := taken s m i x
    let ds := diesOf dies
    let v := value.toNat
    let os := range' ((classOwners cls).2 + first) count
    let qd := pw m 0
    let qf := pw2 m 1
    let qn := pw m 3
    let vs := (List.range qn).map (fun k => valOf (pws m (4 + 4 * k) 4))
    let w := putQueues t qd qf vs
    let mc := mcMembers m
    let g := pw m 0
    let right (d f n : Nat) : Prop := permits t i (fun row => (range' (d * 262144 + f) n).all (mayQueue t t.pkg.lead row)) = true
    (diesOk t dies = true → curSlot t (refDie t) = none → counts.length = 4 → carveBytes counts ≤ 67108864 → 64 ≤ counts.getD 3 0 →
      (∀ c ∈ counts, c < 262144) → (∀ d ∈ ds, carveOk t counts d = true) → Does s m i x 0x0500 owner (.bufCarve m dies counts)
        (wakeAll (forEach ds (fun s d => forEach (List.range 4) (fun s p =>
          noteFree (setR s .bufPoolCfg d p (counts.getD p 0)) d p) s) t)) []) ∧
    (diesOk t dies = true → curSlot t (refDie t) ≠ none → Refuses s m i x 0x0500 owner (.bufCarve m dies counts) stsBusy []) ∧
    (diesOk t dies = true → 1 ≤ count → first + count ≤ (classOwners cls).1 → pool < 4 → definedBits .bufOwnCfg v = true →
      (v = 0 ∨ ∀ d ∈ ds, ∀ o ∈ os, ownerExists d o = true) → (∀ d ∈ ds, minSum (putOwners os pool v t d) d pool ≤ poolCount t d pool) →
      Does s m i x 0x0501 operator (.bufOwnerSet m dies cls first count pool value) (forEach ds (putOwners os pool v) t) []) ∧
    (diesOk t dies = true → (∀ o ∈ owners, o < 4146) → Does s m i x 0x0502 observer (.bufStatus m dies owners) t
      (ds.flatMap (fun d => (List.range 4).flatMap (fun p => wordsOf 2 (poolCount t d p) ++ wordsOf 2 (poolFree t d p) ++
        intWords 2 (poolS t d p) ++ intWords 2 (poolF t d p) ++ owners.flatMap (fun o => wordsOf 2 (ownUsed t d o p)))))) ∧
    (m.len = 4 + 4 * qn → usable t qd = true → 1 ≤ qn → qn ≤ 1024 → qf + qn ≤ 262144 →
      (right qd qf qn →
        (∀ v ∈ vs, definedBits .qmQCfg v = true) → (∀ l ∈ range' qf qn, queueOk w qd l = true) →
        ((∀ l ∈ range' qf qn, queueMoves t w (qd * 262144 + l) = false) → Does s m i x 0x0503 operator (.qmQueueSet m) w []) ∧
        ((∃ l ∈ range' qf qn, queueMoves t w (qd * 262144 + l) = true) → Refuses s m i x 0x0503 operator (.qmQueueSet m) stsBusy [])) ∧
      (¬right qd qf qn → Refuses s m i x 0x0503 operator (.qmQueueSet m) stsPriv [])) ∧
    (usable t die = true → profile < 256 → Does s m i x 0x0504 operator (.qmProfileSet m die profile value) (setR t .qmProfile die profile v) []) ∧
    (usable t die = true → group < 4096 → definedBits .qmTgCfg v = true → portFieldOk t die (v % 64) = true →
      (∀ e ∈ t.egr.written, e.1 / 262144 = die * 4 + 2 → qCfg t (die * 262144 + e.1 % 262144) % 2 = 1 →
        qGroup t (die * 262144 + e.1 % 262144) = group → qPort t (die * 262144 + e.1 % 262144) = v % 64) →
      Does s m i x 0x0505 operator (.qmTgroupSet m die group value) (markWritten (setR t .qmTgCfg die group v) die 0 group) []) ∧
    (usable t die = true → instExists .qmPortCfg die port = true → definedBits .qmPortCfg wide.toNat = true →
      (isWritten t die 2 (wide.toNat % 262144) = true → qPort t (die * 262144 + wide.toNat % 262144) = port) →
      poolCount t die (bitsOf wide.toNat 18 2) ≠ 0 →
      Does s m i x 0x0506 operator (.qmPortSet m die port wide) (markWritten (setR t .qmPortCfg die port wide.toNat) die 1 port) []) ∧
    (m.len % 2 = 1 → mc.length ≤ 2200 → (∀ q ∈ mc, qidExists t q = true ∧ usable t (qidDie q) = true) →
      (∀ d, d < 8 → (membersOn mc d).length ≤ 1023) →
      permits t i (fun row => mayMc t t.pkg.lead row && mc.all (mayQueue t t.pkg.lead row)) = true →
      (∀ d ∈ usableDies t, storeUsed t d g + (membersOn mc d).length ≤ 131072) →
      DoesWith s m i x 0x0507 operator (.qmMcSet m) (fun u ws => ws = [] ∧
        ∀ d ∈ usableDies t, d < 8 → (getGroup u d g).members = membersOn mc d ∧
          ∀ e, e < 8 → (getGroup u d g).dies.getLsbD e = decide (membersOn mc e ≠ []))) ∧
    (group < 65536 → permits t i (fun row => mayMc t t.pkg.lead row) = true → Does s m i x 0x0508 observer (.qmMcGet m group) t
      (nw (getGroup t (refDie t) group).dies.toNat :: (usableDies t).flatMap (fun d => (getGroup t d group).members.flatMap (wordsOf 2)))) ∧
    (usable t die = true → 1 ≤ count → count ≤ 65536 → first + count ≤ 262144 → right die first count →
      (∀ q ∈ busyQueues t die, ¬(first ≤ qidLocal q ∧ qidLocal q < first + count)) → Does s m i x 0x0509 operator (.qmFlush m die first count)
        (recordK t die 0x7005 (wordsOf 2 (die * 262144 + first) ++ [0, 0, 4])) []) ∧
    (usable t die = true → 1 ≤ count → count ≤ 65536 → first + count ≤ 262144 → right die first count →
      ∀ q, (busyQueues t die).filter (fun q => decide (first ≤ qidLocal q ∧ qidLocal q < first + count)) = [q] →
        let gone := discardAll t q 4 (fun _ => true)
        Does s m i x 0x0509 operator (.qmFlush m die first count)
          (recordK gone.2 die 0x7005 (wordsOf 2 (die * 262144 + first) ++ wordsOf 2 gone.1 ++ [4])) []) ∧
    (usable t die = true → 1 ≤ count → count ≤ 256 → first + count ≤ 262144 → right die first count →
      Does s m i x 0x050A observer (.qmQueueGet m die first count)
        (forEach (range' first count) (fun s l => clearOnRead s .qmQHwm die 7 l) t)
        ((range' first count).flatMap (fun l => queueRegs.flatMap (fun r => valueWords t r die l)))) ∧
    (diesOk t dies = true → Does s m i x 0x050B observer (.qmStats m dies) t (ds.flatMap (fun d =>
      (portsOf d).flatMap (fun p => portQmRegs.flatMap (fun r => valueWords t r d p)) ++
        [RegName.bufCntFreeRefused, .bufCntResetRel, .qmCntMcEmpty].flatMap (fun r => valueWords t r d 0))))

/-- From R290, R291, R297, R302 to R305, R308 to R310, R313, R489 to R492, R512: the commands of ports and lanes. -/
def Obligations.PortAndLaneCommands : Prop :=
  ∀ (s : State) (m : EmpMsg) (i gpn cls die group first profile k xoff xon : Nat) (x : Session) (gpns queues sessions samplers lanes : List Nat)
    (taps : List Int) (value : BitVec 32) (wide : BitVec 64) (values : List (BitVec 64)),
    let t := taken s m i x
    let v := value.toNat
    let d := gpnDie gpn
    let p := gpnPort gpn
    let here : Prop := portNamed t gpn = true
    let g := pw m 0
    let fc := pw m 1 % 128 + pw m 2 * 2 ^ 8 + pw m 3 * 2 ^ 16 + xoff * 2 ^ 32 + xon * 2 ^ 48
    let free (on : Prop) : Prop := ∀ c, getClaim t 5 die = some c → on → c.rank < 2
    let ld := pw m 0
    let lf := pw m 1
    let lv := pw2 m 2
    ((∀ g ∈ gpns, portNamed t g = true) →
      Does s m i x 0x0400 observer (.portStatus m gpns) t (gpns.flatMap (portStatus t)) ∧
      Does s m i x 0x0481 observer (.laneStatus m gpns) t (gpns.flatMap (laneWords t))) ∧
    (here → definedBits .egrLinkCfg v = true → bitsOf v 16 10 ≤ 1000 →
      Does s m i x 0x0401 operator (.portLinkSet m gpn value) (settlePort (setR t .egrLinkCfg d p v) gpn) []) ∧
    (portNamed t g = true → m.len = 6 → portConfigured t g = true → Nat.land (pw m 1) 0x7F80 = 0 → pw m 2 < 256 → pw m 3 < 1024 →
      (fcMarks t g (decide (pw m 1 ≥ 32768)) (pw m 4) (pw m 5) = some (xoff, xon) → xoff < 2048 → xon < 2048 → fcOk t g fc xoff xon = true →
        Does s m i x 0x0402 operator (.portFcSet m) (setPortFc t g fc) [nw xoff, nw xon]) ∧
      (fcMarks t g (decide (pw m 1 ≥ 32768)) (pw m 4) (pw m 5) = none → Refuses s m i x 0x0402 operator (.portFcSet m) stsRange [])) ∧
    (here → cls < 8 → definedBits .egrClassCfg v = true → bitsOf v 1 8 ≠ 0 →
      Does s m i x 0x0403 operator (.portClassSet m gpn cls value) (setR t .egrClassCfg d (p * 8 + cls) v) []) ∧
    (usable t die = true →
      (group < 4096 → definedBits .egrTgSched v = true → v ≠ 0 →
        Does s m i x 0x0404 operator (.portTgSet m die group value) (setR t .egrTgSched die group v) []) ∧
      (1 ≤ values.length → values.length ≤ 1024 → first + values.length ≤ 262144 → (∀ y ∈ values, qSchedOk y.toNat = true) →
        permits t i (fun row => (range' (die * 262144 + first) values.length).all (mayQueue t t.pkg.lead row)) = true →
        Does s m i x 0x0405 operator (.portQschedSet m die first values)
          (forEach values.zipIdx (fun s e => setQSched s die (first + e.2) e.1.toNat) t) []) ∧
      (profile < 16 → definedBits .egrEcnProf wide.toNat = true → bitsOf wide.toNat 16 16 < bitsOf wide.toNat 32 16 →
        Does s m i x 0x0406 operator (.portEcnSet m die profile wide) (setR t .egrEcnProf die profile wide.toNat) []) ∧
      (k < 8 → bitsOf v 8 3 ≤ 4 → sourcePort die (bitsOf v 2 6) = true → qidExists t (bitsOf v 11 21) = true →
        free (v % 2 = 1 ∧ fieldR t .egrMirCfg die k 0 1 = 0) →
        Does s m i x 0x0407 owner (.portMirrorSet m die k value) (holdCopier (setR t .egrMirCfg die k v) die 0x0407 (sessionId i)) []) ∧
      (k < 64 → smpOk die wide.toNat = true →
        (wide.toNat % 2 = 0 → Does s m i x 0x0408 operator (.portSampleSet m die k wide)
          (holdCopier (setR t .egrSmpCfg die k wide.toNat) die 0x0408 (sessionId i)) []) ∧
        (wide.toNat % 2 = 1 → fieldR t .egrSmpCfg die k 0 1 = 0 → free True → Does s m i x 0x0408 operator (.portSampleSet m die k wide)
          (holdCopier (setR (setSampler t die k { Machine.sampler t die k with count := firstCount t die wide.toNat }) .egrSmpCfg die k
            wide.toNat) die 0x0408 (sessionId i)) [])) ∧
      ((∀ l ∈ lanes, l < 32) → taps.length < 65536 →
        ((∀ l ∈ lanes, laneTrains t die l = false) →
          Does s m i x 0x0482 operator (.laneTuneSet m die lanes taps) (forEach lanes (setTaps taps die) t) []) ∧
        ((∃ l ∈ lanes, laneTrains t die l = true) → Refuses s m i x 0x0482 operator (.laneTuneSet m die lanes taps) stsBusy []))) ∧
    ((∀ g ∈ gpns, portNamed t g = true) → (∀ q ∈ queues, qidExists t q = true ∧ usable t (qidDie q) = true) →
      (∀ k ∈ sessions, usable t (k / 8) = true) → (∀ k ∈ samplers, usable t (k / 64) = true) →
      Does s m i x 0x0409 observer (.portStats m gpns queues sessions samplers) t (gpns.flatMap (portCounters t) ++
        queues.flatMap (fun q => [RegName.egrCntEcnMark, .egrCntEcnNotect].flatMap (fun r => valueWords t r (qidDie q) (qidLocal q))) ++
        sessions.flatMap (fun k => [RegName.egrCntMir, .egrCntMirSkip].flatMap (fun r => valueWords t r (k / 8) (k % 8))) ++
        samplers.flatMap (fun k => [RegName.egrCntSmp, .egrCntSmpSkip].flatMap (fun r => valueWords t r (k / 64) (k % 64))))) ∧
    (m.len = 4 → ld < 8 → lf < 32 → usable t ld = true → portCfgOk lv = true → spanFree t ld lf (lv % 16) = true →
      (laneBusy t ld lf (lv % 16) = false → Does s m i x 0x0480 operator (.lanePortSet m) (setLanePort t ld lf lv m.session) []) ∧
      (laneBusy t ld lf (lv % 16) = true → Refuses s m i x 0x0480 operator (.lanePortSet m) stsBusy [])) ∧
    (here → portConfigured t gpn = true →
      (fieldR t .egrLinkCfg d p 0 1 = 0 → DoesWith s m i x 0x0483 operator (.lanePrbs m gpn) (fun u ws =>
        ws.length = 4 * (lanesOf t gpn).length ∧ ∃ n, u = { t with free := n })) ∧
      (fieldR t .egrLinkCfg d p 0 1 = 1 → Refuses s m i x 0x0483 operator (.lanePrbs m gpn) stsBusy []))

/-- From R365 to R368, R356, R374: sessions: how one opens under a key slot after a nonce, what its commands do, how it ends; SES_HELLO and
SES_OPEN are not commands of a session, and are refused, as eight failures in 60 s bar SES_OPEN. -/
def Obligations.SessionCommands : Prop :=
  ∀ (s : State) (m : EmpMsg) (i j slot priv : Nat) (x y : Session) (code other : Word) (wrapped : BitVec 256) (value : BitVec 80),
    let t := taken s m i x
    let head : Prop := mailboxUp s m = true ∧ empFrameCheck s m 0x0100 true = none
    let head' : Prop := mailboxUp s m = true ∧ empFrameCheck s m 0x0101 true = none
    let u := startCmd s
    let asked := pw m 0 % 16
    let want := pw m 0 / 256 % 4
    let k := keySlot s asked
    let np := BitVec.ofNat 128 (valOf (pws m 1 8))
    let spent : State := { u with kpr := { u.kpr with nonces := u.kpr.nonces.filter (fun n => decide (n.1 ≠ np)) } }
    let known : Prop := (keySlot s 0).priv ≠ 0 ∧ k.priv ≠ 0 ∧ empTag k.key (empCovered m 0x0101) = m.tag
    let form : Prop := m.len = 17 ∧ Nat.land (pw m 0) 0x7CF0 = 0 ∧ m.w0.toNat / 256 % 4 = 0
    let fresh : Prop := ∃ n ∈ s.kpr.nonces, n.1 = np ∧ leadMono s < n.2 + 10 * nsPerS
    (head → startLimit s = false → m.len = 0 → m.w0.toNat / 256 % 4 = 0 → exec (.sesHello m) s =
      .next (sendReply { u with free := s.free + 1, kpr := { u.kpr with nonces := s.kpr.nonces ++ [(Config.nonce s.free, leadMono s)] } } m
        0x0100 m.session none stsOk false (wordsOf 8 (Config.nonce s.free).toNat))) ∧
    (head → startLimit s = true → exec (.sesHello m) s =
      .next (sendReply (kcnt s .kprCntBusy) m 0x0100 m.session none stsBusy false [])) ∧
    (mailboxUp s m = false → exec (.sesHello m) s = .next s ∧ exec (.sesOpen m) s = .next s) ∧
    (head' → failLimit s = true → exec (.sesOpen m) s = .next (sendReply (kcnt s .kprCntBusy) m 0x0101 m.session none stsBusy false [])) ∧
    (head' → failLimit s = false → ¬known →
      exec (.sesOpen m) s = .next (noteFail (sendReply (authFail s m (nw asked)) m 0x0101 m.session none stsAuth false []))) ∧
    (head' → failLimit s = false → known → startLimit s = false → form → ¬(fresh ∧ 1 ≤ want ∧ want ≤ k.priv) →
      exec (.sesOpen m) s = .next (noteFail (sendReply spent m 0x0101 m.session none stsAuth false []))) ∧
    (head' → failLimit s = false → known → startLimit s = false → form → fresh → 1 ≤ want → want ≤ k.priv → ownerSession s = none →
      (sessionsOf s want < sessionMax want → (range' 1 41).find? (fun i => (session s i).isNone) = some j →
        exec (.sesOpen m) s = .next (openSession spent m j asked want)) ∧
      (sessionMax want ≤ sessionsOf s want →
        exec (.sesOpen m) s = .next (noteFail (sendReply spent m 0x0101 m.session (some k.key) stsBusy false [])))) ∧
    (m.len = 0 → Accepted s m 0x0102 observer i x →
      exec (.sesClose m) s = .next (endSession (answered t m 0x0102 i x stsOk []) i 1)) ∧
    (m.len = 0 → Does s m i x 0x0103 observer (.sesPing m) t []) ∧
    (m.len ≠ 0 → Refuses s m i x 0x0103 observer (.sesPing m) stsRange []) ∧
    (m.len = 9 → Nat.land (pw m 0) 0xFF01 = 0 → valOf (pws m 1 8) < 65536 → session t i = some y →
      Does s m i x 0x0104 observer (.sesSubscribe m)
        (setSession t i (some { y with mask := nw (pw m 0), filter := nw (valOf (pws m 1 8)) })) []) ∧
    (m.len = 0 → Does s m i x 0x0105 observer (.sesList m) t ((openSessions t).flatMap (fun e =>
      [sesIdOf e.1 e.2, nw e.2.priv, nw e.2.keySlot, nw (e.2.port - 256)] ++ macWords e.2.addr ++
        [nw (min 65535 ((leadMono t - e.2.idleSince) / nsPerS))]))) ∧
    (findSession t other = some (j, y) → j ≠ i → Does s m i x 0x0106 owner (.sesEndOther m other) (endSession t j 2) []) ∧
    (findSession t other = none → Refuses s m i x 0x0106 owner (.sesEndOther m other) stsRange []) ∧
    (session t i = some y → (slot = 0 ∧ priv = 3) ∨ (1 ≤ slot ∧ slot ≤ 15 ∧ 1 ≤ priv ∧ priv ≤ 2) →
      Does s m i x 0x0107 owner (.sesKeySet m slot priv wrapped)
        (recordK (setKeySlot t slot ⟨priv, wrapped ^^^ keyPad y.key slot m.seq⟩) t.pkg.lead 0x0006 [nw slot, nw priv, m.session]) []) ∧
    (session t i = some y → 1 ≤ slot → slot ≤ 15 → Does s m i x 0x0107 owner (.sesKeySet m slot 0 wrapped)
      (recordK (setKeySlot t slot ⟨0, 0⟩) t.pkg.lead 0x0006 [nw slot, 0, m.session]) []) ∧
    (mgmtOk value.toNat = true → Accepted s m 0x0108 owner i x → exec (.sesMgmtSet m value) s =
      .next (setR (setR (answered t m 0x0108 i x stsOk []) .kprMgmtCfg 0 0 value.toNat) .kprMgmtCfg 1 0 value.toNat)) ∧
    (mgmtOk value.toNat = false → Refuses s m i x 0x0108 owner (.sesMgmtSet m value) stsRange []) ∧
    (knownCode code.toNat = false → mailboxUp s m = true → empFrameCheck s m code.toNat false = none → findSession s m.session = some (i, x) →
      empTag x.key (empCovered m code.toNat) = m.tag → seqKind x.hi x.seen m.seq = .new → exec (.empUnknownCmd m code) s =
        .next (reply (setSession s i (some (acceptSeq x (leadMono s) m.port m.src m.vlan m.seq m.tag))) m code.toNat i x.key stsUnknown []))

/-- From R96, R334 to R336, R376 to R383, R392 to R396: register access, claims, locks of sessions and the access map. -/
def Obligations.RegisterClaimAndMapCommands : Prop :=
  ∀ (s : State) (m : EmpMsg) (i die unit queue block first cls index value lock : Nat) (x : Session) (a : RegArgs) (req : BitVec 2) (c : Claim)
    (policy : BitVec 32) (rows : List Nat),
    let t := taken s m i x
    let w := regWords a.reg
    let vs := (List.range a.count).map (fun k => valOf (pws m (6 + k * w) w))
    let iv := (range' a.first vs.length).zip vs
    let shows (k : Nat) : List Word := wordsOf w (if instExists a.reg a.die k then regView t a.reg a.die a.slot k else 0)
    let mine := sessionId i
    let got : Claim := ⟨1, 0x0F01, mine, value, none⟩
    let sets := chunks 48 19 (pws m 0 m.len)
    let v := forEach (mapDies t) (fun s d => switchMap s m.session sets d) t
    let freed := (allDies v).filter (fun d => v.kpr.mapFenced.getLsbD d && !mapSick v d && decide (mapDigest v d = mapDigest v v.pkg.lead))
    (regArgs t m = some a → m.len = 6 →
      (a.noclear = true → Does s m i x 0x0E00 observer (.regRead m) t ((range' a.first a.count).flatMap shows)) ∧
      (a.noclear = false → a.count = 1 →
        Does s m i x 0x0E00 observer (.regRead m) (clearOnRead t a.reg a.die a.slot a.first) (shows a.first))) ∧
    (regArgs t m = none → Refuses s m i x 0x0E00 observer (.regRead m) stsRange []) ∧
    (regArgs t m = some a → m.len = 6 + a.count * w → a.noclear = false →
      (a.reg.spec.writable = true → (∀ e ∈ iv, writeRule t a.reg a.die e.1 e.2 = stsOk) →
        Does s m i x 0x0E01 operator (.regWrite m) (forEach iv (fun s e => writeReg s a.reg a.die e.1 e.2) t) []) ∧
      (a.reg.spec.writable = false → Refuses s m i x 0x0E01 operator (.regWrite m) stsRange [])) ∧
    (usable t die = true → unit < 339 → req ≠ 3 → spareUnit t die unit = false →
      (req = 0 ∨ unitHeld t die unit = false →
        Does s m i x 0x0E01 operator (.bankPwrReq m die unit req) (setField t .memBankPwr die unit 0 2 req.toNat) []) ∧
      (req ≠ 0 → unitHeld t die unit = true → Refuses s m i x 0x0E01 operator (.bankPwrReq m die unit req) stsBusy [])) ∧
    (usable t die = true → unit < 339 → spareUnit t die unit = true →
      Refuses s m i x 0x0E01 operator (.bankPwrReq m die unit req) stsRange []) ∧
    (usable t die = true → queue < 128 → Does s m i x 0x0E01 operator (.wqHistArm m die queue)
      (forEach (List.range 16) (fun s b => setR s (histReg b) die queue 0) (setR t .dispWqHistCtl die queue 1)) []) ∧
    (first < (blockRegs block).length → Does s m i x 0x0E02 observer (.regList m block first) t
      ((if first + 200 < (blockRegs block).length then nw (first + 200) else 0xFFFF) ::
        ((((blockRegs block).zip (List.range (blockRegs block).length)).drop first).take 200).flatMap (fun e => listEntry e.2 e.1))) ∧
    Does s m i x 0x0F00 observer (.claimList m) t ((heldClaims t).flatMap (fun e =>
      conflictWords e.1 e.2.1 e.2.2 ++ wordsOf 2 e.2.2.value)) ∧
    (claimOk t cls index value = true → (cls = 6 → shareRefused t index value = none) →
      (getClaim t cls index = none → Does s m i x 0x0F01 owner (.claimSet m cls index value)
        (wakeAll (claimChanged (setClaim t cls index (some got)) cls index 1 mine)) []) ∧
      (getClaim t cls index = some c → 1 ≤ c.rank →
        Refuses s m i x 0x0F01 owner (.claimSet m cls index value) stsConflict (conflictWords cls index c))) ∧
    (getClaim t cls index = some c → c.rank = 1 → Does s m i x 0x0F02 owner (.claimFree m cls index) (freeClaim t cls index) []) ∧
    (getClaim t cls index = some c → c.rank ≠ 1 →
      Refuses s m i x 0x0F02 owner (.claimFree m cls index) stsConflict (conflictWords cls index c)) ∧
    (definedBits .kprClaimPolicy policy.toNat = true → Does s m i x 0x0F03 owner (.claimPolicySet m policy)
      (refreshAllGuar (setAll t .kprClaimPolicy 0 policy.toNat)) []) ∧
    (usable t die = true → lock < 4096 →
      ((sessionLocks t i).length < 64 →
        Does s m i x 0x0F10 operator (.claimLockAcq m die lock) (acquireLock t die lock mine).2 [(acquireLock t die lock mine).1]) ∧
      (64 ≤ (sessionLocks t i).length → Refuses s m i x 0x0F10 operator (.claimLockAcq m die lock) stsNoRoom []) ∧
      ((getLock t die lock).owner = some mine → Does s m i x 0x0F11 operator (.claimLockRel m die lock) (freeLock t die lock false) []) ∧
      ((getLock t die lock).owner ≠ some mine → Refuses s m i x 0x0F11 operator (.claimLockRel m die lock) stsNotOwner [])) ∧
    Does s m i x 0x0F12 observer (.claimLockList m) t ((openSessions t).flatMap (fun e =>
      (sessionLocks t e.1).flatMap (fun l => [sesIdOf e.1 e.2, nw l.1, nw l.2]))) ∧
    (1 ≤ rows.length → rows.length ≤ 18 → (∀ r ∈ rows, r < 18) →
      Does s m i x 0x0B00 observer (.mapGet m rows) t (rows.flatMap (mapRow t t.pkg.lead))) ∧
    (1 ≤ sets.length → sets.length ≤ 18 → (∀ r ∈ sets, rowOk r = true) →
      distinctNat (sets.map (fun r => (wordAt r 0).toNat % 32)) = true →
      Does s m i x 0x0B01 owner (.mapSet m) (forEach freed unfenceDie v) []) ∧
    Does s m i x 0x0B02 observer (.mapDigestGet m) t ((usableDies t).flatMap (fun d =>
      let e := kget t.kpr.mapDigests d ([], 0)
      fitTo 8 0 e.1 ++ timeWords e.2)) ∧
    Does s m i x 0x0B03 operator (.mapAuditNow m) (forEach (usableDies t) mapAudit t) []

/-- From R315, R319, R320, R323, R328, R331, R349, R407, R410, R413, R422, R426, R435, R436: the commands of tally, of faults and of inspection. -/
def Obligations.TallyFaultAndInspectionCommands : Prop :=
  ∀ (s : State) (m : EmpMsg) (i first count rate burst kind die failStep unit cursor base blocks n : Nat) (x : Session)
    (closeCtl : BitVec 32) (retain : BitVec 64) (dies combs : BitVec 8) (seq value : BitVec 32) (tenant : Word) (egress preserving : Bool)
    (shares bad : List Nat) (groups : BitVec 3),
    let t := taken s m i x
    let ds := diesOf dies
    let v := value.toNat
    let cc := closeCtl.toNat
    let dir := if egress then 1 else 0
    let set := setAll (setAll t .tallyCloseCtl 0 cc) .tallyRetainCfg 0 retain.toNat
    let tal := { set with tal := { set.tal with partialNext := set.tal.partialNext || (!talOn t && decide (cc % 2 = 1)) } }
    let mine (tn : Nat) : Prop := permits t i (fun row => mayTenant t t.pkg.lead row tn) = true
    let again := t.tal.batches.filter (fun b => seqReaches b.seq seq)
    let l := repairsOf die t.insp.soft
    let used := kget t.insp.fuses die 0
    let res := ((kget t.insp.results die []).reverse).drop cursor
    let hit := bad.filter (fun b => decide (base ≤ b ∧ b < base + blocks))
    (talCfgOk t cc retain.toNat = true → Does s m i x 0x0600 owner (.talCfg m closeCtl retain)
      (makeRoom tal.tal.batches.length (moveSettle (settleNs t) tal)) []) ∧
    (talCfgOk t cc retain.toNat = false → Refuses s m i x 0x0600 owner (.talCfg m closeCtl retain) stsRange []) ∧
    (diesOk t dies = true → Does s m i x 0x0601 observer (.talStatus m dies) t (wordsOf 2 (t.tal.nextSeq - 1).toNat ++
      wordsOf 3 (minuteStart t t.tal.lastMinute).toNat ++ wordsOf 2 (oldestSeq t).toNat ++
      ds.flatMap (fun d => talCounters.flatMap (fun r => wordsOf 4 (getR t r d 0))))) ∧
    Does s m i x 0x0602 operator (.talAck m seq)
      { t with tal := { t.tal with batches := t.tal.batches.filter (fun b => !seqReaches seq b.seq) } } [] ∧
    (seqReaches seq (oldestSeq t) = true → (∀ b ∈ again, batchPoison t b = false) →
      Does s m i x 0x0603 operator (.talResend m seq) (forEach again resendBatch t) []) ∧
    (seqReaches seq (oldestSeq t) = false → Refuses s m i x 0x0603 operator (.talResend m seq) stsRange []) ∧
    (diesOk t dies = true →
      (mine tenant.toNat →
        Does s m i x 0x0604 observer (.talRead m dies tenant) t
          (ds.flatMap (fun d => (openCounts t d tenant.toNat).toList.flatMap (fun v => wordsOf 4 v.toNat))) ∧
        Does s m i x 0x0606 observer (.talPolGet m dies tenant) t (ds.flatMap (fun d => [0, 1].flatMap (fun k =>
          wordsOf 4 (polReg t d tenant.toNat k) ++ wordsOf 2 (polTokens t d tenant.toNat k / 1000000))))) ∧
      (¬mine tenant.toNat → Refuses s m i x 0x0604 observer (.talRead m dies tenant) stsPriv [])) ∧
    (1 ≤ count → first + count ≤ 65536 → 1 ≤ burst → burst ≤ 65535 → sharesOk t shares = true →
      (∀ k ∈ shares, polRate rate k < 16777216) → permits t i (fun row => (range' first count).all (mayTenant t t.pkg.lead row)) = true →
      Does s m i x 0x0605 operator (.talPolSet m first count egress rate burst shares) (forEach (usableDies t) (fun s d =>
        forEach (range' first count) (putPolicer dir (1 + polRate rate (shares.getD d 0) * 256 + burst * 4294967296) d) s) t) []) ∧
    (diesOk t dies = true → Does s m i x 0x09C0 observer (.fltStatus m dies) t (ds.flatMap (fltWords t))) ∧
    (kind < 5 → v % 256 ≠ 0 → 1 ≤ v / 256 → v / 256 ≤ 86400 →
      Does s m i x 0x09C1 owner (.fltThreshSet m kind value) (setAll t .fltThresh kind v) []) ∧
    (die < t.pkg.n → usable t die = false → t.pkg.fenced.getLsbD die = false → failStep ≤ 4 →
      (genStaged t = true → Refuses s m i x 0x09C2 owner (.fltDieRestore m die failStep) stsBusy []) ∧
      (genStaged t = false → t.flt.tripped.getLsbD die = false →
        (restoreDie t die failStep).1 = n →
        (n = 0 → Does s m i x 0x09C2 owner (.fltDieRestore m die failStep) (restoreDie t die failStep).2 []) ∧
        (n ≠ 0 → Accepted s m 0x09C2 owner i x → exec (.fltDieRestore m die failStep) s =
          .next (answered (restoreDie t die failStep).2 m 0x09C2 i x stsDegraded [nw n])))) ∧
    (diesOk t dies = true → DoesWith s m i x 0x0900 observer (.inspStatus m dies) (fun u ws => u = t ∧ ws.length = 34 * ds.length)) ∧
    (10 ≤ v % 1024 → v % 1024 ≤ 850 → 100 ≤ bitsOf v 10 11 → bitsOf v 10 11 ≤ 2000 → v < 2 ^ 23 →
      Does s m i x 0x0901 owner (.inspCfgSet m value) (refreshAllGuar (forEach (allDies (setAll t .inspCfg 0 v)) (fun s d =>
        match getSched s d entInspect with
        | some e => setSched s d entInspect (some { e with period := v % 1024 * 1000 })
        | none => s) (setAll t .inspCfg 0 v))) []) ∧
    (usable t die = true →
      Does s m i x 0x0902 owner (.inspStop m die combs groups) (setStops t die combs groups true) [] ∧
      Does s m i x 0x0903 owner (.inspStart m die combs groups) (setStops t die combs groups false) [] ∧
      (195 ≤ unit → unit < 339 → unitHeld t die unit = true →
        Refuses s m i x 0x0904 operator (.inspMarch m die unit preserving .pass) stsBusy []) ∧
      (unit < 339 → unitHeld t die unit = false → isSpareBank unit = false → (unit < 195 → bankStep t die = none) →
        (preserving = true → unitState t die unit ≠ 2) →
        let r := marchFree t die unit preserving []
        let u := recordK r.2 die 0xB005 [nw unit, if preserving then 1 else 0, nw r.1]
        Does s m i x 0x0904 operator (.inspMarch m die unit preserving .pass) u ((kget u.insp.results die []).getLast?.getD [])) ∧
      Does s m i x 0x0905 observer (.inspResult m die cursor) t
        ((if res.length > 64 then nw (cursor + 64) else 0xFFFF) :: (res.take 64).flatten) ∧
      Does s m i x 0x0906 observer (.inspRepairList m die) t
        ((nw l.length :: l.flatMap (fun e => [nw e.1, nw e.2])) ++
          (nw (repairsOf die t.insp.fused).length :: (repairsOf die t.insp.fused).flatMap (fun e => [nw e.1, nw e.2]))) ∧
      (256 < used + l.length → Refuses s m i x 0x0907 owner (.inspFuse m die) stsNoRoom []) ∧
      (used + l.length ≤ 256 → DoesWith s m i x 0x0907 owner (.inspFuse m die) (fun u ws => ws = [] ∧
        repairsOf die u.insp.soft = [] ∧ u.insp.fused = t.insp.fused ++ l.map (fun e => (die, e)) ∧ kget u.insp.fuses die 0 = used + l.length)) ∧
      (blocks ≠ 0 → base + blocks ≤ dieBlocks t die →
        permits t i (fun row => mayDram t t.pkg.lead row (base / 64) ((base % 64 + blocks + 63) / 64)) = true →
        (dramBusy t die base blocks = true → Refuses s m i x 0x0908 operator (.inspDram m die base blocks bad) stsBusy []) ∧
        (dramBusy t die base blocks = false → Does s m i x 0x0908 operator (.inspDram m die base blocks bad)
          (forEach hit (fun s b => pushResult s die (dramResult die b 2)) (cleanBlocks t die base blocks))
          (wordsOf 2 hit.length ++ hit.flatMap (wordsOf 2)))))

/-- From R439 to R455, R461, R463, R465 to R470, R472 to R487: the commands of the recorder, of the Keeper's firmware and of the pair. -/
def Obligations.RecorderFirmwareAndPairCommands : Prop :=
  ∀ (s : State) (m : EmpMsg) (i index count die cursor offset portA portB table first : Nat) (x y : Session) (codes words record : List Word)
    (rate pairId : Word) (burst : Nat) (dies : BitVec 8) (older secondary : Bool) (value : BitVec 32) (im : NvImage) (wrapped : BitVec 256)
    (gpns : List (Option Nat)),
    let t := taken s m i x
    let lead := t.pkg.lead
    let v := value.toNat
    let spare := fwSlot t 0 (spareSlot t)
    let w := { t with boot := { t.boot with verified := false } }
    let erased := if offset = 0 then bothSlots w (spareSlot w) (fun _ => erasedSlot) else w
    let trial := bothSlots t (spareSlot t) (fun z => { z with state := 0xFFFC })
    let quiet := forEach (usableDies trial) dropKeeperLocks trial
    let d := pw m 1
    let comb := d * 8 + pw m 2
    let cell := comb * 32 + pw m 3
    let out := withdrawDie (resetRecord t 2 d 0 m.session) d
    let dead := dieReset (settlePorts { out with pkg := { out.pkg with usable := out.pkg.usable &&& ~~~BitVec.ofNat 8 (2 ^ d) } } d) d
    let back := match donorDie dead d with | some e => repairFrom dead e d | none => dead
    let front (g : Nat) : Prop := frontPort t g = true ∧ 400 ≤ portRate t g
    let put := forEach gpns.zipIdx (fun s e => { s with pair := { s.pair with groups := kset s.pair.groups (first + e.2) e.1 none } }) t
    Does s m i x 0x0800 observer (.recStatus m) t (wordsOf 2 (getR t .recCfg lead 0) ++ wordsOf 2 (logStat t) ++
      wordsOf 2 (firstSeq t).toNat ++ wordsOf 2 (if t.log.nextSeq = 0 then 0xFFFFFE else (t.log.nextSeq - 1).toNat) ++
      (usableDies t).flatMap (fun e => wordsOf 4 (getR t .recCntSupp e 0) ++ wordsOf 2 (getR t .recCntDieLost e 0)) ++
      wordsOf 2 (getR t .recCntNotrec lead 0) ++ wordsOf 2 (getR t .recCntFlush lead 0) ++ (validImages t).flatMap (fun z =>
        wordsOf 2 z.image.toNat ++ wordsOf 4 (z.time / nsPerS % 2 ^ 34 * 2 ^ 30 + z.time % nsPerS) ++ [nw z.reason])) ∧
    (1 ≤ count → count ≤ 128 → index < 65536 → Does s m i x 0x0801 observer (.recRead m index count) t
      (wordsOf 2 (firstSeq t).toNat ++ [nw (t.log.clears % 4096)] ++ ((t.log.log.drop index).take count).flatMap recWords)) ∧
    (t.log.flush = none → Does s m i x 0x0802 owner (.recClear m) (recordK
      (setR { t with log := { t.log with log := [], stopped := false, clears := t.log.clears + 1 } } .recCntNotrec lead 0 0) lead 0xF001
        ([m.session] ++ wordsOf 2 t.log.log.length ++ wordsOf 2 (getR t .recCntNotrec lead 0))) []) ∧
    (t.log.flush ≠ none → Refuses s m i x 0x0802 owner (.recClear m) stsBusy []) ∧
    Does s m i x 0x0803 operator (.recFlush m) (requestFlush t 3) [] ∧
    (codes ≠ [] → codes.length ≤ 256 → (∀ c ∈ codes, c.toNat < 0xF000) → 1 ≤ burst → burst ≤ 4096 →
      Does s m i x 0x0804 operator (.recRateSet m codes rate burst) (forEach (allDies t) (fun s d => forEach codes (fun s c =>
        setRateBucket s d c ⟨rate.toNat, burst, burst, mono s d, (rateBucket s d c).supp⟩) s) t) []) ∧
    (diesOk t dies = true → codes ≠ [] → codes.length ≤ 256 → Does s m i x 0x0805 observer (.recRateGet m dies codes) t
      ((diesOf dies).flatMap (fun d => codes.flatMap (fun c =>
        let b := rateBucket t d c
        [nw b.rate, nw b.burst] ++ wordsOf 2 b.supp)))) ∧
    ((validImages t)[if older then 1 else 0]? = some im → cursor ≤ im.records.length → Does s m i x 0x0806 observer (.recNvRead m older cursor) t
      (wordsOf 2 (if cursor + 128 < im.records.length then cursor + 128 else 0xFFFFFFFF) ++
        ((im.records.drop cursor).take 128).flatMap recWords)) ∧
    (usable t die = true → Does s m i x 0x0807 observer (.recDieRead m die) t ((dieBuf t die).flatMap recWords)) ∧
    (definedBits .recCfg v = true → 1 ≤ bitsOf v 0 11 → bitsOf v 0 11 ≤ 1440 →
      Does s m i x 0x0808 owner (.recCfgSet m value) (placeCheckpoint (setR (setR t .recCfg 0 0 v) .recCfg 1 0 v)) []) ∧
    (m.len = 0 → bootDegraded t = false → DoesWith s m i x 0x0A00 observer (.fwStatus m) (fun u ws => u = t ∧
      ws.drop (2 * (allDies t).length) = [t.boot.image.1] ++ wordsOf 2 t.boot.image.2.toNat ++ headerWords (fwSlot t lead 0) ++
        headerWords (fwSlot t lead 1))) ∧
    (1 ≤ words.length → words.length ≤ 4400 → offset % 2 = 0 → offset + 2 * words.length ≤ 4194304 →
      Does s m i x 0x0A01 owner (.fwLoad m offset words) (bothSlots erased (spareSlot erased) (writeImage (offset / 2) words)) []) ∧
    (spare.state = 0xFFFE → fwSlot t 1 (spareSlot t) = spare → imageValid spare = true → Does s m i x 0x0A02 owner (.fwVerify m)
      { t with boot := { t.boot with verified := true } } (spare.release :: wordsOf 2 spare.imageSeq.toNat)) ∧
    (imageValid spare = false → Refuses s m i x 0x0A02 owner (.fwVerify m) stsRange []) ∧
    (m.len = 0 → genStaged t = false → t.boot.verified = true → Accepted s m 0x0A03 owner i x → exec (.fwActivate m) s =
      .next { quiet with boot := { quiet.boot with verified := false, activating := some ⟨leadMono quiet, 0, false, i, m⟩ } }) ∧
    (m.len = 0 → t.boot.verified = false → Refuses s m i x 0x0A03 owner (.fwActivate m) stsBusy []) ∧
    (pw m 0 = 1 → Accepted s m 0x0A04 owner i x →
      exec (.fwResetPackage m) s = .next (warmReset (answered (sendDown t) m 0x0A04 i x stsOk []) m.session)) ∧
    (pw m 0 = 2 → usable t d = true →
      (d = lead → Refuses s m i x 0x0A04 owner (.fwResetDie m) stsRange []) ∧
      (d ≠ lead → genStaged t = false → agrees back d = true → Does s m i x 0x0A04 owner (.fwResetDie m) (joinDie back d) [])) ∧
    (pw m 0 = 3 → usable t d = true → pw m 2 < 8 → Does s m i x 0x0A04 owner (.fwResetComb m)
      (resetRecord (modComb (forEach (combCells comb) cellReset t) comb (fun z => { freshComb with
        next := z.next, abandoned := z.abandoned || z.claim.isSome })) 3 d (pw m 2) m.session) []) ∧
    (pw m 0 = 4 → usable t d = true → pw m 2 < 8 → pw m 3 < 17 → (getCell t cell).retired = false →
      Does s m i x 0x0A04 owner (.fwResetCell m) (resetRecord (cellReset t cell) 4 d (cell * 8) m.session) []) ∧
    (m.len = 0 → Does s m i x 0x0A05 observer (.fwBcrGet m) t ((List.range 2048).map (bcrWord t))) ∧
    (record.length = 2048 → DoesWith s m i x 0x0A06 owner (.fwBcrSet m record) (fun u ws => ws = [] ∧
      ∀ k, k < 2048 → bcrWord u k = record.getD k 0)) ∧
    (m.len = 0 → Accepted s m 0x0A07 owner i x → exec (.fwUnclaim m) s = .next (unclaim (answered t m 0x0A07 i x stsOk []))) ∧
    (t.pair.partner = none → Does s m i x 0x0C00 observer (.pairStatus m) t (wordsOf 5 (pairCfg t) ++
      wordsOf 2 (getR t .pairStatus lead 0) ++ [0, 0, 0, 0, 0] ++ (usableDies t).flatMap (fun e =>
        [RegName.pairCntHbTx, .pairCntHbRx, .pairCntAuthFail, .pairCntCkptTx, .pairCntCkptRx].flatMap (fun r => wordsOf 4 (getR t r e 0))))) ∧
    (session t i = some y → pairState t = pairOff → front portA → front portB → gpnDie portA ≠ gpnDie portB → groupTableOk t table = true →
      let set := setAll (freshPair t (wrapped ^^^ keyPad y.key 16 m.seq)) .pairCfg 0 (pairCfgValue portA portB secondary pairId table)
      Does s m i x 0x0C01 owner (.pairSet m portA portB secondary pairId table wrapped)
        (setPairState (placeHeartbeats (recordK set set.pkg.lead 0x0006 [16, 0, m.session])) pairForming 5) []) ∧
    (session t i = some y → pairState t ≠ pairOff →
      Refuses s m i x 0x0C01 owner (.pairSet m portA portB secondary pairId table wrapped) stsBusy []) ∧
    (pairState t = pairOff → Does s m i x 0x0C02 owner (.pairLeave m) t []) ∧
    (pairState t ≠ pairOff → DoesWith s m i x 0x0C02 owner (.pairLeave m) (fun u ws => ws = [] ∧ u.pair.key = 0 ∧ u.pair.partner = none ∧
      u.pair.joint = none ∧ u.pair.groups = t.pair.groups ∧
      (u.pkg.n ≤ 8 → ∀ d, d < u.pkg.n → getR u .pairCfg d 0 = 0 ∧ getR u .pairStatus d 0 = 0))) ∧
    (pairState t = pairIsolated → Does s m i x 0x0C03 owner (.pairTakeover m) (setPairState t pairFailed 5) []) ∧
    (pairState t ≠ pairIsolated → Refuses s m i x 0x0C03 owner (.pairTakeover m) stsBusy []) ∧
    (gpns ≠ [] → first + gpns.length ≤ 1024 →
      (∀ g, some g ∈ gpns → frontPort t g = true ∧ (pairOn t = true → g ∉ pairPorts t)) → pairState t < pairIsolated →
      Does s m i x 0x0C04 operator (.pairGroupSet m first gpns)
        (if pairOn t then forEach (range' first gpns.length) putGroup put else put) []) ∧
    Does s m i x 0x0C05 observer (.pairGroupList m) t (t.pair.groups.flatMap (fun e =>
      match e.2 with
      | some g => nw e.1 :: groupAction t e.1 g ++ [if e.1 ∈ t.pair.members then 1 else 0]
      | none => []))

/-! ## Generations, memories, faults, inspection, recorder, resets, the TAP, the pair -/

/-- From R254 to R259, R396: a commit that STIME reaches makes the PENDING slot CURRENT and the CURRENT one DRAINING; a drained slot is cleared
and freed; RETIRE_MAX discards what still waits in queues; audits start, and a recomputation that has ended is compared. -/
def Obligations.GenerationHappenings : Prop :=
  ∀ (s s1 : State) (die slot n p since : Nat) (f : Fired) (uncorr : Bool),
    let r := refDie s
    let lead := s.pkg.lead
    let lim := fieldR s .genPolicy lead 0 16 16 * 100000000
    let k := f.entry.arg.toNat % 4
    let v := recordK (commitDie s1 die) die 0x6001
      ([nw (slotGen (commitDie s1 die) die k), nw k] ++ timeWords f.t ++ [if f.late then 1 else 0])
    let gone := (usableDies s).foldl (fun (a : Nat × State) d =>
      (busyQueues a.2 d).foldl (fun (b : Nat × State) q =>
        let x := discardAll b.2 q 3 (fun c => decide (c.stamp.slot = slot))
        (b.1 + x.1, x.2)) a) (0, s)
    ((∀ d ∈ usableDies s, slotIn s d 3 = none ∨ stime s d < commitT s d) → EndsIn .commitTimeReached s s) ∧
    (usableDies s = [die] → slotIn s die 3 = some p → curSlot s die = some n → commitT s die ≤ stime s die →
      Ends .commitTimeReached s (fun u => slotState u die p = 4 ∧ slotState u die n = 5 ∧ commitT u die = 0 ∧
        kget u.gen.drainSince (dieSlot die n) none = some (mono s die))) ∧
    (takeFired s die 1 = none → EndsIn (.genCommitFire die) s s) ∧
    (takeFired s die 1 = some (f, s1) → k ∉ auditOf v die → EndsIn (.genCommitFire die) s (setAudit v die (auditOf v die ++ [k]))) ∧
    (keeperDown s die = true → EndsIn (.auditStart die) s s) ∧
    (keeperDown s die = false → takeFired s die 4 = some (f, s1) → EndsIn (.auditStart die) s (startAudit (mapAudit s1 die) die)) ∧
    (slot < 4 → slotState s r slot = 5 →
      ((∀ d ∈ usableDies s, holdersOf s d slot = 0) → EndsIn (.slotRetire slot) s
        (recordK (slotStates s slot 6) lead 0x6002 [nw (slotGen s r slot), nw slot])) ∧
      ((∃ d ∈ usableDies s, holdersOf s d slot ≠ 0) → EndsIn (.slotRetire slot) s s) ∧
      (lim = 0 → EndsIn (.retireForced slot) s s) ∧
      (lim ≠ 0 → kget s.gen.drainSince (dieSlot r slot) none = some since → mono s r < since + lim → EndsIn (.retireForced slot) s s) ∧
      (lim ≠ 0 → kget s.gen.drainSince (dieSlot r slot) none = some since → since + lim ≤ mono s r →
        (∀ d ∈ usableDies s, holdersOf s d slot = queuedOf s d slot) → (∃ d ∈ usableDies s, queuedOf s d slot ≠ 0) →
        EndsIn (.retireForced slot) s
          (recordK gone.2 gone.2.pkg.lead 0x6003 ([nw (slotGen gone.2 r slot), nw slot] ++ wordsOf 2 gone.1)))) ∧
    (slot < 4 → slotState s r slot = 6 → Ends (.slotClearDone slot) s (fun u => ∀ d ∈ usableDies s,
      slotState u d slot = 0 ∧ slotDigest u d slot = noDigest ∧ kget u.gen.drainSince (dieSlot d slot) none = none)) ∧
    (slot < 4 → slotState s r slot ≠ 6 → EndsIn (.slotClearDone slot) s s) ∧
    (usable s die = true → slot < 4 → die ≠ r →
      EndsIn (.digestRecomputeDone die slot uncorr) s (recomputed s die slot uncorr).2) ∧
    ((∀ k ∈ auditOf s die, k % 4 ≠ slot) → EndsIn (.digestRecomputeDone die slot uncorr) s s)

/-- From R334, R335, R342 to R351, R395, R401: external DRAM serves the request of the greatest urgency, corrects one bit in error and poisons a
block that it cannot; refresh changes nothing; alerts are replayed three times; scrubs; power states. -/
def Obligations.MemoryHappenings : Prop :=
  ∀ (s : State) (die channel rank flips retryFlips commands unit row word : Nat) (r : DramReq),
    let off : State := setDramReqs s die ((dramReqs s die).erase r)
    let awake : State := { off with memo := { off.memo with idleSince := kset off.memo.idleSince (rankKey off die r.block) (mono off die) 0 } }
    let used := useShare awake die r.port r.blocks
    let counted := if mono used die - r.at_ > portTarget r.port then cnt used .memCntDramLate die r.port else used
    let got := readBlock counted die r.port r.block flips retryFlips
    let alerts := kget s.memo.alerts (die * 2 + channel) 0 + 1
    let put (n : Nat) : State := { s with memo := { s.memo with alerts := kset s.memo.alerts (die * 2 + channel) n 0 } }
    let b := kget s.memo.scrubPos die 0
    let rk := (die * 2 + channel) * 2 + rank
    let on : Prop := s.pkg.running = true ∧ dieAlive s die = true
    let spoiled := drawWord s
    (dieAlive s die = true → choose s die (dramReqs s die) = some r →
      EndsIn (.dramRequest die flips retryFlips) s (dramData got.2 die r got.1) ∧
      (blockPoison s die r.block 1 = false → flips = 0 → got = (true, counted)) ∧
      (blockPoison s die r.block 1 = false → flips = 1 → got.1 = true) ∧
      (blockPoison s die r.block 1 = false → 2 ≤ flips → 2 ≤ retryFlips → got.1 = false) ∧
      (blockPoison s die r.block 1 = true → got.1 = false)) ∧
    (choose s die (dramReqs s die) = none ∨ dieAlive s die = false → EndsIn (.dramRequest die flips retryFlips) s s) ∧
    EndsIn (.dramRefresh die channel) s s ∧
    (on → channel < 2 → commands ≤ 64 →
      EndsIn (.dramAlert die channel commands false) s
        (recordF (cnt (put 0) .memCntDramAlert die channel) 7 die 0xA003 (keeperId die) [nw channel, nw commands]) ∧
      (alerts < 3 → EndsIn (.dramAlert die channel commands true) s (put alerts)) ∧
      (3 ≤ alerts → EndsIn (.dramAlert die channel commands true) s (failChannel (put 0) die channel))) ∧
    (on → die < 8 → s.pkg.lead < 8 → Ends (.patrolScrub die flips retryFlips) s (fun u =>
      kget u.memo.scrubPos die 0 = if dieBlocks s die ≤ b + 1 then 0 else b + 1)) ∧
    (on → channel < 2 → rank ≤ fieldR s .memDramCfg die 0 21 1 → (∀ q ∈ dramReqs s die, rankKey s die q.block ≠ rk) →
      kget s.memo.idleSince rk 0 + fieldR s .memDramCfg die 0 8 8 * 100 ≤ mono s die →
      (fieldR s .memDramCfg die 0 0 1 = 1 → EndsIn (.rankPowerDown die channel rank) s
        { s with memo := { s.memo with down := kset s.memo.down rk true false } }) ∧
      (fieldR s .memDramCfg die 0 0 1 = 0 → EndsIn (.rankPowerDown die channel rank) s s)) ∧
    (on → unit < 339 → unitHeld s die unit = true → die * 512 + unit ∉ s.flt.retiredUnits →
      EndsIn (.sramScrub die unit row word 1) s (sramCe s die unit row word) ∧
      (2 ≤ flips → EndsIn (.sramScrub die unit row word flips) s (sramUe s die unit row word))) ∧
    (on → 339 ≤ unit → unit ≤ unitPrivate →
      EndsIn (.sramScrub die unit row word 1) s
        (recordK (cnt spoiled.2 .fltCntSramCe die 0) die 0xA010 [nw unit, nw row, nw word, nw (spoiled.1 % 72)]) ∧
      (2 ≤ flips → EndsIn (.sramScrub die unit row word flips) s (otherUe s die unit row word))) ∧
    EndsIn (.sramScrub die unit row word 0) s s ∧
    (usable s die = true → unit < 339 → spareUnit s die unit = false → EndsIn (.bankPwrDone die unit) s
      (setUnitState s die unit (if unitHeld s die unit then 0 else fieldR s .memBankPwr die unit 0 2))) ∧
    (spareUnit s die unit = true → EndsIn (.bankPwrDone die unit) s s)

/-- From R25, R402 to R408, R417, R470, R503, R510, R511: Keepers, cells, clocks, supplies and temperatures that fail; heartbeats between dies, and
the retirement of a die that has gone silent. -/
def Obligations.FaultHappenings : Prop :=
  ∀ (s : State) (die cell check stage mV : Nat) (t0 t1 t2 t3 : Int) (supply : Supply) (a : Activation) (fatal : Bool),
    let on : Prop := s.pkg.running = true ∧ dieAlive s die = true
    let note (k : Nat) (s : State) : State := recordF s 8 die 0x0013 (keeperId die) [nw die, nw k]
    let off := 100 * (mV - supplyMv supply + (supplyMv supply - mV))
    let cd := cellDie cell
    let ill := recordF (cnt s .fltCntIllegal cd 0) 4 cd 0x4020 (keeperId cd) [nw (cell * 8), nw check, nw stage]
    let x := trackEvent ill cd (.cell cell) 1 false
    let back : State := { s with kpr := { s.kpr with restarting := kset s.kpr.restarting die none none } }
    let a' := { a with ready := a.ready ||| BitVec.ofNat 8 (2 ^ die) }
    let old := bothSlots s (spareSlot s) (fun z => { z with state := 0xFFF0 })
    let h := hearer s die
    let member : Prop := die < s.pkg.n ∧ (usable s die = true ∨ s.pkg.fenced.getLsbD die = true)
    (on → kget s.kpr.restarting die none = none →
      EndsIn (.keeperMismatch die) s (keeperFault s die) ∧
      ((trackEvent (cnt s .fltCntKprMismatch die 0) die .keeper 3 false).1.lasting = false →
        Ends (.keeperMismatch die) s (fun u => (kget u.kpr.restarting die none).isSome = true))) ∧
    (kget s.kpr.restarting die none ≠ none → EndsIn (.keeperMismatch die) s s) ∧
    (s.boot.activating = none → EndsIn (.keeperRestartDone die) s back) ∧
    (s.boot.activating = some a →
      ((∀ d ∈ allDies s, dieAlive s d = true → a'.ready.getLsbD d = true) → EndsIn (.keeperRestartDone die) s (endActivation back a')) ∧
      ((∃ d ∈ allDies s, dieAlive s d = true ∧ a'.ready.getLsbD d = false) → EndsIn (.keeperRestartDone die) s
        { back with boot := { back.boot with activating := some a' } }) ∧
      (a.old = false → a.ready.getLsbD die = false → dieAlive s die = true → EndsIn (.fwActivateTimeout die) s
        { old with boot := { old.boot with activating := some { a with old := true, ready := 0, at_ := leadMono old } } }) ∧
      (a.ready.getLsbD die = true → EndsIn (.fwActivateTimeout die) s s)) ∧
    (s.pkg.running = true → usable s cd = true → (getCell s cell).retired = false → placeOf s cell ≠ none → 1 ≤ check → check ≤ 4 →
      (x.1.lasting = true → EndsIn (.illegalState cell check stage) s (retireCell x.2 cell x.1.count)) ∧
      (x.1.lasting = false → EndsIn (.illegalState cell check stage) s (cellReset x.2 cell))) ∧
    (on →
      EndsIn (.clockFault die .coreRef) s (retireDie (note 0 s) die 8 true) ∧
      EndsIn (.clockFault die .pll) s (retireDie (note 3 s) die 8 true) ∧
      EndsIn (.clockFault die .timeClk) s (note 2 { s with time := { s.time with tenMHz := { s.time.tenMHz with valid := false } } }) ∧
      (kget s.phy.noRef die false = false → EndsIn (.clockFault die .serdesRef) s (loseSerdes (note 1 s) die)) ∧
      (kget s.phy.noRef die false = true → EndsIn (.clockFault die .serdesRef) s s) ∧
      (6 * supplyMv supply < off →
        EndsIn (.supplyFault die supply mV) s (retireDie (recordF s 10 die 0x0014 (keeperId die) [nw die, nw (supplyNo supply), nw mV]) die 10 true))) ∧
    (off ≤ 6 * supplyMv supply → EndsIn (.supplyFault die supply mV) s s) ∧
    (die < s.pkg.n → EndsIn (.serdesReferenceValid die) s { s with phy := { s.phy with noRef := kset s.phy.noRef die false false } }) ∧
    (s.pkg.running = true → die < s.pkg.n → die < 8 → s.pkg.lead < 8 →
      (t0 < 1150 → t1 < 1150 → t2 < 1150 → t3 < 1150 → Ends (.thermalRead die t0 t1 t2 t3) s (fun u =>
        (thermal u die).temps = [t0, t1, t2, t3] ∧ getR u .pwrTemp0 die 0 = encInt 16 (clampInt 16 t0) ∧
        getR u .pwrTemp1 die 0 = encInt 16 (clampInt 16 t1) ∧ getR u .pwrTemp2 die 0 = encInt 16 (clampInt 16 t2) ∧
        getR u .pwrTemp3 die 0 = encInt 16 (clampInt 16 t3))) ∧
      (dieAlive s die = true → (1150 ≤ t0 ∨ 1150 ≤ t1 ∨ 1150 ≤ t2 ∨ 1150 ≤ t3) →
        Ends (.thermalRead die t0 t1 t2 t3) s (fun u => u.flt.thermTrip = true ∧ u.flt.tripped.getLsbD die = true))) ∧
    (member → EndsIn (.dieHeartbeat die) s { s with pkg := { s.pkg with heard := kset s.pkg.heard die (mono s h) 0 } }) ∧
    (s.pkg.running = true → member → (fatal = true ∨ (usable s h = true ∧ kget s.pkg.heard die 0 + 400000 ≤ mono s h)) →
      EndsIn (.dieLost die fatal) s (retireDie s die 5 fatal)) ∧
    (mono s h < kget s.pkg.heard die 0 + 400000 → EndsIn (.dieLost die false) s s)

/-- From R424 to R433: a firing of inspection starts slices on both lanes and a bank step; a cell that has drained is taken over by its stand-in and
tested; a bank is copied to its spare, tested, repaired or retired, and reloaded. -/
def Obligations.InspectionSteps : Prop :=
  ∀ (s s1 : State) (die lane : Nat) (f : Fired) (x : Slice) (b : BankStep) (rows : List Nat),
    let key := sliceKey die lane
    let c := x.comb * 32 + x.cell
    let fired : State := { s1 with insp := { s1.insp with firedAt := kset s1.insp.firedAt die (mono s1 die) 0 } }
    let late : Prop := x.since + fieldR s .inspCfg die 0 10 11 * 1000 ≤ mono s die
    let drawn := drawWord s
    let failed := trackEvent (cnt drawn.2 .inspCntCellFail die 0) die (.cell c) 1 false
    let told := recordF failed.2 4 die 0xB001 (keeperId die) [nw (c * 8), nw (drawn.1 % 16384), nw failed.1.count]
    let res := sliceResult told c (drawn.1 % 16384) (if failed.1.lasting then 3 else 2)
    let rep := repairRows s die b.unit rows
    let bad := trackEvent rep.2 die (.unit b.unit) 4 false
    let said := recordF (cnt bad.2 .inspCntBankFail die 0) 14 die 0xB002 (keeperId die) [nw b.unit, nw rows.length, nw rep.1]
    let marched := marchResult said 3 die b.unit rows (if bad.1.lasting then 3 else 2)
    (dieAlive s die = true → takeFired s die 5 = some (f, s1) →
      (keeperDown fired die = false → EndsIn (.inspectSlice die) s (fireBank (lanes.foldl (fireLane die) fired) die)) ∧
      (keeperDown fired die = true → EndsIn (.inspectSlice die) s fired)) ∧
    (takeFired s die 5 = none → frozen s die = false → EndsIn (.inspectSlice die) s s) ∧
    (getSlice s key = none → EndsIn (.sliceDrainDone die lane) s s ∧ EndsIn (.sliceTestDone die lane .pass) s s) ∧
    (lane < 2 → getSlice s key = some x →
      (x.step = 2 → cellItems s c ≠ 0 → ¬late → EndsIn (.sliceDrainDone die lane) s s) ∧
      (x.step = 2 → cellItems s c = 0 ∨ late → Ends (.sliceDrainDone die lane) s (fun u =>
        ∃ y, getSlice u key = some y ∧ y.comb = x.comb ∧ y.cell = x.cell ∧ y.spare = x.spare ∧ y.step = 5)) ∧
      (x.step ≠ 2 → EndsIn (.sliceDrainDone die lane) s s) ∧
      (x.step = 5 → mono s die < x.since + 2000000 → EndsIn (.sliceTestDone die lane .pass) s s) ∧
      (x.step = 5 → x.since + 2000000 ≤ mono s die →
        EndsIn (.sliceTestDone die lane .pass) s (closeSlice (cnt s .inspCntCellPass die 0) key x)) ∧
      (x.step = 5 → x.since + 4000000 ≤ mono s die →
        EndsIn (.sliceTestDone die lane .retestPass) s
          (closeSlice (cnt (sliceResult drawn.2 c (drawn.1 % 16384) 0) .inspCntCellPass die 0) key x) ∧
        (failed.1.lasting = true → EndsIn (.sliceTestDone die lane (.fail rows)) s (retireTested res key x failed.1.count)) ∧
        (failed.1.lasting = false → EndsIn (.sliceTestDone die lane (.fail rows)) s (closeSlice (setNextCell res x.comb x.cell) key x)))) ∧
    (bankStep s die = none →
      EndsIn (.bankCopyDone die) s s ∧ EndsIn (.bankTestDone die .pass) s s ∧ EndsIn (.bankReloadDone die) s s) ∧
    (bankStep s die = some b →
      (b.step = 2 → EndsIn (.bankCopyDone die) s (setBankStep s die (some { b with step := 4, since := mono s die }))) ∧
      (b.step ≠ 2 → EndsIn (.bankCopyDone die) s s) ∧
      (b.step = 4 → b.waiter = none →
        EndsIn (.bankTestDone die .pass) s (afterTest s die b) ∧
        EndsIn (.bankTestDone die .retestPass) s (afterTest (marchResult s 3 die b.unit [0] 0) die b) ∧
        (rep.1 = rows.length → EndsIn (.bankTestDone die (.fail rows)) s (afterTest (marchResult rep.2 3 die b.unit rows 1) die b)) ∧
        (rep.1 ≠ rows.length → bad.1.lasting = false →
          EndsIn (.bankTestDone die (.fail rows)) s (afterTest marched die { b with bad := true })) ∧
        (rep.1 ≠ rows.length → bad.1.lasting = true → EndsIn (.bankTestDone die (.fail rows)) s (retireTestedBank marched die b))) ∧
      (b.step = 5 ∨ (b.step = 4 ∧ b.waiter ≠ none) → EndsIn (.bankReloadDone die) s (endBank s die b)) ∧
      (b.step = 4 → b.waiter = none → EndsIn (.bankReloadDone die) s s))

/-- From R9, R368, R440 to R449, R454, R463, R465, R466, R507, R509: records reach the lead and the nonvolatile store; resets; an idle session; the
instructions of the TAP. -/
def Obligations.RecorderResetsAndTap : Prop :=
  ∀ (s s1 : State) (die code index k : Nat) (f : Flush) (fi : Fired) (r : Rec) (rest : List Rec) (x : Session) (results : List BootResult)
    (shift : List Bool) (instr : Byte) (key : BitVec 256) (crc : Word) (d3 : BitVec 3) (ok : Bool),
    let lead := s.pkg.lead
    let b := rateBucket s die (nw code)
    let slot := flushSlot s lead
    let idle : State := { s with log := { s.log with flush := none } }
    let image : NvImage := ⟨s.log.lastImage + 1, lead, f.reason, f.stime, s.log.log.take f.count, f.notrec, stateBlock idle⟩
    let kept := setNvImage (setNvImage idle lead slot (some image)) lead (1 - slot) none
    let good := cntWrap { kept with log := { kept.log with lastImage := s.log.lastImage + 1, nvFail := false } } .recCntFlush lead 0
    let poor := setNvImage { idle with log := { idle.log with nvFail := true } } lead slot none
    let edge : State := { s with log := { s.log with pfail := some (leadMono s) } }
    let gathered := forEach (allDies edge) (fun s d => if forwards s d then forwardAll s d else s) edge
    let scan (bits : List Bool) (c : Nat) : State := { s with out := s.out ++ [.scan bits], boot := { s.boot with jtag := c } }
    let asked := scan (scanBits 272 s.boot.keyCap) 0x10
    let dumped := kget s.log.dumpAt d3.toNat 0
    (forwards s die = true → dieBuf s die = r :: rest → EndsIn (.recordForward die) s (logRecord { s with log := { s.log with
      buf := kset s.log.buf die rest [], dumpAt := kset s.log.dumpAt die (kget s.log.dumpAt die 0 - 1) 0 } } r)) ∧
    (forwards s die = false ∨ dieBuf s die = [] → EndsIn (.recordForward die) s s) ∧
    (die < s.pkg.n → code < 65536 → 0 < b.rate → b.rate < 0xFFFF → b.tokens < b.burst →
      (b.below + nsPerS / b.rate ≤ mono s die → EndsIn (.recTokenRefill die code) s
        (setRateBucket s die (nw code) { b with tokens := b.tokens + 1, below := b.below + nsPerS / b.rate })) ∧
      (mono s die < b.below + nsPerS / b.rate → EndsIn (.recTokenRefill die code) s s)) ∧
    (s.log.flush = none → EndsIn (.flushDone ok) s s) ∧
    (s.log.flush = some f →
      EndsIn (.flushDone true) s (flushRecord (followFlush good f) f 0 (s.log.lastImage + 1)) ∧
      EndsIn (.flushDone false) s (flushRecord (followFlush poor f) f 1 s.log.lastImage)) ∧
    (s.pkg.running = true → s.pkg.noLead = false → EndsIn .stateBlockWrite s (writeStateBlock s)) ∧
    (takeFired s die 7 = some (fi, s1) → EndsIn (.recCheckpoint die) s (requestFlush s1 4)) ∧
    (takeFired s die 7 = none → EndsIn (.recCheckpoint die) s s) ∧
    (s.pkg.running = true → s.log.pfail = none → s.pkg.noLead = false → EndsIn .pfail s (beginFlush (sendDown gathered) 2)) ∧
    (s.log.pfail ≠ none → EndsIn .pfail s s) ∧
    EndsIn .pfailRise s { s with log := { s.log with pfail := none } } ∧
    Ends .coldReset s (fun u => u.core = State.reset.core ∧ u.log.log = [] ∧ u.kpr.sessions = [] ∧ u.kpr.keys = s.kpr.keys ∧
      u.insp.fused = s.insp.fused ∧ u.boot.slots = s.boot.slots ∧ u.pkg.n = s.pkg.n ∧ u.pkg.running = false) ∧
    (s.pkg.running = true → EndsIn (.powerOnStart results) s s) ∧
    (s.pkg.running = false → Ends (.powerOnStart results) s (fun u => u.pkg.running = true ∧ u.pkg.n = s.pkg.n)) ∧
    (session s index = some x →
      (x.idleSince + idleNs s ≤ leadMono s → EndsIn (.sessionIdle index) s (endSession s index 4)) ∧
      (leadMono s < x.idleSince + idleNs s → EndsIn (.sessionIdle index) s s)) ∧
    Ends (.jtagExtest shift) s (fun u => u.boot.scan = shift ∧ u.boot.jtag = 0x00 ∧
      ∃ bits, u.out = s.out ++ [.scan bits] ∧ bits.length = shift.length) ∧
    Ends (.jtagSamplePreload shift) s (fun u => u.boot.scan = shift ∧ u.boot.jtag = 0x02 ∧
      ∃ bits, u.out = s.out ++ [.scan bits] ∧ bits.length = shift.length) ∧
    (∃ bits, EndsIn .jtagIdcode s (scan bits 0x01) ∧ bits.length = 32 ∧ bits.head? = some true ∧
      (k < 16 → bits.getD (12 + k) false = (partNumber s).testBit k)) ∧
    EndsIn .jtagClamp s (scan [false] 0x03) ∧
    EndsIn .jtagHighz s (scan [false] 0x04) ∧
    (instr.toNat ∉ [0x00, 0x01, 0x02, 0x03, 0x04, 0x10, 0x11, 0x12, 0x13] → EndsIn (.jtagBypass instr) s (scan [false] instr.toNat)) ∧
    (leadStands s = true →
      ((kget s.kpr.keys 0 ⟨0, 0⟩).priv = 0 → keyCrc key = crc → EndsIn (.keyClaim key crc) s
        (let u : State := { asked with kpr := { asked.kpr with keys := kset asked.kpr.keys 0 ⟨owner, key⟩ ⟨0, 0⟩ } }
         let v := record u lead 0x0006 0xC000 [0, nw owner, 0]
         { v with boot := { v.boot with keyCap := 1 } })) ∧
      ((kget s.kpr.keys 0 ⟨0, 0⟩).priv ≠ 0 → EndsIn (.keyClaim key crc) s { asked with boot := { asked.boot with keyCap := 2 } }) ∧
      ((kget s.kpr.keys 0 ⟨0, 0⟩).priv = 0 → keyCrc key ≠ crc →
        EndsIn (.keyClaim key crc) s { asked with boot := { asked.boot with keyCap := 3 } }) ∧
      Ends (.keyErase true) s (fun u => u.kpr.keys = [])) ∧
    EndsIn (.keyErase false) s (scan [false] 0x11) ∧
    ((dieBuf s d3.toNat)[dumped]? = some r → Ends (.recDump d3) s (fun u => kget u.log.dumpAt d3.toNat 0 = dumped + 1 ∧
      u.out = s.out ++ [.scan (scanBits 264 (valOf (recWords r) * 256))])) ∧
    ((dieBuf s d3.toNat)[dumped]? = none → EndsIn (.recDump d3) s (scan (scanBits 264 0xFF) 0x12)) ∧
    (s.pkg.running = true → EndsIn (.warmReset true) s (warmReset (scan [false] 0x13) 0)) ∧
    EndsIn (.warmReset false) s (scan [false] 0x13)

namespace Sys2Proof.Claims

open Sys2Proof.Machine Sys2Proof.Safety

/-- The command by which a pair-control frame of a kind arrives (R474). -/
def pairFrame (m : PairMsg) (c : Instr) (kind : Nat) : Prop :=
  (c = .pairHelloRx m ∧ kind = kHello) ∨ (c = .pairHeartbeatRx m ∧ kind = kHeartbeat) ∨ (c = .pairCheckpointRx m ∧ kind = kCheckpoint) ∨
    (c = .pairDigestRx m ∧ kind = kDigest) ∨ (c = .pairProposeRx m ∧ kind = kPropose) ∨ (c = .pairAckRx m ∧ kind = kAck) ∨
    (c = .pairWithdrawRx m ∧ kind = kWithdraw) ∨ (c = .pairProbeRx m ∧ kind = kProbe) ∨ (c = .pairProbeAckRx m ∧ kind = kProbeAck) ∨
    (c = .pairDownRx m ∧ kind = kDown)

/-- A pair-control frame of a kind arrives whole, on a pair port or a host port that receives, while the pair is configured (R474). -/
def pairArrives (s : State) (m : PairMsg) (kind : Nat) : Prop :=
  s.pkg.running = true ∧ s.pkg.noLead = false ∧ pairPort s m.gpn = true ∧ portServes s m.gpn = true ∧ (getPort s m.gpn).pcsUp = true ∧
    m.w0.toNat / 4096 = 1 ∧ m.w0.toNat % 256 = kind ∧ m.len ≤ 4480 ∧ m.len ≤ m.payload.length

/-- The tag of a pair-control frame verifies under the pair key. -/
def pairTagOk (s : State) (m : PairMsg) : Prop :=
  empTag s.pair.key ([m.w0, m.pairId] ++ wordsOf 2 m.seq.toNat ++ [nw m.len] ++ m.payload.take m.len) = m.tag

/-- A pair-control frame is accepted: it is of this pair, its tag verifies, and its sequence is new. -/
def pairAccepts (s : State) (m : PairMsg) (kind : Nat) : Prop :=
  pairArrives s m kind ∧ m.pairId.toNat = bitsOf (pairCfg s) 64 16 ∧ pairTagOk s m ∧
    (s.pair.seen = 0 ∨ seqKind s.pair.hi s.pair.seen m.seq = .new ∨ seqKind s.pair.hi s.pair.seen m.seq = .late)

/-- The state in which an accepted frame takes effect: the window has moved. -/
def pairTook (s : State) (m : PairMsg) : State :=
  if s.pair.seen = 0 then { s with pair := { s.pair with hi := m.seq, seen := 1 } }
  else { s with pair := { s.pair with
    hi := (seqAccept s.pair.hi s.pair.seen m.seq).1, seen := (seqAccept s.pair.hi s.pair.seen m.seq).2 } }

end Sys2Proof.Claims

/-- From R474 to R485: pair-control frames are checked, and what each kind does; HELLO, heartbeats, checkpoints, probes, the joint commit and the
retry of group entries. -/
def Obligations.PairFrames : Prop :=
  ∀ (s s1 : State) (m : PairMsg) (c : Instr) (kind n die at_ : Nat) (f : Fired) (j : Joint) (tw : Nat × Nat),
    let u := pairTook s m
    let now := leadMono s
    let state := pairState u
    let role := decide (pairWord m 4 % 2 = 1)
    let fits : Prop := pairWord m 3 = variantCode s.pkg.n ∧ role ≠ secondary u ∧ pairWord m 5 / 256 = (runningRelease u).toNat / 256
    let d := gpnDie m.gpn
    let propose := proposeStatus u (pairWords m 0 8) (pairTime m 8)
    let g := if f.entry.arg = 0 then portA s1 else portB s1
    let beat := cnt (sendPartner s1 g kHeartbeat (heartbeatWords s1 die)) .pairCntHbTx die 0
    let lost := recordF s 11 s.pkg.lead 0xD002 (keeperId s.pkg.lead) [nw (getR s .pairStatus s.pkg.lead 0)]
    (pairFrame m c kind →
      (pairArrives s m kind → m.pairId.toNat ≠ bitsOf (pairCfg s) 64 16 → EndsIn c s (pairAuthFail s m kind 1)) ∧
      (pairArrives s m kind → m.pairId.toNat = bitsOf (pairCfg s) 64 16 → ¬pairTagOk s m → EndsIn c s (pairAuthFail s m kind 2)) ∧
      (pairArrives s m kind → m.pairId.toNat = bitsOf (pairCfg s) 64 16 → pairTagOk s m → s.pair.seen ≠ 0 →
        (seqKind s.pair.hi s.pair.seen m.seq = .refused → EndsIn c s (pairAuthFail s m kind 3)) ∧
        (seqKind s.pair.hi s.pair.seen m.seq = .seen → EndsIn c s s)) ∧
      (¬pairArrives s m kind → EndsIn c s s)) ∧
    (pairAccepts s m kHello → 6 ≤ m.len →
      (¬fits → EndsIn (.pairHelloRx m) s (pairEvent u state state 1)) ∧
      (fits → Ends (.pairHelloRx m) s (fun v =>
        v.pair.partner = some (BitVec.ofNat 48 (valOf (pairWords m 0 3)), role, nw (pairWord m 5))))) ∧
    (pairAccepts s m kHeartbeat → state ≠ pairOff →
      (m.gpn = portA u → EndsIn (.pairHeartbeatRx m) s (heartbeat u m 0)) ∧
      (m.gpn ≠ portA u → m.gpn = portB u → EndsIn (.pairHeartbeatRx m) s (heartbeat u m 1)) ∧
      (m.gpn = portA u ∨ m.gpn = portB u → Ends (.pairHeartbeatRx m) s (fun v => v.pair.lastHb = (pairTime m 1, stime s d)))) ∧
    (pairAccepts s m kCheckpoint → state ≠ pairOff → 5 ≤ m.len → Ends (.pairCheckpointRx m) s (fun v =>
      v.pair.theirs = (valOf (pairWords m 0 2), minuteOfSec s (valOf (pairWords m 2 3) : Nat)) ∧
      ∀ e ∈ v.pair.held, minuteOfSec s (valOf (pairWords m 2 3) : Nat) < e.1 / 65536)) ∧
    (pairAccepts s m kDigest → state = pairPaired ∨ state = pairDrifted → curSlot u (refDie u) = some n →
      (recomputing u n = true → EndsIn (.pairDigestRx m) s { u with pair := { u.pair with theirDigest := some (pairWords m 0 8) } }) ∧
      (recomputing u n = false → EndsIn (.pairDigestRx m) s (compareDigest u (pairWords m 0 8)))) ∧
    (pairAccepts s m kPropose →
      (state = pairPaired → secondary u = true → EndsIn (.pairProposeRx m) s
        (sendPartner (match propose.2 with | some k => armCommit u k (pairTime m 8) | none => u) m.gpn kAck
          (nw propose.1 :: timeWords (pairTime m 8)))) ∧
      (state ≠ pairPaired ∨ secondary u = false → EndsIn (.pairProposeRx m) s u)) ∧
    (pairAccepts s m kAck →
      (u.pair.joint = none → EndsIn (.pairAckRx m) s u) ∧
      (u.pair.joint = some j → pairTime m 1 = j.t →
        (pairWord m 0 = stsOk → slotState u (refDie u) j.slot = 2 → EndsIn (.pairAckRx m) s (answerJoint (armCommit u j.slot j.t) j stsOk [])) ∧
        (pairWord m 0 ≠ stsOk → EndsIn (.pairAckRx m) s (answerJoint u j (pairWord m 0 % 256) [0x8000])))) ∧
    (pairAccepts s m kWithdraw → slotIn u (refDie u) 3 = some n → secondary u = true → commitT u (refDie u) = pairTime m 0 →
      stime u (refDie u) < pairTime m 0 → EndsIn (.pairWithdrawRx m) s (disarmCommit u n)) ∧
    (pairAccepts s m kWithdraw → slotIn u (refDie u) 3 = none → EndsIn (.pairWithdrawRx m) s u) ∧
    (pairAccepts s m kProbe → EndsIn (.pairProbeRx m) s (sendPartner u m.gpn kProbeAck [nw state])) ∧
    (pairAccepts s m kProbeAck →
      (u.pair.probeStart ≠ none → EndsIn (.pairProbeAckRx m) s
        (setPairState { u with pair := { u.pair with probeAcked := some now } } pairLinkLost 3)) ∧
      (u.pair.probeStart = none → EndsIn (.pairProbeAckRx m) s u)) ∧
    (pairAccepts s m kDown →
      (u.pair.probeStart = none → EndsIn (.pairDownRx m) s { u with pair := { u.pair with downAt := some now } }) ∧
      (u.pair.probeStart ≠ none → EndsIn (.pairDownRx m) s
        (setPairState { u with pair := { u.pair with downAt := some now, probeStart := none, probeAcked := none } } pairFailed 4))) ∧
    (s.pkg.running = true → s.pkg.noLead = false → pairState s = pairForming → s.pair.helloAt + 10000000 ≤ now →
      Ends .pairHelloSend s (fun v => v.pair.helloAt = now)) ∧
    (pairState s ≠ pairForming → EndsIn .pairHelloSend s s) ∧
    (takeFired s die 6 = none → EndsIn (.pairHeartbeat die) s s) ∧
    (takeFired s die 6 = some (f, s1) → pairOn s1 = true → s1.pkg.noLead = false → gpnDie g = die → portIsUp s1 g = true →
      s1.pair.partner ≠ none →
      (ckptDie beat ≠ die → EndsIn (.pairHeartbeat die) s beat) ∧
      (ckptDie beat = die → beat.pair.ckpts < 99 → EndsIn (.pairHeartbeat die) s
        { beat with pair := { beat.pair with ckpts := beat.pair.ckpts + 1 } })) ∧
    (s.pkg.noLead = false → pairState s = pairPaired ∨ pairState s = pairDrifted → s.pair.probeStart = none →
      (lastHeartbeat s + 3000000 ≤ now →
        (downHeard lost = true → EndsIn .pairHbLoss s (setPairState lost pairFailed 4)) ∧
        (downHeard lost = false → EndsIn .pairHbLoss s
          (sendProbes { lost with pair := { lost.pair with probeStart := some (leadMono lost), probeAcked := none } }))) ∧
      (now < lastHeartbeat s + 3000000 → EndsIn .pairHbLoss s s)) ∧
    (s.pkg.noLead = false → s.pair.probeStart = some at_ →
      (s.pair.probeSent + 5000000 ≤ now → EndsIn .pairProbeSend s (sendProbes s)) ∧
      (now < s.pair.probeSent + 5000000 → EndsIn .pairProbeSend s s) ∧
      (s.pair.probeAcked.getD at_ + 50000000 ≤ now → EndsIn .pairProbeTimeout s
        (setPairState { s with pair := { s.pair with probeStart := none, probeAcked := none } }
          (if secondary s then pairIsolated else pairFailed) 3)) ∧
      (now < s.pair.probeAcked.getD at_ + 50000000 → EndsIn .pairProbeTimeout s s)) ∧
    (s.pkg.noLead = false → s.pair.joint = some j →
      (j.at_ + 10000000 ≤ now →
        let v := answerJoint s j stsBusy []
        EndsIn .pairAckTimeout s (if withdrawable v j.t then sendWithdraw v j.t else v)) ∧
      (now < j.at_ + 10000000 → EndsIn .pairAckTimeout s s)) ∧
    (s.pkg.noLead = false → s.pair.withdraw = some tw →
      (now < tw.2 + 1000000 → EndsIn .pairWithdrawSend s s) ∧
      (tw.2 + 1000000 ≤ now → withdrawable s tw.1 = true → EndsIn .pairWithdrawSend s (sendWithdraw s tw.1)) ∧
      (tw.2 + 1000000 ≤ now → withdrawable s tw.1 = false →
        EndsIn .pairWithdrawSend s { s with pair := { s.pair with withdraw := none } })) ∧
    (s.pkg.noLead = false →
      (s.pair.retryAt + 1000000 ≤ now → EndsIn .groupEntryRetry s (forEach s.pair.retry putGroup s)) ∧
      (now < s.pair.retryAt + 1000000 → EndsIn .groupEntryRetry s s))

namespace Sys2Proof.Claims

/-- What every state of the package keeps: two, four, six or eight dies (R11), a lead that is a principal die (R13, R24), and the words of
data space in their canonical form. -/
def Inv (s : State) : Prop :=
  (s.pkg.n = 2 ∨ s.pkg.n = 4 ∨ s.pkg.n = 6 ∨ s.pkg.n = 8) ∧ s.pkg.lead ≤ 1 ∧ Memory.wf s.core.mem = true

end Sys2Proof.Claims

/-- A step performs the command at the front of the queue with the queue's rest; on an empty queue time passes (the model's choice, log
entry 2); no step stops the machine. -/
def Obligations.StepRunsTheFront : Prop :=
  ∀ s : State,
    (∀ c rest, s.pending = c :: rest → step s = exec c { s with pending := rest }) ∧
    (s.pending = [] → step s = .next (tick s)) ∧ SafeStep s

/-- What a cold reset leaves (R9): the reset values that the manual's register tables give the fields named, no work in any thread, word 0 in every word of data space (the model's choice, log entry 4), and the invariant. -/
def Obligations.ResetState : Prop :=
  let r (n : RegName) (i lo w : Nat) : Nat := bitsOf (getR State.reset n 0 i) lo w
  r .timeSrcCtl 0 2 2 = 3 ∧ r .timeSrcCtl 0 8 8 = 100 ∧ r .timeUtcOffset 0 0 16 = 0 ∧ r .evStallCfg 0 0 16 = 1707 ∧
  bitsOf (getRS State.reset .lrnTclassLimit0 0 3 0) 0 20 = 0xFFFFF ∧ r .qmProfile 5 0 16 = 40 ∧ r .qmProfile 5 16 4 = 8 ∧
  r .qmProfile 5 20 12 = 4095 ∧ r .qmTgCfg 9 6 17 = 0x10000 ∧ r .egrQSched 7 0 8 = 1 ∧ r .egrQSched 7 8 16 = 250 ∧
  r .memDramCfg 0 0 1 = 1 ∧ r .memDramCfg 0 8 8 = 20 ∧
  State.reset.pkg.running = false ∧ State.reset.pending = [] ∧ State.reset.out = [] ∧
  (∀ t, (getT State.reset t).item = none) ∧ (∀ a, memAt State.reset a = 0) ∧ Claims.Inv State.reset

/-- Every step keeps the invariant: the number of dies stays what the variant has, no die but a principal one becomes the lead, and the words
of data space stay in their canonical form, whatever command is performed and whatever happens as time passes. -/
def Obligations.EveryStepKeepsTheInvariant : Prop :=
  ∀ s t : State, Claims.Inv s → step s = .next t → Claims.Inv t

/-- Reading an instruction's units gives that instruction back, with every operand at every value its field admits: from its own unit under
its guard, and from the units at a PC, the prefix unit first where it has a prefix (R127 to R131, R137 to R148, R161, R164). -/
def Obligations.DecodeOfEncode : Prop :=
  ∀ (c : Instr) (u : BitVec 32), encodeUnit c = some u →
    ∃ i : Issue, guardOf u = i.guard ∧ decodeUnit i u = some c ∧
      (match prefixUnit i.pfx with
       | none => ∀ v, decodeFetch i.tid u v = some c
       | some p => decodeFetch i.tid p u = some c)

/-- A unit that reads as an instruction is that instruction's unit: no bit of it is left unread (R128, R131). -/
def Obligations.EncodeOfDecode : Prop :=
  ∀ (i : Issue) (u : BitVec 32) (c : Instr), guardOf u = i.guard → decodeUnit i u = some c → encodeUnit c = some u

/-- From R115, R127, R128: an instruction whose form breaks an encoding rule faults ILLEGAL at its own address, whatever its guard; a well-formed one
whose guard is false only moves the PC past its units. `c` is any instruction that a unit spells. -/
def Obligations.IllegalFormsAndFalseGuards : Prop :=
  ∀ (s : State) (i : Issue) (v : BitVec 32) (c : Instr), decodeUnit i v = some c →
    let r := regsOf s i.tid
    let u := if (getT s i.tid).st = .stalled then setSt s i.tid .active else s
    (getT s i.tid).st = .active ∨ (getT s i.tid).st = .stalled → breakHit s i.tid = false →
    (fetchPoison s i.tid r.pc.toNat || (decide (unitsOf i = 2) && fetchPoison s i.tid (r.pc + 1).toNat)) = false →
      (formOk c = false → exec c s = .next (faultAt u i.tid 1 r.pc 0 (unitsOf i))) ∧
      (formOk c = true → badEnd i r.pc false = false → guardTrue r i.guard = false →
        exec c s = .next (afterCommit (advance u i.tid (unitsOf i)) i.tid 1 []))

/-- R24: at start-up die 0 becomes the lead if it passes its start-up tests, otherwise die 1, and PKG.DIE_IDENT.LEAD of every die shows it. No
class-3 resource is claimed before start-up; a package of which neither die 0 nor die 1 starts is R27's. -/
def Obligations.LeadAtStartUp : Prop :=
  ∀ (s : State) (results : List BootResult),
    let passes (d : Nat) : Prop := bootFails s d (resultOf results d) = 0
    (s.pkg.n = 2 ∨ s.pkg.n = 4 ∨ s.pkg.n = 6 ∨ s.pkg.n = 8) → s.pkg.running = false → (∀ d, getClaim s 3 d = none) →
    passes 0 ∨ passes 1 →
      ∃ t, exec (.powerOnStart results) s = .next t ∧ t.pkg.noLead = false ∧
        (passes 0 → t.pkg.lead = 0) ∧ (¬passes 0 → t.pkg.lead = 1) ∧
        ∀ d, d < t.pkg.n → bitsOf (regView t .pkgDieIdent d 7 0) 8 3 = t.pkg.lead

/-- R451: REC_CLEAR, which needs an Owner session, empties the package log, clears STOPPED and REC.CNT_NOTREC and increments CLEARS; then
EV_REC_CLEARED is the log's first entry; the die buffers, the nonvolatile images and SEQ stay, but for the number that entry takes; while a flush
runs it is refused with ST_BUSY. The lead's own buffer has been forwarded. -/
def Obligations.RecorderClear : Prop :=
  ∀ (s : State) (m : EmpMsg) (i : Nat) (x : Session),
    let lead := s.pkg.lead
    (Accepted s m 0x0802 owner i x → lead ≤ 1 → s.log.flush = none → dieBuf s lead = [] →
      ∃ t r, exec (.recClear m) s = .next t ∧ t.log.log = [r] ∧ r.code = 0xF001 ∧ t.log.stopped = false ∧
        getR t .recCntNotrec lead 0 = 0 ∧ t.log.clears = s.log.clears + 1 ∧ (∀ d, dieBuf t d = dieBuf s d) ∧ t.log.images = s.log.images ∧
        r.seq = s.log.nextSeq ∧ t.log.nextSeq = nextRecSeq s.log.nextSeq) ∧
    (Accepted s m 0x0802 owner i x → s.log.flush ≠ none →
      exec (.recClear m) s = .next (answered (taken s m i x) m 0x0802 i x stsBusy [])) ∧
    (mailboxUp s m = true → empFrameCheck s m 0x0802 false = none → findSession s m.session = some (i, x) →
      empTag x.key (empCovered m 0x0802) = m.tag → seqKind x.hi x.seen m.seq = .new ∨ seqKind x.hi x.seen m.seq = .late → x.priv < owner →
      exec (.recClear m) s = .next (reply (setSession s i (some (acceptSeq x (leadMono s) m.port m.src m.vlan m.seq m.tag)))
        m 0x0802 i x.key stsPriv []))
end

