-- ==== Sys2Proof/Laws/Store.lean ====
section
/-! SUPPORT. Sparse maps: reads after writes, and that every write keeps the canonical form. -/

namespace Sys2Proof.Laws

open Sys2Proof.Machine

variable {α : Type}

@[simp] theorem kget_nil (k : Nat) (d : α) : kget [] k d = d := rfl

theorem kget_cons (k' : Nat) (v : α) (t : Map α) (k : Nat) (d : α) : kget ((k', v) :: t) k d = if k = k' then v else kget t k d := rfl

/-- A read of a key that has been dropped. -/
@[simp] theorem kget_kdel_same (m : Map α) (k : Nat) (d : α) : kget (kdel m k) k d = d := by
  induction m with
  | nil => rfl
  | cons e t ih =>
    obtain ⟨k', v⟩ := e
    by_cases h : k = k'
    · simp [kdel, h]; simpa [h] using ih
    · simp [kdel, h, kget_cons, ih]

/-- Dropping a key leaves the others. -/
theorem kget_kdel_ne (m : Map α) (k j : Nat) (d : α) (h : j ≠ k) : kget (kdel m k) j d = kget m j d := by
  induction m with
  | nil => rfl
  | cons e t ih =>
    obtain ⟨k', v⟩ := e
    by_cases hk : k = k'
    · subst hk; simp [kdel, kget_cons, h, ih]
    · by_cases hj : j = k'
      · simp [kdel, hk, kget_cons, hj]
      · simp [kdel, hk, kget_cons, hj, ih]

/-- A read of a key that has been put into a list that has no entry of it. -/
theorem kget_kput_same (m : Map α) (k : Nat) (v d : α) (h : ∀ e ∈ m, e.1 ≠ k) : kget (kput m k v) k d = v := by
  induction m with
  | nil => simp [kput, kget_cons]
  | cons e t ih =>
    obtain ⟨k', w⟩ := e
    have hk : k' ≠ k := h (k', w) (by simp)
    by_cases hlt : k < k'
    · simp [kput, hlt, kget_cons]
    · simp [kput, hlt, kget_cons, hk.symm, ih (fun e he => h e (by simp [he]))]

theorem kget_kput_ne (m : Map α) (k j : Nat) (v d : α) (h : j ≠ k) : kget (kput m k v) j d = kget m j d := by
  induction m with
  | nil => simp [kput, kget_cons, h]
  | cons e t ih =>
    obtain ⟨k', w⟩ := e
    by_cases hlt : k < k'
    · simp [kput, hlt, kget_cons, h]
    · by_cases hj : j = k'
      · simp [kput, hlt, kget_cons, hj]
      · simp [kput, hlt, kget_cons, hj, ih]

theorem not_mem_kdel (m : Map α) (k : Nat) : ∀ e ∈ kdel m k, e.1 ≠ k := by
  induction m with
  | nil => simp [kdel]
  | cons e t ih =>
    obtain ⟨k', w⟩ := e
    by_cases hk : k = k'
    · simpa [kdel, hk] using fun a b => ih (a, b) |> fun f h => by subst hk; exact f h
    · intro e he
      simp only [kdel, hk, if_false, List.mem_cons] at he
      rcases he with rfl | he
      · exact fun h => hk h.symm
      · exact ih e he

/-- A read after a write to the same key gives the value written. -/
@[simp] theorem kget_kset_same [DecidableEq α] (m : Map α) (k : Nat) (v d : α) : kget (kset m k v d) k d = v := by
  unfold kset
  by_cases h : v = d
  · simp [h]
  · simp [h, kget_kput_same _ _ _ _ (not_mem_kdel m k)]

/-- A write leaves every other key alone. -/
theorem kget_kset_ne [DecidableEq α] (m : Map α) (k j : Nat) (v d d' : α) (h : j ≠ k) : kget (kset m k v d) j d' = kget m j d' := by
  unfold kset
  by_cases hv : v = d
  · simp [hv, kget_kdel_ne _ _ _ _ h]
  · simp [hv, kget_kput_ne _ _ _ _ _ h, kget_kdel_ne _ _ _ _ h]

/-! ## The canonical form -/

/-- The keys after the first one rise above it. -/
theorem kSorted_cons (k : Nat) (v : α) (t : Map α) :
    kSorted ((k, v) :: t) = true ↔ (∀ e ∈ t, k < e.1) ∧ kSorted t = true := by
  induction t generalizing k v with
  | nil => simp [kSorted]
  | cons e t ih =>
    obtain ⟨k', w⟩ := e
    have step : kSorted ((k, v) :: (k', w) :: t) = (decide (k < k') && kSorted ((k', w) :: t)) := rfl
    rw [step]
    simp only [Bool.and_eq_true, decide_eq_true_eq, List.mem_cons, forall_eq_or_imp]
    constructor
    · rintro ⟨h, hs⟩
      exact ⟨⟨h, fun e he => Nat.lt_trans h (((ih k' w).mp hs).1 e he)⟩, hs⟩
    · rintro ⟨⟨h, -⟩, hs⟩
      exact ⟨h, hs⟩

theorem mem_kdel {m : Map α} {k : Nat} {e : Nat × α} (h : e ∈ kdel m k) : e ∈ m := by
  induction m with
  | nil => simp [kdel] at h
  | cons a t ih =>
    obtain ⟨k', w⟩ := a
    by_cases hk : k = k'
    · simp [kdel, hk] at h; exact List.mem_cons_of_mem _ (ih (by simpa [hk] using h))
    · simp only [kdel, hk, if_false, List.mem_cons] at h
      rcases h with rfl | h
      · simp
      · exact List.mem_cons_of_mem _ (ih h)

theorem kSorted_kdel (m : Map α) (k : Nat) (h : kSorted m = true) : kSorted (kdel m k) = true := by
  induction m with
  | nil => rfl
  | cons a t ih =>
    obtain ⟨k', w⟩ := a
    rw [kSorted_cons] at h
    by_cases hk : k = k'
    · simpa [kdel, hk] using (by simpa [hk] using ih h.2)
    · simp only [kdel, hk, if_false]
      exact (kSorted_cons _ _ _).mpr ⟨fun e he => h.1 e (mem_kdel he), ih h.2⟩

theorem mem_kput {m : Map α} {k : Nat} {v : α} {e : Nat × α} (h : e ∈ kput m k v) : e = (k, v) ∨ e ∈ m := by
  induction m with
  | nil => simpa [kput] using h
  | cons a t ih =>
    obtain ⟨k', w⟩ := a
    by_cases hlt : k < k'
    · simpa [kput, hlt] using h
    · simp only [kput, hlt, if_false, List.mem_cons] at h
      rcases h with rfl | h
      · simp
      · rcases ih h with h | h
        · exact Or.inl h
        · exact Or.inr (List.mem_cons_of_mem _ h)

theorem kSorted_kput (m : Map α) (k : Nat) (v : α) (h : kSorted m = true) (hk : ∀ e ∈ m, e.1 ≠ k) : kSorted (kput m k v) = true := by
  induction m with
  | nil => rfl
  | cons a t ih =>
    obtain ⟨k', w⟩ := a
    have h2 := (kSorted_cons _ _ _).mp h
    by_cases hlt : k < k'
    · simp only [kput, hlt, if_true]
      refine (kSorted_cons _ _ _).mpr ⟨?_, h⟩
      intro e he
      rcases List.mem_cons.mp he with rfl | he
      · exact hlt
      · exact Nat.lt_trans hlt (h2.1 e he)
    · simp only [kput, hlt, if_false]
      refine (kSorted_cons _ _ _).mpr ⟨?_, ih h2.2 (fun e he => hk e (List.mem_cons_of_mem _ he))⟩
      intro e he
      rcases mem_kput he with rfl | he
      · have := hk (k', w) (by simp); simp at this; simp; omega
      · exact h2.1 e he

/-- A write keeps the canonical form. -/
theorem kwf_kset [DecidableEq α] (m : Map α) (k : Nat) (v : α) (d : Nat → α) (h : kwf m d = true) : kwf (kset m k v (d k)) d = true := by
  simp only [kwf, Bool.and_eq_true, List.all_eq_true, decide_eq_true_eq] at h ⊢
  unfold kset
  by_cases hv : v = d k
  · rw [if_pos hv]
    exact ⟨kSorted_kdel m k h.1, fun e he => h.2 e (mem_kdel he)⟩
  · rw [if_neg hv]
    refine ⟨kSorted_kput _ k v (kSorted_kdel m k h.1) (not_mem_kdel m k), ?_⟩
    intro e he
    rcases mem_kput he with rfl | he
    · exact hv
    · exact h.2 e (mem_kdel he)

end Sys2Proof.Laws
end

