-- ==== Sys2Proof/Laws/Emp.lean ====
section
/-! SUPPORT. EMP commands: what the shared operation `empWith` does with a command that the Keeper takes, and with one that it does not. -/

namespace Sys2Proof.Laws

open Sys2Proof.Machine Sys2Proof.Safety

/-- The rate of starts does not depend on the sessions. -/
@[simp] theorem startLimit_setSession (s : State) (i : Nat) (x : Option Session) : startLimit (setSession s i x) = startLimit s := rfl

/-- A command that is taken is performed in the state `taken`. -/
theorem empWith_accepted {s : State} {m : EmpMsg} {code priv i : Nat} {x : Session} (h : Accepted s m code priv i x)
    (body : State → Nat → Answer) (later : State → Nat → State) :
    empWith s m code priv body later =
      match body (taken s m i x) i with
      | .now r =>
        let t := answered r.st m code i x r.status r.words
        if r.status = stsOk then later t i else t
      | .wait t => t := by
  obtain ⟨h1, h2, h3, h4, h5, h6, h7, h8, h9⟩ := h
  unfold empWith
  have p1 : ¬(priv > owner) := by omega
  have p2 : ¬(x.priv < priv) := by omega
  simp only [h1, h2, h3, h4, Bool.not_true, Bool.false_eq_true, if_false, ne_eq, not_true_eq_false]
  rcases h5 with h5 | h5 <;> simp [h5, p1, p2, h8, h9, taken, answered] <;> rfl

/-- A command that is taken and answers at once. -/
theorem empThen_accepted {s : State} {m : EmpMsg} {code priv i : Nat} {x : Session} (h : Accepted s m code priv i x)
    (body : State → Nat → Reply) (later : State → Nat → State) :
    empThen s m code priv body later =
      let r := body (taken s m i x) i
      let t := answered r.st m code i x r.status r.words
      if r.status = stsOk then later t i else t := by
  unfold empThen
  rw [empWith_accepted h]

/-- A command that is taken, answers at once and has no sequel. -/
theorem empCmd_accepted {s : State} {m : EmpMsg} {code priv i : Nat} {x : Session} (h : Accepted s m code priv i x)
    (body : State → Nat → Reply) :
    empCmd s m code priv body =
      answered (body (taken s m i x) i).st m code i x (body (taken s m i x) i).status (body (taken s m i x) i).words := by
  unfold empCmd
  rw [empThen_accepted h]
  simp

/-- A frame that the mailbox does not take changes nothing. -/
theorem empWith_down {s : State} {m : EmpMsg} {code priv : Nat} (h : mailboxUp s m = false) (body : State → Nat → Answer)
    (later : State → Nat → State) : empWith s m code priv body later = s := by
  simp [empWith, h]

end Sys2Proof.Laws
end

