-- ==== Sys2Proof/Laws/State.lean ====
section
/-!
SUPPORT. The updates of State: for each, one lemma per part that it leaves alone, and what a read after it gives; and that every write of
data space keeps its canonical form.
-/

namespace Sys2Proof.Laws

open Sys2Proof.Machine

/-! ## Parts left alone -/

@[simp] theorem setRS_pkg (s : State) (r : RegName) (die slot inst v : Nat) : (setRS s r die slot inst v).pkg = s.pkg := rfl
@[simp] theorem setRS_core (s : State) (r : RegName) (die slot inst v : Nat) : (setRS s r die slot inst v).core = s.core := rfl
@[simp] theorem setRS_time (s : State) (r : RegName) (die slot inst v : Nat) : (setRS s r die slot inst v).time = s.time := rfl
@[simp] theorem setRS_path (s : State) (r : RegName) (die slot inst v : Nat) : (setRS s r die slot inst v).path = s.path := rfl
@[simp] theorem setRS_tbl (s : State) (r : RegName) (die slot inst v : Nat) : (setRS s r die slot inst v).tbl = s.tbl := rfl
@[simp] theorem setRS_gen (s : State) (r : RegName) (die slot inst v : Nat) : (setRS s r die slot inst v).gen = s.gen := rfl
@[simp] theorem setRS_egr (s : State) (r : RegName) (die slot inst v : Nat) : (setRS s r die slot inst v).egr = s.egr := rfl
@[simp] theorem setRS_tal (s : State) (r : RegName) (die slot inst v : Nat) : (setRS s r die slot inst v).tal = s.tal := rfl
@[simp] theorem setRS_memo (s : State) (r : RegName) (die slot inst v : Nat) : (setRS s r die slot inst v).memo = s.memo := rfl
@[simp] theorem setRS_kpr (s : State) (r : RegName) (die slot inst v : Nat) : (setRS s r die slot inst v).kpr = s.kpr := rfl
@[simp] theorem setRS_flt (s : State) (r : RegName) (die slot inst v : Nat) : (setRS s r die slot inst v).flt = s.flt := rfl
@[simp] theorem setRS_insp (s : State) (r : RegName) (die slot inst v : Nat) : (setRS s r die slot inst v).insp = s.insp := rfl
@[simp] theorem setRS_log (s : State) (r : RegName) (die slot inst v : Nat) : (setRS s r die slot inst v).log = s.log := rfl
@[simp] theorem setRS_boot (s : State) (r : RegName) (die slot inst v : Nat) : (setRS s r die slot inst v).boot = s.boot := rfl
@[simp] theorem setRS_pair (s : State) (r : RegName) (die slot inst v : Nat) : (setRS s r die slot inst v).pair = s.pair := rfl
@[simp] theorem setRS_phy (s : State) (r : RegName) (die slot inst v : Nat) : (setRS s r die slot inst v).phy = s.phy := rfl
@[simp] theorem setRS_out (s : State) (r : RegName) (die slot inst v : Nat) : (setRS s r die slot inst v).out = s.out := rfl
@[simp] theorem setRS_free (s : State) (r : RegName) (die slot inst v : Nat) : (setRS s r die slot inst v).free = s.free := rfl
@[simp] theorem setRS_pending (s : State) (r : RegName) (die slot inst v : Nat) : (setRS s r die slot inst v).pending = s.pending := rfl

@[simp] theorem setClock_pkg (s : State) (d : Nat) (c : Clock) : (setClock s d c).pkg = s.pkg := rfl
@[simp] theorem setClock_regs (s : State) (d : Nat) (c : Clock) : (setClock s d c).regs = s.regs := rfl
@[simp] theorem setClock_core (s : State) (d : Nat) (c : Clock) : (setClock s d c).core = s.core := rfl
@[simp] theorem setClock_path (s : State) (d : Nat) (c : Clock) : (setClock s d c).path = s.path := rfl
@[simp] theorem setClock_tbl (s : State) (d : Nat) (c : Clock) : (setClock s d c).tbl = s.tbl := rfl
@[simp] theorem setClock_gen (s : State) (d : Nat) (c : Clock) : (setClock s d c).gen = s.gen := rfl
@[simp] theorem setClock_egr (s : State) (d : Nat) (c : Clock) : (setClock s d c).egr = s.egr := rfl
@[simp] theorem setClock_tal (s : State) (d : Nat) (c : Clock) : (setClock s d c).tal = s.tal := rfl
@[simp] theorem setClock_memo (s : State) (d : Nat) (c : Clock) : (setClock s d c).memo = s.memo := rfl
@[simp] theorem setClock_kpr (s : State) (d : Nat) (c : Clock) : (setClock s d c).kpr = s.kpr := rfl
@[simp] theorem setClock_flt (s : State) (d : Nat) (c : Clock) : (setClock s d c).flt = s.flt := rfl
@[simp] theorem setClock_insp (s : State) (d : Nat) (c : Clock) : (setClock s d c).insp = s.insp := rfl
@[simp] theorem setClock_log (s : State) (d : Nat) (c : Clock) : (setClock s d c).log = s.log := rfl
@[simp] theorem setClock_boot (s : State) (d : Nat) (c : Clock) : (setClock s d c).boot = s.boot := rfl
@[simp] theorem setClock_pair (s : State) (d : Nat) (c : Clock) : (setClock s d c).pair = s.pair := rfl
@[simp] theorem setClock_phy (s : State) (d : Nat) (c : Clock) : (setClock s d c).phy = s.phy := rfl
@[simp] theorem setClock_out (s : State) (d : Nat) (c : Clock) : (setClock s d c).out = s.out := rfl
@[simp] theorem setClock_free (s : State) (d : Nat) (c : Clock) : (setClock s d c).free = s.free := rfl
@[simp] theorem setClock_pending (s : State) (d : Nat) (c : Clock) : (setClock s d c).pending = s.pending := rfl

@[simp] theorem setSession_pkg (s : State) (i : Nat) (x : Option Session) : (setSession s i x).pkg = s.pkg := rfl
@[simp] theorem setSession_regs (s : State) (i : Nat) (x : Option Session) : (setSession s i x).regs = s.regs := rfl
@[simp] theorem setSession_core (s : State) (i : Nat) (x : Option Session) : (setSession s i x).core = s.core := rfl
@[simp] theorem setSession_time (s : State) (i : Nat) (x : Option Session) : (setSession s i x).time = s.time := rfl
@[simp] theorem setSession_path (s : State) (i : Nat) (x : Option Session) : (setSession s i x).path = s.path := rfl
@[simp] theorem setSession_tbl (s : State) (i : Nat) (x : Option Session) : (setSession s i x).tbl = s.tbl := rfl
@[simp] theorem setSession_gen (s : State) (i : Nat) (x : Option Session) : (setSession s i x).gen = s.gen := rfl
@[simp] theorem setSession_egr (s : State) (i : Nat) (x : Option Session) : (setSession s i x).egr = s.egr := rfl
@[simp] theorem setSession_tal (s : State) (i : Nat) (x : Option Session) : (setSession s i x).tal = s.tal := rfl
@[simp] theorem setSession_memo (s : State) (i : Nat) (x : Option Session) : (setSession s i x).memo = s.memo := rfl
@[simp] theorem setSession_flt (s : State) (i : Nat) (x : Option Session) : (setSession s i x).flt = s.flt := rfl
@[simp] theorem setSession_insp (s : State) (i : Nat) (x : Option Session) : (setSession s i x).insp = s.insp := rfl
@[simp] theorem setSession_log (s : State) (i : Nat) (x : Option Session) : (setSession s i x).log = s.log := rfl
@[simp] theorem setSession_boot (s : State) (i : Nat) (x : Option Session) : (setSession s i x).boot = s.boot := rfl
@[simp] theorem setSession_pair (s : State) (i : Nat) (x : Option Session) : (setSession s i x).pair = s.pair := rfl
@[simp] theorem setSession_phy (s : State) (i : Nat) (x : Option Session) : (setSession s i x).phy = s.phy := rfl
@[simp] theorem setSession_out (s : State) (i : Nat) (x : Option Session) : (setSession s i x).out = s.out := rfl
@[simp] theorem setSession_free (s : State) (i : Nat) (x : Option Session) : (setSession s i x).free = s.free := rfl
@[simp] theorem setSession_pending (s : State) (i : Nat) (x : Option Session) : (setSession s i x).pending = s.pending := rfl

@[simp] theorem setClaim_pkg (s : State) (cls idx : Nat) (x : Option Claim) : (setClaim s cls idx x).pkg = s.pkg := rfl
@[simp] theorem setClaim_regs (s : State) (cls idx : Nat) (x : Option Claim) : (setClaim s cls idx x).regs = s.regs := rfl
@[simp] theorem setClaim_core (s : State) (cls idx : Nat) (x : Option Claim) : (setClaim s cls idx x).core = s.core := rfl
@[simp] theorem setClaim_time (s : State) (cls idx : Nat) (x : Option Claim) : (setClaim s cls idx x).time = s.time := rfl
@[simp] theorem setClaim_path (s : State) (cls idx : Nat) (x : Option Claim) : (setClaim s cls idx x).path = s.path := rfl
@[simp] theorem setClaim_tbl (s : State) (cls idx : Nat) (x : Option Claim) : (setClaim s cls idx x).tbl = s.tbl := rfl
@[simp] theorem setClaim_gen (s : State) (cls idx : Nat) (x : Option Claim) : (setClaim s cls idx x).gen = s.gen := rfl
@[simp] theorem setClaim_egr (s : State) (cls idx : Nat) (x : Option Claim) : (setClaim s cls idx x).egr = s.egr := rfl
@[simp] theorem setClaim_tal (s : State) (cls idx : Nat) (x : Option Claim) : (setClaim s cls idx x).tal = s.tal := rfl
@[simp] theorem setClaim_memo (s : State) (cls idx : Nat) (x : Option Claim) : (setClaim s cls idx x).memo = s.memo := rfl
@[simp] theorem setClaim_flt (s : State) (cls idx : Nat) (x : Option Claim) : (setClaim s cls idx x).flt = s.flt := rfl
@[simp] theorem setClaim_insp (s : State) (cls idx : Nat) (x : Option Claim) : (setClaim s cls idx x).insp = s.insp := rfl
@[simp] theorem setClaim_log (s : State) (cls idx : Nat) (x : Option Claim) : (setClaim s cls idx x).log = s.log := rfl
@[simp] theorem setClaim_boot (s : State) (cls idx : Nat) (x : Option Claim) : (setClaim s cls idx x).boot = s.boot := rfl
@[simp] theorem setClaim_pair (s : State) (cls idx : Nat) (x : Option Claim) : (setClaim s cls idx x).pair = s.pair := rfl
@[simp] theorem setClaim_phy (s : State) (cls idx : Nat) (x : Option Claim) : (setClaim s cls idx x).phy = s.phy := rfl
@[simp] theorem setClaim_out (s : State) (cls idx : Nat) (x : Option Claim) : (setClaim s cls idx x).out = s.out := rfl
@[simp] theorem setClaim_free (s : State) (cls idx : Nat) (x : Option Claim) : (setClaim s cls idx x).free = s.free := rfl
@[simp] theorem setClaim_pending (s : State) (cls idx : Nat) (x : Option Claim) : (setClaim s cls idx x).pending = s.pending := rfl

@[simp] theorem setRateBucket_pkg (s : State) (d : Nat) (code : Word) (b : RateBucket) : (setRateBucket s d code b).pkg = s.pkg := rfl
@[simp] theorem setRateBucket_regs (s : State) (d : Nat) (code : Word) (b : RateBucket) : (setRateBucket s d code b).regs = s.regs := rfl
@[simp] theorem setRateBucket_core (s : State) (d : Nat) (code : Word) (b : RateBucket) : (setRateBucket s d code b).core = s.core := rfl
@[simp] theorem setRateBucket_time (s : State) (d : Nat) (code : Word) (b : RateBucket) : (setRateBucket s d code b).time = s.time := rfl
@[simp] theorem setRateBucket_path (s : State) (d : Nat) (code : Word) (b : RateBucket) : (setRateBucket s d code b).path = s.path := rfl
@[simp] theorem setRateBucket_tbl (s : State) (d : Nat) (code : Word) (b : RateBucket) : (setRateBucket s d code b).tbl = s.tbl := rfl
@[simp] theorem setRateBucket_gen (s : State) (d : Nat) (code : Word) (b : RateBucket) : (setRateBucket s d code b).gen = s.gen := rfl
@[simp] theorem setRateBucket_egr (s : State) (d : Nat) (code : Word) (b : RateBucket) : (setRateBucket s d code b).egr = s.egr := rfl
@[simp] theorem setRateBucket_tal (s : State) (d : Nat) (code : Word) (b : RateBucket) : (setRateBucket s d code b).tal = s.tal := rfl
@[simp] theorem setRateBucket_memo (s : State) (d : Nat) (code : Word) (b : RateBucket) : (setRateBucket s d code b).memo = s.memo := rfl
@[simp] theorem setRateBucket_kpr (s : State) (d : Nat) (code : Word) (b : RateBucket) : (setRateBucket s d code b).kpr = s.kpr := rfl
@[simp] theorem setRateBucket_flt (s : State) (d : Nat) (code : Word) (b : RateBucket) : (setRateBucket s d code b).flt = s.flt := rfl
@[simp] theorem setRateBucket_insp (s : State) (d : Nat) (code : Word) (b : RateBucket) : (setRateBucket s d code b).insp = s.insp := rfl
@[simp] theorem setRateBucket_boot (s : State) (d : Nat) (code : Word) (b : RateBucket) : (setRateBucket s d code b).boot = s.boot := rfl
@[simp] theorem setRateBucket_pair (s : State) (d : Nat) (code : Word) (b : RateBucket) : (setRateBucket s d code b).pair = s.pair := rfl
@[simp] theorem setRateBucket_phy (s : State) (d : Nat) (code : Word) (b : RateBucket) : (setRateBucket s d code b).phy = s.phy := rfl
@[simp] theorem setRateBucket_out (s : State) (d : Nat) (code : Word) (b : RateBucket) : (setRateBucket s d code b).out = s.out := rfl
@[simp] theorem setRateBucket_free (s : State) (d : Nat) (code : Word) (b : RateBucket) : (setRateBucket s d code b).free = s.free := rfl
@[simp] theorem setRateBucket_pending (s : State) (d : Nat) (code : Word) (b : RateBucket) : (setRateBucket s d code b).pending = s.pending := rfl

@[simp] theorem setT_pkg (s : State) (t : Nat) (x : Thread) : (setT s t x).pkg = s.pkg := rfl
@[simp] theorem setT_regs (s : State) (t : Nat) (x : Thread) : (setT s t x).regs = s.regs := rfl
@[simp] theorem setT_time (s : State) (t : Nat) (x : Thread) : (setT s t x).time = s.time := rfl
@[simp] theorem setT_path (s : State) (t : Nat) (x : Thread) : (setT s t x).path = s.path := rfl
@[simp] theorem setT_tbl (s : State) (t : Nat) (x : Thread) : (setT s t x).tbl = s.tbl := rfl
@[simp] theorem setT_gen (s : State) (t : Nat) (x : Thread) : (setT s t x).gen = s.gen := rfl
@[simp] theorem setT_egr (s : State) (t : Nat) (x : Thread) : (setT s t x).egr = s.egr := rfl
@[simp] theorem setT_tal (s : State) (t : Nat) (x : Thread) : (setT s t x).tal = s.tal := rfl
@[simp] theorem setT_memo (s : State) (t : Nat) (x : Thread) : (setT s t x).memo = s.memo := rfl
@[simp] theorem setT_kpr (s : State) (t : Nat) (x : Thread) : (setT s t x).kpr = s.kpr := rfl
@[simp] theorem setT_flt (s : State) (t : Nat) (x : Thread) : (setT s t x).flt = s.flt := rfl
@[simp] theorem setT_insp (s : State) (t : Nat) (x : Thread) : (setT s t x).insp = s.insp := rfl
@[simp] theorem setT_log (s : State) (t : Nat) (x : Thread) : (setT s t x).log = s.log := rfl
@[simp] theorem setT_boot (s : State) (t : Nat) (x : Thread) : (setT s t x).boot = s.boot := rfl
@[simp] theorem setT_pair (s : State) (t : Nat) (x : Thread) : (setT s t x).pair = s.pair := rfl
@[simp] theorem setT_phy (s : State) (t : Nat) (x : Thread) : (setT s t x).phy = s.phy := rfl
@[simp] theorem setT_out (s : State) (t : Nat) (x : Thread) : (setT s t x).out = s.out := rfl
@[simp] theorem setT_free (s : State) (t : Nat) (x : Thread) : (setT s t x).free = s.free := rfl
@[simp] theorem setT_pending (s : State) (t : Nat) (x : Thread) : (setT s t x).pending = s.pending := rfl

@[simp] theorem setCell_pkg (s : State) (c : Nat) (x : Cell) : (setCell s c x).pkg = s.pkg := rfl
@[simp] theorem setCell_regs (s : State) (c : Nat) (x : Cell) : (setCell s c x).regs = s.regs := rfl
@[simp] theorem setCell_time (s : State) (c : Nat) (x : Cell) : (setCell s c x).time = s.time := rfl
@[simp] theorem setCell_path (s : State) (c : Nat) (x : Cell) : (setCell s c x).path = s.path := rfl
@[simp] theorem setCell_tbl (s : State) (c : Nat) (x : Cell) : (setCell s c x).tbl = s.tbl := rfl
@[simp] theorem setCell_gen (s : State) (c : Nat) (x : Cell) : (setCell s c x).gen = s.gen := rfl
@[simp] theorem setCell_egr (s : State) (c : Nat) (x : Cell) : (setCell s c x).egr = s.egr := rfl
@[simp] theorem setCell_tal (s : State) (c : Nat) (x : Cell) : (setCell s c x).tal = s.tal := rfl
@[simp] theorem setCell_memo (s : State) (c : Nat) (x : Cell) : (setCell s c x).memo = s.memo := rfl
@[simp] theorem setCell_kpr (s : State) (c : Nat) (x : Cell) : (setCell s c x).kpr = s.kpr := rfl
@[simp] theorem setCell_flt (s : State) (c : Nat) (x : Cell) : (setCell s c x).flt = s.flt := rfl
@[simp] theorem setCell_insp (s : State) (c : Nat) (x : Cell) : (setCell s c x).insp = s.insp := rfl
@[simp] theorem setCell_log (s : State) (c : Nat) (x : Cell) : (setCell s c x).log = s.log := rfl
@[simp] theorem setCell_boot (s : State) (c : Nat) (x : Cell) : (setCell s c x).boot = s.boot := rfl
@[simp] theorem setCell_pair (s : State) (c : Nat) (x : Cell) : (setCell s c x).pair = s.pair := rfl
@[simp] theorem setCell_phy (s : State) (c : Nat) (x : Cell) : (setCell s c x).phy = s.phy := rfl
@[simp] theorem setCell_out (s : State) (c : Nat) (x : Cell) : (setCell s c x).out = s.out := rfl
@[simp] theorem setCell_free (s : State) (c : Nat) (x : Cell) : (setCell s c x).free = s.free := rfl
@[simp] theorem setCell_pending (s : State) (c : Nat) (x : Cell) : (setCell s c x).pending = s.pending := rfl

@[simp] theorem setComb_pkg (s : State) (k : Nat) (x : Comb) : (setComb s k x).pkg = s.pkg := rfl
@[simp] theorem setComb_regs (s : State) (k : Nat) (x : Comb) : (setComb s k x).regs = s.regs := rfl
@[simp] theorem setComb_time (s : State) (k : Nat) (x : Comb) : (setComb s k x).time = s.time := rfl
@[simp] theorem setComb_path (s : State) (k : Nat) (x : Comb) : (setComb s k x).path = s.path := rfl
@[simp] theorem setComb_tbl (s : State) (k : Nat) (x : Comb) : (setComb s k x).tbl = s.tbl := rfl
@[simp] theorem setComb_gen (s : State) (k : Nat) (x : Comb) : (setComb s k x).gen = s.gen := rfl
@[simp] theorem setComb_egr (s : State) (k : Nat) (x : Comb) : (setComb s k x).egr = s.egr := rfl
@[simp] theorem setComb_tal (s : State) (k : Nat) (x : Comb) : (setComb s k x).tal = s.tal := rfl
@[simp] theorem setComb_memo (s : State) (k : Nat) (x : Comb) : (setComb s k x).memo = s.memo := rfl
@[simp] theorem setComb_kpr (s : State) (k : Nat) (x : Comb) : (setComb s k x).kpr = s.kpr := rfl
@[simp] theorem setComb_flt (s : State) (k : Nat) (x : Comb) : (setComb s k x).flt = s.flt := rfl
@[simp] theorem setComb_insp (s : State) (k : Nat) (x : Comb) : (setComb s k x).insp = s.insp := rfl
@[simp] theorem setComb_log (s : State) (k : Nat) (x : Comb) : (setComb s k x).log = s.log := rfl
@[simp] theorem setComb_boot (s : State) (k : Nat) (x : Comb) : (setComb s k x).boot = s.boot := rfl
@[simp] theorem setComb_pair (s : State) (k : Nat) (x : Comb) : (setComb s k x).pair = s.pair := rfl
@[simp] theorem setComb_phy (s : State) (k : Nat) (x : Comb) : (setComb s k x).phy = s.phy := rfl
@[simp] theorem setComb_out (s : State) (k : Nat) (x : Comb) : (setComb s k x).out = s.out := rfl
@[simp] theorem setComb_free (s : State) (k : Nat) (x : Comb) : (setComb s k x).free = s.free := rfl
@[simp] theorem setComb_pending (s : State) (k : Nat) (x : Comb) : (setComb s k x).pending = s.pending := rfl

@[simp] theorem setMem_pkg (s : State) (a : Nat) (v : Word) : (setMem s a v).pkg = s.pkg := rfl
@[simp] theorem setMem_regs (s : State) (a : Nat) (v : Word) : (setMem s a v).regs = s.regs := rfl
@[simp] theorem setMem_time (s : State) (a : Nat) (v : Word) : (setMem s a v).time = s.time := rfl
@[simp] theorem setMem_path (s : State) (a : Nat) (v : Word) : (setMem s a v).path = s.path := rfl
@[simp] theorem setMem_tbl (s : State) (a : Nat) (v : Word) : (setMem s a v).tbl = s.tbl := rfl
@[simp] theorem setMem_gen (s : State) (a : Nat) (v : Word) : (setMem s a v).gen = s.gen := rfl
@[simp] theorem setMem_egr (s : State) (a : Nat) (v : Word) : (setMem s a v).egr = s.egr := rfl
@[simp] theorem setMem_tal (s : State) (a : Nat) (v : Word) : (setMem s a v).tal = s.tal := rfl
@[simp] theorem setMem_memo (s : State) (a : Nat) (v : Word) : (setMem s a v).memo = s.memo := rfl
@[simp] theorem setMem_kpr (s : State) (a : Nat) (v : Word) : (setMem s a v).kpr = s.kpr := rfl
@[simp] theorem setMem_flt (s : State) (a : Nat) (v : Word) : (setMem s a v).flt = s.flt := rfl
@[simp] theorem setMem_insp (s : State) (a : Nat) (v : Word) : (setMem s a v).insp = s.insp := rfl
@[simp] theorem setMem_log (s : State) (a : Nat) (v : Word) : (setMem s a v).log = s.log := rfl
@[simp] theorem setMem_boot (s : State) (a : Nat) (v : Word) : (setMem s a v).boot = s.boot := rfl
@[simp] theorem setMem_pair (s : State) (a : Nat) (v : Word) : (setMem s a v).pair = s.pair := rfl
@[simp] theorem setMem_phy (s : State) (a : Nat) (v : Word) : (setMem s a v).phy = s.phy := rfl
@[simp] theorem setMem_out (s : State) (a : Nat) (v : Word) : (setMem s a v).out = s.out := rfl
@[simp] theorem setMem_free (s : State) (a : Nat) (v : Word) : (setMem s a v).free = s.free := rfl
@[simp] theorem setMem_pending (s : State) (a : Nat) (v : Word) : (setMem s a v).pending = s.pending := rfl

@[simp] theorem setLock_pkg (s : State) (d n : Nat) (x : Lock) : (setLock s d n x).pkg = s.pkg := rfl
@[simp] theorem setLock_regs (s : State) (d n : Nat) (x : Lock) : (setLock s d n x).regs = s.regs := rfl
@[simp] theorem setLock_time (s : State) (d n : Nat) (x : Lock) : (setLock s d n x).time = s.time := rfl
@[simp] theorem setLock_path (s : State) (d n : Nat) (x : Lock) : (setLock s d n x).path = s.path := rfl
@[simp] theorem setLock_tbl (s : State) (d n : Nat) (x : Lock) : (setLock s d n x).tbl = s.tbl := rfl
@[simp] theorem setLock_gen (s : State) (d n : Nat) (x : Lock) : (setLock s d n x).gen = s.gen := rfl
@[simp] theorem setLock_egr (s : State) (d n : Nat) (x : Lock) : (setLock s d n x).egr = s.egr := rfl
@[simp] theorem setLock_tal (s : State) (d n : Nat) (x : Lock) : (setLock s d n x).tal = s.tal := rfl
@[simp] theorem setLock_memo (s : State) (d n : Nat) (x : Lock) : (setLock s d n x).memo = s.memo := rfl
@[simp] theorem setLock_kpr (s : State) (d n : Nat) (x : Lock) : (setLock s d n x).kpr = s.kpr := rfl
@[simp] theorem setLock_flt (s : State) (d n : Nat) (x : Lock) : (setLock s d n x).flt = s.flt := rfl
@[simp] theorem setLock_insp (s : State) (d n : Nat) (x : Lock) : (setLock s d n x).insp = s.insp := rfl
@[simp] theorem setLock_log (s : State) (d n : Nat) (x : Lock) : (setLock s d n x).log = s.log := rfl
@[simp] theorem setLock_boot (s : State) (d n : Nat) (x : Lock) : (setLock s d n x).boot = s.boot := rfl
@[simp] theorem setLock_pair (s : State) (d n : Nat) (x : Lock) : (setLock s d n x).pair = s.pair := rfl
@[simp] theorem setLock_phy (s : State) (d n : Nat) (x : Lock) : (setLock s d n x).phy = s.phy := rfl
@[simp] theorem setLock_out (s : State) (d n : Nat) (x : Lock) : (setLock s d n x).out = s.out := rfl
@[simp] theorem setLock_free (s : State) (d n : Nat) (x : Lock) : (setLock s d n x).free = s.free := rfl
@[simp] theorem setLock_pending (s : State) (d n : Nat) (x : Lock) : (setLock s d n x).pending = s.pending := rfl

@[simp] theorem setBank_pkg (s : State) (d b : Nat) (l : List LockReq) : (setBank s d b l).pkg = s.pkg := rfl
@[simp] theorem setBank_regs (s : State) (d b : Nat) (l : List LockReq) : (setBank s d b l).regs = s.regs := rfl
@[simp] theorem setBank_time (s : State) (d b : Nat) (l : List LockReq) : (setBank s d b l).time = s.time := rfl
@[simp] theorem setBank_path (s : State) (d b : Nat) (l : List LockReq) : (setBank s d b l).path = s.path := rfl
@[simp] theorem setBank_tbl (s : State) (d b : Nat) (l : List LockReq) : (setBank s d b l).tbl = s.tbl := rfl
@[simp] theorem setBank_gen (s : State) (d b : Nat) (l : List LockReq) : (setBank s d b l).gen = s.gen := rfl
@[simp] theorem setBank_egr (s : State) (d b : Nat) (l : List LockReq) : (setBank s d b l).egr = s.egr := rfl
@[simp] theorem setBank_tal (s : State) (d b : Nat) (l : List LockReq) : (setBank s d b l).tal = s.tal := rfl
@[simp] theorem setBank_memo (s : State) (d b : Nat) (l : List LockReq) : (setBank s d b l).memo = s.memo := rfl
@[simp] theorem setBank_kpr (s : State) (d b : Nat) (l : List LockReq) : (setBank s d b l).kpr = s.kpr := rfl
@[simp] theorem setBank_flt (s : State) (d b : Nat) (l : List LockReq) : (setBank s d b l).flt = s.flt := rfl
@[simp] theorem setBank_insp (s : State) (d b : Nat) (l : List LockReq) : (setBank s d b l).insp = s.insp := rfl
@[simp] theorem setBank_log (s : State) (d b : Nat) (l : List LockReq) : (setBank s d b l).log = s.log := rfl
@[simp] theorem setBank_boot (s : State) (d b : Nat) (l : List LockReq) : (setBank s d b l).boot = s.boot := rfl
@[simp] theorem setBank_pair (s : State) (d b : Nat) (l : List LockReq) : (setBank s d b l).pair = s.pair := rfl
@[simp] theorem setBank_phy (s : State) (d b : Nat) (l : List LockReq) : (setBank s d b l).phy = s.phy := rfl
@[simp] theorem setBank_out (s : State) (d b : Nat) (l : List LockReq) : (setBank s d b l).out = s.out := rfl
@[simp] theorem setBank_free (s : State) (d b : Nat) (l : List LockReq) : (setBank s d b l).free = s.free := rfl
@[simp] theorem setBank_pending (s : State) (d b : Nat) (l : List LockReq) : (setBank s d b l).pending = s.pending := rfl

@[simp] theorem setFrame_pkg (s : State) (f : Nat) (x : Option Frame) : (setFrame s f x).pkg = s.pkg := rfl
@[simp] theorem setFrame_regs (s : State) (f : Nat) (x : Option Frame) : (setFrame s f x).regs = s.regs := rfl
@[simp] theorem setFrame_core (s : State) (f : Nat) (x : Option Frame) : (setFrame s f x).core = s.core := rfl
@[simp] theorem setFrame_time (s : State) (f : Nat) (x : Option Frame) : (setFrame s f x).time = s.time := rfl
@[simp] theorem setFrame_tbl (s : State) (f : Nat) (x : Option Frame) : (setFrame s f x).tbl = s.tbl := rfl
@[simp] theorem setFrame_gen (s : State) (f : Nat) (x : Option Frame) : (setFrame s f x).gen = s.gen := rfl
@[simp] theorem setFrame_egr (s : State) (f : Nat) (x : Option Frame) : (setFrame s f x).egr = s.egr := rfl
@[simp] theorem setFrame_tal (s : State) (f : Nat) (x : Option Frame) : (setFrame s f x).tal = s.tal := rfl
@[simp] theorem setFrame_memo (s : State) (f : Nat) (x : Option Frame) : (setFrame s f x).memo = s.memo := rfl
@[simp] theorem setFrame_kpr (s : State) (f : Nat) (x : Option Frame) : (setFrame s f x).kpr = s.kpr := rfl
@[simp] theorem setFrame_flt (s : State) (f : Nat) (x : Option Frame) : (setFrame s f x).flt = s.flt := rfl
@[simp] theorem setFrame_insp (s : State) (f : Nat) (x : Option Frame) : (setFrame s f x).insp = s.insp := rfl
@[simp] theorem setFrame_log (s : State) (f : Nat) (x : Option Frame) : (setFrame s f x).log = s.log := rfl
@[simp] theorem setFrame_boot (s : State) (f : Nat) (x : Option Frame) : (setFrame s f x).boot = s.boot := rfl
@[simp] theorem setFrame_pair (s : State) (f : Nat) (x : Option Frame) : (setFrame s f x).pair = s.pair := rfl
@[simp] theorem setFrame_phy (s : State) (f : Nat) (x : Option Frame) : (setFrame s f x).phy = s.phy := rfl
@[simp] theorem setFrame_out (s : State) (f : Nat) (x : Option Frame) : (setFrame s f x).out = s.out := rfl
@[simp] theorem setFrame_free (s : State) (f : Nat) (x : Option Frame) : (setFrame s f x).free = s.free := rfl
@[simp] theorem setFrame_pending (s : State) (f : Nat) (x : Option Frame) : (setFrame s f x).pending = s.pending := rfl

@[simp] theorem setDom_pkg (s : State) (d dom : Nat) (x : Domain) : (setDom s d dom x).pkg = s.pkg := rfl
@[simp] theorem setDom_regs (s : State) (d dom : Nat) (x : Domain) : (setDom s d dom x).regs = s.regs := rfl
@[simp] theorem setDom_core (s : State) (d dom : Nat) (x : Domain) : (setDom s d dom x).core = s.core := rfl
@[simp] theorem setDom_time (s : State) (d dom : Nat) (x : Domain) : (setDom s d dom x).time = s.time := rfl
@[simp] theorem setDom_tbl (s : State) (d dom : Nat) (x : Domain) : (setDom s d dom x).tbl = s.tbl := rfl
@[simp] theorem setDom_gen (s : State) (d dom : Nat) (x : Domain) : (setDom s d dom x).gen = s.gen := rfl
@[simp] theorem setDom_egr (s : State) (d dom : Nat) (x : Domain) : (setDom s d dom x).egr = s.egr := rfl
@[simp] theorem setDom_tal (s : State) (d dom : Nat) (x : Domain) : (setDom s d dom x).tal = s.tal := rfl
@[simp] theorem setDom_memo (s : State) (d dom : Nat) (x : Domain) : (setDom s d dom x).memo = s.memo := rfl
@[simp] theorem setDom_kpr (s : State) (d dom : Nat) (x : Domain) : (setDom s d dom x).kpr = s.kpr := rfl
@[simp] theorem setDom_flt (s : State) (d dom : Nat) (x : Domain) : (setDom s d dom x).flt = s.flt := rfl
@[simp] theorem setDom_insp (s : State) (d dom : Nat) (x : Domain) : (setDom s d dom x).insp = s.insp := rfl
@[simp] theorem setDom_log (s : State) (d dom : Nat) (x : Domain) : (setDom s d dom x).log = s.log := rfl
@[simp] theorem setDom_boot (s : State) (d dom : Nat) (x : Domain) : (setDom s d dom x).boot = s.boot := rfl
@[simp] theorem setDom_pair (s : State) (d dom : Nat) (x : Domain) : (setDom s d dom x).pair = s.pair := rfl
@[simp] theorem setDom_phy (s : State) (d dom : Nat) (x : Domain) : (setDom s d dom x).phy = s.phy := rfl
@[simp] theorem setDom_out (s : State) (d dom : Nat) (x : Domain) : (setDom s d dom x).out = s.out := rfl
@[simp] theorem setDom_free (s : State) (d dom : Nat) (x : Domain) : (setDom s d dom x).free = s.free := rfl
@[simp] theorem setDom_pending (s : State) (d dom : Nat) (x : Domain) : (setDom s d dom x).pending = s.pending := rfl

@[simp] theorem setPipe_pkg (s : State) (k : Nat) (x : Pipe) : (setPipe s k x).pkg = s.pkg := rfl
@[simp] theorem setPipe_regs (s : State) (k : Nat) (x : Pipe) : (setPipe s k x).regs = s.regs := rfl
@[simp] theorem setPipe_core (s : State) (k : Nat) (x : Pipe) : (setPipe s k x).core = s.core := rfl
@[simp] theorem setPipe_time (s : State) (k : Nat) (x : Pipe) : (setPipe s k x).time = s.time := rfl
@[simp] theorem setPipe_tbl (s : State) (k : Nat) (x : Pipe) : (setPipe s k x).tbl = s.tbl := rfl
@[simp] theorem setPipe_gen (s : State) (k : Nat) (x : Pipe) : (setPipe s k x).gen = s.gen := rfl
@[simp] theorem setPipe_egr (s : State) (k : Nat) (x : Pipe) : (setPipe s k x).egr = s.egr := rfl
@[simp] theorem setPipe_tal (s : State) (k : Nat) (x : Pipe) : (setPipe s k x).tal = s.tal := rfl
@[simp] theorem setPipe_memo (s : State) (k : Nat) (x : Pipe) : (setPipe s k x).memo = s.memo := rfl
@[simp] theorem setPipe_kpr (s : State) (k : Nat) (x : Pipe) : (setPipe s k x).kpr = s.kpr := rfl
@[simp] theorem setPipe_flt (s : State) (k : Nat) (x : Pipe) : (setPipe s k x).flt = s.flt := rfl
@[simp] theorem setPipe_insp (s : State) (k : Nat) (x : Pipe) : (setPipe s k x).insp = s.insp := rfl
@[simp] theorem setPipe_log (s : State) (k : Nat) (x : Pipe) : (setPipe s k x).log = s.log := rfl
@[simp] theorem setPipe_boot (s : State) (k : Nat) (x : Pipe) : (setPipe s k x).boot = s.boot := rfl
@[simp] theorem setPipe_pair (s : State) (k : Nat) (x : Pipe) : (setPipe s k x).pair = s.pair := rfl
@[simp] theorem setPipe_phy (s : State) (k : Nat) (x : Pipe) : (setPipe s k x).phy = s.phy := rfl
@[simp] theorem setPipe_out (s : State) (k : Nat) (x : Pipe) : (setPipe s k x).out = s.out := rfl
@[simp] theorem setPipe_free (s : State) (k : Nat) (x : Pipe) : (setPipe s k x).free = s.free := rfl
@[simp] theorem setPipe_pending (s : State) (k : Nat) (x : Pipe) : (setPipe s k x).pending = s.pending := rfl

@[simp] theorem setWq_pkg (s : State) (d q : Nat) (x : WorkQueue) : (setWq s d q x).pkg = s.pkg := rfl
@[simp] theorem setWq_regs (s : State) (d q : Nat) (x : WorkQueue) : (setWq s d q x).regs = s.regs := rfl
@[simp] theorem setWq_core (s : State) (d q : Nat) (x : WorkQueue) : (setWq s d q x).core = s.core := rfl
@[simp] theorem setWq_time (s : State) (d q : Nat) (x : WorkQueue) : (setWq s d q x).time = s.time := rfl
@[simp] theorem setWq_tbl (s : State) (d q : Nat) (x : WorkQueue) : (setWq s d q x).tbl = s.tbl := rfl
@[simp] theorem setWq_gen (s : State) (d q : Nat) (x : WorkQueue) : (setWq s d q x).gen = s.gen := rfl
@[simp] theorem setWq_egr (s : State) (d q : Nat) (x : WorkQueue) : (setWq s d q x).egr = s.egr := rfl
@[simp] theorem setWq_tal (s : State) (d q : Nat) (x : WorkQueue) : (setWq s d q x).tal = s.tal := rfl
@[simp] theorem setWq_memo (s : State) (d q : Nat) (x : WorkQueue) : (setWq s d q x).memo = s.memo := rfl
@[simp] theorem setWq_kpr (s : State) (d q : Nat) (x : WorkQueue) : (setWq s d q x).kpr = s.kpr := rfl
@[simp] theorem setWq_flt (s : State) (d q : Nat) (x : WorkQueue) : (setWq s d q x).flt = s.flt := rfl
@[simp] theorem setWq_insp (s : State) (d q : Nat) (x : WorkQueue) : (setWq s d q x).insp = s.insp := rfl
@[simp] theorem setWq_log (s : State) (d q : Nat) (x : WorkQueue) : (setWq s d q x).log = s.log := rfl
@[simp] theorem setWq_boot (s : State) (d q : Nat) (x : WorkQueue) : (setWq s d q x).boot = s.boot := rfl
@[simp] theorem setWq_pair (s : State) (d q : Nat) (x : WorkQueue) : (setWq s d q x).pair = s.pair := rfl
@[simp] theorem setWq_phy (s : State) (d q : Nat) (x : WorkQueue) : (setWq s d q x).phy = s.phy := rfl
@[simp] theorem setWq_out (s : State) (d q : Nat) (x : WorkQueue) : (setWq s d q x).out = s.out := rfl
@[simp] theorem setWq_free (s : State) (d q : Nat) (x : WorkQueue) : (setWq s d q x).free = s.free := rfl
@[simp] theorem setWq_pending (s : State) (d q : Nat) (x : WorkQueue) : (setWq s d q x).pending = s.pending := rfl

@[simp] theorem setIngress_pkg (s : State) (g : Nat) (l : List IngFrame) : (setIngress s g l).pkg = s.pkg := rfl
@[simp] theorem setIngress_regs (s : State) (g : Nat) (l : List IngFrame) : (setIngress s g l).regs = s.regs := rfl
@[simp] theorem setIngress_core (s : State) (g : Nat) (l : List IngFrame) : (setIngress s g l).core = s.core := rfl
@[simp] theorem setIngress_time (s : State) (g : Nat) (l : List IngFrame) : (setIngress s g l).time = s.time := rfl
@[simp] theorem setIngress_tbl (s : State) (g : Nat) (l : List IngFrame) : (setIngress s g l).tbl = s.tbl := rfl
@[simp] theorem setIngress_gen (s : State) (g : Nat) (l : List IngFrame) : (setIngress s g l).gen = s.gen := rfl
@[simp] theorem setIngress_egr (s : State) (g : Nat) (l : List IngFrame) : (setIngress s g l).egr = s.egr := rfl
@[simp] theorem setIngress_tal (s : State) (g : Nat) (l : List IngFrame) : (setIngress s g l).tal = s.tal := rfl
@[simp] theorem setIngress_memo (s : State) (g : Nat) (l : List IngFrame) : (setIngress s g l).memo = s.memo := rfl
@[simp] theorem setIngress_kpr (s : State) (g : Nat) (l : List IngFrame) : (setIngress s g l).kpr = s.kpr := rfl
@[simp] theorem setIngress_flt (s : State) (g : Nat) (l : List IngFrame) : (setIngress s g l).flt = s.flt := rfl
@[simp] theorem setIngress_insp (s : State) (g : Nat) (l : List IngFrame) : (setIngress s g l).insp = s.insp := rfl
@[simp] theorem setIngress_log (s : State) (g : Nat) (l : List IngFrame) : (setIngress s g l).log = s.log := rfl
@[simp] theorem setIngress_boot (s : State) (g : Nat) (l : List IngFrame) : (setIngress s g l).boot = s.boot := rfl
@[simp] theorem setIngress_pair (s : State) (g : Nat) (l : List IngFrame) : (setIngress s g l).pair = s.pair := rfl
@[simp] theorem setIngress_phy (s : State) (g : Nat) (l : List IngFrame) : (setIngress s g l).phy = s.phy := rfl
@[simp] theorem setIngress_out (s : State) (g : Nat) (l : List IngFrame) : (setIngress s g l).out = s.out := rfl
@[simp] theorem setIngress_free (s : State) (g : Nat) (l : List IngFrame) : (setIngress s g l).free = s.free := rfl
@[simp] theorem setIngress_pending (s : State) (g : Nat) (l : List IngFrame) : (setIngress s g l).pending = s.pending := rfl

@[simp] theorem setQueue_pkg (s : State) (q : Nat) (l : List QCopy) : (setQueue s q l).pkg = s.pkg := rfl
@[simp] theorem setQueue_regs (s : State) (q : Nat) (l : List QCopy) : (setQueue s q l).regs = s.regs := rfl
@[simp] theorem setQueue_core (s : State) (q : Nat) (l : List QCopy) : (setQueue s q l).core = s.core := rfl
@[simp] theorem setQueue_time (s : State) (q : Nat) (l : List QCopy) : (setQueue s q l).time = s.time := rfl
@[simp] theorem setQueue_path (s : State) (q : Nat) (l : List QCopy) : (setQueue s q l).path = s.path := rfl
@[simp] theorem setQueue_tbl (s : State) (q : Nat) (l : List QCopy) : (setQueue s q l).tbl = s.tbl := rfl
@[simp] theorem setQueue_gen (s : State) (q : Nat) (l : List QCopy) : (setQueue s q l).gen = s.gen := rfl
@[simp] theorem setQueue_tal (s : State) (q : Nat) (l : List QCopy) : (setQueue s q l).tal = s.tal := rfl
@[simp] theorem setQueue_memo (s : State) (q : Nat) (l : List QCopy) : (setQueue s q l).memo = s.memo := rfl
@[simp] theorem setQueue_kpr (s : State) (q : Nat) (l : List QCopy) : (setQueue s q l).kpr = s.kpr := rfl
@[simp] theorem setQueue_flt (s : State) (q : Nat) (l : List QCopy) : (setQueue s q l).flt = s.flt := rfl
@[simp] theorem setQueue_insp (s : State) (q : Nat) (l : List QCopy) : (setQueue s q l).insp = s.insp := rfl
@[simp] theorem setQueue_log (s : State) (q : Nat) (l : List QCopy) : (setQueue s q l).log = s.log := rfl
@[simp] theorem setQueue_boot (s : State) (q : Nat) (l : List QCopy) : (setQueue s q l).boot = s.boot := rfl
@[simp] theorem setQueue_pair (s : State) (q : Nat) (l : List QCopy) : (setQueue s q l).pair = s.pair := rfl
@[simp] theorem setQueue_phy (s : State) (q : Nat) (l : List QCopy) : (setQueue s q l).phy = s.phy := rfl
@[simp] theorem setQueue_out (s : State) (q : Nat) (l : List QCopy) : (setQueue s q l).out = s.out := rfl
@[simp] theorem setQueue_free (s : State) (q : Nat) (l : List QCopy) : (setQueue s q l).free = s.free := rfl
@[simp] theorem setQueue_pending (s : State) (q : Nat) (l : List QCopy) : (setQueue s q l).pending = s.pending := rfl

@[simp] theorem setPort_pkg (s : State) (g : Nat) (x : PortS) : (setPort s g x).pkg = s.pkg := rfl
@[simp] theorem setPort_regs (s : State) (g : Nat) (x : PortS) : (setPort s g x).regs = s.regs := rfl
@[simp] theorem setPort_core (s : State) (g : Nat) (x : PortS) : (setPort s g x).core = s.core := rfl
@[simp] theorem setPort_time (s : State) (g : Nat) (x : PortS) : (setPort s g x).time = s.time := rfl
@[simp] theorem setPort_path (s : State) (g : Nat) (x : PortS) : (setPort s g x).path = s.path := rfl
@[simp] theorem setPort_tbl (s : State) (g : Nat) (x : PortS) : (setPort s g x).tbl = s.tbl := rfl
@[simp] theorem setPort_gen (s : State) (g : Nat) (x : PortS) : (setPort s g x).gen = s.gen := rfl
@[simp] theorem setPort_tal (s : State) (g : Nat) (x : PortS) : (setPort s g x).tal = s.tal := rfl
@[simp] theorem setPort_memo (s : State) (g : Nat) (x : PortS) : (setPort s g x).memo = s.memo := rfl
@[simp] theorem setPort_kpr (s : State) (g : Nat) (x : PortS) : (setPort s g x).kpr = s.kpr := rfl
@[simp] theorem setPort_flt (s : State) (g : Nat) (x : PortS) : (setPort s g x).flt = s.flt := rfl
@[simp] theorem setPort_insp (s : State) (g : Nat) (x : PortS) : (setPort s g x).insp = s.insp := rfl
@[simp] theorem setPort_log (s : State) (g : Nat) (x : PortS) : (setPort s g x).log = s.log := rfl
@[simp] theorem setPort_boot (s : State) (g : Nat) (x : PortS) : (setPort s g x).boot = s.boot := rfl
@[simp] theorem setPort_pair (s : State) (g : Nat) (x : PortS) : (setPort s g x).pair = s.pair := rfl
@[simp] theorem setPort_phy (s : State) (g : Nat) (x : PortS) : (setPort s g x).phy = s.phy := rfl
@[simp] theorem setPort_out (s : State) (g : Nat) (x : PortS) : (setPort s g x).out = s.out := rfl
@[simp] theorem setPort_free (s : State) (g : Nat) (x : PortS) : (setPort s g x).free = s.free := rfl
@[simp] theorem setPort_pending (s : State) (g : Nat) (x : PortS) : (setPort s g x).pending = s.pending := rfl

@[simp] theorem setXfer_pkg (s : State) (k : Nat) (x : Option Xfer) : (setXfer s k x).pkg = s.pkg := rfl
@[simp] theorem setXfer_regs (s : State) (k : Nat) (x : Option Xfer) : (setXfer s k x).regs = s.regs := rfl
@[simp] theorem setXfer_core (s : State) (k : Nat) (x : Option Xfer) : (setXfer s k x).core = s.core := rfl
@[simp] theorem setXfer_time (s : State) (k : Nat) (x : Option Xfer) : (setXfer s k x).time = s.time := rfl
@[simp] theorem setXfer_path (s : State) (k : Nat) (x : Option Xfer) : (setXfer s k x).path = s.path := rfl
@[simp] theorem setXfer_tbl (s : State) (k : Nat) (x : Option Xfer) : (setXfer s k x).tbl = s.tbl := rfl
@[simp] theorem setXfer_gen (s : State) (k : Nat) (x : Option Xfer) : (setXfer s k x).gen = s.gen := rfl
@[simp] theorem setXfer_tal (s : State) (k : Nat) (x : Option Xfer) : (setXfer s k x).tal = s.tal := rfl
@[simp] theorem setXfer_memo (s : State) (k : Nat) (x : Option Xfer) : (setXfer s k x).memo = s.memo := rfl
@[simp] theorem setXfer_kpr (s : State) (k : Nat) (x : Option Xfer) : (setXfer s k x).kpr = s.kpr := rfl
@[simp] theorem setXfer_flt (s : State) (k : Nat) (x : Option Xfer) : (setXfer s k x).flt = s.flt := rfl
@[simp] theorem setXfer_insp (s : State) (k : Nat) (x : Option Xfer) : (setXfer s k x).insp = s.insp := rfl
@[simp] theorem setXfer_log (s : State) (k : Nat) (x : Option Xfer) : (setXfer s k x).log = s.log := rfl
@[simp] theorem setXfer_boot (s : State) (k : Nat) (x : Option Xfer) : (setXfer s k x).boot = s.boot := rfl
@[simp] theorem setXfer_pair (s : State) (k : Nat) (x : Option Xfer) : (setXfer s k x).pair = s.pair := rfl
@[simp] theorem setXfer_phy (s : State) (k : Nat) (x : Option Xfer) : (setXfer s k x).phy = s.phy := rfl
@[simp] theorem setXfer_out (s : State) (k : Nat) (x : Option Xfer) : (setXfer s k x).out = s.out := rfl
@[simp] theorem setXfer_free (s : State) (k : Nat) (x : Option Xfer) : (setXfer s k x).free = s.free := rfl
@[simp] theorem setXfer_pending (s : State) (k : Nat) (x : Option Xfer) : (setXfer s k x).pending = s.pending := rfl

@[simp] theorem setJobs_pkg (s : State) (d : Nat) (l : List CopyJob) : (setJobs s d l).pkg = s.pkg := rfl
@[simp] theorem setJobs_regs (s : State) (d : Nat) (l : List CopyJob) : (setJobs s d l).regs = s.regs := rfl
@[simp] theorem setJobs_core (s : State) (d : Nat) (l : List CopyJob) : (setJobs s d l).core = s.core := rfl
@[simp] theorem setJobs_time (s : State) (d : Nat) (l : List CopyJob) : (setJobs s d l).time = s.time := rfl
@[simp] theorem setJobs_path (s : State) (d : Nat) (l : List CopyJob) : (setJobs s d l).path = s.path := rfl
@[simp] theorem setJobs_tbl (s : State) (d : Nat) (l : List CopyJob) : (setJobs s d l).tbl = s.tbl := rfl
@[simp] theorem setJobs_gen (s : State) (d : Nat) (l : List CopyJob) : (setJobs s d l).gen = s.gen := rfl
@[simp] theorem setJobs_tal (s : State) (d : Nat) (l : List CopyJob) : (setJobs s d l).tal = s.tal := rfl
@[simp] theorem setJobs_memo (s : State) (d : Nat) (l : List CopyJob) : (setJobs s d l).memo = s.memo := rfl
@[simp] theorem setJobs_kpr (s : State) (d : Nat) (l : List CopyJob) : (setJobs s d l).kpr = s.kpr := rfl
@[simp] theorem setJobs_flt (s : State) (d : Nat) (l : List CopyJob) : (setJobs s d l).flt = s.flt := rfl
@[simp] theorem setJobs_insp (s : State) (d : Nat) (l : List CopyJob) : (setJobs s d l).insp = s.insp := rfl
@[simp] theorem setJobs_log (s : State) (d : Nat) (l : List CopyJob) : (setJobs s d l).log = s.log := rfl
@[simp] theorem setJobs_boot (s : State) (d : Nat) (l : List CopyJob) : (setJobs s d l).boot = s.boot := rfl
@[simp] theorem setJobs_pair (s : State) (d : Nat) (l : List CopyJob) : (setJobs s d l).pair = s.pair := rfl
@[simp] theorem setJobs_phy (s : State) (d : Nat) (l : List CopyJob) : (setJobs s d l).phy = s.phy := rfl
@[simp] theorem setJobs_out (s : State) (d : Nat) (l : List CopyJob) : (setJobs s d l).out = s.out := rfl
@[simp] theorem setJobs_free (s : State) (d : Nat) (l : List CopyJob) : (setJobs s d l).free = s.free := rfl
@[simp] theorem setJobs_pending (s : State) (d : Nat) (l : List CopyJob) : (setJobs s d l).pending = s.pending := rfl

@[simp] theorem setEntry_pkg (s : State) (p : Nat) (e : Option Entry) : (setEntry s p e).pkg = s.pkg := rfl
@[simp] theorem setEntry_regs (s : State) (p : Nat) (e : Option Entry) : (setEntry s p e).regs = s.regs := rfl
@[simp] theorem setEntry_core (s : State) (p : Nat) (e : Option Entry) : (setEntry s p e).core = s.core := rfl
@[simp] theorem setEntry_time (s : State) (p : Nat) (e : Option Entry) : (setEntry s p e).time = s.time := rfl
@[simp] theorem setEntry_path (s : State) (p : Nat) (e : Option Entry) : (setEntry s p e).path = s.path := rfl
@[simp] theorem setEntry_gen (s : State) (p : Nat) (e : Option Entry) : (setEntry s p e).gen = s.gen := rfl
@[simp] theorem setEntry_egr (s : State) (p : Nat) (e : Option Entry) : (setEntry s p e).egr = s.egr := rfl
@[simp] theorem setEntry_tal (s : State) (p : Nat) (e : Option Entry) : (setEntry s p e).tal = s.tal := rfl
@[simp] theorem setEntry_memo (s : State) (p : Nat) (e : Option Entry) : (setEntry s p e).memo = s.memo := rfl
@[simp] theorem setEntry_kpr (s : State) (p : Nat) (e : Option Entry) : (setEntry s p e).kpr = s.kpr := rfl
@[simp] theorem setEntry_flt (s : State) (p : Nat) (e : Option Entry) : (setEntry s p e).flt = s.flt := rfl
@[simp] theorem setEntry_insp (s : State) (p : Nat) (e : Option Entry) : (setEntry s p e).insp = s.insp := rfl
@[simp] theorem setEntry_log (s : State) (p : Nat) (e : Option Entry) : (setEntry s p e).log = s.log := rfl
@[simp] theorem setEntry_boot (s : State) (p : Nat) (e : Option Entry) : (setEntry s p e).boot = s.boot := rfl
@[simp] theorem setEntry_pair (s : State) (p : Nat) (e : Option Entry) : (setEntry s p e).pair = s.pair := rfl
@[simp] theorem setEntry_phy (s : State) (p : Nat) (e : Option Entry) : (setEntry s p e).phy = s.phy := rfl
@[simp] theorem setEntry_out (s : State) (p : Nat) (e : Option Entry) : (setEntry s p e).out = s.out := rfl
@[simp] theorem setEntry_free (s : State) (p : Nat) (e : Option Entry) : (setEntry s p e).free = s.free := rfl
@[simp] theorem setEntry_pending (s : State) (p : Nat) (e : Option Entry) : (setEntry s p e).pending = s.pending := rfl

@[simp] theorem setEngine_pkg (s : State) (k : Nat) (l : List WriteReq) : (setEngine s k l).pkg = s.pkg := rfl
@[simp] theorem setEngine_regs (s : State) (k : Nat) (l : List WriteReq) : (setEngine s k l).regs = s.regs := rfl
@[simp] theorem setEngine_core (s : State) (k : Nat) (l : List WriteReq) : (setEngine s k l).core = s.core := rfl
@[simp] theorem setEngine_time (s : State) (k : Nat) (l : List WriteReq) : (setEngine s k l).time = s.time := rfl
@[simp] theorem setEngine_path (s : State) (k : Nat) (l : List WriteReq) : (setEngine s k l).path = s.path := rfl
@[simp] theorem setEngine_gen (s : State) (k : Nat) (l : List WriteReq) : (setEngine s k l).gen = s.gen := rfl
@[simp] theorem setEngine_egr (s : State) (k : Nat) (l : List WriteReq) : (setEngine s k l).egr = s.egr := rfl
@[simp] theorem setEngine_tal (s : State) (k : Nat) (l : List WriteReq) : (setEngine s k l).tal = s.tal := rfl
@[simp] theorem setEngine_memo (s : State) (k : Nat) (l : List WriteReq) : (setEngine s k l).memo = s.memo := rfl
@[simp] theorem setEngine_kpr (s : State) (k : Nat) (l : List WriteReq) : (setEngine s k l).kpr = s.kpr := rfl
@[simp] theorem setEngine_flt (s : State) (k : Nat) (l : List WriteReq) : (setEngine s k l).flt = s.flt := rfl
@[simp] theorem setEngine_insp (s : State) (k : Nat) (l : List WriteReq) : (setEngine s k l).insp = s.insp := rfl
@[simp] theorem setEngine_log (s : State) (k : Nat) (l : List WriteReq) : (setEngine s k l).log = s.log := rfl
@[simp] theorem setEngine_boot (s : State) (k : Nat) (l : List WriteReq) : (setEngine s k l).boot = s.boot := rfl
@[simp] theorem setEngine_pair (s : State) (k : Nat) (l : List WriteReq) : (setEngine s k l).pair = s.pair := rfl
@[simp] theorem setEngine_phy (s : State) (k : Nat) (l : List WriteReq) : (setEngine s k l).phy = s.phy := rfl
@[simp] theorem setEngine_out (s : State) (k : Nat) (l : List WriteReq) : (setEngine s k l).out = s.out := rfl
@[simp] theorem setEngine_free (s : State) (k : Nat) (l : List WriteReq) : (setEngine s k l).free = s.free := rfl
@[simp] theorem setEngine_pending (s : State) (k : Nat) (l : List WriteReq) : (setEngine s k l).pending = s.pending := rfl

@[simp] theorem setSched_pkg (s : State) (d i : Nat) (x : Option SchedEntry) : (setSched s d i x).pkg = s.pkg := rfl
@[simp] theorem setSched_regs (s : State) (d i : Nat) (x : Option SchedEntry) : (setSched s d i x).regs = s.regs := rfl
@[simp] theorem setSched_core (s : State) (d i : Nat) (x : Option SchedEntry) : (setSched s d i x).core = s.core := rfl
@[simp] theorem setSched_path (s : State) (d i : Nat) (x : Option SchedEntry) : (setSched s d i x).path = s.path := rfl
@[simp] theorem setSched_tbl (s : State) (d i : Nat) (x : Option SchedEntry) : (setSched s d i x).tbl = s.tbl := rfl
@[simp] theorem setSched_gen (s : State) (d i : Nat) (x : Option SchedEntry) : (setSched s d i x).gen = s.gen := rfl
@[simp] theorem setSched_egr (s : State) (d i : Nat) (x : Option SchedEntry) : (setSched s d i x).egr = s.egr := rfl
@[simp] theorem setSched_tal (s : State) (d i : Nat) (x : Option SchedEntry) : (setSched s d i x).tal = s.tal := rfl
@[simp] theorem setSched_memo (s : State) (d i : Nat) (x : Option SchedEntry) : (setSched s d i x).memo = s.memo := rfl
@[simp] theorem setSched_kpr (s : State) (d i : Nat) (x : Option SchedEntry) : (setSched s d i x).kpr = s.kpr := rfl
@[simp] theorem setSched_flt (s : State) (d i : Nat) (x : Option SchedEntry) : (setSched s d i x).flt = s.flt := rfl
@[simp] theorem setSched_insp (s : State) (d i : Nat) (x : Option SchedEntry) : (setSched s d i x).insp = s.insp := rfl
@[simp] theorem setSched_log (s : State) (d i : Nat) (x : Option SchedEntry) : (setSched s d i x).log = s.log := rfl
@[simp] theorem setSched_boot (s : State) (d i : Nat) (x : Option SchedEntry) : (setSched s d i x).boot = s.boot := rfl
@[simp] theorem setSched_pair (s : State) (d i : Nat) (x : Option SchedEntry) : (setSched s d i x).pair = s.pair := rfl
@[simp] theorem setSched_phy (s : State) (d i : Nat) (x : Option SchedEntry) : (setSched s d i x).phy = s.phy := rfl
@[simp] theorem setSched_out (s : State) (d i : Nat) (x : Option SchedEntry) : (setSched s d i x).out = s.out := rfl
@[simp] theorem setSched_free (s : State) (d i : Nat) (x : Option SchedEntry) : (setSched s d i x).free = s.free := rfl
@[simp] theorem setSched_pending (s : State) (d i : Nat) (x : Option SchedEntry) : (setSched s d i x).pending = s.pending := rfl

@[simp] theorem setFired_pkg (s : State) (d : Nat) (l : List Fired) : (setFired s d l).pkg = s.pkg := rfl
@[simp] theorem setFired_regs (s : State) (d : Nat) (l : List Fired) : (setFired s d l).regs = s.regs := rfl
@[simp] theorem setFired_core (s : State) (d : Nat) (l : List Fired) : (setFired s d l).core = s.core := rfl
@[simp] theorem setFired_path (s : State) (d : Nat) (l : List Fired) : (setFired s d l).path = s.path := rfl
@[simp] theorem setFired_tbl (s : State) (d : Nat) (l : List Fired) : (setFired s d l).tbl = s.tbl := rfl
@[simp] theorem setFired_gen (s : State) (d : Nat) (l : List Fired) : (setFired s d l).gen = s.gen := rfl
@[simp] theorem setFired_egr (s : State) (d : Nat) (l : List Fired) : (setFired s d l).egr = s.egr := rfl
@[simp] theorem setFired_tal (s : State) (d : Nat) (l : List Fired) : (setFired s d l).tal = s.tal := rfl
@[simp] theorem setFired_memo (s : State) (d : Nat) (l : List Fired) : (setFired s d l).memo = s.memo := rfl
@[simp] theorem setFired_kpr (s : State) (d : Nat) (l : List Fired) : (setFired s d l).kpr = s.kpr := rfl
@[simp] theorem setFired_flt (s : State) (d : Nat) (l : List Fired) : (setFired s d l).flt = s.flt := rfl
@[simp] theorem setFired_insp (s : State) (d : Nat) (l : List Fired) : (setFired s d l).insp = s.insp := rfl
@[simp] theorem setFired_log (s : State) (d : Nat) (l : List Fired) : (setFired s d l).log = s.log := rfl
@[simp] theorem setFired_boot (s : State) (d : Nat) (l : List Fired) : (setFired s d l).boot = s.boot := rfl
@[simp] theorem setFired_pair (s : State) (d : Nat) (l : List Fired) : (setFired s d l).pair = s.pair := rfl
@[simp] theorem setFired_phy (s : State) (d : Nat) (l : List Fired) : (setFired s d l).phy = s.phy := rfl
@[simp] theorem setFired_out (s : State) (d : Nat) (l : List Fired) : (setFired s d l).out = s.out := rfl
@[simp] theorem setFired_free (s : State) (d : Nat) (l : List Fired) : (setFired s d l).free = s.free := rfl
@[simp] theorem setFired_pending (s : State) (d : Nat) (l : List Fired) : (setFired s d l).pending = s.pending := rfl

@[simp] theorem setTalQueue_pkg (s : State) (d q : Nat) (l : List TallyReq) : (setTalQueue s d q l).pkg = s.pkg := rfl
@[simp] theorem setTalQueue_regs (s : State) (d q : Nat) (l : List TallyReq) : (setTalQueue s d q l).regs = s.regs := rfl
@[simp] theorem setTalQueue_core (s : State) (d q : Nat) (l : List TallyReq) : (setTalQueue s d q l).core = s.core := rfl
@[simp] theorem setTalQueue_time (s : State) (d q : Nat) (l : List TallyReq) : (setTalQueue s d q l).time = s.time := rfl
@[simp] theorem setTalQueue_path (s : State) (d q : Nat) (l : List TallyReq) : (setTalQueue s d q l).path = s.path := rfl
@[simp] theorem setTalQueue_tbl (s : State) (d q : Nat) (l : List TallyReq) : (setTalQueue s d q l).tbl = s.tbl := rfl
@[simp] theorem setTalQueue_gen (s : State) (d q : Nat) (l : List TallyReq) : (setTalQueue s d q l).gen = s.gen := rfl
@[simp] theorem setTalQueue_egr (s : State) (d q : Nat) (l : List TallyReq) : (setTalQueue s d q l).egr = s.egr := rfl
@[simp] theorem setTalQueue_memo (s : State) (d q : Nat) (l : List TallyReq) : (setTalQueue s d q l).memo = s.memo := rfl
@[simp] theorem setTalQueue_kpr (s : State) (d q : Nat) (l : List TallyReq) : (setTalQueue s d q l).kpr = s.kpr := rfl
@[simp] theorem setTalQueue_flt (s : State) (d q : Nat) (l : List TallyReq) : (setTalQueue s d q l).flt = s.flt := rfl
@[simp] theorem setTalQueue_insp (s : State) (d q : Nat) (l : List TallyReq) : (setTalQueue s d q l).insp = s.insp := rfl
@[simp] theorem setTalQueue_log (s : State) (d q : Nat) (l : List TallyReq) : (setTalQueue s d q l).log = s.log := rfl
@[simp] theorem setTalQueue_boot (s : State) (d q : Nat) (l : List TallyReq) : (setTalQueue s d q l).boot = s.boot := rfl
@[simp] theorem setTalQueue_pair (s : State) (d q : Nat) (l : List TallyReq) : (setTalQueue s d q l).pair = s.pair := rfl
@[simp] theorem setTalQueue_phy (s : State) (d q : Nat) (l : List TallyReq) : (setTalQueue s d q l).phy = s.phy := rfl
@[simp] theorem setTalQueue_out (s : State) (d q : Nat) (l : List TallyReq) : (setTalQueue s d q l).out = s.out := rfl
@[simp] theorem setTalQueue_free (s : State) (d q : Nat) (l : List TallyReq) : (setTalQueue s d q l).free = s.free := rfl
@[simp] theorem setTalQueue_pending (s : State) (d q : Nat) (l : List TallyReq) : (setTalQueue s d q l).pending = s.pending := rfl

/-! ## Reads after writes -/

@[simp] theorem clock_setClock_same (s : State) (d : Nat) (c : Clock) : clock (setClock s d c) d = c := by simp [clock, setClock]
theorem clock_setClock_ne (s : State) (d e : Nat) (c : Clock) (h : e ≠ d) : clock (setClock s d c) e = clock s e := by
  simp [clock, setClock, kget_kset_ne _ _ _ _ _ _ h]
@[simp] theorem session_setSession_same (s : State) (i : Nat) (x : Option Session) : session (setSession s i x) i = x := by
  simp [session, setSession]
theorem session_setSession_ne (s : State) (i j : Nat) (x : Option Session) (h : j ≠ i) : session (setSession s i x) j = session s j := by
  simp [session, setSession, kget_kset_ne _ _ _ _ _ _ h]
@[simp] theorem getClaim_setClaim_same (s : State) (c k : Nat) (x : Option Claim) : getClaim (setClaim s c k x) c k = x := by
  simp [getClaim, setClaim]
@[simp] theorem getCell_setCell_same (s : State) (c : Nat) (x : Cell) : getCell (setCell s c x) c = x := by simp [getCell, setCell]
theorem getCell_setCell_ne (s : State) (c e : Nat) (x : Cell) (h : e ≠ c) : getCell (setCell s c x) e = getCell s e := by
  simp [getCell, setCell, kget_kset_ne _ _ _ _ _ _ h]
@[simp] theorem getComb_setComb_same (s : State) (k : Nat) (x : Comb) : getComb (setComb s k x) k = x := by simp [getComb, setComb]
@[simp] theorem memAt_setMem_same (s : State) (a : Nat) (v : Word) : memAt (setMem s a v) a = v := by simp [memAt, setMem]
theorem memAt_setMem_ne (s : State) (a b : Nat) (v : Word) (h : b ≠ a) : memAt (setMem s a v) b = memAt s b := by
  simp [memAt, setMem, kget_kset_ne _ _ _ _ _ _ h]
@[simp] theorem getFrame_setFrame_same (s : State) (f : Nat) (x : Option Frame) : getFrame (setFrame s f x) f = x := by
  simp [getFrame, setFrame]
theorem getFrame_setFrame_ne (s : State) (f g : Nat) (x : Option Frame) (h : g ≠ f) : getFrame (setFrame s f x) g = getFrame s g := by
  simp [getFrame, setFrame, kget_kset_ne _ _ _ _ _ _ h]
@[simp] theorem getQueue_setQueue_same (s : State) (q : Nat) (l : List QCopy) : getQueue (setQueue s q l) q = l := by
  simp [getQueue, setQueue]
@[simp] theorem getPort_setPort_same (s : State) (g : Nat) (x : PortS) : getPort (setPort s g x) g = x := by simp [getPort, setPort]

/-! ## The words of data space keep their canonical form -/

/-- A write of one word keeps the canonical form. -/
theorem setMem_wf (s : State) (a : Nat) (v : Word) (h : Memory.wf s.core.mem = true) : Memory.wf (setMem s a v).core.mem = true :=
  kwf_kset s.core.mem a v (fun _ => 0) h

/-- Dropping words keeps the canonical form. -/
theorem filter_wf (m : Map Word) (keep : Nat × Word → Bool) (h : Memory.wf m = true) : Memory.wf (m.filter keep) = true := by
  simp only [Memory.wf, kwf, Bool.and_eq_true, List.all_eq_true, decide_eq_true_eq] at h ⊢
  refine ⟨?_, fun e he => h.2 e (List.mem_filter.mp he).1⟩
  have h1 := h.1
  clear h
  induction m with
  | nil => rfl
  | cons e t ih =>
    obtain ⟨k, w⟩ := e
    have hk := (kSorted_cons _ _ _).mp h1
    by_cases hp : keep (k, w) = true
    · rw [List.filter_cons_of_pos hp]
      exact (kSorted_cons _ _ _).mpr ⟨fun e he => hk.1 e (List.mem_filter.mp he).1, ih hk.2⟩
    · rw [List.filter_cons_of_neg hp]
      exact ih hk.2

theorem modFrame_core (s : State) (f : Nat) (g : Frame → Frame) : (modFrame s f g).core = s.core := by
  unfold modFrame
  split <;> rfl

/-- A store of a thread keeps the canonical form. -/
theorem writeW_wf (s : State) (t a : Nat) (v : Word) (h : Memory.wf s.core.mem = true) : Memory.wf (writeW s t a v).core.mem = true := by
  unfold writeW
  repeat' split
  all_goals first
    | exact setMem_wf s _ v h
    | exact h
    | (rw [modFrame_core]; exact h)

theorem writeWs_wf (ws : List Word) (s : State) (t a : Nat) (h : Memory.wf s.core.mem = true) :
    Memory.wf (writeWs s t a ws).core.mem = true := by
  induction ws generalizing s a with
  | nil => exact h
  | cons w ws ih => exact ih _ _ (writeW_wf s t a w h)

/-- Entries put in one after another, their keys rising and absent before, none of them 0: the canonical form stays. -/
theorem puts_wf (b : Nat) (l : List (Nat × Word)) (m : Map Word) (h : Memory.wf m = true) (hs : kSorted l = true) (hv : ∀ e ∈ l, e.2 ≠ 0)
    (hk : ∀ e ∈ l, ∀ x ∈ m, x.1 ≠ b + e.1) : Memory.wf (l.foldl (fun m e => kput m (b + e.1) e.2) m) = true := by
  induction l generalizing m with
  | nil => exact h
  | cons e t ih =>
    obtain ⟨k, v⟩ := e
    have hs := (kSorted_cons _ _ _).mp hs
    refine ih _ ?_ hs.2 (fun e he => hv e (by simp [he])) ?_
    · simp only [Memory.wf, kwf, Bool.and_eq_true, List.all_eq_true, decide_eq_true_eq] at h ⊢
      refine ⟨kSorted_kput _ _ _ h.1 (fun x hx => hk (k, v) (by simp) x hx), ?_⟩
      intro x hx
      rcases mem_kput hx with rfl | hx
      · exact hv (k, v) (by simp)
      · exact h.2 x hx
    · intro e he x hx
      rcases mem_kput hx with rfl | hx
      · have := hs.1 e he
        simp only
        omega
      · exact hk e (by simp [he]) x hx

/-- A copy of a span keeps the canonical form. -/
theorem spanCopy_wf (m : Map Word) (a b n : Nat) (h : Memory.wf m = true) : Memory.wf (spanCopy m a b n) = true := by
  have hm := h
  simp only [Memory.wf, kwf, Bool.and_eq_true, List.all_eq_true, decide_eq_true_eq] at hm
  refine puts_wf b _ _ (filter_wf m _ h) ?_ ?_ ?_
  · have h1 := hm.1
    clear h hm
    induction m with
    | nil => rfl
    | cons e t ih =>
      obtain ⟨k, v⟩ := e
      have hk := (kSorted_cons _ _ _).mp h1
      unfold spanOf at ih ⊢
      by_cases hin : a ≤ k ∧ k < a + n
      · rw [List.filterMap_cons_some (by simp only [hin, and_self, if_true]; rfl)]
        refine (kSorted_cons _ _ _).mpr ⟨?_, ih hk.2⟩
        intro e he
        obtain ⟨x, hx, hxe⟩ := List.mem_filterMap.mp he
        split at hxe
        · cases hxe
          have := hk.1 x hx
          simp only
          omega
        · cases hxe
      · rw [List.filterMap_cons_none (by simp only [hin, if_false])]
        exact ih hk.2
  · intro e he
    obtain ⟨x, hx, hxe⟩ := List.mem_filterMap.mp he
    split at hxe
    · cases hxe; exact hm.2 x hx
    · cases hxe
  · intro e he x hx
    obtain ⟨y, hy, hye⟩ := List.mem_filterMap.mp he
    have hx := (List.mem_filter.mp hx).2
    simp only [decide_eq_true_eq] at hx
    split at hye
    · cases hye
      simp only
      omega
    · cases hye

/-- Memory after reset lists nothing. -/
theorem reset_wf : Memory.wf State.reset.core.mem = true := by decide

end Sys2Proof.Laws
end

