-- ==== Sys2Proof/Laws/Threads.lean ====
section
/-! SUPPORT. Threads: reads after writes, and what an instruction that issues does (one lemma for the shared operation `issue`). -/

namespace Sys2Proof.Laws

open Sys2Proof.Machine Sys2Proof.Safety

@[simp] theorem getT_setT_same (s : State) (t : Nat) (x : Thread) : getT (setT s t x) t = x := by simp [getT, setT]

theorem getT_setT_ne (s : State) (t u : Nat) (x : Thread) (h : u ≠ t) : getT (setT s t x) u = getT s u := by
  simp [getT, setT, kget_kset_ne _ _ _ _ _ _ h]

@[simp] theorem getT_modT_same (s : State) (t : Nat) (f : Thread → Thread) : getT (modT s t f) t = f (getT s t) := by simp [modT]

theorem getT_modT_ne (s : State) (t u : Nat) (f : Thread → Thread) (h : u ≠ t) : getT (modT s t f) u = getT s u := by
  simp [modT, getT_setT_ne _ _ _ _ h]

@[simp] theorem regsOf_setSt (s : State) (t : Nat) (st : ThrState) : regsOf (setSt s t st) t = regsOf s t := by simp [regsOf, setSt]
@[simp] theorem stepping_setSt (s : State) (t : Nat) (st : ThrState) : (getT (setSt s t st) t).stepping = (getT s t).stepping := by simp [setSt]
@[simp] theorem st_setSt (s : State) (t : Nat) (st : ThrState) : (getT (setSt s t st) t).st = st := by simp [setSt]
@[simp] theorem item_setSt (s : State) (t : Nat) (st : ThrState) : (getT (setSt s t st) t).item = (getT s t).item := by simp [setSt]
@[simp] theorem regsOf_mapRegs (s : State) (t : Nat) (f : Regs → Regs) : regsOf (mapRegs s t f) t = f (regsOf s t) := by simp [regsOf, mapRegs]
@[simp] theorem st_mapRegs (s : State) (t : Nat) (f : Regs → Regs) : (getT (mapRegs s t f) t).st = (getT s t).st := by simp [mapRegs]
@[simp] theorem stepping_mapRegs (s : State) (t : Nat) (f : Regs → Regs) : (getT (mapRegs s t f) t).stepping = (getT s t).stepping := by
  simp [mapRegs]

/-- An instruction that issues does what its body says in the state `ready`. -/
theorem issue_issues {s : State} {i : Issue} {ok : Bool} {reads : List WReg} {br : Bool} (body : State → Act)
    (h : Issues s i ok reads br) :
    issue s i ok reads br body =
      match body (ready s i) with
      | .fault cause addr => faultAt (if (getT s i.tid).st = .stalled then setSt s i.tid .active else s) i.tid cause (regsOf s i.tid).pc addr (unitsOf i)
      | .faultKeep s' cause addr => faultAt (setPc s' i.tid (regsOf s i.tid).pc) i.tid cause (regsOf s i.tid).pc addr (unitsOf i)
      | .stall => setSt (if (getT s i.tid).st = .stalled then setSt s i.tid .active else s) i.tid .stalled
      | .stallKeep s' => setSt (setPc s' i.tid (regsOf s i.tid).pc) i.tid .stalled
      | .sleep s' => setSt (setPc s' i.tid (regsOf s i.tid).pc) i.tid .waiting
      | .done s' n accs => afterCommit s' i.tid n accs := by
  obtain ⟨h1, h2, h3, h4, h5, h6, h7⟩ := h
  have hr : ¬((getT s i.tid).st ≠ .active ∧ (getT s i.tid).st ≠ .stalled) := by
    rcases h1 with h | h <;> simp [h]
  unfold issue
  simp only [regsOf] at h3 h5 h6
  rw [if_neg hr, if_neg (by simp [h2])]
  have e3 : ∀ u : State, (u = s ∨ u = setSt s i.tid .active) →
      (fetchPoison u i.tid (getT s i.tid).regs.pc.toNat ||
        (decide (unitsOf i = 2) && fetchPoison u i.tid ((getT s i.tid).regs.pc + 1).toNat)) = false := by
    intro u hu
    have hp : ∀ a, fetchPoison u i.tid a = fetchPoison s i.tid a := by
      intro a
      rcases hu with rfl | rfl
      · rfl
      · have hs : thrSlot (setSt s i.tid .active) i.tid = thrSlot s i.tid := by
          unfold thrSlot; rw [item_setSt]; rfl
        unfold fetchPoison thrImage; rw [hs]; rfl
    simpa [hp] using h3
  have e7 : ∀ u : State, (u = s ∨ u = setSt s i.tid .active) → waitsIn u i.tid reads = false := by
    intro u hu
    rcases hu with rfl | rfl
    · exact h7
    · simpa [waitsIn, setSt] using h7
  by_cases hst : (getT s i.tid).st = .stalled
  · simp only [hst, if_true, e3 _ (Or.inr rfl), h4, h5, h6, e7 _ (Or.inr rfl), ready, Bool.not_true, Bool.or_false, if_false,
      Bool.false_eq_true, regsOf]
    all_goals rfl
  · simp only [hst, if_false, e3 _ (Or.inl rfl), h4, h5, h6, e7 _ (Or.inl rfl), ready, Bool.not_true, Bool.or_false,
      Bool.false_eq_true, regsOf]
    all_goals rfl

/-! ## What a commit leaves alone -/

/-- The state `ready`, read at its own thread. -/
theorem ready_regs (s : State) (i : Issue) :
    regsOf (ready s i) i.tid = { regsOf s i.tid with pc := (regsOf s i.tid).pc + nw (unitsOf i) } := by
  unfold ready advance setPc
  by_cases h : (getT s i.tid).st = .stalled <;> simp [h]

theorem ready_st {s : State} {i : Issue} (h : (getT s i.tid).st = .active ∨ (getT s i.tid).st = .stalled) :
    (getT (ready s i) i.tid).st = .active := by
  unfold ready advance setPc
  rcases h with h | h <;> simp [h]

theorem ready_stepping (s : State) (i : Issue) : (getT (ready s i) i.tid).stepping = (getT s i.tid).stepping := by
  unfold ready advance setPc
  by_cases h : (getT s i.tid).st = .stalled <;> simp [h]

/-- Threads are all that `ready` touches. -/
theorem ready_parts (s : State) (i : Issue) : ready s i = { s with core := { s.core with threads := (ready s i).core.threads } } := by
  unfold ready
  split <;> rfl

theorem ready_others (s : State) (i : Issue) (k : Nat) (h : k ≠ i.tid) : getT (ready s i) k = getT s k := by
  unfold ready advance setPc mapRegs
  split <;> simp [setSt, getT_modT_ne _ _ _ _ h]

theorem ready_thread (s : State) (i : Issue) :
    getT (ready s i) i.tid = { getT s i.tid with
      regs := regsOf (ready s i) i.tid, st := (getT (ready s i) i.tid).st, cycBase := (getT (ready s i) i.tid).cycBase,
      cycFrom := (getT (ready s i) i.tid).cycFrom, since := (getT (ready s i) i.tid).since } := by
  unfold ready advance setPc mapRegs
  split <;> simp [setSt, regsOf]

@[simp] theorem getT_cntN (s : State) (r : RegName) (d k n t : Nat) : getT (cntN s r d k n) t = getT s t := rfl

/-- A commit that accesses no data space, at a thread that is ACTIVE. -/
theorem afterCommit_quiet (s : State) (t n : Nat) (h : (getT s t).st = .active) :
    afterCommit s t n [] =
      if (getT s t).stepping then haltThread (cntN s .cellCntIssue (thrDie t) (cellInst (thrCell t)) n) t
      else cntN s .cellCntIssue (thrDie t) (cellInst (thrCell t)) n := by
  have hw : watchHit (cntN s .cellCntIssue (thrDie t) (cellInst (thrCell t)) n) t [] = false := by simp [watchHit]
  simp only [afterCommit, getT_cntN, h, hw, ne_eq, not_true_eq_false, if_false, Bool.false_eq_true]
  by_cases hs : (getT s t).stepping = true <;> simp [hs]

/-- An instruction that only writes registers: what `issueRegs` answers when it issues, for a function of the registers that neither reads nor
writes the PC. -/
theorem issueRegs_writes {s : State} {c : Instr} {i : Issue} {ok : Bool} {reads : List WReg} {f : Regs → Regs}
    (h : Issues s i ok reads false) (he : exec c s = .next (issueRegs s i ok reads f))
    (hf : ∀ r p, f { r with pc := p } = { f r with pc := p }) : Writes s c i f := by
  refine ⟨_, he, ?_⟩
  unfold issueRegs
  rw [issue_issues _ h]
  have ha : (getT (mapRegs (ready s i) i.tid f) i.tid).st = .active := by rw [st_mapRegs, ready_st h.runs]
  have hs : (getT (mapRegs (ready s i) i.tid f) i.tid).stepping = (getT s i.tid).stepping := by rw [stepping_mapRegs, ready_stepping]
  have hr : regsOf (mapRegs (ready s i) i.tid f) i.tid = { f (regsOf s i.tid) with pc := (regsOf s i.tid).pc + nw (unitsOf i) } := by
    rw [regsOf_mapRegs, ready_regs, hf]
  simp only []
  rw [afterCommit_quiet _ _ _ ha, hs]
  by_cases hst : (getT s i.tid).stepping = true
  · simp only [hst, if_true]
    refine ⟨?_, ?_, fun hc => by simp at hc⟩
    · simpa [haltThread, regsOf, setSt, nw] using hr
    · simp [haltThread, setSt]
  · have hst' : (getT s i.tid).stepping = false := by simpa using hst
    simp only [hst', Bool.false_eq_true, if_false]
    refine ⟨by simpa [regsOf, nw] using hr, by simpa using ha, fun _ => ⟨?_, ?_, ?_, ?_⟩⟩
    · conv_lhs => unfold cntN setR setRS mapRegs modT setT
      rw [ready_parts]
      rfl
    · intro k hk
      rw [getT_cntN, mapRegs, getT_modT_ne _ _ _ _ hk, ready_others _ _ _ hk]
    · intro k v hk
      have : (mapRegs (ready s i) i.tid f).regs = s.regs := by
        rw [mapRegs, modT, setT, ready_parts]
      simp only [cntN, setR, setRS]
      rw [kget_kset_ne _ _ _ _ _ _ hk, this]
    · rw [getT_cntN, mapRegs, getT_modT_same]
      have ht := ready_thread s i
      have hp := ready_stepping s i
      rw [hst'] at hp
      have hh : (getT (ready s i) i.tid).haltFrom = (getT s i.tid).haltFrom := by
        have := congrArg Thread.haltFrom ht
        simpa using this
      conv_lhs => rw [ht]
      simp [regsOf, hst', hh]

end Sys2Proof.Laws
end

