-- ==== Sys2Proof/WellFormed.lean ====
section
/-! DEFINITION. Well-formed commands: the operands of an instruction satisfy the encoding rules, and every object that a command or a
happening names lies within the numbers the package can have (R20, R515). -/

namespace Sys2Proof

/-- Global numbers of the operands: dies 0 to 7, threads as class 0 master IDs, GPNs 0 to 257. -/
def Instr.numbersOk : Instr → Bool
  | .inResult t | .cycleLimit t | .timerExpire t | .threadResetDone t => t < 16384
  | .dgOpDone c | .supFaultCellReset c | .stall c _ | .illegalState c _ _ => c < 16384 && c % 8 = 0
  | .bkOpStart k | .bkOpDone k => k < 64
  | .lockBankOp d b c => d < 8 && b < 8 && c < 8
  | .tableWrite d e | .stampRefresh d e | .sweepRemove d e => d < 8 && e < 4
  | .foragerResult t sl => t < 16384 && sl < 8
  | .learnPerform d | .lrnNotify d | .learnAssistDeliver d | .copyEngineDone d | .queueAdmission d => d < 8
  | .remoteRecord d f => d < 8 && f < 8 && d ≠ f
  | .quarantineEnd d t _ => d < 8 && t < 64
  | .tallyUpdate d q => d < 8 && q < 9
  | .frameRx g _ _ _ _ | .pcsUpChange g _ | .linkLost g | .linkUp g | .holdExpire g => g < 258
  | .pauseExpire d p c | .pfcWatchdog d p c | .pfcWatchdogEnd d p c => d < 8 && p < 33 && c < 8
  | .pauseRefresh d p | .parseStart d p | .schedulePick d p | .txComplete d p | .txUnderrun d p _ => d < 8 && p < 33
  | .parseDone d p | .dispatchEnqueue d p | .combDeal d p => d < 8 && p < 8
  | .reorderRelease d m | .reorderTimeout d m => d < 8 && m < 4096
  | .bridgeLinkFail d f => d < 8 && f < 8 && d ≠ f
  | .schedFire d | .genCommitFire d | .tallyClose d | .ageTick d | .auditStart d | .inspectSlice d | .pairHeartbeat d
  | .recCheckpoint d | .programAlarm d | .alarmDeliver d | .freezeEnd d | .alignRecover d | .dieHeartbeat d => d < 8
  | .slotRetire n | .slotClearDone n | .retireForced n => n < 4
  | .ppsEdge p | .ppsOut p => p < 2
  | _ => true

/-- A well-formed command. -/
def Instr.wellFormed (i : Instr) : Bool := Machine.formOk i && i.numbersOk

end Sys2Proof
end

