-- ==== Sys2Proof/Tests/Slice0.lean ====
section
/-!
SUPPORT. Tests: a term that each check of WellFormed refuses; units of the manual's worked encodings (R131) and units put together from its
format table; single effects from the manual's own examples; for each statement, states and operands that meet its hypotheses.
-/

namespace Sys2Proof.Tests

open Sys2Proof.Machine Sys2Proof.Safety Sys2Proof.Claims Sys2Proof.Laws

/-- Thread 9: thread 1 of cell 1 of comb 0 of die 0. -/
def plain : Issue := ⟨9, 0, .none⟩
def withImm (k : Word) : Issue := ⟨9, 0, .imm k⟩
def withRep : Issue := ⟨9, 0, .rep⟩

/-! ## Ill-formed commands -/

theorem test_bad_guard : (Instr.add ⟨9, 8, .none⟩ 1 2 3).wellFormed = false := by decide
theorem test_bad_prefix : (Instr.add (withImm 5) 1 2 3).wellFormed = false ∧ (Instr.mov withRep 1 2).wellFormed = false := by decide
theorem test_bad_imm : (Instr.addi (withImm 5) 1 2 3).wellFormed = false ∧ (Instr.addi (withImm 5) 1 2 0).wellFormed = true ∧
    (Instr.andi withRep 1 2 0).wellFormed = false := by decide
theorem test_bad_cmp : (Instr.cmp plain 0 1 2 0).wellFormed = false ∧ (Instr.cmp plain 1 1 2 12).wellFormed = false ∧
    (Instr.cmp plain 1 1 2 11).wellFormed = true := by decide
theorem test_bad_cmpi : (Instr.cmpi (withImm 1) 1 0 2 1).wellFormed = false ∧ (Instr.cmpi plain 0 0 2 1).wellFormed = false := by decide
theorem test_bad_field : (Instr.bfx plain 1 2 9 7).wellFormed = false ∧ (Instr.bfi plain 1 2 8 7).wellFormed = true ∧
    (Instr.bfxs plain 1 2 15 1).wellFormed = false := by decide
theorem test_bad_byte : (Instr.extb plain 1 2 2 0).wellFormed = false ∧ (Instr.insb plain 1 2 1 1).wellFormed = false := by decide
theorem test_bad_aclr : (Instr.aclr plain false 1 0 0 0).wellFormed = false ∧ (Instr.aclr plain true 0 0 0 1).wellFormed = false := by decide
theorem test_bad_mac : (Instr.macS plain false 1 2 3 0).wellFormed = false ∧ (Instr.awr plain false 0 2 3 1).wellFormed = false := by decide
theorem test_bad_ard : (Instr.ard plain false 1 0 0 25).wellFormed = false ∧ (Instr.ards plain false 1 2 0 0).wellFormed = false ∧
    (Instr.ard plain false 1 0 0 24).wellFormed = true := by decide
theorem test_bad_macd : (Instr.macd plain false true 3 3).wellFormed = false := by decide
theorem test_bad_pred : (Instr.pand plain 0 1 2 0).wellFormed = false ∧ (Instr.pnot plain 1 2 3 0).wellFormed = false ∧
    (Instr.pset plain 1 2 0 0).wellFormed = false ∧ (Instr.movwp plain 1 0 0 5).wellFormed = false := by decide
theorem test_bad_xmov : (Instr.movxw plain 1 2 3).wellFormed = false ∧ (Instr.movwx plain 1 2 3).wellFormed = false ∧
    (Instr.movx plain 1 2 3).wellFormed = false ∧ (Instr.movbc plain 1 0 3).wellFormed = false := by decide
theorem test_bad_load : (Instr.ld plain 1 2 1 4).wellFormed = false ∧ (Instr.ld plain 1 2 3 4).wellFormed = false ∧
    (Instr.st (withImm 4) 1 2 2 0).wellFormed = false ∧ (Instr.st (withImm 4) 1 2 0 1).wellFormed = false := by decide
theorem test_bad_mask : (Instr.push plain 0).wellFormed = false ∧ (Instr.pop plain 0).wellFormed = false ∧
    (Instr.wait plain 1 0).wellFormed = false := by decide
theorem test_bad_string : (Instr.movs withRep 0 1).wellFormed = false ∧ (Instr.cmps withRep 0 0).wellFormed = false ∧
    (Instr.scans (withImm 1) 2 1).wellFormed = false ∧ (Instr.fills withRep 2 1).wellFormed = false ∧
    (Instr.movs withRep 1 0).wellFormed = false := by decide
theorem test_bad_call : (Instr.call withRep 5).wellFormed = false ∧ (Instr.ret (withImm 1) 5).wellFormed = false := by decide
theorem test_bad_signal : (Instr.signal plain 1 8).wellFormed = false ∧ (Instr.signal plain 1 14).wellFormed = false ∧
    (Instr.signal plain 1 15).wellFormed = true := by decide
theorem test_bad_digest : (Instr.dgStart plain 5).wellFormed = false ∧ (Instr.dgRd plain 1 4).wellFormed = false ∧
    (Instr.dgKeys plain 1 2).wellFormed = false ∧ (Instr.dgBusy plain 0).wellFormed = false ∧ (Instr.bkBusy plain 0).wellFormed = false := by
  decide
theorem test_bad_thread : (Instr.inResult 16384).wellFormed = false ∧ (Instr.inResult 16383).wellFormed = true ∧
    (Instr.foragerResult 9 8).wellFormed = false := by decide
theorem test_bad_cell : (Instr.dgOpDone 16384).wellFormed = false ∧ (Instr.dgOpDone 9).wellFormed = false ∧
    (Instr.bkOpStart 64).wellFormed = false := by decide
theorem test_bad_bank : (Instr.lockBankOp 8 0 0).wellFormed = false ∧ (Instr.lockBankOp 0 8 0).wellFormed = false ∧
    (Instr.lockBankOp 0 0 8).wellFormed = false ∧ (Instr.tableWrite 0 4).wellFormed = false := by decide
theorem test_bad_die : (Instr.learnPerform 8).wellFormed = false ∧ (Instr.schedFire 8).wellFormed = false ∧
    (Instr.remoteRecord 2 2).wellFormed = false ∧ (Instr.bridgeLinkFail 3 3).wellFormed = false := by decide
theorem test_bad_table : (Instr.quarantineEnd 0 64 []).wellFormed = false ∧ (Instr.tallyUpdate 0 9).wellFormed = false := by decide
theorem test_bad_gpn : (Instr.frameRx 258 [] true false false).wellFormed = false ∧ (Instr.linkLost 258).wellFormed = false ∧
    (Instr.linkLost 257).wellFormed = true := by decide
theorem test_bad_port : (Instr.schedulePick 0 33).wellFormed = false ∧ (Instr.parseDone 0 8).wellFormed = false ∧
    (Instr.pauseExpire 0 0 8).wellFormed = false ∧ (Instr.reorderRelease 0 4096).wellFormed = false := by decide
theorem test_bad_slot : (Instr.slotRetire 4).wellFormed = false ∧ (Instr.ppsEdge 2).wellFormed = false := by decide

/-! ## Units of the manual -/

/-- Worked encoding (R131): LD W2, [0x1812]. -/
theorem test_unit_ld : decodeFetch 9 0x04087812 0 = some (.ld plain 2 0 3 0x1812) := by decide
/-- Worked encoding (R131): ADDI W3, W2, −2. -/
theorem test_unit_addi : decodeFetch 9 0x010CBFFE 0 = some (.addi plain 3 2 0x3FFE) := by decide
/-- Worked encoding (R131): CMP P1, W4, W5, LTU. -/
theorem test_unit_cmp : decodeFetch 9 0x00C91580 0 = some (.cmp plain 1 4 5 6) := by decide
/-- Worked encoding (R131): (!P3) BR 0x0123. -/
theorem test_unit_br : decodeFetch 9 0xB6000123 0 = some (.br ⟨9, 0xB, .none⟩ 0x0123) := by decide
/-- Worked encoding (R131): IMM 0x8004; CALL 0x0200. -/
theorem test_unit_call : decodeFetch 9 0x07C08004 0x06800200 = some (.call (withImm 0x8004) 0x0200) := by decide
/-- Worked encoding (R131): REP; CMPS P3. -/
theorem test_unit_cmps : decodeFetch 9 0x05C00000 0x05818001 = some (.cmps withRep 0 3) := by decide
/-- A unit of all zeros and one of all ones are reserved (R131). -/
theorem test_unit_reserved : decodeFetch 9 0 0 = none ∧ decodeFetch 9 0xFFFFFFFF 0 = none := by decide
/-- A prefix with a guard, and a prefix before a prefix, spell nothing (R129). -/
theorem test_unit_prefix : decodeFetch 9 0x17C08004 0x06800200 = none ∧ decodeFetch 9 0x07C08004 0x07C00001 = none := by decide
/-- Format R (R130, R134): ADD W1, W2, W3 is OP 0x01, D 1, A 2, B 3, FN 0; a nonzero bit of [9:6] spells nothing. -/
theorem test_unit_add : decodeFetch 9 (0b0000_000001_0001_0010_0011_0000_000000 : BitVec 32) 0 = some (.add plain 1 2 3) ∧
    decodeFetch 9 (0b0000_000001_0001_0010_0011_0001_000000 : BitVec 32) 0 = none := by decide
/-- Format S (R130, R135): SHI W1, W2, ROL 3. -/
theorem test_unit_shi : decodeFetch 9 (0b0000_001001_0001_0010_11_00000000_0011 : BitVec 32) 0 = some (.shiRol plain 1 2 3) := by decide
/-- Format F (R130, R138): BFI W1, W2, 4, width 8. -/
theorem test_unit_bfi : decodeFetch 9 (0b0000_001011_0001_0010_0100_0111_000010 : BitVec 32) 0 = some (.bfi plain 1 2 4 7) := by decide
/-- Format A (R130, R139): ARD W1, ACC1, 8; and format MD (R140): MACD.S ACC0, X1, X2. -/
theorem test_unit_acc : decodeFetch 9 (0b0000_001101_0001_0000_0000_1_01000_0011 : BitVec 32) 0 = some (.ard plain true 1 0 0 8) ∧
    decodeFetch 9 (0b0000_001110_0_1_001_010_00000000000000 : BitVec 32) 0 = some (.macd plain false true 1 2) := by decide
/-- Format P (R130, R137): PXOR P1, P2, P3. -/
theorem test_unit_pred : decodeFetch 9 (0b0000_001111_001_010_011_0000_000_000010 : BitVec 32) 0 = some (.pxor plain 1 2 3 0) := by decide
/-- Format XM (R130, R141): ADDXW X1, X2, W3. -/
theorem test_unit_xmov : decodeFetch 9 (0b0000_010011_001_010_0011_000000_000010 : BitVec 32) 0 = some (.addxw plain 1 2 3) := by decide
/-- Format M (R130, R142): ST −[X2], W1. -/
theorem test_unit_st : decodeFetch 9 (0b0000_010001_0001_010_10_0000000000000 : BitVec 32) 0 = some (.st plain 1 2 2 0) := by decide
/-- Format K (R130, R144, R150): POP, IN. -/
theorem test_unit_k : decodeFetch 9 (0b0000_010101_0000_00_1000000000000001 : BitVec 32) 0 = some (.pop plain 0x8001) ∧
    decodeFetch 9 (0b0000_100000_0101_00_0000010000000000 : BitVec 32) 0 = some (.inp plain 5 0x0400) := by decide
/-- Formats XR, E and Z (R130, R145, R151 to R153): LDIS W1, X2, low half; SIGNAL W3, 15; BRK. -/
theorem test_unit_sys : decodeFetch 9 (0b0000_100100_0001_010_00000000000000_1 : BitVec 32) 0 = some (.ldis plain 1 2 true) ∧
    decodeFetch 9 (0b0000_100110_0000_0011_0000000000_1111 : BitVec 32) 0 = some (.signal plain 3 15) ∧
    decodeFetch 9 (0b0000_100111_0000000000000000_000001 : BitVec 32) 0 = some (.brk plain) := by decide
/-- Formats U and UX (R161, R164): DG.W W2; BK.FILL W1, W2. -/
theorem test_unit_units : decodeFetch 9 (0b0000_101000_0000_0010_0000_0000_000010 : BitVec 32) 0 = some (.dgW plain 2) ∧
    decodeFetch 9 (0b0000_101100_0000_0001_0010_0000_000011 : BitVec 32) 0 = some (.bkFill plain 1 2) := by decide

/-! ## A running package, and a thread -/

/-- A package of four usable dies that runs. -/
def base : State := { State.reset with pkg := { State.reset.pkg with running := true, usable := 0x0F } }
/-- Thread 9 of it as `f` makes it from an idle thread that is ACTIVE. -/
def thr (f : Thread → Thread) : State := setT base 9 (f { idleThread with st := .active })
/-- Its registers as `f` makes them from fresh ones. -/
def thrRegs (f : Regs → Regs) : State := thr (fun x => { x with regs := f x.regs })
def run : State := thr id

/-- The registers of thread 9 after a command. -/
def after (c : Instr) (s : State) : Option Regs := match exec c s with | .next t => some (regsOf t 9) | _ => none

/-- The manual's example of R138: TTL and protocol of 0x4011, and the version of 0x4500. -/
theorem test_extb : (after (.extb plain 1 0 1 0) (thrRegs (fun r => { r with w := r.w.set 0 0x4011 }))).map (·.w[1]) = some 0x0011 ∧
    (after (.extb plain 2 0 0 0) (thrRegs (fun r => { r with w := r.w.set 0 0x4011 }))).map (·.w[2]) = some 0x0040 ∧
    (after (.bfx plain 3 0 12 3) (thrRegs (fun r => { r with w := r.w.set 0 0x4500 }))).map (·.w[3]) = some 4 := by decide
/-- The manual's example of R139. -/
theorem test_ard : (after (.ard plain false 1 0 0 8) (thrRegs (fun r => { r with acc0 := 0x0001234567 }))).map (·.w[1]) = some 0x2345 ∧
    (after (.ards plain false 1 0 0 8) (thrRegs (fun r => { r with acc0 := 0x0001234567 }))).map (fun r => (r.w[1], r.ps)) =
      some (0x7FFF, 8) := by decide
/-- R145: DBNZ of 0 branches, with 0xFFFF left; of 1 it does not. -/
theorem test_dbnz : (after (.dbnz plain 1 0x40) run).map (fun r => (r.w[1], r.pc)) = some (0xFFFF, 0x40) ∧
    (after (.dbnz plain 1 0x40) (thrRegs (fun r => { r with w := r.w.set 1 1 }))).map (fun r => (r.w[1], r.pc)) = some (0, 1) := by decide
/-- R134: a carry and an overflow. -/
theorem test_add_wraps : (after (.add plain 1 1 2) (thrRegs (fun r => { r with w := (r.w.set 1 0x8000).set 2 0x8000 }))).map
    (fun r => (r.w[1], r.ps)) = some (0, 0b1011) := by decide
/-- R142: a post-increment from 0xFFFF wraps. -/
theorem test_ld_wraps : (after (.ld plain 1 2 1 0) (thrRegs (fun r => { r with x := r.x.set 2 0xFFFF }))).map (fun r => (r.w[1], r.x[2])) =
    some (0, 0) := by decide

/-! ## Witnesses: instructions -/

/-- Thread 9 of `run` may issue any legal form, with any prefix, under any guard that its fresh predicates make true. -/
theorem run_issues (i : Issue) (ok : Bool) (reads : List WReg) (br : Bool) (ht : i.tid = 9) (hg : i.guard = 0) (ho : ok = true) :
    Issues run i ok reads br := by
  obtain ⟨t, g, p⟩ := i
  simp only at ht hg
  subst ht hg ho
  have h1 : (getT run 9).st = .active := by decide
  have h2 : breakHit run 9 = false := by decide
  have h3 : guardTrue (regsOf run 9) 0 = true := by decide
  refine ⟨Or.inl h1, h2, ?_, rfl, ?_, h3, rfl⟩
  · cases p <;> rfl
  · cases p <;> cases br <;> rfl

/-- The conditions of `Issues` as one Bool. -/
def mayIssue (s : State) (i : Issue) (ok : Bool) (reads : List WReg) (br : Bool) : Bool :=
  (decide ((getT s i.tid).st = .active) || decide ((getT s i.tid).st = .stalled)) && !breakHit s i.tid &&
    !(fetchPoison s i.tid (regsOf s i.tid).pc.toNat || (decide (unitsOf i = 2) && fetchPoison s i.tid ((regsOf s i.tid).pc + 1).toNat)) &&
    ok && !badEnd i (regsOf s i.tid).pc br && guardTrue (regsOf s i.tid) i.guard && !waitsIn s i.tid reads

theorem issues_of {s : State} {i : Issue} {ok : Bool} {reads : List WReg} {br : Bool} (h : mayIssue s i ok reads br = true) :
    Issues s i ok reads br := by
  simp only [mayIssue, Bool.and_eq_true, Bool.or_eq_true, decide_eq_true_eq, Bool.not_eq_true'] at h
  exact ⟨h.1.1.1.1.1.1, h.1.1.1.1.1.2, h.1.1.1.1.2, h.1.1.1.2, h.1.1.2, h.1.2, h.2⟩

theorem wit_AdditionsAndSubtractions : Issues run plain (okPlain plain) [1, 2] false ∧ Issues run plain (okPlain plain) [1] false ∧
    Issues run plain (okImm plain 0x3FFF) [1] false ∧ Issues run (withImm 0xFFFF) (okImm (withImm 0xFFFF) 0) [1] false := by
  refine ⟨?_, ?_, ?_, ?_⟩ <;> exact run_issues _ _ _ _ rfl rfl (by decide)
theorem wit_LogicMinimaMovesAndCounts : Issues run plain (okPlain plain) [1, 2] false ∧
    (∀ k, k < 16 → (regsOf run 9).w[1].getLsbD (15 - k) = false) ∧
    (∀ k, k < 16 → (regsOf run 9).w[1].getLsbD k = false) ∧
    (regsOf (thrRegs (fun r => { r with w := r.w.set 1 0x8001 })) 9).w[1].getLsbD (15 - 0) = true := by
  refine ⟨run_issues _ _ _ _ rfl rfl (by decide), by decide, by decide, by decide⟩
theorem wit_ShiftsAndRotations : Issues run plain (okPlain plain) [1, 2] false ∧ Issues run plain (okPlain plain) [1] false ∧
    (3, Instr.shiRol plain 1 2 15) ∈ [(0, Instr.shiShl plain 1 2 15), (1, .shiShr plain 1 2 15), (2, .shiSar plain 1 2 15),
      (3, .shiRol plain 1 2 15)] := by
  refine ⟨run_issues _ _ _ _ rfl rfl (by decide), run_issues _ _ _ _ rfl rfl (by decide), by decide⟩
theorem wit_ComparisonsAndPredicates : Issues run plain (okPlain plain && okCond 1 11) [1, 2] false ∧
    Issues run (withImm 5) (okImm (withImm 5) 0 && okCond 7 0) [1] false ∧ Issues run plain (okPlain plain && okPred2 7 0) [] false ∧
    Issues run plain (okPlain plain && okPnot 1 0 0) [] false ∧ Issues run plain (okPlain plain && okPset 1 1 0 0) [] false ∧
    Issues run plain (okPlain plain && okPmove 0 0 0) [15] false ∧ HasBits 1 (predicateBit (regsOf run 9)) ∧
    HasBits 0 (fun k => if k < 6 then (regsOf run 9).w[15].getLsbD k else (regsOf run 9).ps.getLsbD k) := by
  refine ⟨?_, ?_, ?_, ?_, ?_, ?_, ?_, ?_⟩
  iterate 6 exact run_issues _ _ _ _ rfl rfl (by decide)
  · unfold HasBits; decide
  · unfold HasBits; decide
theorem wit_BitFields : Issues run plain (okPlain plain && okField 8 7) [1, 2] false ∧ Issues run plain (okPlain plain && okField 0 15) [1] false ∧
    Issues run plain (okPlain plain && okByte 1 0) [1, 2] false ∧
    HasBits 0 (fun k => if 8 ≤ k ∧ k < 16 then (regsOf run 9).w[1].getLsbD (k - 8) else (regsOf run 9).w[2].getLsbD k) := by
  refine ⟨?_, ?_, ?_, ?_⟩
  iterate 3 exact run_issues _ _ _ _ rfl rfl (by decide)
  · unfold HasBits; decide
theorem wit_Reckoner : Issues run plain (okPlain plain) [1, 2] false ∧ Issues run plain (okPlain plain && okAclr 0 0 0 0) [] false ∧
    Issues run plain (okPlain plain && okMac 0 0) [1, 2] false ∧ Issues run plain (okPlain plain && okArd 0 0 24) [] false := by
  refine ⟨?_, ?_, ?_, ?_⟩ <;> exact run_issues _ _ _ _ rfl rfl (by decide)
/-- A word of the private area, the first word that is no region, a result slot that is awaited, a poisoned word. -/
theorem wit_LoadsAndStores : Issues run plain (okMem plain 0 3 0x0FFF) [] false ∧ Reads (ready run plain) 9 0x0FFF ∧
    readable (ready run plain) 9 0x1A00 = false ∧ writable (ready run plain) 9 0x18A0 = false ∧ writable (ready run plain) 9 0x189F = true ∧
    waitsSlot (ready (thr (fun x => { x with sb := 1 })) plain) 9 0x191F = true ∧
    readable (ready (thr (fun x => { x with sb := 1 })) plain) 9 0x191F = true ∧
    poisonedW { run with core := { run.core with poison := [9 * 0x2000 + 7] } } 9 7 = true := by
  refine ⟨run_issues _ _ _ _ rfl rfl (by decide), ?_, by decide, by decide, by decide, by decide, by decide, by decide⟩
  unfold Reads; decide
theorem wit_LoadAndStoreFrames : Issues run plain (okMem plain 2 2 0) [1] false ∧
    Issues run plain (okMem plain 2 1 0) [] false ∧ Reads (ready run plain) 9 (address plain (regsOf (ready run plain) 9) 2 1 0).toNat ∧
    writable (ready run plain) 9 (address plain (regsOf (ready run plain) 9) 0 3 0x1890).toNat = true := by
  refine ⟨run_issues _ _ _ _ rfl rfl (by decide), run_issues _ _ _ _ rfl rfl (by decide), ?_, by decide⟩
  unfold Reads; decide
theorem wit_StringIterationsAndMacd : Issues run plain (okString plain && decide ((0 : WReg) = 0) && decide ((0 : PReg) = 0)) [] false ∧
    Issues run plain (okString plain && decide ((3 : PReg) ≠ 0)) [2] false ∧ plain.pfx = .none ∧
    Issues run plain (okPlain plain && decide ((1 : XReg) ≠ 2)) [] false ∧ Reads (ready run plain) 9 0 ∧
    writable (ready run plain) 9 0 = true := by
  refine ⟨?_, ?_, rfl, ?_, ?_, by decide⟩
  iterate 3 exact run_issues _ _ _ _ rfl rfl (by decide)
  · unfold Reads; decide
/-- X7 is 0x1000 and the mask names all sixteen registers; a pop at X7 = 0x0FF0 and the faults beside it. -/
theorem wit_StackCallsAndReturns : Issues run plain (okPlain plain && decide ((0xFFFF : Word) ≠ 0)) (maskRegs 0xFFFF) false ∧
    stkLo (ready run plain) 9 + 16 ≤ (regsOf (ready run plain) 9).x[7].toNat ∧ MayWrite (ready run plain) 9 0x0FF0 16 ∧
    Issues run (withImm 0xFFFF) (okCall (withImm 0xFFFF)) (maskRegs 0xFFFF) false ∧
    HasBits 1 (predicateBit (regsOf (ready run plain) 9)) ∧ Issues run plain (okPlain plain) [] true ∧
    Sound (ready run plain) 9 0x0FF0 16 ∧ 0x1000 < (regsOf (ready run plain) 9).x[7].toNat + 1 ∧
    (regsOf (ready (thrRegs (fun r => { r with x := r.x.set 7 0 })) plain) 9).x[7].toNat < 1 + stkLo (ready run plain) 9 := by
  refine ⟨run_issues _ _ _ _ rfl rfl (by decide), by decide, ?_, run_issues _ _ _ _ rfl rfl (by decide), ?_, run_issues _ _ _ _ rfl rfl (by decide),
    ?_, by decide, by decide⟩
  · unfold MayWrite; decide
  · unfold HasBits; decide
  · unfold Sound; decide
theorem wit_AddressRegistersAndBranches : Issues run plain (okPlain plain) [] true ∧ Issues run plain (okPlain plain) [1] false ∧
    (regsOf (ready run plain) 9).w[1] ≠ 1 ∧ (regsOf (ready (thrRegs (fun r => { r with w := r.w.set 1 1 })) plain) 9).w[1] = 1 ∧
    Issues run plain (okPlain plain && decide ((0 : XReg) = 0) && decide ((0 : XReg) = 0)) [1] false := by
  refine ⟨?_, ?_, by decide, by decide, ?_⟩ <;> exact run_issues _ _ _ _ rfl rfl (by decide)
/-- A fill of one word that ends with the last private word. -/
def filling : State := thrRegs (fun r => { r with bc := 1, x := r.x.set 6 0x0FFF })
theorem wit_RepeatedFill : Issues filling withRep (okString withRep && decide ((0 : PReg) = 0)) [2] false ∧
    (getT filling 9).stepping = false ∧ 1 ≤ (regsOf (ready filling withRep) 9).bc.toNat ∧
    (regsOf (ready filling withRep) 9).x[6].toNat + (regsOf (ready filling withRep) 9).bc.toNat ≤ 0x1000 ∧
    ∃ t, exec (.fills withRep 2 0) filling = .next t := by
  refine ⟨⟨Or.inl (by decide), by decide, by decide, by decide, by decide, by decide, by decide⟩, by decide, by decide, by decide, _, rfl⟩
theorem wit_InstructionSpaceEventsAndSystem : Issues run plain (okPlain plain) [] false ∧
    Issues run plain (okPlain plain && okSignal 15) [1] false ∧ Issues run plain (okPlain plain && decide ((1 : Word) ≠ 0)) [] false := by
  refine ⟨?_, ?_, ?_⟩ <;> exact run_issues _ _ _ _ rfl rfl (by decide)
/-- A unit that reads as MOV W1, W2 under an inverted P0 is ill-formed; under P1, which is 0, it is well-formed and passes. -/
theorem wit_IllegalFormsAndFalseGuards : decodeUnit ⟨9, 8, .none⟩ 0x80848000 = some (.mov ⟨9, 8, .none⟩ 1 2) ∧
    formOk (.mov ⟨9, 8, .none⟩ 1 2) = false ∧ formOk (.mov ⟨9, 1, .none⟩ 1 2) = true ∧ (getT run 9).st = .active ∧
    breakHit run 9 = false ∧ badEnd ⟨9, 1, .none⟩ (regsOf run 9).pc false = false ∧ guardTrue (regsOf run 9) 1 = false := by
  refine ⟨by decide, by decide, by decide, by decide, by decide, by decide, by decide⟩

/-! ## Witnesses: ports -/

/-- A sound frame of a front port, of 64 bytes in pool 0, and a packet item that holds it. -/
def frame : Frame :=
  { die := 0, len := 60, bytes := [], poison := [], pool := 0, nbuf := 1, strip := 0, prep := 0, owner := 0, shares := [.packet],
    last := none, gpn := 0, slot := 0, stime := 0, mono := 0, cls := 0, level := 0, pdom := 0, odom := 0, seq := 0, tag := none,
    recirc := 0, parse := [], carry := [], badTail := false, whole := true, late := false, startNode := 0, xfer := 0, note := false,
    noCopy := false }
def packet : Item := ⟨.packet, 0, 0, 0, false, [], 7, 0, 0, 0⟩
/-- Thread 9 holds the packet of frame 7, with the staged words `l`. -/
def holding (l : Map Word) (x : Frame) : State := setFrame (thr (fun t => { t with item := some packet, stage := l })) 7 (some x)
def posted : State := thr (fun t => { t with item := some { packet with kind := .post } })

theorem wit_reading (d : WReg) (p : Nat) (s : State) (hp : p < 65536) (h : mayIssue s plain (okPlain plain) [] false = true)
    (ho : portOk (ready s plain) 9 p = true) (hb : (getT s 9).sb.getLsbD 8 = false) :
    ReadingFar s (.inp plain d (BitVec.ofNat 16 p)) plain d p := by
  refine ⟨⟨?_, issues_of h, ho⟩, hb⟩
  simp [portIn, Nat.mod_eq_of_lt hp]
theorem wit_writing (a : WReg) (p : Nat) (s : State) (hp : p < 65536) (h : mayIssue s plain (okPlain plain) [a] false = true)
    (ho : portOk (ready s plain) 9 p = true) : Writing s (.outp plain a (BitVec.ofNat 16 p)) plain a p := by
  refine ⟨?_, issues_of h, ho⟩
  simp [portOut, Nat.mod_eq_of_lt hp]
/-- Thread 8 is the supervisor of the cell: it reads and writes the supervisor's ports, as rows that name them and as INR and OUTR. -/
def sup : Issue := ⟨8, 0, .none⟩
def supRun : State := setCell (setT (thr (fun x => { x with st := .faulted, fault := some ⟨8, 3, 0, 1⟩ })) 8 { idleThread with
  st := .active, regs := { idleThread.regs with w := idleThread.regs.w.set 1 1, x := idleThread.regs.x.set 2 0x3000 } }) 1
  { freshCell with fltSel := 1, dbgSel := 7 }

theorem wit_PortsInsideTheCellAndDenials : ReadingFar run (.inp plain 5 0x0000) plain 5 0 ∧ ReadingFar run (.inp plain 5 0x0002) plain 5 2 ∧
    Reading run (.cycLatch plain 5) plain 5 1 ∧ Reading supRun (.inr sup 5 2) sup 5 0x3000 ∧
    portOk (ready run plain) 9 0x0011 = false ∧ portOk (ready run plain) 9 0x0FFF = false ∧
    portOk (ready run plain) 9 0x0400 = true ∧ insideCell 0x0400 = false ∧ isPort 0x0FFF = false ∧ supOnly 0x3000 = true ∧
    portOut run (.outp plain 1 0x3000) = some (plain, 1, 0x3000) ∧ portOk (ready run plain) 9 0x3000 = false ∧
    (getT (thr (fun x => { x with sb := 0x100 })) 9).sb.getLsbD 8 = true ∧
    HasBits 2 (fun k => decide (k < 8 ∧ (getT (ready supRun sup) (1 * 8 + k)).st = .faulted)) := by
  refine ⟨wit_reading 5 0 run (by decide) (by decide) (by decide) (by decide), wit_reading 5 2 run (by decide) (by decide) (by decide) (by decide),
    ⟨by decide, issues_of (by decide), by decide⟩, ⟨by decide, issues_of (by decide), by decide⟩, by decide, by decide, by decide, by decide, by decide,
    by decide, by decide, by decide, by decide, ?_⟩
  unfold HasBits; decide
/-- No item; an item with a lock; a packet to be sent with 128 bytes prepended, a verdict of a kind that is none, a post that ends. -/
theorem wit_Verdicts : ReadingFar run (.verdictSend plain 5) plain 5 0x020F ∧
    ReadingFar (holding [(0x0200, 1), (0x0203, 0xEF)] frame) (.verdictDrop plain 5) plain 5 0x020F ∧
    ReadingFar (holding [(0x0200, 2), (0x0206, 0x0FC0), (0x0207, 128)] frame) (.verdictRecirc plain 5) plain 5 0x020F ∧
    ReadingFar (holding [(0x0200, 4)] frame) (.verdictEnd plain 5) plain 5 0x020F ∧
    ReadingFar posted (.inp plain 5 0x020F) plain 5 0x020F ∧
    (getT (thr (fun t => { t with item := some packet, locks := [3] })) 9).locks ≠ [] ∧
    holdsDg (ready (holding [] frame) plain) 9 = false ∧ holdsBk (ready (holding [] frame) plain) 9 = false ∧
    getFrame (ready (holding [] frame) plain) 7 = some frame := by
  refine ⟨⟨⟨by decide, issues_of (by decide), by decide⟩, by decide⟩, ⟨⟨by decide, issues_of (by decide), by decide⟩, by decide⟩,
    ⟨⟨by decide, issues_of (by decide), by decide⟩, by decide⟩, ⟨⟨by decide, issues_of (by decide), by decide⟩, by decide⟩,
    wit_reading 5 0x020F posted (by decide) (by decide) (by decide) (by decide), by decide, by decide, by decide, by decide⟩
/-- Alarms: a free first entry, its time ahead and past; nanoseconds out of range. A domain is served once a comb serves it, and is not before. -/
def staged (l : Map Word) : State := thr (fun t => { t with stage := l })
theorem wit_TimeAndPostingPorts : ReadingFar run (.inp plain 5 0x0100) plain 5 0x0100 ∧ ReadingFar run (.inp plain 5 0x0408) plain 5 0x0408 ∧
    ReadingFar run (.timeLatch plain 5) plain 5 0x0400 ∧ ReadingFar run (.almArm plain 5) plain 5 0x0417 ∧
    ReadingFar run (.postGo plain 5) plain 5 0x0709 ∧ getSched (ready run plain) 0 192 = none ∧
    stime (ready run plain) 0 < 1 ∧ 999999999 < valOf [stage (ready (staged [(0x0413, 0x3B9A), (0x0414, 0xCA00)]) plain) 9 0x0413,
      stage (ready (staged [(0x0413, 0x3B9A), (0x0414, 0xCA00)]) plain) 9 0x0414] ∧
    domServed (ready run plain) 0 0 0 = true ∧ domServed (ready run plain) 0 0 15 = false ∧ heldBack (ready run plain) 0 0 = false := by
  refine ⟨wit_reading 5 _ run (by decide) (by decide) (by decide) (by decide), wit_reading 5 _ run (by decide) (by decide) (by decide) (by decide),
    ⟨⟨by decide, issues_of (by decide), by decide⟩, by decide⟩, ⟨⟨by decide, issues_of (by decide), by decide⟩, by decide⟩,
    ⟨⟨by decide, issues_of (by decide), by decide⟩, by decide⟩, by decide, by decide, by decide, by decide, by decide, by decide⟩

/-- A reading of a port outside the cell by `plain`, and a writing, as Bools. -/
def mayRead (s : State) (c : Instr) (p : Nat) : Bool :=
  decide (portIn s c = some (plain, 5, p)) && mayIssue s plain (okPlain plain) [] false && portOk (ready s plain) 9 p && !(getT s 9).sb.getLsbD 8
theorem read_of {s : State} {c : Instr} {p : Nat} (h : mayRead s c p = true) : ReadingFar s c plain 5 p := by
  simp only [mayRead, Bool.and_eq_true, decide_eq_true_eq, Bool.not_eq_true'] at h
  exact ⟨⟨h.1.1.1, issues_of h.1.1.2, h.1.2⟩, h.2⟩
def mayWrite (s : State) (c : Instr) (i : Issue) (a : WReg) (p : Nat) : Bool :=
  decide (portOut s c = some (i, a, p)) && mayIssue s i (okPlain i) [a] false && portOk (ready s i) i.tid p
theorem write_of {s : State} {c : Instr} {i : Issue} {a : WReg} {p : Nat} (h : mayWrite s c i a p = true) : Writing s c i a p := by
  simp only [mayWrite, Bool.and_eq_true, decide_eq_true_eq] at h
  exact ⟨h.1.1, issues_of h.1.2, h.2⟩
/-- `run` with a register of die 0 and slot 0 set, and with a value in W1. -/
def withRS (s : State) (r : RegName) (inst v : Nat) : State := setRS s r 0 0 inst v
def valued (w : Word) : State := thrRegs (fun r => { r with w := r.w.set 1 w })

/-- Domain 0 may hold buffers and has a minimum in pool 0; its thread holds frame 7 under handle 1. -/
def pooled : State := setR (setR (withRS run .cellPdomCfg 0 8192) .bufPoolCfg 0 0 100) .bufOwnCfg 0 132 10
def handled : State := setFrame (thr (fun t => { t with handles := [(1, 7)], stage := [(0x0602, 1)] })) 7
  (some { frame with shares := [.thread 9 1], last := some (.thread 9 1) })
theorem wit_BufferPorts : ReadingFar pooled (.bufAlloc plain 5) plain 5 0x0601 ∧
    bitsOf (pdomCfg (ready pooled plain) 9) 13 1 = 1 ∧ granted (ready pooled plain) 0 (ownerDomain 0) 0 1 = true ∧
    kget (getT (ready pooled plain) 9).handles 1 0 = 0 ∧ bitsOf (pdomCfg (ready (withRS run .cellPdomCfg 0 0) plain) 9) 13 1 = 0 ∧
    ReadingFar handled (.bufRelease plain 5) plain 5 0x0603 ∧ ReadingFar handled (.bufFree plain 5) plain 5 0x0604 ∧
    ReadingFar handled (.bufSend plain 5) plain 5 0x0608 ∧ ReadingFar handled (.inp plain 5 0x0609) plain 5 0x0609 ∧
    kget (getT (ready handled plain) 9).handles 1 0 = 7 ∧ ((getFrame (ready handled plain) 7).map (fun x => mayFree x (.thread 9 1))) = some true ∧
    ((getFrame (ready handled plain) 7).map (fun x => mayFree x .packet)) = some false ∧
    (stage (ready handled plain) 9 0x0606).getLsbD 9 = false ∧ kget (getT (ready run plain) 9).handles 0 0 = 0 := by
  refine ⟨read_of (by decide), by decide, by decide, by decide, by decide, read_of (by decide), read_of (by decide), read_of (by decide),
    read_of (by decide), by decide, by decide, by decide, by decide, by decide⟩
/-- A free lock number at each end, both units free and held, a policer that is off. -/
def unitsHeld : State := setComb (setCell run 1 { freshCell with digest := { freshDigest with claim := some 9 } }) 0 { freshComb with claim := some 10 }
def policed : State := setRS run .tallyPol 0 7 0 (1 + 1 * 2 ^ 32)
theorem wit_LockClaimAndPolicePorts : ReadingFar run (.lockAcq plain 5 0) plain 5 0x1000 ∧ ReadingFar run (.lockAcq plain 5 4095) plain 5 0x1FFF ∧
    ReadingFar (thr (fun t => { t with locks := List.replicate 16 3 })) (.lockAcq plain 5 7) plain 5 0x1007 ∧
    ReadingFar run (.lockStat plain 5) plain 5 0x2002 ∧ ReadingFar run (.inp plain 5 0x2003) plain 5 0x2003 ∧
    ReadingFar unitsHeld (.inp plain 5 0x2004) plain 5 0x2004 ∧ ReadingFar run (.dgClaim plain 5) plain 5 0x2010 ∧
    ReadingFar unitsHeld (.bkClaim plain 5) plain 5 0x2012 ∧ ReadingFar policed (.talPolice plain 5) plain 5 0x0509 ∧
    (getCell (ready run plain) 1).digest.claim = none ∧ (getCell (ready unitsHeld plain) 1).digest.claim = some 9 ∧
    (getComb (ready unitsHeld plain) 0).claim = some 10 ∧ combQueueFull (ready policed plain) 9 = false ∧ polReg (ready policed plain) 0 0 0 % 2 = 1 ∧
    countBytes (ready policed plain) 9 * 1000000 ≤ polTokens (ready policed plain) 0 0 0 := by
  refine ⟨read_of (by decide), read_of (by decide), read_of (by decide), read_of (by decide), read_of (by decide), read_of (by decide),
    read_of (by decide), read_of (by decide), read_of (by decide), by decide, by decide, by decide, by decide, by decide, by decide⟩
/-- The supervisor of cell 1 with `v` in W1, thread 1 selected for faults and thread 7 for debugging, and the cell attached as `g`. -/
def supWith (v : Word) (g : Option Debugger) : State :=
  setCell (modT supRun 8 (fun x => { x with regs := { x.regs with w := x.regs.w.set 1 v } })) 1 { freshCell with fltSel := 1, dbgSel := 7, dbg := g }
theorem wit_SupervisorPorts : Writing supRun (.thrEnWrite sup 1) sup 1 0x0010 ∧ Writing supRun (.ioStageWrite sup 1 0x0012) sup 1 0x0012 ∧
    Writing supRun (.ioStageWrite sup 1 0x0200) sup 1 0x0200 ∧ Writing (supWith 1 none) (.supResume sup 1) sup 1 0x0017 ∧
    Writing (supWith 2 none) (.supSkip sup 1) sup 1 0x0017 ∧ Writing (supWith 3 none) (.supKill sup 1) sup 1 0x0017 ∧
    Writing (supWith 4 none) (.supReset sup 1) sup 1 0x0017 ∧ Writing supRun (.dbgSel sup 1) sup 1 0x3000 ∧
    Writing (supWith 1 (some .supervisor)) (.dbgCmdHalt sup 1) sup 1 0x3001 ∧ Writing (supWith 2 (some .supervisor)) (.dbgCmdResume sup 1) sup 1 0x3001 ∧
    Writing (supWith 3 (some .supervisor)) (.dbgCmdStep sup 1) sup 1 0x3001 ∧ Writing (supWith 4 (some .supervisor)) (.dbgCmdReset sup 1) sup 1 0x3001 ∧
    (getT (ready supRun sup) 9).st = .faulted ∧ (getT (ready supRun sup) 9).fault = some ⟨8, 3, 0, 1⟩ ∧ (getT (ready supRun sup) 15).st = .disabled := by
  refine ⟨write_of (by decide), write_of (by decide), write_of (by decide), write_of (by decide), write_of (by decide), write_of (by decide),
    write_of (by decide), write_of (by decide), write_of (by decide), write_of (by decide), write_of (by decide), write_of (by decide),
    by decide, by decide, by decide⟩
/-- An event, a lock and a timer at the bounds; an alarm of the thread's own cell at the last entry; a lock that is held. -/
def armed : State := setSched (valued 255) 0 255 (some ⟨0x10, false, false, 1, 0, 0, 0, 0, 9⟩)
theorem wit_EventLockAndAlarmPorts : Writing (valued 0xFFFF) (.evClr plain 1) plain 1 0x0101 ∧ Writing (valued 0x8FFF) (.evLocksub plain 1) plain 1 0x0102 ∧
    Writing run (.evLocksubCancel plain 1) plain 1 0x0102 ∧ Writing (valued 1) (.evTimerStart plain 1) plain 1 0x0103 ∧
    Writing run (.evTimerStop plain 1) plain 1 0x0103 ∧ Writing armed (.almCancel plain 1) plain 1 0x0418 ∧
    (getSched (ready armed plain) 0 255).map (fun e => e.armer / 8) = some 1 ∧ getSched (ready (valued 192) plain) 0 192 = none ∧
    Writing (thr (fun t => { t with locks := [0] })) (.lockRel plain 1) plain 1 0x2000 ∧ Writing unitsHeld (.dgFree plain 1) plain 1 0x2011 ∧
    Writing unitsHeld (.bkFree plain 1) plain 1 0x2013 ∧ (getT unitsHeld 9).sb.getLsbD 8 = false ∧
    (getT (thr (fun t => { t with sb := 0x100 })) 9).sb.getLsbD 8 = true := by
  refine ⟨write_of (by decide), write_of (by decide), write_of (by decide), write_of (by decide), write_of (by decide), write_of (by decide),
    by decide, by decide, write_of (by decide), write_of (by decide), write_of (by decide), by decide, by decide⟩
/-- `run` with slot 0 of die 0 current. -/
def current : State := setField run (slotReg 0) 0 0 0 3 4
theorem wit_ForagerLearnAndTallyPorts : Writing run (.fgLookup plain 1) plain 1 0x030F ∧ Writing (staged [(0x0300, 1)]) (.fgInsert plain 1) plain 1 0x030F ∧
    Writing (staged [(0x0300, 5)]) (.fgGlookup plain 1) plain 1 0x030F ∧ Writing run (.lrnGo plain 1) plain 1 0x032F ∧
    Writing run (.talCountIn plain 1) plain 1 0x0508 ∧ Writing (staged [(0x0502, 1)]) (.talCountDrop plain 1) plain 1 0x0508 ∧
    heldOf (ready run plain) 1 = 0 ∧ (getT run 9).sb.getLsbD 0 = false ∧ (stage (ready run plain) 9 0x0303).toNat = 0 ∧
    (curDesc (ready (withRS current .tblDesc0 0 (1 + 2 * 32)) plain) 0 0).en = true ∧
    combQueueFull (ready run plain) 9 = false ∧ talGranted (ready run plain) 9 = true := by
  refine ⟨write_of (by decide), write_of (by decide), write_of (by decide), write_of (by decide), write_of (by decide), write_of (by decide),
    by decide, by decide, by decide, by decide, by decide, by decide⟩

/-! ## Witnesses: units and happenings -/

def digesting (f : Digest → Digest) : State := setCell run 1 { freshCell with digest := f { freshDigest with claim := some 9 } }
def copying (f : Comb → Comb) : State := setComb run 0 (f { freshComb with claim := some 9 })
theorem wit_DigestInstructions : HasDigest (digesting id) plain (okPlain plain && decide ((4 : BitVec 4).toNat < 5)) [] ∧
    HasDigest (digesting id) plain (okPlain plain) [1, 2] ∧ HasDigest (digesting (fun x => { x with mode := 4 })) plain (okPlain plain) [1, 2] ∧
    HasDigest (digesting (fun x => { x with mode := 3 })) plain (okPlain plain) [1, 2] ∧
    HasDigest (digesting id) plain (okPlain plain && decide ((3 : BitVec 4).toNat < 4)) [] ∧
    HasDigest (digesting (fun x => { x with err := true })) plain (okPlain plain && decide ((3 : BitVec 4).toNat < 4)) [] ∧
    HasDigest (digesting id) plain (okPlain plain && decide ((7 : PReg) ≠ 0)) [] ∧ HasBits 0 (fun _ => false) ∧
    (getDg (ready (digesting id) plain) 9).op = none ∧
    (∀ q ∈ wordsFrom 0x0FE0 32, readable (ready (digesting id) plain) 9 q = true ∧ waitsSlot (ready (digesting id) plain) 9 q = false) := by
  refine ⟨⟨issues_of (by decide), by decide⟩, ⟨issues_of (by decide), by decide⟩, ⟨issues_of (by decide), by decide⟩,
    ⟨issues_of (by decide), by decide⟩, ⟨issues_of (by decide), by decide⟩, ⟨issues_of (by decide), by decide⟩, ⟨issues_of (by decide), by decide⟩,
    ?_, by decide, by decide⟩
  unfold HasBits; decide
theorem wit_BulkInstructions : HasBulk (copying id) plain (okPlain plain) [1, 2] ∧ HasBulk (copying id) plain (okPlain plain) [1] ∧
    HasBulk (copying id) plain (okPlain plain) [] ∧ HasBulk (copying (fun c => { c with err := true })) plain (okPlain plain) [] ∧
    HasBulk (copying id) plain (okPlain plain && decide ((1 : PReg) ≠ 0)) [] ∧ (getComb (ready (copying id) plain) 0).op = none := by
  refine ⟨⟨issues_of (by decide), by decide⟩, ⟨issues_of (by decide), by decide⟩, ⟨issues_of (by decide), by decide⟩,
    ⟨issues_of (by decide), by decide⟩, ⟨issues_of (by decide), by decide⟩, by decide⟩
/-- A fill of 60 bytes of the thread's own buffer that is running. -/
def bulkRun : State := setComb handled 0 { freshComb with claim := some 9, dstH := 1, op := some ⟨3, 60, 0xAA, true⟩ }
theorem wit_UnitClaimsAndOperations : Issues run plain (okPlain plain) [1, 2] false ∧ (getDg (ready run plain) 9).claim ≠ some 9 ∧
    HasDigest (digesting (fun x => { x with op := some ⟨false, 0, 1⟩ })) plain (okPlain plain) [1] ∧
    (getDg (ready (digesting (fun x => { x with op := some ⟨false, 0, 1⟩ })) plain) 9).op ≠ none ∧
    (getCell (digesting (fun x => { x with op := some ⟨true, 0x0FE0, 64⟩ })) (9 / 8)).digest.op = some ⟨true, 0x0FE0, 64⟩ ∧
    (∀ a ∈ wordsFrom 0x0FE0 32, poisonedW (digesting (fun x => { x with op := some ⟨true, 0x0FE0, 64⟩ })) 9 a = false) ∧
    startCheck (copying (fun c => { c with op := some ⟨3, 1, 0, false⟩ })) 9 (getComb (copying (fun c => { c with op := some ⟨3, 1, 0, false⟩ })) 0)
      ⟨3, 1, 0, false⟩ ≠ none ∧
    startCheck (setComb handled 0 { freshComb with claim := some 9, dstH := 1, op := some ⟨3, 60, 0xAA, false⟩ }) 9
      { freshComb with claim := some 9, dstH := 1, op := some ⟨3, 60, 0xAA, false⟩ } ⟨3, 60, 0xAA, false⟩ = none ∧
    bulkFrame bulkRun 9 1 = some 7 ∧ (getComb bulkRun 0).op = some ⟨3, 60, 0xAA, true⟩ := by
  refine ⟨issues_of (by decide), by decide, ⟨issues_of (by decide), by decide⟩, by decide, by decide, by decide, by decide, by decide, by decide,
    by decide⟩

/-- An IN due, a timer that expires now, a work item past its limit, a thread that is being reset, a supervisor that has faulted. -/
def happening : State := setCell (setT (thr (fun t => { t with inPend := some ⟨5, some 7, none⟩, timer := some 0, item := some packet })) 10
  { idleThread with st := .resetting }) 2 { freshCell with supFault := some 0 }
def asked (r : LockReq) : State := setBank run 0 3 [r]
/-- A thread of the cell is halted with an item: the cell test holds, since time 0, and the window is over. -/
def quiet (n : Nat) : State :=
  let s := setClock (setT (thr (fun t => { t with st := .halted, item := some packet })) 8 { idleThread with st := .halted }) 0 { clock run 0 with mono := n }
  setCell s 1 { freshCell with thrEn := 0xFE }
theorem wit_ThreadLockAndAllWaitHappenings : (getT happening 9).inPend = some ⟨5, some 7, none⟩ ∧ (getT happening 9).st = .active ∧
    (getT happening 9).timer = some 0 ∧ (0 : Nat) ≤ mono happening (thrDie 9) ∧
    pdomCfg (withRS happening .cellPdomCfg 0 0) 9 % 4096 * 1024 ≤ cycNs (withRS happening .cellPdomCfg 0 0) 9 * 12 / 5 ∧
    (getT happening 10).st = .resetting ∧ (getCell happening (16 / 8)).supFault ≠ none ∧ bankReqs (asked (.acquire 9 3)) 0 3 = [.acquire 9 3] ∧
    bankReqs (asked (.release 9 3)) 0 3 = [.release 9 3] ∧ bankReqs (asked (.stat 9 3)) 0 3 = [.stat 9 3] ∧
    bankReqs (asked (.subscribe 9 3)) 0 3 = [.subscribe 9 3] ∧ (getLock (asked (.acquire 9 3)) 0 3).owner = none ∧
    (getLock (setLock run 0 3 ⟨some 10, false⟩) 0 3).owner = some 10 ∧
    ¬(testSince (quiet 0) false 1 + stallWindow (quiet 0) 0 (testSince (quiet 0) false 1) ≤ mono (quiet 0) 0) ∧
    testSince (quiet 10000000) false 1 + stallWindow (quiet 10000000) 0 (testSince (quiet 10000000) false 1) ≤ mono (quiet 10000000) 0 ∧
    cellTest (quiet 10000000) false 1 = true ∧ (getCell (quiet 10000000) 1).stallEpoch ≠ some (testSince (quiet 10000000) false 1) := by
  refine ⟨by decide, by decide, by decide, by decide, by decide, by decide, by decide, by decide, by decide, by decide, by decide, by decide, by decide,
    by decide, by decide, by decide, by decide⟩

/-! ## Witnesses: the frame path -/

/-- The host port of die 0 as `f` makes it from one whose PCS and link are up. -/
def host (f : PortS → PortS) : State := setPort base 256 (f { freshPort with pcsUp := true, linkUp := true, link := .up })
def receiving : State := setField (host id) (slotReg 0) 0 0 0 3 4
/-- Frame bytes with EtherType `t`, then `q`, of `n` bytes in all. -/
def etherFrame (t : Nat) (l : List Byte) (n : Nat) : List Byte :=
  List.replicate 12 0 ++ [BitVec.ofNat 8 (t / 256), BitVec.ofNat 8 t] ++ l ++ List.replicate (n - 14 - l.length) 0
def front : State := setField (setPort receiving 5 { freshPort with pcsUp := true }) .phyPortCfg 0 5 0 4 1
theorem wit_FramesAtThePort : ¬Receives base 0 ∧ Receives receiving 256 ∧ (etherFrame 0x0800 [] 60).length + 4 = 64 ∧
    Receives front 5 ∧ DataFrame front 5 (etherFrame 0x0800 [] 60) ∧ slotAt front 0 (stime front 0) = some 0 ∧
    slotAt base 0 (stime base 0) = none ∧ getRS front .pguardStorm 0 0 5 = 0 ∧ fifoRefuses front 5 (etherFrame 0x0800 [] 60) = false := by
  refine ⟨by unfold Receives; decide, by unfold Receives; decide, by decide, by unfold Receives; decide, by unfold DataFrame; decide, by decide, by decide, by decide, by decide⟩
def paused (n : Nat) : State :=
  host (fun p => { p with pausedUntil := [(7, some n)], stoppedSince := [(7, some 0)], ignoreUntil := [(6, some 0)], xoffSent := true })
theorem wit_FlowControlAndLinkStates :
    portFc (setField (host id) .egrPortFc 0 32 2 2 1) 256 / 4 % 4 = 1 ∧ field16 (etherFrame 0x8808 [0, 1, 0xFF, 0xFF] 60) 14 = 1 ∧
    field16 (etherFrame 0x8808 [0, 1, 0xFF, 0xFF] 60) 16 ≠ 0 ∧ field16 (etherFrame 0x8808 [0, 1, 0, 0] 60) 16 = 0 ∧
    (∀ k, k < 8 → ignores (host id) 256 k = false) ∧ kget (getPort (paused 0) 256).pausedUntil 7 none = some 0 ∧
    (0 : Nat) ≤ mono (paused 0) 0 ∧ mono (paused 1) 0 < 1 ∧ kget (getPort (paused 1) 256).stoppedSince 7 none = some 0 ∧
    bitsOf (portFc (setField (paused 1) .egrPortFc 0 32 16 10 1) 256) 16 10 ≠ 0 ∧ kget (getPort (paused 0) 256).ignoreUntil 6 none = some 0 ∧
    xonBytes (paused 0) 256 ≤ occupancy (paused 0) 256 ∧ (getPort (paused 0) 256).xoffSent = true ∧ portConfigured (host id) 256 = true ∧
    (getPort (host (fun p => { p with pcsUp := false })) 256).linkUp = true ∧ gpnExists base 256 = true ∧ lossNs (host id) 256 = 100000 ∧
    0 + lossNs (host id) 256 ≤ mono (setClock (host id) 0 ⟨0, 0, 100000⟩) 0 ∧ 0 + upNs (host id) 256 ≤ mono (setClock (host id) 0 ⟨0, 0, 10000000⟩) 0 ∧
    noSerdes (host id) 256 = false ∧ (getPort (host (fun p => { p with link := .hold, linkUp := false })) 256).link = .hold ∧
    0 + holdNs (host id) 256 ≤ mono (setClock (host id) 0 ⟨0, 0, 1023000000⟩) 0 ∧ admin (host id) 256 = true ∧ admin (host id) 5 = false := by
  refine ⟨by decide, by decide, by decide, by decide, by decide, by decide, by decide, by decide, by decide, by decide, by decide, by decide,
    by decide, by decide, by decide, by decide, by decide, by decide, by decide, by decide, by decide, by decide, by decide, by decide⟩
/-- A frame of 60 bytes in the FIFO of the host port, whose owner has a minimum in each pool that fits; frame 7 in pipeline 0. -/
def parsing (p : Pipe) (f : Frame → Frame) : State :=
  setFrame (setR (setPipe receiving 0 p) .bufPoolCfg 0 0 100) 7 (some (f { frame with gpn := 256 }))
def incoming : State :=
  let s := setR (setR receiving .bufPoolCfg 0 0 100) .bufOwnCfg 0 128 10
  { s with path := { s.path with ingress := [(256, [⟨etherFrame 0x0800 [] 60, false, false, 0, 0, 0⟩])] } }
theorem wit_ParsingAndDispatch : portPipe (gpnOf 0 32) = 0 ∧ ingressOf incoming 256 = [⟨etherFrame 0x0800 [] 60, false, false, 0, 0, 0⟩] ∧
    (getPipe incoming 0).recirc = [] ∧ granted incoming 0 (ownerPort (gpnPort 256)) (fitPool incoming 0 64) (chainLen (fitPool incoming 0 64) 64) = true ∧
    (getPipe (parsing ⟨[7], [], [], []⟩ id) 0).recirc = [7] ∧ recircParsing (parsing ⟨[7], [], [], []⟩ id) [] = 0 ∧
    (getPipe (parsing ⟨[], [7], [], []⟩ id) (0 * 8 + 0)).parsing = [7] ∧
    ((getFrame (parsing ⟨[], [7], [], []⟩ id) 7).map (fun x => x.badTail)) = some false ∧
    ((getFrame (parsing ⟨[], [7], [], []⟩ (fun x => { x with badTail := true })) 7).map (fun x => (x.badTail, x.shares))) = some (true, [.packet]) ∧
    (getPipe (parsing ⟨[], [], [7], []⟩ id) 0).fifo = [7] ∧
    ((getFrame (parsing ⟨[], [], [7], []⟩ id) 7).map (fun x => (canEnter (parsing ⟨[], [], [7], []⟩ id) (placed (parsing ⟨[], [], [7], []⟩ id) x),
      parseStatus x.parse))) = some (true, 0) := by
  refine ⟨by decide, by decide, by decide, by decide, by decide, by decide, by decide, by decide, by decide, by decide, by decide⟩
/-- A transfer of three flits of frame 7 from die 1 to die 0, of which `got` have arrived. -/
def crossing (got : Nat) (dst : Nat) : State :=
  setXfer (setFrame base 9 (some { frame with xfer := 3, whole := false })) 3
    (some ⟨7, ⟨0, 0, 0⟩, 1, 0, 5, false, 60, 60, 3, got, none, 0, dst, true, false⟩)
def outstandingIn (o : Outstanding) : State := setDom (setFrame base 7 (some frame)) 0 2 ⟨1, [o]⟩
/-- Thread 9 is free in cell 1 of comb 0 and its supervisor waits; an item of level 7 stands at the head of its queue. -/
def dealing : State :=
  let s := setCell (setT (setT base 9 { idleThread with st := .free }) 8 { idleThread with st := .waiting }) 1 { freshCell with thrEn := 2, started := true }
  setWq s 0 7 ⟨[{ packet with level := 7 }], false⟩
theorem wit_DealReorderAndDieBridge : (getXfer (crossing 0 0) 3).map (fun x => (x.got, x.dst, x.lost, x.mcast)) = some (0, 0, false, false) ∧
    (getXfer (crossing 1 9) 3).map (fun x => decide (0 < x.got ∧ x.got + 1 < x.flits)) = some true ∧
    (getXfer (crossing 2 9) 3).map (fun x => (decide (x.got + 1 = x.flits), x.dstFrame)) = some (true, 9) ∧
    (getFrame (crossing 2 9) 9).isSome = true ∧ (getXfer (crossing 3 9) 3).map (fun x => decide (x.flits ≤ x.got)) = some true ∧
    offersOf (crossing 3 9) 0 = [] ∧
    (getXfer (crossing 1 9) 3).map (fun x => decide (lastHop x < 8) &&
      !(countReplay (crossing 1 9) 0 (linkNo (crossing 1 9) 0 (lastHop x) (linkOfXfer (crossing 1 9) (lastHop x) 0 3)) (31 % 32)).2.1) = some true ∧
    kget base.egr.links (0 * 8 + 3) 0 < pairLinks base ∧ usable base 0 = true ∧ (nextFree dealing 0).isSome = true ∧
    (selectItem dealing 0).isSome = true ∧ nextFree base 0 = none ∧
    (getDom (outstandingIn ⟨0, 7, some ⟨1, 3, false, 0, 0, [], 9⟩, none, 0⟩) 0 2).outs = [⟨0, 7, some ⟨1, 3, false, 0, 0, [], 9⟩, none, 0⟩] ∧
    frozenFrom (outstandingIn ⟨0, 7, none, some 0, 0⟩) 7 = none ∧
    0 + 0 + bitsOf (getRS (outstandingIn ⟨0, 7, none, some 0, 0⟩) .dispPortOrd 0 0 0) 16 14 * 100 ≤
      mono (setClock (outstandingIn ⟨0, 7, none, some 0, 0⟩) 0 ⟨0, 0, 1638300⟩) 0 := by
  refine ⟨by decide, by decide, by decide, by decide, by decide, by decide, by decide, by decide, by decide, by decide, by decide, by decide,
    by decide, by decide, by decide⟩
/-- A queue of the host port that holds a copy of frame 7; the copy in transmission. -/
def copyOf (ct : Bool) : QCopy := ⟨4, 7, ⟨0, 0, 0⟩, 60, 64, ct, false⟩
def sendingIt (ct : Bool) (f : Frame → Frame) : State :=
  setFrame (host (fun p => { p with sending := some ⟨copyOf ct, 5, 0⟩ })) 7 (some (f frame))
def capped (s : State) : State := setR (setR s .qmPortCfg 0 32 (2 ^ 32)) .bufOwnCfg 0 200 10
def queued : State := setQueue (setR (setFrame (host id) 7 (some frame)) .qmQCfg 0 5 (1 + 32 * 2)) 5 [copyOf false]
def offering (n : Nat) : State :=
  let s := setR (setR (setFrame (host id) 7 (some frame)) .qmQCfg 0 5 (1 + 32 * 2)) .bufPoolCfg 0 0 100
  let s := capped s
  { s with egr := { s.egr with offers := [(0, [⟨7, 0, 0, 5, none, ⟨0, 0, 0⟩, n, 60, true, false⟩])] } }
theorem wit_QueuesAndTransmission : (pickQueue queued 256).map (·.1) = some 5 ∧ getQueue queued 5 = [copyOf false] ∧ portIsUp queued 256 = true ∧
    egrCountFull queued 0 = false ∧ mono queued (qidDie 5) ≤ (copyOf false).stamp.mono + bitsOf (qSched queued 5) 8 16 * 16000 ∧
    (copyOf false).stamp.mono + bitsOf (qSched queued 5) 8 16 * 16000 < mono (setClock queued 0 ⟨0, 0, 16000 * 65536⟩) 0 ∧
    pickQueue (host id) 256 = none ∧ (getPort (sendingIt false id) 256).sending = some ⟨copyOf false, 5, 0⟩ ∧
    (getFrame (sendingIt true (fun x => { x with xfer := 3 })) 7).map (·.xfer) = some 3 ∧
    offersOf (offering 60) 0 = [⟨7, 0, 0, 5, none, ⟨0, 0, 0⟩, 60, 60, true, false⟩] ∧
    admitCheck (offering 60) ⟨7, 0, 0, 5, none, ⟨0, 0, 0⟩, 60, 60, true, false⟩ = 0 ∧
    admitCheck (offering 61) ⟨7, 0, 0, 5, none, ⟨0, 0, 0⟩, 61, 60, true, false⟩ ≠ 0 ∧
    jobsOf { base with egr := { base.egr with jobs := [(0, [⟨1, true, 0, 7, [], [], 0, 0, 0, 0⟩])] } } 0 = [⟨1, true, 0, 7, [], [], 0, 0, 0, 0⟩] := by
  refine ⟨by decide, by decide, by decide, by decide, by decide, by decide, by decide, by decide, by decide, by decide, by decide, by decide, by decide⟩

/-! ## Witnesses: time, tables, learning, tally -/

/-- `base` with its time part as `f` makes it, and the MONO of die 0 at `n`. -/
def timed (f : TimeS → TimeS) (n : Nat) : State := setClock { base with time := f base.time } 0 ⟨0, 0, n⟩
def sourced : State :=
  timed (fun t => { t with ptp := ⟨true, 0, 0⟩, pps := ⟨true, 0, 0⟩, correction := .step 2000000 7, leap := 0 }) 10000000000
theorem wit_TimeHappenings : stepSent base = false ∧ stepSent sourced = true ∧ (7 : Nat) ≤ leadMono sourced ∧ sourced.pkg.n ≤ 8 ∧ sourced.pkg.lead < 8 ∧
    (timed (fun t => { t with correction := .slew 0 3 }) 5).time.correction = .slew 0 3 ∧ leadMono (timed id 6) < 7 ∧
    frozen (setClock (setField base .timeStatus 0 0 2 1 1) 0 ⟨5, 3, 0⟩) 0 = true ∧
    pinFunction (setClaim base 1 1 (some ⟨0, 0, 0, 1, none⟩)) 1 = 1 ∧ bitsOf (srcCtl (setField base .timeSrcCtl 0 0 6 1 1)) 6 1 = 1 ∧
    pinFunction base 1 ≠ 1 ∧ pinFunction (setClaim base 1 1 (some ⟨0, 0, 0, 2, none⟩)) 1 = 2 ∧ frozen base base.pkg.lead = false ∧
    stime base base.pkg.lead % nsPerS ≤ 2 ∧ kget base.time.ppsLast 1 0 < stime base base.pkg.lead / nsPerS + 1 ∧ sourced.time.ptp.valid = true ∧
    sourced.time.pps.last + 1100000000 ≤ leadMono sourced ∧ srcOfCode (bitsOf (srcCtl sourced) 0 2) = .ptp ∧ srcReady sourced .ptp = true ∧
    bitsOf (srcCtl sourced) 8 8 ≠ 0 ∧ bitsOf (srcCtl sourced) 8 8 * 10 < (1001 : Int).natAbs ∧ (1000 : Int).natAbs ≤ bitsOf (srcCtl sourced) 8 8 * 10 ∧
    (timed (fun t => { t with leap := 1 }) 0).time.leap ≠ 0 ∧ (1 : Int) ≤ (stime (setClock base 0 ⟨0, 1000000000, 0⟩) 0 / nsPerS : Nat) ∧
    -1000 < utcOffset base ∧ utcOffset base < 1000 ∧ usable base 3 = true ∧ fieldR base .timeStatus 3 0 9 1 = 0 ∧
    fieldR (setField base .timeStatus 3 0 9 1 1) .timeStatus 3 0 9 1 = 1 := by
  refine ⟨by decide, by decide, by decide, by decide, by decide, by decide, by decide, by decide, by decide, by decide, by decide, by decide, by decide,
    by decide, by decide, by decide, by decide, by decide, by decide, by decide, by decide, by decide, by decide, by decide, by decide, by decide,
    by decide, by decide, by decide⟩
/-- An entry due now, one-shot or periodic; a fired alarm whose work queue takes items, and one whose queue holds back; an alarm that waits. -/
def entry (p : Bool) : SchedEntry := ⟨0x10, p, false, 0, 1000, 0, 7, 0, 9⟩
def firing (p : Bool) : State := setSched base 0 255 (some (entry p))
def alarm : Fired := ⟨0x10, 0, 0, false, 1, entry false⟩
def fired (f : Fired) : State := setFired base 0 [f]
def heldAt (q : Nat) (s : State) : State := setRS s .dispWqCfg 0 0 q 0
def waitingAlarm : State := setAlarms base 0 127 [packet]
theorem wit_ScheduleAndAlarms : firstEntry ((entriesOf base 0).filter (fun e => decide (e.2.t ≤ stime base 0))) = none ∧
    firstEntry ((entriesOf (firing false) 0).filter (fun e => decide (e.2.t ≤ stime (firing false) 0))) = some (255, entry false) ∧
    firstEntry ((entriesOf (firing true) 0).filter (fun e => decide (e.2.t ≤ stime (firing true) 0))) = some (255, entry true) ∧
    ¬((jumped (firing true) 0).1 < 0 ∧ 0 ≤ (jumped (firing true) 0).2) ∧ takeFired base 0 0x10 = none ∧
    takeFired (fired alarm) 0 0x10 = some (alarm, setFired (fired alarm) 0 []) ∧ alarmsAt (fired alarm) 0 7 = [] ∧
    heldBack (fired alarm) 0 7 = false ∧ heldBack (heldAt 7 (fired alarm)) 0 7 = true ∧
    (List.range 128).find? (fun q => decide (alarmsAt waitingAlarm 0 q ≠ []) && !heldBack waitingAlarm 0 q) = some 127 ∧
    alarmsAt waitingAlarm 0 127 = [packet] := by
  refine ⟨by decide, by decide, by decide, by decide, by decide, by decide, by decide, by decide, by decide, by decide, by decide⟩
/-- A table of one bank, one bucket and a key of two words (table 5 of die 0, write engine 1), enabled for learning, with a learned entry. -/
def tabled : State :=
  withRS (withRS (setField base (slotReg 0) 0 0 0 3 4) .tblDesc0 5 (1 + 2 * 32 + 1024)) .lrnTblCfg 5 1
def ent : Entry := ⟨15, false, true, true, false, false, 0, 0, 5, [1, 2], [3, 0, 0, 0], false⟩
def learn : LearnReq := ⟨true, 9, 0, 5, false, [1, 2], [3, 0, 0, 0]⟩
def search : FgReq := ⟨1, 9, 0, 5, 7, 0, 0, [1, 2], [], 0, false, false⟩
def forage (y : FgResult) : State := thr (fun t => { t with sb := 0x80, results := [y] })
def withEntry (s : State) : State := setEntry s ((foundAt s 0 (curDesc s 0 5) [1, 2]).head?.map (·.1) |>.getD ((searched s 0 (curDesc s 0 5) [1, 2]).head?.getD 0)) (some ent)
set_option maxRecDepth 4000 in
theorem wit_TableEngines : (getT (forage ⟨7, 1, none, true, [0x8000], false⟩) 9).results.find? (fun z => z.slot = 7) =
      some ⟨7, 1, none, true, [0x8000], false⟩ ∧
    (getT (forage ⟨7, 1, some search, false, [], false⟩) 9).results.find? (fun z => z.slot = 7) = some ⟨7, 1, some search, false, [], false⟩ ∧
    awaitsDram (forage ⟨7, 1, some search, false, [], false⟩) search = false ∧
    awaitsDram { base with memo := { base.memo with queue := kset base.memo.queue 0 [⟨0, 0, deepBlock (tblDesc base 0 0 5)
      (homeOf (tblDesc base 0 0 5) (maskKey (tblDesc base 0 0 5) [1, 2])), 1, 0, 0⟩] [] } } { search with miss := true } = true ∧
    engineOf (setEngine base 1 [.forager search]) (0 * 4 + 1) = [.forager search] ∧
    engineOf (setEngine base 1 [.refresh 5 70 [1, 2]]) 1 = [.refresh 5 70 [1, 2]] ∧
    engineOf (setEngine base 1 [.sweep 5 70 [1, 2] 0]) 1 = [.sweep 5 70 [1, 2] 0] ∧
    getEntry (setEntry (setEngine base 1 [.sweep 5 70 [1, 2] 0]) 70 (some ent)) 70 = some ent ∧ ent.key = [1, 2] ∧ ent.stamp = 0 ∧
    (sweepOf (setSweep tabled 0 5 ⟨true, 0⟩) 0 5).active = true ∧ 0 + 1 = sweepLen (curDesc (setSweep tabled 0 5 ⟨true, 0⟩) 0 5) ∧
    0 + 1 < sweepLen (curDesc (withRS tabled .tblDesc1 5 8) 0 5) := by
  refine ⟨by decide, by decide, by decide, by decide, by decide, by decide, by decide, by decide, by decide, by decide, by decide, by decide, by decide⟩
def learning : State := withEntry (setLearnFifo tabled 0 [learn])
def line : MoveLine := ⟨5, [1, 2], 1, 0, some 5⟩
set_option maxRecDepth 4000 in
theorem wit_Learning : learnFifo base 0 = [] ∧ learnFifo learning 0 = [learn] ∧ engineOf learning (engKey 0 5) = [] ∧ (curDesc learning 0 5).en = true ∧
    lrnOn (lrnCfg learning 0 5) = true ∧ learn.key.length = (curDesc learning 0 5).keyWords ∧ learn.action.length = descA (curDesc learning 0 5) ∧
    metUncorr learning 0 (curDesc learning 0 5) (maskKey (curDesc learning 0 5) learn.key) = none ∧
    (foundAt learning 0 (curDesc learning 0 5) (maskKey (curDesc learning 0 5) learn.key)).map (·.2) = [ent] ∧ ent.learned = true ∧
    kget { base with tbl := { base.tbl with flying := [(7 * 8 + 1, [learn])] } }.tbl.flying (7 * 8 + 1) [] = [learn] ∧
    (learnFifo base 7).length < 1024 ∧ 1024 ≤ (learnFifo (setLearnFifo base 7 (List.replicate 1024 learn)) 7).length ∧
    (trackerOf (setTracker base 0 [line]) 0).find? (fun z => z.tableId = 5 && z.key = [1, 2]) = some line ∧
    (5 : Nat) ≤ mono (setClock (setTracker base 0 [line]) 0 ⟨0, 0, 5⟩) 0 ∧ mono (setTracker base 0 [line]) 0 < 5 ∧
    takeFired (fired { alarm with action := 3 }) 0 3 = some ({ alarm with action := 3 }, setFired (fired { alarm with action := 3 }) 0 []) ∧
    keeperDown base base.pkg.lead = false ∧ heldBack base 0 (0 * 8 + 7) = false ∧
    kget { base with tbl := { base.tbl with assist := [(0, [packet])] } }.tbl.assist 0 [] = [packet] := by
  refine ⟨by decide, by decide, by decide, by decide, by decide, by decide, by decide, by decide, by decide, by decide, by decide, by decide, by simp [learnFifo, setLearnFifo],
    by decide, by decide, by decide, by decide, by decide, by decide, by decide⟩
def count : TallyReq := ⟨5, 3, 64, 1, false⟩
def talLine (m : Nat) : TallyLine := ⟨m, Vector.replicate 8 0, false⟩
def counting (l : List TallyLine) : State := setTenantLines (setCache (setTalQueue base 0 8 [count]) 0 [5]) 0 5 l
def closedMin : ClosedMin := ⟨7, 1, false, 0x0F, []⟩
def closing : State := setR ((List.range 4).foldl (fun s d => setClosed s d [closedMin]) base) .tallyCloseCtl 0 0 1
def retained : State := { setClock base 0 ⟨0, 0, 86400000000000⟩ with tal := { base.tal with batches := [⟨1, 7, [], 0, 0⟩] } }
theorem wit_TallyAndLedger : talQueue base 0 8 = [] ∧ talQueue (counting []) 0 8 = [count] ∧ 5 ∈ cacheOf (counting []) 0 ∧
    bankHeld (counting [talLine 1]) 0 5 1 = false ∧ tenantLines (counting [talLine 1]) 0 5 = [talLine 1] ∧ tenantLines (counting []) 0 5 = [] ∧
    bankHeld (counting []) 0 5 1 = false ∧ bankHeld (setTenantLines (setTalQueue base 0 8 [{ count with minute := 3 }]) 0 5 [talLine 1]) 0 5 3 = true ∧
    takeFired base 0 2 = none ∧
    takeFired (fired { alarm with action := 2 }) 0 2 = some ({ alarm with action := 2 }, setFired (fired { alarm with action := 2 }) 0 []) ∧
    nextClosed closing = some closedMin ∧ talOn closing = true ∧ closing.tal.resume = none ∧ keeperDown closing closing.pkg.lead = false ∧
    (∀ d ∈ usableDies closing, ∃ y ∈ closedOf closing d, y.minute = closedMin.minute) ∧ nextClosed base = none ∧
    retained.tal.batches = [⟨1, 7, [], 0, 0⟩] ∧ 0 + 86400000000000 ≤ leadMono retained := by
  refine ⟨by decide, by decide, by decide, by decide, by decide, by decide, by decide, by decide, by decide, by decide, by decide, by decide, by decide,
    by decide, by decide, by decide, by decide, by decide⟩

/-! ## Witnesses: EMP commands -/

/-- An Owner session at place 1, its commands, and the state after one has been taken. -/
def ses : Session :=
  { inc := 1, priv := 3, keySlot := 0, key := 5, port := 256, addr := 0, vlan := none, hi := 0, window := [], seen := 1, idleSince := 0,
    mask := 0, filter := 0, noteSeq := 0, queue := [], opened := 0 }
def bare (l : List Word) : EmpMsg := ⟨256, 0, none, 0x1001, 65, 1, 0, l.length, 9000, l, 0⟩
def msg (code : Nat) (l : List Word) : EmpMsg := { bare l with tag := empTag ses.key (empCovered (bare l) code) }
def hosted (s : State) : State := setSession s 1 (some ses)
def took (s : State) (l : List Word) : State := taken (hosted s) (msg 0 l) 1 ses
def hears (s : State) (l : List Word) : Bool := mailboxUp (hosted s) (bare []) && decide (l.length ≤ 4480) && !startLimit (hosted s)
theorem covers (l : List Word) (x : BitVec 128) (code : Nat) : empCovered { bare l with tag := x } code = empCovered (bare l) code := rfl
theorem accepted_of {s : State} {l : List Word} (h : hears s l = true) (code priv : Nat) (hp : priv ≤ 3) :
    Accepted (hosted s) (msg code l) code priv 1 ses := by
  simp only [hears, Bool.and_eq_true, Bool.not_eq_true', decide_eq_true_eq] at h
  obtain ⟨⟨h1, h2⟩, h3⟩ := h
  have hf : findSession (hosted s) 65 = some (1, ses) := by
    unfold findSession hosted session setSession; simp [Laws.kget_kset_same]; decide
  have hk : seqKind ses.hi ses.seen 1 = .new := by decide
  have hw : (0x1001 : Word).toNat / 256 % 4 = 0 := by decide
  have ht : empTag ses.key (empCovered (msg code l) code) = (msg code l).tag := by rw [msg, covers]
  refine ⟨h1, ?_, hf, ht, Or.inl hk, hp, hp, h3, hw⟩
  have a1 : ¬(4480 < l.length ∨ 9000 < 30 + 2 * l.length) := by omega
  have hf' : findSession (hosted s) 65#16 = some (1, ses) := hf
  simp [empFrameCheck, msg, bare, hf', a1]
/-- A frame that arrives while the mailbox is down; one of another type, one cut short, one of no session; a session's frame that is new, seen,
old, of too little privilege, or a fragment. -/
theorem wit_CommandsNotTaken : empOf (.sesPing (msg 0x0103 [])) = some (msg 0x0103 [], 0x0103, observer) ∧ mailboxUp State.reset (bare []) = false ∧
    mailboxUp (hosted base) (bare []) = true ∧ (30 ≤ (bare []).avail ∧ (bare []).w0.toNat / 4096 = 1 ∧ (bare []).w0.toNat % 256 = 1) ∧
    ¬({ bare [] with w0 := 0x1002 } : EmpMsg).w0.toNat % 256 = 1 ∧ ¬(30 + 2 * 1 ≤ ({ bare [0] with avail := 31 } : EmpMsg).avail) ∧
    findSession base 65 = none ∧ (findSession (hosted base) 65).map (·.1) = some 1 ∧ seqKind 0 1 1 = .new ∧ seqKind 0 1 0 = .seen ∧
    seqKind 63 0 0 = .late ∧ seqKind 64 0 0 = .refused ∧ seqKind 0 0 65536 = .new ∧ seqKind 0 0 65537 = .refused ∧ (1 : Nat) < operator ∧
    startLimit (hosted { base with kpr := { base.kpr with started := (0, 10000) } }) = true ∧ startLimit (hosted base) = false ∧
    (0x1301 : Word).toNat / 256 % 4 ≠ 0 := by
  refine ⟨rfl, by decide, by decide, by decide, by decide, by decide, by decide, by decide, by decide, by decide, by decide, by decide, by decide,
    by decide, by decide, by decide, by decide, by decide⟩
theorem accepted (l : List Word) (h : hears base l = true) (code priv : Nat) (hp : priv ≤ 3) :
    Accepted (hosted base) (msg code l) code priv 1 ses := accepted_of h code priv hp
/-- A cell that nobody debugs and one that session 1 does; its threads active, faulted, halted; a schedule entry; times and masks at their
bounds. -/
def debugged (st : ThrState) : State := setCell (setT base 9 { idleThread with st := st }) 1 { freshCell with dbg := some (.session 1) }
theorem wit_TimeAndDebugCommands : Accepted (hosted (debugged .halted)) (msg 0x0D03 [9]) 0x0D03 operator 1 ses ∧
    namedCell (took base []) 8 = some 1 ∧ namedThread (took base []) 9 = some 9 ∧ (getCell (took base []) 1).dbg = none ∧
    (getCell (took (debugged .active) []) 1).dbg = some (.session 1) ∧ (getT (took (debugged .active) []) 9).st = .active ∧
    (getT (took (debugged .faulted) []) 9).st = .faulted ∧ (getT (took (debugged .halted) []) 9).st = .halted ∧ isSup 9 = false ∧
    isSup 8 = true ∧ (0xFFFFFFFFFF : BitVec 40).toNat < 2 ^ dbgWidth 32 ∧
    (∀ a ∈ range' 0x0FFF 1, dbgWritable (took (debugged .halted) []) 9 a = true) ∧
    (∀ a ∈ range' 0x0FFF 1, readable (took (debugged .halted) []) 9 a = true ∧ poisonedW (took (debugged .halted) []) 9 a = false) ∧
    definedBits .timeSrcCtl 1 = true ∧ bitsOf 1 0 2 ≠ 3 ∧ pinFunction (took (setClaim base 1 0 (some ⟨0, 0, 0, 1, none⟩)) []) 0 = 1 ∧
    getClaim (took base []) 1 0 = none ∧ definedBits .timeSrcCtl 3 = true ∧ sourceInUse (took base []) ≠ 1 ∧ stepSent (took base []) = false ∧
    sourceInUse (took (setField base .timeStatus 0 0 4 2 1) []) = 1 ∧ bitsOf (srcCtl (took (setField base .timeSrcCtl 0 0 0 2 1) [])) 0 2 = 1 ∧
    diesOk (took base []) 0x0F = true ∧ alarmOk (schedWords ⟨0x10, false, false, 1000000, 0, 0, 0, 0, 0⟩) = true ∧
    (∀ d ∈ diesOf 0x0F, stime (took base []) d + 1000000 ≤ (entryOf (schedWords ⟨0x10, false, false, 1000000, 0, 0, 0, 0, 0⟩)).t) ∧
    usable (took base []) 3 = true := by
  refine ⟨accepted_of (by decide) _ _ (by decide), by decide, by decide, by decide, by decide, by decide, by decide, by decide, by decide, by decide,
    by decide, by decide, by decide, by decide, by decide, by decide, by decide, by decide, by decide, by decide, by decide, by decide, by decide,
    by decide, by decide, by decide⟩

/-- Slot 1 of every usable die holds an OPEN, SEALED or PENDING generation 3 of session 1. -/
def genIn (st : Nat) : State :=
  let s := (List.range 4).foldl (fun s d => setField (setField s (slotReg 1) d 0 0 3 st) (slotReg 1) d 0 16 16 3) base
  { s with gen := { s.gen with openOwner := some 1 } }
/-- A payload of the table commands for table 5 on `dies`, with key 1, 2 and `n` data words; the table holds that key or not. -/
def tblCmd (w0 : Nat) (n : Nat) : List Word := [nw w0, 5, 2, nw n, 1, 2] ++ List.replicate n 0
def tblState (f : State → State) : State := f tabled
set_option maxRecDepth 4000 in
theorem wit_TableAndLearningCommands : Accepted (hosted tabled) (msg 0x0302 (tblCmd 1 4)) 0x0302 operator 1 ses ∧
    tblStage (bare (tblCmd 1 4)) = false ∧ (tblArgs (bare (tblCmd 1 4))).map (fun a => (a.slot, a.dies, a.table, a.key)) = some (0, 1, 5, [1, 2]) ∧
    (tblArgs (bare (tblCmd 1 4))).map (fun a => (fitsDesc (curDesc tabled 0 5) a true, keyOutsideMask (curDesc tabled 0 5) a.key)) = some (true, false) ∧
    permits (took tabled []) 1 (fun row => mayWriteTbl (took tabled []) 0 row 5) = true ∧
    (dynWrite (flushEngine tabled 0 5) 0 5 1 [1, 2] [3, 0, 0, 0] 0 65).1.status = stOk ∧
    (dynWrite (flushEngine (withEntry tabled) 0 5) 0 5 1 [1, 2] [3, 0, 0, 0] 0 65).1.status = stExists ∧
    (dynWrite (flushEngine (withEntry tabled) 0 5) 0 5 3 [1, 2] [] 0 65).1.status = stOk ∧
    (dynWrite (flushEngine tabled 0 5) 0 5 3 [1, 2] [] 0 65).1.status = stNotFound ∧
    tblStage (bare (tblCmd 0x8000 4)) = true ∧ slotLive tabled 0 0 = true ∧ (getEntry (withEntry tabled) ((foundAt (withEntry tabled) 0
      (curDesc tabled 0 5) [1, 2]).head?.map (·.1)|>.getD 0)) = some ent ∧ (curDesc tabled 0 5).en = true ∧
    (validFrom (withEntry tabled) 0 5 (curDesc tabled 0 5) 0).length ≤ 1 ∧ stagedSlot (took (genIn 1) []) = some 1 ∧
    slotGen (took (genIn 1) []) (refDie (took (genIn 1) [])) 1 = 3 ∧ slotState (took (genIn 1) []) (refDie (took (genIn 1) [])) 1 = 1 ∧
    definedBits .lrnNotifyCtl 0 = true ∧ gpnExists (took base []) 257 = true ∧ setRegs 0x000D = some ((setRegs 0x000D).getD []) ∧
    (trackerOf (took (setTracker base 0 [line]) []) 0) = [line] ∧ line.quarUntil.isSome = true ∧ usable (took base []) 0 = true := by
  refine ⟨accepted_of (by decide) _ _ (by decide), by decide, by decide, by decide, by decide, by decide, by decide, by decide, by decide, by decide,
    by decide, by decide, by decide, by decide, by decide, by decide, by decide, by decide, by decide, by decide, by decide, by decide, by decide⟩
set_option maxRecDepth 4000 in
theorem wit_GenerationCommands : Accepted (hosted (genIn 1)) (msg 0x0206 [3]) 0x0206 operator 1 ses ∧ (bare []).len = 0 ∧
    stagedSlot (took base []) = none ∧ slotIn (took base []) (refDie (took base [])) 0 = some 0 ∧
    openFor (took (genIn 1) []) 1 3 1 ∧ slotState (took (genIn 2) []) (refDie (took (genIn 2) [])) 1 = 2 ∧
    slotState (took (genIn 3) []) (refDie (took (genIn 3) [])) 1 = 3 ∧ (setRegs 2).isSome = true ∧
    stagedRecordOk (List.replicate 128 0) = true ∧ (flipGraph (took (genIn 1) []) 1).isSome = true ∧
    (flipProg (took (genIn 1) []) 1).isSome = true ∧ pairState (took (genIn 2) []) ≠ pairPaired ∧ (took (genIn 2) []).pair.joint = none ∧
    stime (took (genIn 2) []) (took (genIn 2) []).pkg.lead + leadTime (took (genIn 2) []) ≤ 65535 * nsPerS ∧
    0 < stime (took (genIn 2) []) (took (genIn 2) []).pkg.lead + leadTime (took (genIn 2) []) ∧
    commitT (took (genIn 3) []) (refDie (took (genIn 3) [])) ≤ stime (took (genIn 3) []) (refDie (took (genIn 3) [])) + 1000000 ∧
    definedBits .genPolicy 0 = true ∧ dieServes (took base []) 3 = true ∧ agrees (took base []) 2 = true := by
  refine ⟨accepted_of (by decide) _ _ (by decide), by decide, by decide, by decide, by unfold openFor; decide, by decide, by decide, by decide,
    by decide, by decide, by decide, by decide, by decide, by decide, by decide, by decide, by decide, by decide, by decide⟩
/-- One queue, the last of die 0; one that holds a copy; two members of a group on die 3. -/
def queueCmd : List Word := [0, 3, 0xFFFF, 1, 0, 0, 0, 64]
theorem wit_BufferAndQueueCommands : Accepted (hosted base) (msg 0x0503 queueCmd) 0x0503 operator 1 ses ∧ curSlot (took base []) (refDie (took base [])) = none ∧
    carveBytes [4096, 4096, 4096, 2048] ≤ 67108864 ∧ (∀ d ∈ diesOf 0x0F, carveOk (took base []) [4096, 4096, 4096, 2048] d = true) ∧
    curSlot (took receiving []) (refDie (took receiving [])) ≠ none ∧ definedBits .bufOwnCfg 0 = true ∧
    (∀ o ∈ range' ((classOwners 2).2 + 0) 1, ownerExists 0 o = true) ∧ minSum (putOwners [49] 0 0 (took base []) 0) 0 0 ≤ poolCount (took base []) 0 0 ∧
    (bare queueCmd).len = 4 + 4 * 1 ∧ pw2 (bare queueCmd) 1 + 1 ≤ 262144 ∧ queueOk (putQueues (took base []) 0 262143 [64]) 0 262143 = true ∧
    queueMoves (took base []) (putQueues (took base []) 0 262143 [64]) 262143 = false ∧
    queueMoves (took (setQueue base 262143 [copyOf false]) []) (putQueues (took (setQueue base 262143 [copyOf false]) []) 0 262143 [2]) 262143 = true ∧
    portFieldOk (took base []) 0 32 = true ∧ definedBits .qmPortCfg 0 = true ∧
    poolCount (took (setR base .bufPoolCfg 0 0 1) []) 0 (bitsOf 0 18 2) ≠ 0 ∧ instExists .qmPortCfg 0 32 = true ∧
    mcMembers (bare [7, 0x000C, 0, 0x000C, 1]) = [786432, 786433] ∧ (membersOn [786432, 786433] 3).length = 2 ∧
    usable (took base []) (qidDie 786432) = true ∧ storeUsed (took base []) 3 7 + 2 ≤ 131072 ∧
    (busyQueues (took (setQueue base 5 [copyOf false]) []) 0) = [5] ∧ busyQueues (took base []) 0 = [] ∧
    permits (took base []) 1 (fun row => (range' 262143 1).all (mayQueue (took base []) 0 row)) = true := by
  refine ⟨accepted_of (by decide) _ _ (by decide), by decide, by decide, by decide, by decide, by decide, by decide, by decide, by decide, by decide,
    by decide, by decide, by decide, by decide, by decide, by decide, by decide, by decide, by decide, by decide, by decide, by decide, by decide,
    by decide⟩
def fcCmd : List Word := [5, 1, 0, 0, 100, 50]
theorem wit_PortAndLaneCommands : Accepted (hosted front) (msg 0x0402 fcCmd) 0x0402 operator 1 ses ∧ portNamed (took front []) 5 = true ∧
    portNamed (took front []) 257 = true ∧ definedBits .egrLinkCfg 1 = true ∧ portConfigured (took front []) 5 = true ∧
    fcMarks (took front []) 5 false 100 50 = some (100, 50) ∧ fcOk (took front []) 5 (1 + 100 * 2 ^ 32 + 50 * 2 ^ 48) 100 50 = true ∧
    fcMarks (took front []) 5 true 2001 0 = none ∧ definedBits .egrClassCfg 2 = true ∧ bitsOf 2 1 8 ≠ 0 ∧ definedBits .egrTgSched 1 = true ∧
    qSchedOk (1 + 250 * 256 + 2 ^ 53) = true ∧ definedBits .egrEcnProf (2 ^ 32) = true ∧ bitsOf (2 ^ 32) 16 16 < bitsOf (2 ^ 32) 32 16 ∧
    sourcePort 0 32 = true ∧ sourcePort 2 32 = false ∧ qidExists (took front []) 1048575 = true ∧ getClaim (took front []) 5 0 = none ∧
    smpOk 0 (1 + 65536 + 2 ^ 32) = true ∧ smpOk 0 (65536 + 2 ^ 32) = true ∧ laneTrains (took (setField front .phyPortCfg 0 31 5 1 0) []) 0 31 = false ∧
    laneTrains (took front []) 0 31 = true ∧
    portCfgOk (1 + 1 * 2 ^ 16 + 1 * 2 ^ 26) = true ∧ spanFree (took base []) 0 31 1 = true ∧ laneBusy (took base []) 0 31 1 = false ∧
    fieldR (took front []) .egrLinkCfg 0 5 0 1 = 0 ∧ fieldR (took (setField front .egrLinkCfg 0 5 0 1 1) []) .egrLinkCfg 0 5 0 1 = 1 := by
  refine ⟨accepted_of (by decide) _ _ (by decide), by decide, by decide, by decide, by decide, by decide, by decide, by decide, by decide, by decide,
    by decide, by decide, by decide, by decide, by decide, by decide, by decide, by decide, by decide, by decide, by decide, by decide, by decide,
    by decide, by decide, by decide, by decide⟩

/-- The claimed package: key slots 0 and 2, a nonce that is fresh; an SES_OPEN under slot 2 that asks for Operator. -/
def claimed : State := { base with kpr := { base.kpr with keys := [(0, ⟨3, 9⟩), (2, ⟨2, 8⟩)], nonces := [(7, 0)] } }
def openBare : EmpMsg := { bare ([0x0202] ++ wordsOf 8 7 ++ wordsOf 8 0) with session := 0 }
def openMsg : EmpMsg := { openBare with tag := empTag (keySlot claimed (pw openBare 0 % 16)).key (empCovered openBare 0x0101) }
theorem covered (m : EmpMsg) (x : BitVec 128) (code : Nat) : empCovered { m with tag := x } code = empCovered m code := rfl
theorem pw_tag (m : EmpMsg) (x : BitVec 128) (k : Nat) : pw { m with tag := x } k = pw m k := rfl
theorem wit_SessionCommands : Accepted (hosted base) (msg 0x0102 []) 0x0102 observer 1 ses ∧ mailboxUp claimed openBare = true ∧
    empFrameCheck claimed openBare 0x0101 true = none ∧ mailboxUp State.reset openBare = false ∧ startLimit claimed = false ∧
    startLimit { base with kpr := { base.kpr with started := (0, 10000) } } = true ∧ failLimit claimed = false ∧
    failLimit { base with kpr := { base.kpr with fails := List.replicate 8 0 } } = true ∧ (keySlot claimed 0).priv ≠ 0 ∧
    (keySlot claimed (pw openMsg 0 % 16)).priv = 2 ∧
    empTag (keySlot claimed (pw openMsg 0 % 16)).key (empCovered openMsg 0x0101) = openMsg.tag ∧ openMsg.len = 17 ∧
    Nat.land (pw openMsg 0) 0x7CF0 = 0 ∧ pw openMsg 0 / 256 % 4 = 2 ∧
    (∃ n ∈ claimed.kpr.nonces, n.1 = BitVec.ofNat 128 (valOf (pws openMsg 1 8)) ∧ leadMono claimed < n.2 + 10 * nsPerS) ∧
    ownerSession claimed = none ∧ sessionsOf claimed 2 < sessionMax 2 ∧ (range' 1 41).find? (fun i => (session claimed i).isNone) = some 1 ∧
    sessionMax 3 ≤ sessionsOf (hosted base) 3 ∧ session (took base []) 1 ≠ none ∧ (findSession (took base []) 65).map (·.1) = some 1 ∧
    findSession (took base []) 66 = none ∧ mgmtOk (0x88B5 * 2 ^ 48 + 60 * 2 ^ 64) = true ∧ mgmtOk 0 = false ∧ knownCode 0 = false := by
  refine ⟨accepted [] (by decide) _ _ (by decide), by decide, by decide, by decide, by decide, by decide, by decide, by decide, by decide, by decide,
    by rw [openMsg, covered, pw_tag, covered], by decide, by decide, by decide, by decide, by decide, by decide, by decide, by decide, by decide, by decide, by decide, by decide, by decide,
    by decide⟩
/-- PKG.DIE_IDENT of die 0 as REG_READ names it; a lock, a claim and rows of the map. -/
def regCmd (w0 : Nat) : List Word := [nw w0, 1, 0, 0, 0, 1]
def claim1 : Claim := ⟨1, 0x0F01, 65, 2, none⟩
theorem wit_RegisterClaimAndMapCommands : Accepted (hosted base) (msg 0x0E00 (regCmd 0x170)) 0x0E00 observer 1 ses ∧
    (regArgs (took base []) (bare (regCmd 0x170))).map (fun a => (a.noclear, a.count)) = some (true, 1) ∧
    (regArgs (took base []) (bare (regCmd 0x70))).map (fun a => (a.noclear, a.count)) = some (false, 1) ∧ regArgs (took base []) (bare []) = none ∧
    (regArgs (took base []) (bare (regCmd 0x70))).map (fun a => a.reg.spec.writable) = some false ∧ usable (took base []) 0 = true ∧
    spareUnit (took base []) 0 64 = true ∧ spareUnit (took base []) 0 338 = false ∧ unitHeld (took base []) 0 338 = false ∧
    unitHeld (took base []) 0 195 = true ∧ spareUnit (took base []) 0 195 = false ∧ 0 < (blockRegs 1).length ∧ claimOk (took base []) 1 1 3 = true ∧
    claimOk (took base []) 6 0 1 = true ∧ shareRefused (took base []) 0 1 = none ∧ getClaim (took base []) 1 1 = none ∧
    getClaim (took (setClaim base 1 1 (some claim1)) []) 1 1 = some claim1 ∧ definedBits .kprClaimPolicy 0 = true ∧
    (sessionLocks (took base []) 1).length < 64 ∧ (getLock (took (setLock base 0 4095 ⟨some 0x4008, false⟩) []) 0 4095).owner = some 0x4008 ∧
    (getLock (took base []) 0 4095).owner ≠ some (sessionId 1) ∧ (∀ r ∈ [17], r < 18) ∧ rowOk (17 :: List.replicate 47 0) = true ∧
    distinctNat [17] = true := by
  refine ⟨accepted_of (by decide) _ _ (by decide), by decide, by decide, by decide, by decide, by decide, by decide, by decide, by decide, by decide,
    by decide, by decide, by decide, by decide, by decide, by decide, by decide, by decide, by decide, by decide, by decide, by decide, by decide,
    by decide⟩
def down3 : State := { base with pkg := { base.pkg with usable := 0x07 } }
theorem wit_TallyFaultAndInspectionCommands : Accepted (hosted base) (msg 0x0601 []) 0x0601 observer 1 ses ∧
    talCfgOk (took base []) (2 + 500 * 65536) 0 = true ∧ talCfgOk (took base []) 0 0 = false ∧ diesOk (took base []) 0x0F = true ∧
    seqReaches (oldestSeq (took base []) + 0x80000000) (oldestSeq (took base [])) = false ∧ seqReaches (oldestSeq (took base [])) (oldestSeq (took base [])) = true ∧
    (∀ b ∈ (took base []).tal.batches, batchPoison (took base []) b = false) ∧
    permits (took base []) 1 (fun row => mayTenant (took base []) 0 row 65535) = true ∧ sharesOk (took base []) [64, 64, 64, 64] = true ∧
    (∀ k ∈ [64, 64, 64, 64], polRate 1 k < 16777216) ∧ usable (took down3 []) 3 = false ∧ (took down3 []).pkg.fenced.getLsbD 3 = false ∧
    genStaged (took down3 []) = false ∧ genStaged (took (genIn 1) []) = true ∧ (took down3 []).flt.tripped.getLsbD 3 = false ∧
    unitHeld (took base []) 0 195 = true ∧ unitHeld (took base []) 0 338 = false ∧ isSpareBank 338 = false ∧ unitState (took base []) 0 338 ≠ 2 ∧
    kget (took base []).insp.fuses 0 0 + (repairsOf 0 (took base []).insp.soft).length ≤ 256 ∧
    256 < kget (took { base with insp := { base.insp with fuses := [(0, 257)] } } []).insp.fuses 0 0 ∧ 4194304 + 1 ≤ dieBlocks (took base []) 0 ∧
    permits (took base []) 1 (fun row => mayDram (took base []) 0 row 65536 1) = true ∧ dramBusy (took base []) 0 0 1 = true ∧
    dramBusy (took base []) 0 4194304 1 = false := by
  refine ⟨accepted [] (by decide) _ _ (by decide), by decide, by decide, by decide, by decide, by decide, by decide, by decide, by decide, by decide,
    by decide, by decide, by decide, by decide, by decide, by decide, by decide, by decide, by decide, by decide, by decide, by decide, by decide,
    by decide, by decide⟩
/-- An image with the magic number in the spare slot of both devices. -/
def loaded : State :=
  let x : FwSlot := { erasedSlot with words := [(0, 0x5146)], length := 0 }
  setFwSlot (setFwSlot base 0 (spareSlot base) x) 1 (spareSlot base) x
/-- A pair in a state, and two front ports of 400 Gbit/s on two dies. -/
def pairIn (st : Nat) : State := setField base .pairStatus 0 0 0 3 st
def twoPorts : State := setField (setField base .phyPortCfg 0 0 0 4 9) .phyPortCfg 1 0 0 4 9
def image : NvImage := ⟨1, 0, 3, 0, [], 0, ⟨0, 0, 0, []⟩⟩
theorem wit_RecorderFirmwareAndPairCommands : Accepted (hosted base) (msg 0x0A04 [1]) 0x0A04 owner 1 ses ∧ (took base []).log.flush = none ∧
    (took { base with log := { base.log with flush := some ⟨3, 0, 0, 0, 0, none⟩ } } []).log.flush ≠ none ∧ ((0xEFFF : Word).toNat < 0xF000) ∧
    (validImages (took { base with log := { base.log with images := [(0, some image)] } } []))[0]? = some image ∧ definedBits .recCfg 1440 = true ∧
    (fwSlot (took loaded []) 0 (spareSlot (took loaded []))).length ≤ 4194304 - 4096 ∧ fwWord (fwSlot (took loaded []) 0 (spareSlot base)) 0 = 0x5146 ∧
    imageValid (fwSlot (took base []) 0 (spareSlot (took base []))) = false ∧ (took base []).boot.verified = false ∧
    (took { base with boot := { base.boot with verified := true } } []).boot.verified = true ∧ genStaged (took base []) = false ∧
    pw (bare [1]) 0 = 1 ∧ usable (took base []) (pw (bare [2, 3]) 1) = true ∧ pw (bare [2, 3]) 1 ≠ (took base []).pkg.lead ∧
    (getCell (took base []) (((3 * 8 + 7) * 32) + 16)).retired = false ∧ (took base []).pair.partner = none ∧ session (took base []) 1 ≠ none ∧
    pairState (took base []) = pairOff ∧ frontPort (took twoPorts []) 0 = true ∧ frontPort (took twoPorts []) 32 = true ∧
    400 ≤ portRate (took twoPorts []) 0 ∧ gpnDie 0 ≠ gpnDie 32 ∧ groupTableOk (took (withRS receiving .tblDesc0 63 (1 + 32 + 1024)) []) 63 = true ∧
    pairState (took (pairIn pairIsolated) []) = pairIsolated ∧ pairOn (took base []) = false := by
  refine ⟨accepted_of (by decide) _ _ (by decide), by decide, by decide, by decide, by decide, by decide, by decide, by decide, by decide, by decide,
    by decide, by decide, by decide, by decide, by decide, by decide, by decide, by decide, by decide, by decide, by decide, by decide, by decide,
    by decide, by decide, by decide⟩
/-- Whether a signature verifies is a free value: where it does, an image may be verified. -/
theorem wit_verified (h : ∀ a b, Config.signatureVerifies a b = true) :
    imageValid (fwSlot loaded 0 (spareSlot loaded)) = true ∧ fwSlot loaded 1 (spareSlot loaded) = fwSlot loaded 0 (spareSlot loaded) := by
  refine ⟨?_, by decide⟩
  unfold imageValid
  rw [h]
  decide

/-! ## Witnesses: generations, memories, faults, inspection, recorder, resets, the TAP, the pair -/

/-- Die 0 alone is usable; its slots 1 and 2 are in the given states. -/
def slots (a b : Nat) : State :=
  let s := setField (setField base (slotReg 1) 0 0 0 3 a) (slotReg 2) 0 0 0 3 b
  { s with pkg := { s.pkg with usable := 1 } }
def draining : State :=
  let s := slots 5 0
  { s with gen := { s.gen with drainSince := [(dieSlot 0 1, some 0)] } }
/-- A copy of the draining slot 1 in a queue. -/
def stale : State := setQueue (setFrame draining 7 (some { frame with slot := 1, shares := [.copy 4] })) 5 [{ copyOf false with stamp := ⟨1, 0, 0⟩ }]
theorem wit_GenerationHappenings : (∀ d ∈ usableDies base, slotIn base d 3 = none ∨ stime base d < commitT base d) ∧
    usableDies (slots 3 4) = [0] ∧ slotIn (slots 3 4) 0 3 = some 1 ∧ curSlot (slots 3 4) 0 = some 2 ∧ commitT (slots 3 4) 0 ≤ stime (slots 3 4) 0 ∧
    takeFired base 0 1 = none ∧
    takeFired (fired { alarm with action := 1 }) 0 1 = some ({ alarm with action := 1 }, setFired (fired { alarm with action := 1 }) 0 []) ∧
    keeperDown base 0 = false ∧ keeperDown { base with kpr := { base.kpr with restarting := [(0, some 0)] } } 0 = true ∧
    slotState draining (refDie draining) 1 = 5 ∧ (∀ d ∈ usableDies draining, holdersOf draining d 1 = 0) ∧ holdersOf stale 0 1 ≠ 0 ∧
    holdersOf stale 0 1 = queuedOf stale 0 1 ∧ queuedOf stale 0 1 ≠ 0 ∧ fieldR (setField draining .genPolicy 0 0 16 16 0) .genPolicy 0 0 16 16 * 100000000 = 0 ∧
    fieldR (setField draining .genPolicy 0 0 16 16 1) .genPolicy 0 0 16 16 * 100000000 ≠ 0 ∧ kget draining.gen.drainSince (dieSlot 0 1) none = some 0 ∧
    0 + 100000000 ≤ mono (setClock draining 0 ⟨0, 0, 100000000⟩) 0 ∧ mono draining 0 < 100000000 ∧ slotState (slots 6 0) (refDie (slots 6 0)) 1 = 6 ∧
    usable base 1 = true ∧ (1 : Nat) ≠ refDie base ∧ (∀ k ∈ auditOf base 0, k % 4 ≠ 3) := by
  refine ⟨by decide, by decide, by decide, by decide, by decide, by decide, by decide, by decide, by decide, by decide, by decide, by decide, by decide,
    by decide, by decide, by decide, by decide, by decide, by decide, by decide, by decide, by decide, by decide⟩
def dram (r : DramReq) (bad : List Nat) : State := { base with memo := { base.memo with queue := [(0, [r])], dramPoison := bad } }
def request : DramReq := ⟨0, 0, 4194304, 1, 0, 0⟩
theorem wit_MemoryHappenings : dieAlive base 0 = true ∧ choose (dram request []) 0 (dramReqs (dram request []) 0) = some request ∧
    blockPoison (dram request []) 0 4194304 1 = false ∧ blockPoison (dram request [4194304]) 0 4194304 1 = true ∧
    choose base 0 (dramReqs base 0) = none ∧ base.pkg.running = true ∧ kget base.memo.alerts (0 * 2 + 1) 0 + 1 < 3 ∧
    3 ≤ kget { base with memo := { base.memo with alerts := [(1, 2)] } }.memo.alerts (0 * 2 + 1) 0 + 1 ∧
    (∀ q ∈ dramReqs base 0, rankKey base 0 q.block ≠ 0) ∧ (0 : Nat) ≤ fieldR base .memDramCfg 0 0 21 1 ∧
    kget base.memo.idleSince 0 0 + fieldR base .memDramCfg 0 0 8 8 * 100 ≤ mono (setClock base 0 ⟨0, 0, 25500⟩) 0 ∧
    fieldR base .memDramCfg 0 0 0 1 = 1 ∧ fieldR (setField base .memDramCfg 0 0 0 1 0) .memDramCfg 0 0 0 1 = 0 ∧ unitHeld base 0 195 = true ∧
    0 * 512 + 195 ∉ base.flt.retiredUnits ∧ 339 ≤ unitPrivate ∧ spareUnit base 0 195 = false ∧ spareUnit base 0 64 = true := by
  refine ⟨by decide, by decide, by decide, by decide, by decide, by decide, by decide, by decide, by decide, by decide, by decide, by decide, by decide,
    by decide, by decide, by decide, by decide, by decide⟩
def activating : State := { base with boot := { base.boot with activating := some ⟨0, 0, false, 1, bare []⟩ } }
theorem wit_FaultHappenings : dieAlive base 3 = true ∧ kget base.kpr.restarting 3 none = none ∧
    (trackEvent (cnt base .fltCntKprMismatch 3 0) 3 .keeper 3 false).1.lasting = false ∧ base.boot.activating = none ∧
    activating.boot.activating = some ⟨0, 0, false, 1, bare []⟩ ∧ (allDies activating).length = 4 ∧
    (∀ d ∈ allDies activating, (0x0F ||| BitVec.ofNat 8 (2 ^ 3)).getLsbD d = true) ∧ (0 : BitVec 8).getLsbD 3 = false ∧ (8 : BitVec 8).getLsbD 3 = true ∧
    usable base (cellDie 1) = true ∧ (getCell base 1).retired = false ∧ placeOf base 1 ≠ none ∧
    (trackEvent (recordF (cnt base .fltCntIllegal 0 0) 4 0 0x4020 (keeperId 0) [8, 1, 0]) 0 (.cell 1) 1 false).1.lasting = false ∧
    kget base.phy.noRef 0 false = false ∧ kget { base with phy := { base.phy with noRef := [(0, true)] } }.phy.noRef 0 false = true ∧
    6 * supplyMv .a0v9 < 100 * (0 - supplyMv .a0v9 + (supplyMv .a0v9 - 0)) ∧
    100 * (supplyMv .a0v9 - supplyMv .a0v9 + (supplyMv .a0v9 - supplyMv .a0v9)) ≤ 6 * supplyMv .a0v9 ∧ usable base (hearer base 3) = true ∧
    kget base.pkg.heard 3 0 + 400000 ≤ mono (setClock base 0 ⟨0, 0, 400000⟩) (hearer base 3) ∧
    mono base (hearer base 3) < kget base.pkg.heard 3 0 + 400000 := by
  refine ⟨by decide, by decide, by decide, by decide, by decide, by decide, by decide, by decide, by decide, by decide, by decide, by decide, by decide,
    by decide, by decide, by decide, by decide, by decide, by decide, by decide⟩
def slicing (step n : Nat) : State :=
  let s := setClock base 0 ⟨0, 0, n⟩
  { s with insp := { s.insp with slices := [(sliceKey 0 1, some ⟨4, 2, 16, step, 0, false⟩)] } }
def banking (step : Nat) (w : Option Nat) : State := setBankStep base 0 (some ⟨3, step, 0, w, false⟩)
theorem wit_InspectionSteps :
    takeFired (fired { alarm with action := 5 }) 0 5 = some ({ alarm with action := 5 }, setFired (fired { alarm with action := 5 }) 0 []) ∧
    takeFired base 0 5 = none ∧ frozen base 0 = false ∧ getSlice base (sliceKey 0 1) = none ∧
    getSlice (slicing 2 0) (sliceKey 0 1) = some ⟨4, 2, 16, 2, 0, false⟩ ∧ cellItems (slicing 2 0) (4 * 32 + 2) = 0 ∧
    0 + 4000000 ≤ mono (slicing 5 4000000) 0 ∧ mono (slicing 5 1999999) 0 < 0 + 2000000 ∧ ¬(fieldR (slicing 2 0) .inspCfg 0 0 10 11 * 1000 ≤ mono (slicing 2 0) 0) ∧
    (trackEvent (cnt (drawWord (slicing 5 4000000)).2 .inspCntCellFail 0 0) 0 (.cell (4 * 32 + 2)) 1 false).1.lasting = false ∧
    bankStep base 0 = none ∧ bankStep (banking 4 none) 0 = some ⟨3, 4, 0, none, false⟩ ∧ bankStep (banking 4 (some 5)) 0 = some ⟨3, 4, 0, some 5, false⟩ ∧
    (repairRows (banking 4 none) 0 3 []).1 = ([] : List Nat).length ∧
    (softRow (setField (banking 4 none) .inspRepair 0 3 0 4 0) 0 3 7).isNone = true := by
  refine ⟨by decide, by decide, by decide, by decide, by decide, by decide, by decide, by decide, by decide, by decide, by decide, by decide, by decide,
    by decide, by decide⟩
def rec1 : Rec := ⟨0, 0, 0x0006, 0, 1, 0, []⟩
def buffered : State := { base with log := { base.log with buf := [(2, [rec1])] } }
def flushing : State := { base with log := { base.log with flush := some ⟨3, 0, 0, 0, 0, none⟩ } }
set_option maxRecDepth 4000 in
theorem wit_RecorderResetsAndTap : forwards buffered 2 = true ∧ dieBuf buffered 2 = [rec1] ∧ forwards { base with pkg := { base.pkg with retired := 4 } } 2 = false ∧
    (⟨10, 5, 4, 0, 0⟩ : RateBucket).tokens < (⟨10, 5, 4, 0, 0⟩ : RateBucket).burst ∧
    0 + nsPerS / 10 ≤ mono (setClock base 0 ⟨0, 0, 100000000⟩) 0 ∧ mono base 0 < 0 + nsPerS / 10 ∧ base.log.flush = none ∧
    flushing.log.flush = some ⟨3, 0, 0, 0, 0, none⟩ ∧
    takeFired (fired { alarm with action := 7 }) 0 7 = some ({ alarm with action := 7 }, setFired (fired { alarm with action := 7 }) 0 []) ∧
    takeFired base 0 7 = none ∧ base.log.pfail = none ∧ base.pkg.noLead = false ∧ State.reset.pkg.running = false ∧
    (session (hosted base) 1).map (·.idleSince) = some 0 ∧ idleNs (hosted base) ≤ leadMono (setClock (hosted base) 0 ⟨0, 0, 3600000000000⟩) ∧
    leadMono (hosted base) < 0 + idleNs (hosted base) ∧ leadStands base = true ∧ (kget base.kpr.keys 0 ⟨0, 0⟩).priv = 0 ∧
    (kget claimed.kpr.keys 0 ⟨0, 0⟩).priv ≠ 0 ∧ keyCrc 5 ≠ keyCrc 5 + 1 ∧ (dieBuf buffered 2)[0]? = some rec1 ∧ (dieBuf base 2)[0]? = none ∧
    (0xFF : Byte).toNat ∉ [0x00, 0x01, 0x02, 0x03, 0x04, 0x10, 0x11, 0x12, 0x13] := by
  refine ⟨by decide, by decide, by decide, by decide, by decide, by decide, by decide, by decide, by decide, by decide, by decide, by decide, by decide,
    by decide, by decide, by decide, by decide, by decide, by decide, by bv_omega, by decide, by decide, by decide⟩
/-- The pair: a package in a state of R479 with host ports up; frames of its pair with the right tag, of every kind, longer than all of them. -/
def paired (st : Nat) (f : PairS → PairS) : State :=
  let s := setPort (setR (setField (setPort base 0 { freshPort with pcsUp := true, linkUp := true, link := .up }) .pairStatus 0 0 0 3 st) .pairCfg 0 0
    (pairCfgValue 0 32 true 7 63)) 32 { freshPort with pcsUp := true, linkUp := true, link := .up }
  { s with pair := f { s.pair with key := 3 } }
def pairBare (kind : Nat) : PairMsg := ⟨0, 0, nw (0x1000 + kind), 7, 1, 16, List.replicate 16 0, 0⟩
def pairMsg (s : State) (kind : Nat) : PairMsg :=
  let m := pairBare kind
  { m with tag := empTag s.pair.key ([m.w0, m.pairId] ++ wordsOf 2 m.seq.toNat ++ [nw m.len] ++ m.payload.take m.len) }
theorem pair_tag (s : State) (kind : Nat) : pairTagOk s (pairMsg s kind) := rfl
theorem wit_PairFrames : pairArrives (paired pairPaired id) (pairBare kHeartbeat) kHeartbeat ∧ pairTagOk (paired pairPaired id) (pairMsg (paired pairPaired id) kAck) ∧
    (pairBare kAck).pairId.toNat = bitsOf (pairCfg (paired pairPaired id)) 64 16 ∧ (paired pairPaired id).pair.seen = 0 ∧
    seqKind 1 1 1 = .seen ∧ seqKind 100 1 1 = .refused ∧ pairState (paired pairForming id) = pairForming ∧ secondary (paired pairPaired id) = true ∧
    portA (paired pairPaired id) = 0 ∧ portB (paired pairPaired id) = 32 ∧ curSlot (setField (paired pairPaired id) (slotReg 0) 0 0 0 3 4) 0 = some 0 ∧
    recomputing (setField (paired pairPaired id) (slotReg 0) 0 0 0 3 4) 0 = false ∧
    (paired pairPaired (fun p => { p with joint := some ⟨0, 0, 0, 1, bare []⟩ })).pair.joint = some ⟨0, 0, 0, 1, bare []⟩ ∧
    slotIn (setField (paired pairPaired id) (slotReg 1) 0 0 0 3 3) 0 3 = some 1 ∧ (paired pairPaired id).pair.probeStart = none ∧
    (paired pairForming id).pair.helloAt + 10000000 ≤ leadMono (setClock (paired pairForming id) 0 ⟨0, 0, 10000000⟩) ∧
    takeFired (setFired (paired pairPaired id) 0 [{ alarm with action := 6 }]) 0 6 =
      some ({ alarm with action := 6 }, setFired (setFired (paired pairPaired id) 0 [{ alarm with action := 6 }]) 0 []) ∧
    pairOn (paired pairPaired id) = true ∧ portIsUp (paired pairPaired id) 0 = true ∧
    (paired pairPaired (fun p => { p with partner := some (1, false, 0) })).pair.partner ≠ none ∧
    lastHeartbeat (paired pairPaired id) + 3000000 ≤ leadMono (setClock (paired pairPaired id) 0 ⟨0, 0, 3000000000⟩) ∧
    leadMono (paired pairPaired id) < lastHeartbeat (paired pairPaired id) + 3000000 ∧
    (paired pairPaired (fun p => { p with probeStart := some 0 })).pair.probeStart = some 0 ∧
    (paired pairPaired (fun p => { p with withdraw := some (0, 0) })).pair.withdraw = some (0, 0) := by
  refine ⟨by unfold pairArrives; decide, pair_tag _ _, by decide, by decide, by decide, by decide, by decide, by decide, by decide, by decide, by decide,
    by decide, by decide, by decide, by decide, by decide, by decide, by decide, by decide, by decide, by decide, by decide, by decide, by decide⟩

/-! ## Witnesses: the block -/

theorem wit_ResetState : Claims.Inv State.reset := ⟨by decide, by decide, Laws.reset_wf⟩
theorem wit_EveryStepKeepsTheInvariant : Claims.Inv State.reset ∧ ∃ t, step State.reset = .next t := ⟨wit_ResetState, _, rfl⟩
theorem wit_StepRunsTheFront : ({ State.reset with pending := [.pfailRise] } : State).pending = [.pfailRise] ∧ State.reset.pending = [] := ⟨rfl, rfl⟩
/-- The first and the last unit of the format table; the worked ADDI of R131. -/
theorem wit_DecodeOfEncode : encodeUnit (.addi plain 3 2 0x3FFE) = some 0x010CBFFE ∧ encodeUnit (.call (withImm 0x8004) 0x0200) = some 0x06800200 ∧
    prefixUnit (withImm 0x8004).pfx = some 0x07C08004 ∧ prefixUnit Prefix.none = none := by decide
theorem wit_EncodeOfDecode : guardOf 0xB6000123 = (⟨9, 0xB, .none⟩ : Issue).guard ∧ decodeUnit ⟨9, 0xB, .none⟩ 0xB6000123 = some (.br ⟨9, 0xB, .none⟩ 0x0123) := by
  decide
/-- Die 0 fails, die 1 passes. -/
def bootRes (l : Nat) : List BootResult := (List.range 4).map (fun d => ⟨true, true, true, decide (d ≠ l), true, true, true, [], [], []⟩)
theorem wit_LeadAtStartUp : State.reset.pkg.running = false ∧ State.reset.pkg.n = 4 ∧ getClaim State.reset 3 7 = none ∧
    bootFails State.reset 1 (resultOf (bootRes 0) 1) = 0 ∧ bootFails State.reset 0 (resultOf (bootRes 0) 0) = 1 ∧
    bootFails State.reset 0 (resultOf (bootRes 1) 0) = 0 := by decide
theorem wit_RecorderClear : Accepted (hosted base) (msg 0x0802 []) 0x0802 owner 1 ses ∧ base.pkg.lead ≤ 1 ∧ (hosted base).log.flush = none ∧
    dieBuf (hosted base) 0 = [] ∧ (hosted flushing).log.flush ≠ none ∧ (2 : Nat) < owner := by
  refine ⟨accepted [] (by decide) _ _ (by decide), by decide, by decide, by decide, by decide, by decide⟩

end Sys2Proof.Tests
end

section
/-!
PROOF. The lead at start-up (R24). Choosing the lead is the last that start-up writes into what the package shares: everything after it leaves
`State.pkg` alone. The one command that could pass the lead on is the retirement of a die for a table bank without a spare (R408); it cannot
happen, for a die that starts has at most one bad table bank (R459), and its class-3 claim is free.
-/

namespace Sys2Proof.Proofs

open Sys2Proof.Machine Sys2Proof.Laws

/-! ## What the package shares, and the claim table: one frame lemma per operation -/

/-- The part of the state that the start-up of dies must keep: what the package shares, and the claim table (R13, R24, R379). -/
def pkgClaims (s : State) : Pkg × Map (Option Claim) := (s.pkg, s.kpr.claims)

theorem pkg_of_pkgClaims {s t : State} (h : pkgClaims t = pkgClaims s) : t.pkg = s.pkg := congrArg Prod.fst h

theorem getClaim_of_pkgClaims {s t : State} (h : pkgClaims t = pkgClaims s) (c i : Nat) : getClaim t c i = getClaim s c i :=
  congrArg (fun x : Pkg × Map (Option Claim) => kget x.2 (claimKey c i) none) h

@[simp] theorem pkgClaims_ite (c : Prop) [Decidable c] (s t : State) :
    pkgClaims (if c then s else t) = if c then pkgClaims s else pkgClaims t := apply_ite _ _ _ _

/-- A fold whose steps keep an observation keeps it. -/
theorem foldl_keeps {α β γ : Type} (g : α → γ) {f : α → β → α} (h : ∀ a b, g (f a b) = g a) (l : List β) (a : α) :
    g (l.foldl f a) = g a := by
  induction l generalizing a with
  | nil => rfl
  | cons b l ih => exact (ih _).trans (h a b)

theorem pkgClaims_forEach {α : Type} {f : State → α → State} (h : ∀ s a, pkgClaims (f s a) = pkgClaims s) (l : List α) (s : State) :
    pkgClaims (forEach l f s) = pkgClaims s := foldl_keeps pkgClaims h l s

/-! ### Writes of one part -/

theorem pkgClaims_boot (s : State) (b : BootS) : pkgClaims { s with boot := b } = pkgClaims s := rfl

@[simp] theorem pkgClaims_setR (s : State) (r : RegName) (d i v : Nat) : pkgClaims (setR s r d i v) = pkgClaims s := rfl
@[simp] theorem pkgClaims_setField (s : State) (r : RegName) (d i lo w v : Nat) : pkgClaims (setField s r d i lo w v) = pkgClaims s := rfl
@[simp] theorem pkgClaims_cntN (s : State) (r : RegName) (d i n : Nat) : pkgClaims (cntN s r d i n) = pkgClaims s := rfl
@[simp] theorem pkgClaims_cnt (s : State) (r : RegName) (d i : Nat) : pkgClaims (cnt s r d i) = pkgClaims s := rfl
@[simp] theorem pkgClaims_setSession (s : State) (i : Nat) (x : Option Session) : pkgClaims (setSession s i x) = pkgClaims s := rfl
@[simp] theorem pkgClaims_setRateBucket (s : State) (d : Nat) (c : Word) (b : RateBucket) : pkgClaims (setRateBucket s d c b) = pkgClaims s := rfl
@[simp] theorem pkgClaims_setCellAt (s : State) (k p c : Nat) : pkgClaims (setCellAt s k p c) = pkgClaims s := rfl
@[simp] theorem pkgClaims_setBank (s : State) (d b : Nat) (l : List LockReq) : pkgClaims (setBank s d b l) = pkgClaims s := rfl
@[simp] theorem pkgClaims_setT (s : State) (t : Nat) (x : Thread) : pkgClaims (setT s t x) = pkgClaims s := rfl
@[simp] theorem pkgClaims_modT (s : State) (t : Nat) (f : Thread → Thread) : pkgClaims (modT s t f) = pkgClaims s := rfl
@[simp] theorem pkgClaims_setLock (s : State) (d n : Nat) (x : Lock) : pkgClaims (setLock s d n x) = pkgClaims s := rfl
@[simp] theorem pkgClaims_modCell (s : State) (c : Nat) (f : Cell → Cell) : pkgClaims (modCell s c f) = pkgClaims s := rfl
@[simp] theorem pkgClaims_freeDg (s : State) (c : Nat) (b : Bool) : pkgClaims (freeDg s c b) = pkgClaims s := rfl
@[simp] theorem pkgClaims_freeBk (s : State) (k : Nat) (b : Bool) : pkgClaims (freeBk s k b) = pkgClaims s := rfl
@[simp] theorem pkgClaims_clearChan (s : State) (t : Nat) : pkgClaims (clearChan s t) = pkgClaims s := rfl
@[simp] theorem pkgClaims_setFrame (s : State) (f : Nat) (x : Option Frame) : pkgClaims (setFrame s f x) = pkgClaims s := rfl
@[simp] theorem pkgClaims_dropAlarms (s : State) (c : Nat) : pkgClaims (dropAlarms s c) = pkgClaims s := rfl
@[simp] theorem pkgClaims_startSup (s : State) (c : Nat) : pkgClaims (startSup s c) = pkgClaims s := rfl
@[simp] theorem pkgClaims_placeEntries (s : State) (d : Nat) : pkgClaims (placeEntries s d) = pkgClaims s := rfl
@[simp] theorem pkgClaims_setFwSlot (s : State) (d k : Nat) (x : FwSlot) : pkgClaims (setFwSlot s d k x) = pkgClaims s := rfl
@[simp] theorem pkgClaims_setEntry (s : State) (p : Nat) (e : Option Entry) : pkgClaims (setEntry s p e) = pkgClaims s := rfl
@[simp] theorem pkgClaims_setRehash (s : State) (d t : Nat) (x : Rehash) : pkgClaims (setRehash s d t x) = pkgClaims s := rfl
@[simp] theorem pkgClaims_setTracker (s : State) (d : Nat) (l : List MoveLine) : pkgClaims (setTracker s d l) = pkgClaims s := rfl
@[simp] theorem pkgClaims_answer (s : State) (q : FgReq) (r : TblRes) : pkgClaims (answer s q r) = pkgClaims s := rfl
@[simp] theorem pkgClaims_hwCount (s : State) (d t k b : Nat) : pkgClaims (hwCount s d t k b) = pkgClaims s := rfl
@[simp] theorem pkgClaims_modPort (s : State) (g : Nat) (f : PortS → PortS) : pkgClaims (modPort s g f) = pkgClaims s := rfl
@[simp] theorem pkgClaims_setQueue (s : State) (q : Nat) (l : List QCopy) : pkgClaims (setQueue s q l) = pkgClaims s := rfl
@[simp] theorem pkgClaims_clearDeficits (s : State) (q : Nat) : pkgClaims (clearDeficits s q) = pkgClaims s := rfl

/-! ### Records and notifications (R373, R439 to R445) -/

@[simp] theorem pkgClaims_noteTo (s : State) (i : Nat) (c : Word) (ws : List Word) : pkgClaims (noteTo s i c ws) = pkgClaims s := by
  unfold noteTo
  split <;> simp

@[simp] theorem pkgClaims_notifyWhere (s : State) (sel : Session → Bool) (c : Word) (ws : List Word) :
    pkgClaims (notifyWhere s sel c ws) = pkgClaims s := by
  unfold notifyWhere
  rw [pkgClaims_ite, pkgClaims_forEach, ite_self]
  intro s i
  split <;> simp

@[simp] theorem pkgClaims_notify (s : State) (c : Word) (ws : List Word) : pkgClaims (notify s c ws) = pkgClaims s :=
  pkgClaims_notifyWhere ..

@[simp] theorem pkgClaims_offerRecord (s : State) (r : Rec) : pkgClaims (offerRecord s r) = pkgClaims s := by simp [offerRecord]

@[simp] theorem pkgClaims_logRecord (s : State) (r : Rec) : pkgClaims (logRecord s r) = pkgClaims s := by
  unfold logRecord
  rw [pkgClaims_offerRecord]
  repeat' split
  all_goals rfl

@[simp] theorem pkgClaims_keepRecord (s : State) (d : Nat) (r : Rec) : pkgClaims (keepRecord s d r) = pkgClaims s := by
  unfold keepRecord
  repeat' split
  · exact pkgClaims_logRecord s r
  all_goals rfl

@[simp] theorem pkgClaims_recordF (s : State) (f d : Nat) (c src : Word) (ws : List Word) : pkgClaims (recordF s f d c src ws) = pkgClaims s := by
  simp [recordF]

@[simp] theorem pkgClaims_record (s : State) (d : Nat) (c src : Word) (ws : List Word) : pkgClaims (record s d c src ws) = pkgClaims s :=
  pkgClaims_recordF ..

@[simp] theorem pkgClaims_recordK (s : State) (d : Nat) (c : Word) (ws : List Word) : pkgClaims (recordK s d c ws) = pkgClaims s :=
  pkgClaims_record ..

@[simp] theorem pkgClaims_degraded (s : State) (d k i n : Nat) : pkgClaims (degraded d k i n s) = pkgClaims s := pkgClaims_recordK ..

/-! ### Guarantees, and what a claim brings about (R379) -/

@[simp] theorem pkgClaims_guarBit (d now old : Nat) (a : Nat × State) (b : Nat) : pkgClaims (guarBit d now old a b).2 = pkgClaims a.2 := by
  unfold guarBit
  repeat' split
  all_goals rfl

@[simp] theorem pkgClaims_setGuar (s : State) (d v : Nat) : pkgClaims (setGuar s d v) = pkgClaims s := by simp [setGuar]

@[simp] theorem pkgClaims_refreshGuar (s : State) (d : Nat) : pkgClaims (refreshGuar s d) = pkgClaims s := by
  unfold refreshGuar
  rw [pkgClaims_setGuar]
  exact foldl_keeps (fun a : Nat × State => pkgClaims a.2) (fun a b => pkgClaims_guarBit d _ _ a b) _ _

@[simp] theorem pkgClaims_refreshAllGuar (s : State) : pkgClaims (refreshAllGuar s) = pkgClaims s := pkgClaims_forEach pkgClaims_refreshGuar _ _

@[simp] theorem pkgClaims_claimEffect (s : State) (c i : Nat) : pkgClaims (claimEffect s c i) = pkgClaims s := by
  unfold claimEffect
  split
  case h_2 =>
    split
    · exact pkgClaims_recordK ..
    · rfl
  case h_1 => simp
  all_goals rfl

@[simp] theorem pkgClaims_claimChanged (s : State) (c i r : Nat) (h : Word) : pkgClaims (claimChanged s c i r h) = pkgClaims s := by
  simp [claimChanged]

/-! ### Cells and threads (R86, R98, R99, R333 to R336) -/

@[simp] theorem pkgClaims_applyRepair (s : State) (d u r : Nat) (f : Bool) : pkgClaims (applyRepair s d u r f) = pkgClaims s := by
  unfold applyRepair
  rw [pkgClaims_ite, pkgClaims_setField, ite_self, pkgClaims_ite, pkgClaims_setField, pkgClaims_setField, ite_self]

@[simp] theorem pkgClaims_loseUnit (s : State) (d u : Nat) : pkgClaims (loseUnit s d u) = pkgClaims s := by
  unfold loseUnit
  repeat' split
  all_goals rfl

@[simp] theorem pkgClaims_setUnitState (s : State) (d u st : Nat) : pkgClaims (setUnitState s d u st) = pkgClaims s := by simp [setUnitState]

@[simp] theorem pkgClaims_powerSpare (s : State) (d u st : Nat) : pkgClaims (powerSpare s d u st) = pkgClaims s := by simp [powerSpare]

@[simp] theorem pkgClaims_dropReqs (s : State) (t : Nat) (b : Bool) : pkgClaims (dropReqs s t b) = pkgClaims s :=
  pkgClaims_forEach (fun s n => pkgClaims_setBank s _ n _) _ _

@[simp] theorem pkgClaims_tryWake (s : State) (t : Nat) : pkgClaims (tryWake s t) = pkgClaims s := by
  unfold tryWake
  dsimp only
  repeat' split
  all_goals rfl

@[simp] theorem pkgClaims_raiseEvent (s : State) (t n : Nat) : pkgClaims (raiseEvent s t n) = pkgClaims s := by simp [raiseEvent]

@[simp] theorem pkgClaims_wakeSubscribers (s : State) (d n : Nat) : pkgClaims (wakeSubscribers s d n) = pkgClaims s :=
  pkgClaims_forEach (by simp) _ _

@[simp] theorem pkgClaims_abandonLock (s : State) (d n : Nat) (h : Word) : pkgClaims (abandonLock s d n h) = pkgClaims s := by
  simp [abandonLock, freeLock]

@[simp] theorem pkgClaims_abandonClaims (s : State) (t : Nat) : pkgClaims (abandonClaims s t) = pkgClaims s := by
  simp [abandonClaims, claimAbandoned]

@[simp] theorem pkgClaims_chDiscard (s : State) (t : Nat) : pkgClaims (chDiscard s t) = pkgClaims s := pkgClaims_record ..

@[simp] theorem pkgClaims_endShare (s : State) (f : Nat) (h : Holder) : pkgClaims (endShare s f h) = pkgClaims s := by
  unfold endShare
  split <;> simp

@[simp] theorem pkgClaims_modFrame (s : State) (f : Nat) (g : Frame → Frame) : pkgClaims (modFrame s f g) = pkgClaims s := by
  unfold modFrame
  split <;> rfl

@[simp] theorem pkgClaims_dropTag (s : State) (d : Nat) (k : Option Nat) : pkgClaims (dropTag s d k) = pkgClaims s := by cases k <;> rfl

@[simp] theorem pkgClaims_freeFrameTag (s : State) (f : Nat) : pkgClaims (freeFrameTag s f) = pkgClaims s := by
  unfold freeFrameTag
  split <;> simp

@[simp] theorem pkgClaims_modOut (s : State) (f : Nat) (g : Outstanding → Outstanding) : pkgClaims (modOut s f g) = pkgClaims s := by
  unfold modOut
  split <;> rfl

@[simp] theorem pkgClaims_enterVerdict (s : State) (f : Nat) (v : Verdict) : pkgClaims (enterVerdict s f v) = pkgClaims s := by
  unfold enterVerdict
  split <;> simp [discardLate, orderRecord]

@[simp] theorem pkgClaims_resetVerdict (s : State) (f r : Nat) (g : Word) : pkgClaims (resetVerdict s f r g) = pkgClaims s :=
  pkgClaims_enterVerdict ..

@[simp] theorem pkgClaims_releaseHandles (s : State) (t : Nat) : pkgClaims (releaseHandles s t) = pkgClaims s := by
  rw [releaseHandles, pkgClaims_modT, pkgClaims_forEach]
  simp

@[simp] theorem pkgClaims_clearThread (s : State) (t r : Nat) (q : Bool) : pkgClaims (clearThread s t r q) = pkgClaims s := by
  have locks (l : List Nat) (s : State) : pkgClaims (forEach l (fun s n => abandonLock s (thrDie t) n (thrMaster t)) s) = pkgClaims s :=
    pkgClaims_forEach (by simp) l s
  unfold clearThread
  dsimp only
  split <;> simp [locks]

@[simp] theorem pkgClaims_clearCellCounters (s : State) (c : Nat) : pkgClaims (clearCellCounters s c) = pkgClaims s :=
  pkgClaims_forEach (fun s r => pkgClaims_setR s r _ _ 0) _ _

@[simp] theorem pkgClaims_cellReset (s : State) (c : Nat) : pkgClaims (cellReset s c) = pkgClaims s := by
  unfold cellReset
  dsimp only
  rw [pkgClaims_ite, pkgClaims_startSup, ite_self, pkgClaims_clearCellCounters, pkgClaims_modCell, pkgClaims_dropAlarms,
    pkgClaims_forEach (fun s t => pkgClaims_setT s t _), pkgClaims_forEach (fun s t => pkgClaims_clearThread s t _ _)]

@[simp] theorem pkgClaims_placeCell (s : State) (k p c : Nat) : pkgClaims (placeCell s k p c) = pkgClaims s := by simp [placeCell]

/-! ### Tables and groups (R190 to R199) -/

@[simp] theorem pkgClaims_meetUncorr (s : State) (d t : Nat) (x : Desc) (p : Nat) : pkgClaims (meetUncorr s d t x p) = pkgClaims s := by
  unfold meetUncorr
  dsimp only
  split <;> simp [recordUncorr]

@[simp] theorem pkgClaims_moveBack (s : State) (d : Nat) (x : Desc) (par : Map (Option (Nat × Nat))) (fuel a p n : Nat) :
    pkgClaims (moveBack s d x par fuel a p n).1 = pkgClaims s := by
  induction fuel generalizing s a p n with
  | zero => rfl
  | succ f ih =>
    unfold moveBack
    split
    · next hf _ => cases hf; exact ih ..
    · rfl

theorem placeOvf_state {s t : State} {d p n : Nat} {x : Desc} {key : List Word} (h : placeOvf s d x key = .at_ t p n) : t = s := by
  unfold placeOvf at h
  repeat' split at h
  all_goals cases h
  rfl

/-- Making room for an entry moves entries alone. -/
theorem pkgClaims_placeFor {s t : State} {d p n : Nat} {x : Desc} {key : List Word} (h : placeFor s d x key = .at_ t p n) :
    pkgClaims t = pkgClaims s := by
  unfold placeFor at h
  dsimp only at h
  split at h
  · cases h; rfl
  · split at h
    · split at h
      · cases h
      · rw [placeOvf_state h]
      · split at h
        · cases h; exact pkgClaims_moveBack ..
        · rw [placeOvf_state h]
    · rw [placeOvf_state h]

theorem pkgClaims_writeEntry {s : State} {d t : Nat} {x : Desc} {e : Entry} {r : TblRes × State} (h : writeEntry s d t x e = some r) :
    pkgClaims r.2 = pkgClaims s := by
  unfold writeEntry at h
  split at h
  · cases h; simp
  · cases h
  · next u p n hp => cases h; simp [pkgClaims_placeFor hp]

@[simp] theorem pkgClaims_noRoom (s : State) (d t : Nat) (x : Desc) (key : List Word) (src : Word) :
    pkgClaims (noRoom s d t x key src) = pkgClaims s := by simp [noRoom, countNoRoom, sendRehash]

@[simp] theorem pkgClaims_insertEntry (s : State) (d t : Nat) (x : Desc) (e : Entry) (src : Word) :
    pkgClaims (insertEntry s d t x e src).2 = pkgClaims s := by
  unfold insertEntry
  dsimp only
  split
  · exact pkgClaims_meetUncorr ..
  · split
    · rfl
    · rfl
    · split
      · next hw => exact pkgClaims_writeEntry hw
      · exact pkgClaims_noRoom ..

@[simp] theorem pkgClaims_removeEntry (s : State) (d p : Nat) : pkgClaims (removeEntry s d p) = pkgClaims s := by
  unfold removeEntry
  split <;> simp

@[simp] theorem pkgClaims_writeFound (s : State) (d t op : Nat) (x : Desc) (key data : List Word) (arg : Nat) :
    pkgClaims (writeFound s d t op x key data arg).2 = pkgClaims s := by
  unfold writeFound
  dsimp only
  repeat' split
  all_goals simp

@[simp] theorem pkgClaims_dynWrite (s : State) (d t op : Nat) (key data : List Word) (arg : Nat) (src : Word) :
    pkgClaims (dynWrite s d t op key data arg src).2 = pkgClaims s := by
  unfold dynWrite
  dsimp only
  repeat' split
  all_goals simp

@[simp] theorem pkgClaims_doForager (s : State) (q : FgReq) : pkgClaims (doForager s q) = pkgClaims s := by simp [doForager, countReqErr]

@[simp] theorem pkgClaims_doRefresh (s : State) (d p : Nat) (key : List Word) : pkgClaims (doRefresh s d p key) = pkgClaims s := by
  unfold doRefresh modEntry
  split <;> rfl

@[simp] theorem pkgClaims_bufferNote (s : State) (d k : Nat) (ws : List Word) : pkgClaims (bufferNote s d k ws) = pkgClaims s := by
  unfold bufferNote
  dsimp only
  split <;> rfl

@[simp] theorem pkgClaims_addAssist (s : State) (d : Nat) (ws : List Word) : pkgClaims (addAssist s d ws) = pkgClaims s := by
  unfold addAssist
  dsimp only
  split <;> rfl

@[simp] theorem pkgClaims_entryNote (s : State) (d k : Nat) (e : Entry) : pkgClaims (entryNote s d k e) = pkgClaims s := by
  simp [entryNote, learnNote]

@[simp] theorem pkgClaims_doSweep (s : State) (d p : Nat) (key : List Word) (stamp : Word) : pkgClaims (doSweep s d p key stamp) = pkgClaims s := by
  unfold doSweep
  split <;> simp

@[simp] theorem pkgClaims_doWrite (d : Nat) (s : State) (w : WriteReq) : pkgClaims (doWrite d s w) = pkgClaims s := by
  cases w <;> simp [doWrite]

@[simp] theorem pkgClaims_flushEngine (s : State) (d t : Nat) : pkgClaims (flushEngine s d t) = pkgClaims s :=
  foldl_keeps pkgClaims (pkgClaims_doWrite d) _ _

@[simp] theorem pkgClaims_writeGroup (s : State) (d g : Nat) : pkgClaims (writeGroup s d g).2 = pkgClaims s := by
  unfold writeGroup
  generalize (if pairOn s then (groupPort s g).map (groupAction s g) else none) = want
  dsimp only
  split <;> simp

@[simp] theorem pkgClaims_putGroup (s : State) (g : Nat) : pkgClaims (putGroup s g) = pkgClaims s := by
  have dies (l : List Nat) (a : Bool × State) :
      pkgClaims (l.foldl (fun (a : Bool × State) d => let r := writeGroup a.2 d g; (a.1 || r.1, r.2)) a).2 = pkgClaims a.2 :=
    foldl_keeps (fun a : Bool × State => pkgClaims a.2) (fun a d => by rw [pkgClaims_writeGroup]) l a
  unfold putGroup
  dsimp only
  split
  · exact (pkgClaims_recordK ..).trans (dies _ _)
  · exact dies _ _

@[simp] theorem pkgClaims_refreshGroups (s : State) : pkgClaims (refreshGroups s) = pkgClaims s := by
  simp [refreshGroups, pkgClaims_forEach]

/-! ### Ports (R284 to R303) -/

@[simp] theorem pkgClaims_endLostXfer (s : State) (k f : Nat) : pkgClaims (endLostXfer s k f) = pkgClaims s := by
  unfold endLostXfer
  repeat' split
  all_goals rfl

@[simp] theorem pkgClaims_dropCopy (s : State) (q : Nat) (c : QCopy) : pkgClaims (dropCopy s q c) = pkgClaims s := by simp [dropCopy]

@[simp] theorem pkgClaims_discardCopy (code q : Nat) (s : State) (c : QCopy) : pkgClaims (discardCopy code q s c) = pkgClaims s := by
  simp [discardCopy]

@[simp] theorem pkgClaims_discardAll (s : State) (q code : Nat) (sel : QCopy → Bool) : pkgClaims (discardAll s q code sel).2 = pkgClaims s :=
  pkgClaims_forEach (pkgClaims_discardCopy code q) _ _

@[simp] theorem pkgClaims_flushGpnDie (s : State) (d g : Nat) : pkgClaims (flushGpnDie s d g) = pkgClaims s := pkgClaims_forEach (by simp) _ _

@[simp] theorem pkgClaims_flushGpn (s : State) (g : Nat) : pkgClaims (flushGpn s g) = pkgClaims s := pkgClaims_forEach (by simp) _ _

@[simp] theorem pkgClaims_enterDown (s : State) (g : Nat) : pkgClaims (enterDown s g) = pkgClaims s := by
  have queues (l : List Nat) (a : Nat × State) :
      pkgClaims (l.foldl (fun (a : Nat × State) q => let r := discardAll a.2 q 2 (fun _ => true); (a.1 + r.1, r.2)) a).2 = pkgClaims a.2 :=
    foldl_keeps (fun a : Nat × State => pkgClaims a.2) (fun a q => by rw [pkgClaims_discardAll]) l a
  simp [enterDown, queues]

@[simp] theorem pkgClaims_abortCopy (s : State) (g : Nat) (x : Sending) (n : Nat) (b : Bool) : pkgClaims (abortCopy s g x n b) = pkgClaims s := by
  unfold abortCopy
  simp only [pkgClaims_endLostXfer, pkgClaims_dropCopy, pkgClaims_hwCount, pkgClaims_recordK, pkgClaims_cnt]
  rfl

@[simp] theorem pkgClaims_endStop (s : State) (g c : Nat) : pkgClaims (endStop s g c) = pkgClaims s := by
  unfold endStop countStopped
  dsimp only
  split <;> rfl

@[simp] theorem pkgClaims_leaveUp (s : State) (g n : Nat) : pkgClaims (leaveUp s g n) = pkgClaims s := by
  unfold leaveUp
  dsimp only
  split <;> simp [pkgClaims_forEach]

@[simp] theorem pkgClaims_enterUp (s : State) (g : Nat) : pkgClaims (enterUp s g) = pkgClaims s := by simp [enterUp]

@[simp] theorem pkgClaims_settlePort (s : State) (g : Nat) : pkgClaims (settlePort s g) = pkgClaims s := by
  unfold settlePort
  dsimp only
  repeat' split
  all_goals simp
  rfl

@[simp] theorem pkgClaims_settlePorts (s : State) (d : Nat) : pkgClaims (settlePorts s d) = pkgClaims s := pkgClaims_forEach (by simp) _ _

/-! ### The steps of start-up that raise no claim (R455 to R458) -/

@[simp] theorem pkgClaims_bootImage (s : State) (d : Nat) (r : BootResult) : pkgClaims (bootImage s d r) = pkgClaims s := by
  unfold bootImage
  split <;> rfl

@[simp] theorem pkgClaims_bcrRegisters (s : State) : pkgClaims (bcrRegisters s) = pkgClaims s := by
  unfold bcrRegisters
  split
  · rfl
  · exact pkgClaims_forEach (fun s d => by rw [pkgClaims_setField, pkgClaims_setField, pkgClaims_setField, pkgClaims_setField]) _ _

@[simp] theorem pkgClaims_resumeTally (s : State) : pkgClaims (resumeTally s) = pkgClaims s := by
  unfold resumeTally
  split <;> rfl

@[simp] theorem pkgClaims_resyncFirmware (s : State) : pkgClaims (resyncFirmware s) = pkgClaims s := by simp [resyncFirmware]

/-! ## The claims of class 3 while dies start (R379, R408, R459) -/

/-- `t` shares what `s` shares, and the claims of its dies' table banks are those of `s`, but for the dies of `but`. -/
structure KeepsTableClaims (but : Nat → Prop) (s t : State) : Prop where
  pkg : t.pkg = s.pkg
  claims : ∀ e, e < 8 → ¬but e → getClaim t 3 e = getClaim s 3 e

/-- No die is left out. -/
def noDie (_ : Nat) : Prop := False

theorem KeepsTableClaims.of_pkgClaims {but : Nat → Prop} {s t : State} (h : pkgClaims t = pkgClaims s) : KeepsTableClaims but s t :=
  ⟨pkg_of_pkgClaims h, fun e _ _ => getClaim_of_pkgClaims h 3 e⟩

theorem KeepsTableClaims.trans {but : Nat → Prop} {s t u : State} (h : KeepsTableClaims but s t) (k : KeepsTableClaims but t u) :
    KeepsTableClaims but s u :=
  ⟨k.pkg.trans h.pkg, fun e he hb => (k.claims e he hb).trans (h.claims e he hb)⟩

theorem KeepsTableClaims.mono {p q : Nat → Prop} {s t : State} (h : KeepsTableClaims p s t) (hpq : ∀ e, p e → q e) : KeepsTableClaims q s t :=
  ⟨h.pkg, fun e he hq => h.claims e he (fun hp => hq (hpq e hp))⟩

theorem KeepsTableClaims.forEach {α : Type} {but : Nat → Prop} {f : State → α → State} {l : List α}
    (h : ∀ a ∈ l, ∀ s, KeepsTableClaims but s (f s a)) (s : State) : KeepsTableClaims but s (forEach l f s) := by
  induction l generalizing s with
  | nil => exact .of_pkgClaims rfl
  | cons a l ih => exact (h a (by simp) s).trans (ih (fun b hb => h b (by simp [hb])) (f s a))

theorem getClaim_setClaim_ne (s : State) {c i c' i' : Nat} (x : Option Claim) (h : claimKey c' i' ≠ claimKey c i) :
    getClaim (setClaim s c i x) c' i' = getClaim s c' i' := kget_kset_ne s.kpr.claims _ _ x none none h

/-- Raising a claim changes that claim alone. -/
theorem raiseClaim_keeps {but : Nat → Prop} (s : State) (c i v : Nat) (h : Word)
    (hk : ∀ e, e < 8 → ¬but e → claimKey 3 e ≠ claimKey c i) : KeepsTableClaims but s (raiseClaim s c i v h) := by
  refine KeepsTableClaims.trans (t := setClaim s c i (some _)) ⟨setClaim_pkg .., ?_⟩ (.of_pkgClaims (pkgClaims_claimChanged ..))
  exact fun e he hb => getClaim_setClaim_ne s _ (hk e he hb)

/-- Cells that fail raise at most the claim of their comb (R425, R459). -/
theorem bootComb_keeps (s : State) {k : Nat} (hk : k < 64) (bad : List Nat) : KeepsTableClaims noDie s (bootComb s k bad) := by
  have raise (u : State) (v : Nat) : KeepsTableClaims noDie u (raiseClaim u 2 k v (keeperId (k / 8))) :=
    raiseClaim_keeps u 2 k v _ (fun e he _ => by unfold claimKey; omega)
  unfold bootComb
  dsimp only
  generalize hu : forEach bad _ _ = u
  have hnoted : pkgClaims u = pkgClaims s := by
    rw [← hu, pkgClaims_forEach (fun s c => pkgClaims_degraded s _ _ _ _), pkgClaims_boot]
  refine KeepsTableClaims.trans (.of_pkgClaims hnoted) ?_
  clear hu
  cases bad with
  | nil => exact .of_pkgClaims rfl
  | cons c cs =>
    dsimp only
    split
    · exact raise u 16
    · refine (raise u (c % 32)).trans (.of_pkgClaims ?_)
      split
      · exact pkgClaims_placeCell ..
      · rfl

/-- A bad buffer bank without a spare takes buffers with it, and a die never (R408). -/
theorem pkgClaims_bankWithoutSpare_buffer (s : State) (d : Nat) {u : Nat} (hu : 64 < u) : pkgClaims (bankWithoutSpare s d u) = pkgClaims s := by
  unfold bankWithoutSpare
  dsimp only
  rw [if_neg (by omega)]
  exact (foldl_keeps pkgClaims (fun _ _ => by rfl) _ _).trans (pkgClaims_recordF ..)

/-- The claim that stands for a bank: of class 3 for a table bank, of class 4 for a buffer bank. -/
theorem groupOf_table {d u : Nat} (hu : u ≤ 64) : groupOf d u = (3, d, 64) := if_pos hu

theorem groupOf_buffer {d u : Nat} (hu : 64 < u) : (groupOf d u).1 = 4 := by
  unfold groupOf
  rw [if_neg (by omega)]
  split <;> rfl

/-- A bad bank whose group's claim is free only raises that claim. -/
theorem bootBank_free {s : State} {d u : Nat} (h : getClaim s (groupOf d u).1 (groupOf d u).2.1 = none) :
    ∃ t, pkgClaims t = pkgClaims s ∧ bootBank s d u = raiseClaim t (groupOf d u).1 (groupOf d u).2.1 u (keeperId d) := by
  have hf : (getClaim (degraded d 4 u 3 s) (groupOf d u).1 (groupOf d u).2.1).isSome = false := by
    rw [getClaim_of_pkgClaims (pkgClaims_degraded ..), h]; rfl
  unfold bootBank
  dsimp only
  rw [if_neg (by simp [hf])]
  split
  · refine ⟨_, ?_, rfl⟩
    exact pkgClaims_degraded s ..
  · refine ⟨_, ?_, rfl⟩
    rw [pkgClaims_powerSpare]
    exact pkgClaims_degraded s ..

/-- A bad table bank whose die's claim is free changes that claim alone. -/
theorem bootBank_table {s : State} {d u : Nat} (hu : u ≤ 64) (h : getClaim s 3 d = none) :
    KeepsTableClaims (· = d) s (bootBank s d u) := by
  obtain ⟨t, ht, he⟩ := bootBank_free (s := s) (d := d) (u := u) (by rw [groupOf_table hu]; exact h)
  rw [he, groupOf_table hu]
  exact KeepsTableClaims.trans (.of_pkgClaims ht) (raiseClaim_keeps t 3 d u _ (fun e he hb => by unfold claimKey; omega))

/-- A bad buffer bank changes no claim of a table bank. -/
theorem bootBank_buffer (s : State) (d : Nat) {u : Nat} (hu : 64 < u) : KeepsTableClaims noDie s (bootBank s d u) := by
  cases hg : getClaim s (groupOf d u).1 (groupOf d u).2.1 with
  | none =>
    obtain ⟨t, ht, he⟩ := bootBank_free hg
    rw [he, groupOf_buffer hu]
    exact KeepsTableClaims.trans (.of_pkgClaims ht) (raiseClaim_keeps t 4 _ u _ (fun e he hb => by unfold claimKey; omega))
  | some c =>
    have hf : (getClaim (degraded d 4 u 3 s) (groupOf d u).1 (groupOf d u).2.1).isSome = true := by
      rw [getClaim_of_pkgClaims (pkgClaims_degraded ..), hg]; rfl
    refine .of_pkgClaims ?_
    unfold bootBank
    dsimp only
    rw [if_pos hf]
    split
    · exact pkgClaims_degraded ..
    · exact (pkgClaims_bankWithoutSpare_buffer _ d hu).trans (pkgClaims_degraded ..)

/-- Of a list of bad banks at most one is a table bank; then no die retires while they are handled. -/
theorem bootBanks_keeps {d : Nat} (hd : d < 8) {l : List Nat} (hl : (l.filter (· ≤ 64)).length ≤ 1) {s : State}
    (hs : (∃ u ∈ l, u ≤ 64) → getClaim s 3 d = none) : KeepsTableClaims (· = d) s (forEach l (fun s u => bootBank s d u) s) := by
  induction l generalizing s with
  | nil => exact .of_pkgClaims rfl
  | cons u l ih =>
    by_cases hu : u ≤ 64
    · have hrest : l.filter (· ≤ 64) = [] := by simpa [hu] using hl
      refine (bootBank_table hu (hs ⟨u, by simp, hu⟩)).trans (ih (by simp [hrest]) (fun ⟨v, hv, hv64⟩ => ?_))
      exact absurd hv64 (by simpa using List.filter_eq_nil_iff.mp hrest v hv)
    · have hstep := bootBank_buffer s d (Nat.lt_of_not_le hu)
      refine (hstep.mono (fun _ => False.elim)).trans (ih (by simpa [hu] using hl) (fun ⟨v, hv, hv64⟩ => ?_))
      rw [hstep.claims d hd id]
      exact hs ⟨v, by simp [hv], hv64⟩

/-- The bad banks that are handled hold no more table banks than the tests found. -/
theorem badBanks_tables_le (r : BootResult) :
    let banks := r.badUnits.filter (fun u => decide (u < 195))
    (((banks.filter isSpareBank) ++ banks.filter (fun u => !isSpareBank u)).filter (· ≤ 64)).length ≤ (badTables r).length := by
  intro banks
  calc _ = (banks.filter (· ≤ 64)).length := ((List.filter_append_perm isSpareBank banks).filter _).length_eq
    _ ≤ (badTables r).length := (List.filter_sublist.filter _).length_le

/-- What the tests of a die that starts leave: nothing that the package shares, and of the table banks' claims that die's alone. -/
theorem bootUnits_keeps {s : State} {d : Nat} (hd : d < 8) {r : BootResult} (hr : (badTables r).length ≤ 1) (hs : getClaim s 3 d = none) :
    KeepsTableClaims (· = d) s (bootUnits s d r) := by
  unfold bootUnits
  dsimp only
  generalize h1 : forEach r.soft _ s = s1
  generalize h2 : forEach (badCombs d r) _ s1 = s2
  generalize h3 : forEach (dieCombs d) _ s2 = s3
  have repairs : pkgClaims s1 = pkgClaims s := by
    rw [← h1]
    refine pkgClaims_forEach (fun s e => ?_) r.soft s
    rw [pkgClaims_applyRepair]
    rfl
  have combs : pkgClaims s2 = pkgClaims s1 := by
    rw [← h2]
    refine pkgClaims_forEach (fun s k => ?_) (badCombs d r) s1
    rw [pkgClaims_degraded, pkgClaims_boot]
  have cells : KeepsTableClaims noDie s2 s3 := by
    rw [← h3]
    refine KeepsTableClaims.forEach (fun k hk s => bootComb_keeps s ?_ _) s2
    simp only [dieCombs, List.mem_map, List.mem_range] at hk
    omega
  have before := (KeepsTableClaims.of_pkgClaims (combs.trans repairs)).trans cells
  refine (before.mono (fun _ => False.elim)).trans (bootBanks_keeps hd ((badBanks_tables_le r).trans hr) (fun _ => ?_))
  rw [before.claims d hd id, hs]

/-! ## The lead -/

/-- A die that starts has at most one bad table bank (R459). -/
theorem badTables_of_passes {s : State} {d : Nat} {r : BootResult} (h : bootFails s d r = 0) : (badTables r).length ≤ 1 := by
  unfold bootFails at h
  dsimp only at h
  generalize (if s.boot.warm.isSome then _ else r.dramOk) = dram at h
  split at h
  · cases h
  · split at h
    · cases h
    · split at h
      · cases h
      · next hn => exact Nat.le_of_not_lt hn

/-- What the start-up does with the dies' results leaves what the package shares. -/
theorem bootDies_pkg {step : Nat → Nat} {res : Nat → BootResult} (hstep : ∀ d, step d = 0 → (badTables (res d)).length ≤ 1) {l : List Nat}
    (hnd : l.Nodup) (h8 : ∀ d ∈ l, d < 8) {s : State} (hs : ∀ d ∈ l, getClaim s 3 d = none) :
    (forEach l (fun s d => if step d = 0 then bootUnits s d (res d) else degraded d 1 0 (step d) s) s).pkg = s.pkg := by
  induction l generalizing s with
  | nil => rfl
  | cons d l ih =>
    obtain ⟨hd, hnd⟩ := List.nodup_cons.mp hnd
    have hstart : KeepsTableClaims (· = d) s (if step d = 0 then bootUnits s d (res d) else degraded d 1 0 (step d) s) := by
      split
      · next h0 => exact bootUnits_keeps (h8 d (by simp)) (hstep d h0) (hs d (by simp))
      · exact .of_pkgClaims (pkgClaims_degraded ..)
    refine (ih hnd (fun e he => h8 e (by simp [he])) (fun e he => ?_)).trans hstart.pkg
    rw [hstart.claims e (h8 e (by simp [he])) (fun h => hd (h ▸ he)), hs e (by simp [he])]

/-- The package right after the lead has been chosen is the package when start-up ends (R458). -/
theorem execPowerOnStart_pkg {s : State} {results : List BootResult} (hn : s.pkg.n ≤ 8) (hrun : s.pkg.running = false)
    (hfree : ∀ d, getClaim s 3 d = none) :
    ∃ t, execPowerOnStart results s = .next t ∧ t.pkg = (enumerateDies s results).pkg := by
  unfold execPowerOnStart
  rw [if_neg (by simp [hrun])]
  refine ⟨_, rfl, ?_⟩
  dsimp only
  generalize h1 : bcrRegisters _ = s1
  generalize h2 : forEach _ _ s1 = s2
  generalize h3 : forEach _ _ s2 = s3
  generalize h4 : forEach _ placeEntries _ = s4
  have image : pkgClaims s1 = pkgClaims (enumerateDies s results) := by
    rw [← h1, pkgClaims_bcrRegisters]
    exact pkgClaims_bootImage ..
  have stats : pkgClaims s2 = pkgClaims s1 := by
    rw [← h2]
    exact pkgClaims_forEach (fun s e => pkgClaims_setR s _ _ _ _) _ s1
  have dies : s3.pkg = s2.pkg := by
    rw [← h3]
    unfold forEach
    rw [List.foldl_map]
    refine bootDies_pkg (step := fun d => bootFails s d (resultOf results d)) (fun d h => badTables_of_passes h) List.nodup_range
      (fun d hd => Nat.lt_of_lt_of_le (List.mem_range.mp hd) hn) (fun d _ => ?_)
    rw [getClaim_of_pkgClaims (stats.trans image)]
    exact hfree d
  have entries : pkgClaims s4 = pkgClaims s3 := by
    rw [← h4, pkgClaims_forEach pkgClaims_placeEntries, pkgClaims_resumeTally]
  refine (pkg_of_pkgClaims (s := s3) ?_).trans (dies.trans (pkg_of_pkgClaims (stats.trans image)))
  rw [pkgClaims_refreshAllGuar, pkgClaims_forEach pkgClaims_settlePorts]
  split
  · rw [pkgClaims_recordK, pkgClaims_boot, pkgClaims_ite, pkgClaims_resyncFirmware, ite_self, entries]
  · rw [pkgClaims_ite, pkgClaims_resyncFirmware, ite_self, entries]

/-- The lead and NO LEAD as the results of dies 0 and 1 give them, in a package that has both (R24, R27). -/
theorem enumerateDies_lead {s : State} (hn : 2 ≤ s.pkg.n) (results : List BootResult) :
    let passes (d : Nat) : Prop := bootFails s d (resultOf results d) = 0
    ((enumerateDies s results).pkg.noLead = true ↔ ¬passes 0 ∧ ¬passes 1) ∧
      (passes 0 → (enumerateDies s results).pkg.lead = 0) ∧ (¬passes 0 → passes 1 → (enumerateDies s results).pkg.lead = 1) := by
  have up (d : Nat) (hd : d < 2) : d ∈ (allDies s).filter (fun d => decide (bootFails s d (resultOf results d) = 0)) ↔
      bootFails s d (resultOf results d) = 0 := by
    simp only [allDies, List.mem_filter, List.mem_range, decide_eq_true_eq]
    exact and_iff_right (by omega)
  refine ⟨decide_eq_true_iff.trans (and_congr (not_congr (up 0 (by omega))) (not_congr (up 1 (by omega)))),
    fun h0 => if_pos (.inl ((up 0 (by omega)).mpr h0)), fun h0 h1 => if_neg ?_⟩
  rintro (h | h)
  · exact h0 ((up 0 (by omega)).mp h)
  · exact h ((up 1 (by omega)).mpr h1)

theorem bitsOf_land (v m lo w : Nat) : bitsOf (Nat.land v m) lo w = bitsOf v lo w &&& bitsOf m lo w := by
  unfold bitsOf
  rw [← Nat.and_mod_two_pow, ← Nat.and_div_two_pow]
  rfl

/-- DIE_IDENT.LEAD shows the lead (R24). -/
theorem dieIdent_lead {s : State} {d : Nat} (hd : d < s.pkg.n) (hn : s.pkg.n ≤ 8) (hlead : s.pkg.lead < 8) :
    bitsOf (regView s .pkgDieIdent d 7 0) 8 3 = s.pkg.lead := by
  have hfield : bitsOf (dieIdent s d) 8 3 = s.pkg.lead := by
    unfold bitsOf dieIdent
    split <;> omega
  have hmask : bitsOf RegName.pkgDieIdent.spec.mask 8 3 = 2 ^ 3 - 1 := by decide
  have hview : regView s .pkgDieIdent d 7 0 = Nat.land (dieIdent s d) RegName.pkgDieIdent.spec.mask := rfl
  rw [hview, bitsOf_land, hfield, hmask, Nat.and_two_pow_sub_one_of_lt_two_pow hlead]

/-- Settles O58: the package stands as it is when the lead is chosen. -/
theorem leadAtStartUp : Obligations.LeadAtStartUp := by
  unfold Obligations.LeadAtStartUp
  intro s results passes hn hrun hfree hpass
  obtain ⟨t, hexec, hpkg⟩ := execPowerOnStart_pkg (results := results) (by omega) hrun hfree
  obtain ⟨hnoLead, hlead0, hlead1⟩ := enumerateDies_lead (s := s) (by omega) results
  rw [← hpkg] at hnoLead hlead0 hlead1
  have hlead1 (h0 : ¬passes 0) : t.pkg.lead = 1 := hlead1 h0 (hpass.resolve_left h0)
  have hlt : t.pkg.lead < 8 := by
    by_cases h0 : passes 0
    · rw [hlead0 h0]; omega
    · rw [hlead1 h0]; omega
  have hsame : t.pkg.n = s.pkg.n := by rw [hpkg]; rfl
  refine ⟨t, hexec, ?_, hlead0, hlead1, fun d hd => dieIdent_lead hd (by omega) hlt⟩
  exact Bool.eq_false_iff.mpr (fun h => (hnoLead.mp h).elim (fun h0 h1 => hpass.elim h0 h1))

end Sys2Proof.Proofs
end

section
/-!
PROOF. Shifts and rotations (R135); branches, and the moves of address registers (R141, R145). The shifts differ in their result and their carry
alone, so one lemma over `Shift` serves the forms by register and by immediate. An instruction that issues commits what its body says
(`Laws.issue_issues`); one that only writes registers is a case of `Laws.issueRegs_writes`.
-/

namespace Sys2Proof.Proofs

open Sys2Proof.Machine Sys2Proof.Laws Sys2Proof.Safety Sys2Proof.Claims

/-! ## Shifts and rotations (R135) -/

/-- What a shift of the given kind does to the registers. -/
def shiftTo : Shift → Regs → WReg → Word → Nat → Regs
  | .shl => shlTo
  | .shr => shrTo
  | .sar => sarTo
  | .rol => rolTo

/-- C, Z and N of a result: its sign is its bit 15 (R126). -/
theorem psCZN_eq_flags3 (ps v : Word) (c : Bool) : psCZN ps v c = flags3 ps c (decide (v = 0)) (v.getLsbD 15) := by
  unfold psCZN psZN flags3
  rw [BitVec.msb_eq_getLsbD_last]

/-- The model's result and PS are those of R135, for each kind. -/
theorem withWPs_shiftWord (k : Shift) (r : Regs) (d : WReg) (x : Word) (n : Nat) :
    withWPs r d (shiftWord k r.ps x n).1 (shiftWord k r.ps x n).2 = shiftTo k r d x n := by
  simp only [shiftWord, psCZN_eq_flags3]
  cases k with
  | shl => rfl
  | shr => rfl
  | sar => rw [shiftCarry, BitVec.msb_eq_getLsbD_last]; rfl
  | rol => rfl

/-- A shift leaves the PC to the issue. -/
theorem shiftTo_pc (k : Shift) (r : Regs) (d : WReg) (x : Word) (n : Nat) (p : Word) :
    shiftTo k { r with pc := p } d x n = { shiftTo k r d x n with pc := p } := by
  cases k <;> rfl

/-- An instruction that shifts `a` into `d`, by an amount that the registers give, does what its kind says. -/
theorem shift_writes (k : Shift) {s : State} {c : Instr} {i : Issue} {ok : Bool} {d a : WReg} {reads : List WReg} {amount : Regs → Nat}
    (h : Issues s i ok reads false)
    (he : exec c s = .next (issueAlu s i ok d reads (fun r => shiftWord k r.ps r.w[a] (amount r))))
    (hn : ∀ r p, amount { r with pc := p } = amount r) :
    Writes s c i (fun r => shiftTo k r d r.w[a] (amount r)) := by
  have hf : (fun r : Regs => withWPs r d (shiftWord k r.ps r.w[a] (amount r)).1 (shiftWord k r.ps r.w[a] (amount r)).2) =
      fun r => shiftTo k r d r.w[a] (amount r) := funext fun r => withWPs_shiftWord k r d _ _
  refine issueRegs_writes h (he.trans (congrArg (fun f => Host.Outcome.next (issueRegs s i ok reads f)) hf)) fun r p => ?_
  rw [hn, shiftTo_pc]

/-- Settles O3: the eight forms are `shift_writes` at their kind and amount, and the four units are those of `encodeUnit`. -/
theorem shiftsAndRotations : Obligations.ShiftsAndRotations := by
  unfold Obligations.ShiftsAndRotations
  intro s i d a b amt
  refine ⟨fun h => ⟨?_, ?_, ?_, ?_⟩, fun h => ⟨?_, ?_, ?_, ?_⟩, fun kind c hc => ?_⟩
  iterate 2
    · exact shift_writes .shl h rfl fun _ _ => rfl
    · exact shift_writes .shr h rfl fun _ _ => rfl
    · exact shift_writes .sar h rfl fun _ _ => rfl
    · exact shift_writes .rol h rfl fun _ _ => rfl
  · simp only [List.mem_cons, Prod.mk.injEq, List.not_mem_nil, or_false] at hc
    obtain ⟨rfl, rfl⟩ | ⟨rfl, rfl⟩ | ⟨rfl, rfl⟩ | ⟨rfl, rfl⟩ := hc <;> rfl

/-! ## Branches (R145) -/

/-- An instruction that issues and whose body is done commits what its body leaves. -/
theorem issue_commits {s : State} {i : Issue} {ok : Bool} {reads : List WReg} {br : Bool} {body : State → Act} {v : State} {n : Nat}
    {accs : List (Nat × Bool)} (h : Issues s i ok reads br) (hb : body (ready s i) = .done v n accs) :
    issue s i ok reads br body = commits v i n accs := by
  rw [issue_issues body h, hb]
  rfl

/-- DBNZ that issues: its register counts down, and the PC goes to the target unless the new value is 0. -/
theorem exec_dbnz {s : State} {i : Issue} {d : WReg} (k : Word) (h : Issues s i (okPlain i) [d] false) :
    let v := (regsOf (ready s i) i.tid).w[d] - 1
    let u := setW (ready s i) i.tid d v
    exec (.dbnz i d k) s = .next (commits (if v ≠ 0 then setPc u i.tid k else u) i 1 []) :=
  congrArg Host.Outcome.next (issue_commits h rfl)

/-- Settles O10: the branches by what their bodies commit, the moves as instructions that only write registers. -/
theorem addressRegistersAndBranches : Obligations.AddressRegistersAndBranches := by
  unfold Obligations.AddressRegistersAndBranches
  refine ⟨fun s i d x k => ?_, fun s i xd xa w k => ⟨?_, ?_, ?_, ?_, ?_, ?_, ?_⟩⟩
  · intro u r
    refine ⟨fun h => ⟨?_, ?_⟩, fun h => ⟨fun hd => ?_, fun hd => ?_⟩, rfl, rfl, rfl⟩
    · exact congrArg Host.Outcome.next (issue_commits h rfl)
    · exact congrArg Host.Outcome.next (issue_commits h rfl)
    · have hv : r.w[d] - 1 ≠ 0 := sub_ne_zero.mpr hd
      rw [exec_dbnz k h, if_pos hv]
    · have hv : r.w[d] - 1 = 0 := sub_eq_zero.mpr hd
      rw [exec_dbnz k h, if_neg (not_not_intro hv), hv]
  all_goals exact fun h => issueRegs_writes h rfl fun _ _ => rfl

end Sys2Proof.Proofs
end

section
/-!
PROOF. REC_CLEAR (R451). The command empties the log and then makes a record of its own. A record that reaches the lead's empty log becomes its
only entry (R444); being taken, offering the record to the host's notifications (R445) and answering leave the recorder alone.
-/

namespace Sys2Proof.Proofs

open Sys2Proof.Machine Sys2Proof.Laws Sys2Proof.Safety

/-! ## A command without the privilege it needs (R360) -/

/-- A frame that passes every check before that of its privilege takes its place in the window, and is refused with ST_PRIV. -/
theorem empCmd_unprivileged {s : State} {m : EmpMsg} {code priv i : Nat} {x : Session} (hup : mailboxUp s m = true)
    (hframe : empFrameCheck s m code false = none) (hfound : findSession s m.session = some (i, x))
    (htag : empTag x.key (empCovered m code) = m.tag)
    (hfresh : seqKind x.hi x.seen m.seq = .new ∨ seqKind x.hi x.seen m.seq = .late) (hknown : priv ≤ owner) (hpriv : x.priv < priv)
    (body : State → Nat → Reply) :
    empCmd s m code priv body =
      reply (setSession s i (some (acceptSeq x (leadMono s) m.port m.src m.vlan m.seq m.tag))) m code i x.key stsPriv [] := by
  unfold empCmd empThen empWith
  simp only [hup, hframe, hfound, htag, Bool.not_true, Bool.false_eq_true, if_false, ne_eq, not_true_eq_false]
  rcases hfresh with h | h <;> simp only [h, if_neg (Nat.not_lt.mpr hknown), if_pos hpriv]

/-! ## The recorder, and what leaves it alone -/

/-- Another register of the same die and instance has a key of its own. -/
theorem rkey_ne {r r' : RegName} (h : r'.ctorIdx ≠ r.ctorIdx) (d sl i : Nat) : rkey r' d sl i ≠ rkey r d sl i := by
  unfold rkey
  omega

theorem getR_setR_ne (s : State) {r r' : RegName} (h : r'.ctorIdx ≠ r.ctorIdx) (d i v : Nat) :
    getR (setR s r d i v) r' d i = getR s r' d i :=
  congrArg BitVec.toNat (kget_kset_ne _ _ _ _ _ _ (rkey_ne h d 7 i))

/-- A counter that is cleared reads 0. -/
theorem getR_setR_zero (s : State) (r : RegName) (d i : Nat) : getR (setR s r d i 0) r d i = 0 := by
  simp [getR, getRS, setR, setRS]

/-- The part of the state that R451 speaks of: the recorder's own (log, die buffers, images, SEQ), REC.CNT_NOTREC of the lead, and what the
package shares, which says who the lead is. -/
def recorder (s : State) : Pkg × RecS × Nat := (s.pkg, s.log, getR s .recCntNotrec s.pkg.lead 0)

@[simp] theorem recorder_setSession (s : State) (i : Nat) (x : Option Session) : recorder (setSession s i x) = recorder s := rfl

/-- Counting a happening in another register of the lead leaves the recorder alone. -/
theorem recorder_cnt (s : State) {r : RegName} (h : RegName.recCntNotrec.ctorIdx ≠ r.ctorIdx) :
    recorder (cnt s r s.pkg.lead 0) = recorder s :=
  congrArg (fun n => (s.pkg, s.log, n)) (getR_setR_ne s h _ _ _)

@[simp] theorem recorder_noteTo (s : State) (i : Nat) (c : Word) (ws : List Word) : recorder (noteTo s i c ws) = recorder s := by
  unfold noteTo
  split
  · rfl
  · split
    · exact recorder_cnt s (by decide)
    · exact recorder_setSession ..

@[simp] theorem recorder_notifyWhere (s : State) (sel : Session → Bool) (c : Word) (ws : List Word) :
    recorder (notifyWhere s sel c ws) = recorder s := by
  unfold notifyWhere
  split
  · rfl
  · refine foldl_keeps recorder (fun s i => ?_) _ _
    split
    · split
      · exact recorder_noteTo ..
      · rfl
    · rfl

/-- Offering a record to EVENT and FAULT notifications (R445) leaves the recorder alone. -/
@[simp] theorem recorder_offerRecord (s : State) (r : Rec) : recorder (offerRecord s r) = recorder s := by
  unfold offerRecord
  dsimp only
  split
  · exact recorder_notifyWhere ..
  · exact (recorder_notifyWhere ..).trans (recorder_notifyWhere ..)

/-- Answering a command leaves the recorder alone. -/
@[simp] theorem recorder_answered (s : State) (m : EmpMsg) (code i : Nat) (x : Session) (st : Nat) (ws : List Word) :
    recorder (answered s m code i x st ws) = recorder s := by
  have hstore : recorder (storeStatus s i m.seq st) = recorder s := by
    unfold storeStatus
    split
    · exact recorder_setSession ..
    · rfl
  exact hstore

/-- Taking a command leaves the package and the log alone. -/
@[simp] theorem taken_pkg (s : State) (m : EmpMsg) (i : Nat) (x : Session) : (taken s m i x).pkg = s.pkg := rfl
@[simp] theorem taken_log (s : State) (m : EmpMsg) (i : Nat) (x : Session) : (taken s m i x).log = s.log := rfl

/-! ## The first entry of an empty log (R440, R442, R444) -/

/-- A record that reaches an empty log that is not stopped becomes its only entry, with the next SEQ. -/
theorem recorder_logRecord_of_empty {s : State} (hempty : s.log.log = []) (hrun : s.log.stopped = false) (r : Rec) :
    recorder (logRecord s r) =
      (s.pkg, { s.log with log := [{ r with seq := s.log.nextSeq }], nextSeq := nextRecSeq s.log.nextSeq },
        getR s .recCntNotrec s.pkg.lead 0) := by
  unfold logRecord
  rw [recorder_offerRecord]
  simp only [hrun, hempty, Bool.false_eq_true, if_false, List.length_nil, ge_iff_le, appendLog, List.nil_append]
  rfl

/-- A record of block 0xF, which no rate limits, that the lead makes while its own buffer waits for nothing reaches the log at once. -/
theorem recordK_eq_logRecord {s : State} (hlead : s.pkg.noLead = false) (hbuf : dieBuf s s.pkg.lead = []) {code : Word}
    (hcode : code.toNat ≥ 0xF000) (ws : List Word) :
    ∃ b r, recordK s s.pkg.lead code ws = logRecord (setRateBucket s s.pkg.lead code b) r ∧ r.code = code := by
  refine ⟨{ rateBucket s s.pkg.lead code with supp := 0 }, ⟨0, stime s s.pkg.lead, code, keeperId s.pkg.lead, 0,
    BitVec.ofNat 8 (min 255 (rateBucket s s.pkg.lead code).supp), fitTo 8 0 ws⟩, ?_, rfl⟩
  unfold recordK record recordF
  rw [if_pos (Or.inl hcode)]
  exact if_pos ⟨rfl, hlead, hbuf⟩

/-! ## REC_CLEAR -/

/-- The recorder cleared: the log empty, STOPPED and REC.CNT_NOTREC clear, CLEARS incremented. -/
def cleared (s : State) : State :=
  setR { s with log := { s.log with log := [], stopped := false, clears := s.log.clears + 1 } } .recCntNotrec s.pkg.lead 0 0

/-- The data words of EV_REC_CLEARED (R453): the session, the entries cleared, REC.CNT_NOTREC before the clear. -/
def clearedData (m : EmpMsg) (s : State) : List Word :=
  [m.session] ++ wordsOf 2 s.log.log.length ++ wordsOf 2 (getR s .recCntNotrec s.pkg.lead 0)

/-- What REC_CLEAR answers once it is taken. -/
def clearReply (m : EmpMsg) (s : State) : Reply :=
  if s.log.flush.isSome then answerNo s stsBusy
  else answerOk (recordK (cleared s) s.pkg.lead 0xF001 (clearedData m s)) []

theorem exec_recClear (m : EmpMsg) (s : State) :
    exec (.recClear m) s = .next (empCmd s m 0x0802 owner (fun s _ => clearReply m s)) := rfl

theorem clearReply_idle {s : State} (h : s.log.flush = none) (m : EmpMsg) :
    clearReply m s = answerOk (recordK (cleared s) s.pkg.lead 0xF001 (clearedData m s)) [] := by simp [clearReply, h]

theorem clearReply_flushing {s : State} (h : s.log.flush ≠ none) (m : EmpMsg) : clearReply m s = answerNo s stsBusy := by
  simp [clearReply, Option.isSome_iff_ne_none, h]

/-- REC_CLEAR that is taken while no flush runs clears the recorder and logs EV_REC_CLEARED. -/
theorem exec_recClear_idle {s : State} {m : EmpMsg} {i : Nat} {x : Session} (h : Accepted s m 0x0802 owner i x) (hflush : s.log.flush = none) :
    exec (.recClear m) s =
      .next (answered (recordK (cleared (taken s m i x)) s.pkg.lead 0xF001 (clearedData m (taken s m i x))) m 0x0802 i x stsOk []) := by
  rw [exec_recClear, empCmd_accepted h, clearReply_idle (s := taken s m i x) hflush]
  rfl

/-- REC_CLEAR that is taken while a flush runs is refused. -/
theorem exec_recClear_flushing {s : State} {m : EmpMsg} {i : Nat} {x : Session} (h : Accepted s m 0x0802 owner i x)
    (hflush : s.log.flush ≠ none) : exec (.recClear m) s = .next (answered (taken s m i x) m 0x0802 i x stsBusy []) := by
  rw [exec_recClear, empCmd_accepted h, clearReply_flushing (s := taken s m i x) hflush]
  rfl

/-- EV_REC_CLEARED is the only entry that a clear leaves; of the recorder besides, a clear changes what R451 names and the next SEQ alone, but
for the rate buckets, left open here. -/
theorem recorder_recordK_cleared {s : State} (hlead : s.pkg.noLead = false) (hbuf : dieBuf s s.pkg.lead = []) (ws : List Word) :
    ∃ b r, recorder (recordK (cleared s) s.pkg.lead 0xF001 ws) =
      (s.pkg, { s.log with
        log := [r], stopped := false, clears := s.log.clears + 1, nextSeq := nextRecSeq s.log.nextSeq, buckets := b }, 0) ∧
      r.code = 0xF001 ∧ r.seq = s.log.nextSeq := by
  obtain ⟨b, r, hrec, hcode⟩ := recordK_eq_logRecord (s := cleared s) hlead hbuf (code := 0xF001) (by decide) ws
  refine ⟨(setRateBucket (cleared s) s.pkg.lead 0xF001 b).log.buckets, { r with seq := s.log.nextSeq }, ?_, hcode, rfl⟩
  have hzero : getR (cleared s) .recCntNotrec s.pkg.lead 0 = 0 := getR_setR_zero ..
  have hlogged := (congrArg recorder hrec).trans (recorder_logRecord_of_empty rfl rfl r)
  exact hlogged.trans (congrArg (fun n => (s.pkg, _, n)) hzero)

/-- A running mailbox has a lead behind it (R27). -/
theorem noLead_of_mailboxUp {s : State} {m : EmpMsg} (h : mailboxUp s m = true) : s.pkg.noLead = false := by
  simp only [mailboxUp, Bool.and_eq_true, Bool.not_eq_true'] at h
  obtain ⟨⟨⟨⟨-, hlead⟩, -⟩, -⟩, -⟩ := h
  exact hlead

/-- Settles O59: what a clear leaves is read off the recorder; the two refusals are those of a running flush and of the privilege. -/
theorem recorderClear : Obligations.RecorderClear := by
  unfold Obligations.RecorderClear
  intro s m i x
  refine ⟨fun h _ hflush hbuf => ?_, exec_recClear_flushing, fun hup hframe hfound htag hfresh hpriv => ?_⟩
  · obtain ⟨b, r, hrec, hcode, hseq⟩ :=
      recorder_recordK_cleared (s := taken s m i x) (noLead_of_mailboxUp h.up) hbuf (clearedData m (taken s m i x))
    have ht := (recorder_answered _ m 0x0802 i x stsOk []).trans hrec
    obtain ⟨hpkg, hlog, hnotrec⟩ : _ ∧ _ ∧ _ := by simpa only [recorder, Prod.mk.injEq] using ht
    rw [hpkg] at hnotrec
    refine ⟨_, r, exec_recClear_idle h hflush, ?_⟩
    simp only [taken_pkg, taken_log] at hlog hnotrec hseq
    simp only [dieBuf, hlog, hcode, hseq, hnotrec, implies_true, and_self]
  · rw [exec_recClear, empCmd_unprivileged hup hframe hfound htag hfresh (le_refl owner) hpriv]

end Sys2Proof.Proofs
end

section
/-!
PROOF. Instruction units (R127 to R131). A unit is its guard, its opcode and the 22 bits below, and each format fills those bits with its fields.
Reading: one lemma per format says what a reader of its fields sees, so that an instruction's unit spells it (`Spells`). Writing: the
fields that `decodeUnit` has tested put together again are the unit.
-/

namespace Sys2Proof.Proofs

open Sys2Proof.Machine Sys2Proof.Laws

/-! ## Fields of a unit -/

theorem unitAt_toNat (i : Issue) {op low : Nat} (hop : op < 64) (hlow : low < 4194304) :
    (unitAt i op low).toNat = (i.guard.toNat * 64 + op) * 4194304 + low := by
  have hg := i.guard.isLt
  unfold unitAt
  rw [BitVec.toNat_ofNat, Nat.mod_eq_of_lt (by omega)]
  omega

theorem fieldN_unitAt (i : Issue) {op low lo n : Nat} (hop : op < 64) (hlow : low < 4194304) (h : lo + n ≤ 22) :
    fieldN (unitAt i op low) lo n = low / 2 ^ lo % 2 ^ n := by
  have hsplit : 4194304 = 2 ^ (22 - lo - n) * 2 ^ n * 2 ^ lo := by
    rw [← pow_add, ← pow_add, show 22 - lo - n + n + lo = 22 by omega]; rfl
  unfold fieldN
  rw [unitAt_toNat i hop hlow, hsplit, ← Nat.mul_assoc, Nat.add_comm, Nat.add_mul_div_right _ _ (by positivity), ← Nat.mul_assoc,
    Nat.add_mul_mod_self_right]

theorem opOf_unitAt (i : Issue) {op low : Nat} (hop : op < 64) (hlow : low < 4194304) : opOf (unitAt i op low) = op := by
  unfold opOf fieldN
  rw [unitAt_toNat i hop hlow]
  omega

theorem guardOf_unitAt (i : Issue) {op low : Nat} (hop : op < 64) (hlow : low < 4194304) : guardOf (unitAt i op low) = i.guard := by
  have hg := i.guard.isLt
  apply BitVec.eq_of_toNat_eq
  rw [guardOf, BitVec.extractLsb'_toNat, unitAt_toNat i hop hlow, Nat.shiftRight_eq_div_pow]
  omega

/-- A unit is its guard, its opcode and the 22 bits below. -/
theorem unitAt_of_fields {i : Issue} {u : BitVec 32} {op low : Nat} (hg : guardOf u = i.guard) (hop : opOf u = op)
    (hlow : low = fieldN u 0 22) : unitAt i op low = u := by
  have hu := u.isLt
  have hg' := congrArg BitVec.toNat hg
  rw [guardOf, BitVec.extractLsb'_toNat, Nat.shiftRight_eq_div_pow] at hg'
  unfold opOf at hop
  unfold fieldN at hlow hop
  apply BitVec.eq_of_toNat_eq
  rw [unitAt_toNat i (by omega) (by omega)]
  omega

/-! ## The fields as numbers -/

theorem wAt_val (u : BitVec 32) (lo : Nat) : (wAt u lo).val = fieldN u lo 4 := rfl
theorem xAt_val (u : BitVec 32) (lo : Nat) : (xAt u lo).val = fieldN u lo 3 := rfl
theorem pAt_val (u : BitVec 32) (lo : Nat) : (pAt u lo).val = fieldN u lo 3 := rfl
theorem extractLsb'_val (u : BitVec 32) (lo n : Nat) : (u.extractLsb' lo n).toNat = fieldN u lo n := by
  rw [BitVec.extractLsb'_toNat, Nat.shiftRight_eq_div_pow]; rfl
theorem k16At_val (u : BitVec 32) : (k16At u).toNat = fieldN u 0 16 := extractLsb'_val u 0 16
theorem getLsbD_val (u : BitVec 32) (lo : Nat) : (u.getLsbD lo).toNat = fieldN u lo 1 := by
  rw [BitVec.getLsbD, Nat.testBit_eq_decide_div_mod_eq, fieldN, pow_one]
  rcases Nat.mod_two_eq_zero_or_one (u.toNat / 2 ^ lo) with h | h <;> rw [h] <;> rfl

/-! ## A unit that reads as an instruction is its unit: one lemma per reader -/

theorem encode_decodeR {i : Issue} {u : BitVec 32} {c : Instr} (hg : guardOf u = i.guard) (h : decodeR i u = some c) :
    encodeUnit c = some u := by
  unfold decodeR at h
  dsimp only at h
  split at h
  · cases h
  next h6 =>
  have enc {op fn : Nat} (hop : opOf u = op) (hfn : fieldN u 0 6 = fn) :
      unitR op i (wAt u 18) (wAt u 14) (wAt u 10) fn = u := by
    refine unitAt_of_fields hg hop ?_
    simp only [wAt_val]
    unfold fieldN at *
    omega
  split at h
  case h_20 =>
    rename_i hop
    split at h
    · cases h
    next hb =>
    rw [not_not.mp hb] at enc
    split at h
    case h_8 => cases h
    all_goals rename_i hfn; cases h; exact congrArg some (enc hop hfn)
  case h_21 => cases h
  all_goals rename_i hop hfn; cases h; exact congrArg some (enc hop hfn)

theorem encode_decodeK {i : Issue} {u : BitVec 32} {c : Instr} (hg : guardOf u = i.guard) (h : decodeK i u = some c) :
    encodeUnit c = some u := by
  unfold decodeK at h
  dsimp only at h
  split at h
  · cases h
  next h16 =>
  have enc {op : Nat} (hop : opOf u = op) : unitK op i (wAt u 18) (k16At u) = u := by
    refine unitAt_of_fields hg hop ?_
    simp only [wAt_val, k16At_val]
    unfold fieldN at *
    omega
  split at h
  case h_6 =>
    split at h
    · cases h
    next hd =>
    rw [not_not.mp hd] at enc
    split at h
    case h_8 => cases h
    all_goals rename_i hop; cases h; exact congrArg some (enc hop)
  all_goals rename_i hop; cases h; exact congrArg some (enc hop)

theorem encode_decodeSF {i : Issue} {u : BitVec 32} {c : Instr} (hop : opOf u = 0x09 ∨ opOf u = 0x0B) (hg : guardOf u = i.guard)
    (h : decodeSF i u = some c) : encodeUnit c = some u := by
  unfold decodeSF at h
  dsimp only at h
  split at h
  · next h9 =>
    split at h
    · cases h
    next h4 =>
    have enc {kind : Nat} (hk : fieldN u 12 2 = kind) :
        unitAt i 0x09 ((wAt u 18).val * 2 ^ 18 + (wAt u 14).val * 2 ^ 14 + kind * 2 ^ 12 + (u.extractLsb' 0 4).toNat) = u := by
      refine unitAt_of_fields hg h9 ?_
      simp only [wAt_val, extractLsb'_val]
      unfold fieldN at *
      omega
    split at h
    case h_4 =>
      rename_i h0 h1 h2
      simp only [imp_false] at h0 h1 h2
      have h3 : fieldN u 12 2 = 3 := by unfold fieldN at *; omega
      cases h; exact congrArg some (enc h3)
    all_goals rename_i hk; cases h; exact congrArg some (enc hk)
  · next h9 =>
    have hB : opOf u = 0x0B := hop.resolve_left h9
    have enc {fn : Nat} (hfn : fieldN u 0 6 = fn) :
        unitF i (wAt u 18) (wAt u 14) (u.extractLsb' 10 4) (u.extractLsb' 6 4) fn = u := by
      refine unitAt_of_fields hg hB ?_
      simp only [wAt_val, extractLsb'_val]
      unfold fieldN at *
      omega
    split at h
    case h_6 => cases h
    all_goals rename_i hfn; cases h; exact congrArg some (enc hfn)

theorem encode_decodeAcc {i : Issue} {u : BitVec 32} {c : Instr} (hop : opOf u = 0x0D ∨ opOf u = 0x0E) (hg : guardOf u = i.guard)
    (h : decodeAcc i u = some c) : encodeUnit c = some u := by
  unfold decodeAcc at h
  dsimp only at h
  split at h
  · next hE =>
    split at h
    · cases h
    next h0 =>
    cases h
    refine congrArg some (unitAt_of_fields hg hE ?_)
    simp only [xAt_val, getLsbD_val]
    unfold fieldN at *
    omega
  · next hE =>
    have hD : opOf u = 0x0D := hop.resolve_right hE
    have enc {fn : Nat} (hfn : fieldN u 0 4 = fn) :
        unitA i (u.getLsbD 9) (wAt u 18) (wAt u 14) (wAt u 10) (u.extractLsb' 4 5) fn = u := by
      refine unitAt_of_fields hg hD ?_
      simp only [wAt_val, extractLsb'_val, getLsbD_val]
      unfold fieldN at *
      omega
    split at h
    case h_7 => cases h
    all_goals rename_i hfn; cases h; exact congrArg some (enc hfn)

theorem encode_decodeP {i : Issue} {u : BitVec 32} {c : Instr} (hop : opOf u = 0x0F) (hg : guardOf u = i.guard)
    (h : decodeP i u = some c) : encodeUnit c = some u := by
  unfold decodeP at h
  dsimp only at h
  split at h
  · cases h
  next h6 =>
  have enc {fn : Nat} (hfn : fieldN u 0 6 = fn) : unitP i (pAt u 19) (pAt u 16) (pAt u 13) (wAt u 9) fn = u := by
    refine unitAt_of_fields hg hop ?_
    simp only [wAt_val, pAt_val]
    unfold fieldN at *
    omega
  split at h
  case h_11 => cases h
  all_goals rename_i hfn; cases h; exact congrArg some (enc hfn)

theorem encode_decodeXS {i : Issue} {u : BitVec 32} {c : Instr} (hop : opOf u = 0x13 ∨ opOf u = 0x16) (hg : guardOf u = i.guard)
    (h : decodeXS i u = some c) : encodeUnit c = some u := by
  unfold decodeXS at h
  dsimp only at h
  split at h
  · next h13 =>
    split at h
    · cases h
    next h6 =>
    have enc {fn : Nat} (hfn : fieldN u 0 6 = fn) :
        unitAt i 0x13 ((xAt u 19).val * 2 ^ 19 + (xAt u 16).val * 2 ^ 16 + (wAt u 12).val * 2 ^ 12 + fn) = u := by
      refine unitAt_of_fields hg h13 ?_
      simp only [wAt_val, xAt_val]
      unfold fieldN at *
      omega
    split at h
    case h_7 => cases h
    all_goals rename_i hfn; cases h; exact congrArg some (enc hfn)
  · next h13 =>
    split at h
    · cases h
    next h6 =>
    have enc {fn : Nat} (hfn : fieldN u 0 6 = fn) :
        unitAt i 0x16 ((wAt u 18).val * 2 ^ 18 + (pAt u 15).val * 2 ^ 15 + fn) = u := by
      refine unitAt_of_fields hg (hop.resolve_left h13) ?_
      simp only [wAt_val, pAt_val]
      unfold fieldN at *
      omega
    split at h
    case h_5 => cases h
    all_goals rename_i hfn; cases h; exact congrArg some (enc hfn)

theorem encode_decodeSys {i : Issue} {u : BitVec 32} {c : Instr} (hg : guardOf u = i.guard) (h : decodeSys i u = some c) :
    encodeUnit c = some u := by
  unfold decodeSys at h
  dsimp only at h
  split at h
  · next hop =>
    split at h
    · cases h
    next h0 =>
    cases h
    refine congrArg some (unitAt_of_fields hg hop ?_)
    simp only [wAt_val, extractLsb'_val]
    unfold fieldN at *
    omega
  · next hop =>
    split at h
    · cases h
    next h0 =>
    have enc {fn : Nat} (hfn : fieldN u 0 6 = fn) : unitAt i 0x27 fn = u := by
      refine unitAt_of_fields hg hop ?_
      unfold fieldN at *
      omega
    split at h
    case h_3 => cases h
    all_goals rename_i hfn; cases h; exact congrArg some (enc hfn)
  · split at h
    · cases h
    next h1 =>
    have enc {op : Nat} (hop : opOf u = op) : unitX op i (wAt u 18) (xAt u 15) (u.getLsbD 0) = u := by
      refine unitAt_of_fields hg hop ?_
      simp only [wAt_val, xAt_val, getLsbD_val]
      unfold fieldN at *
      omega
    split at h
    · next hop => cases h; exact congrArg some (enc hop)
    · next hop =>
      split at h
      · next hw =>
        obtain ⟨hw, hh⟩ := hw
        rw [hw, hh] at enc
        cases h; exact congrArg some (enc hop)
      · cases h
    iterate 2
      · next hop =>
        split at h
        · cases h
        · next hh =>
          rw [Bool.eq_false_of_not_eq_true hh] at enc
          cases h; exact congrArg some (enc hop)
    · cases h

/-- Format U, by its five fields. -/
theorem unitU_of_fields {i : Issue} {u : BitVec 32} {op fn : Nat} (hg : guardOf u = i.guard) (hop : opOf u = op) (hfn : fieldN u 0 6 = fn) :
    unitU op i (wAt u 18) (wAt u 14) (wAt u 10) (u.extractLsb' 6 4) fn = u := by
  refine unitAt_of_fields hg hop ?_
  simp only [wAt_val, extractLsb'_val]
  unfold fieldN at *
  omega

theorem encode_decodeUnitOp {i : Issue} {u : BitVec 32} {c : Instr} (hg : guardOf u = i.guard) (h : decodeUnitOp i u = some c) :
    encodeUnit c = some u := by
  have zeroW {lo : Nat} (hw : wAt u lo = 0) : fieldN u lo 4 = 0 := congrArg Fin.val hw
  have zeroB {lo n : Nat} (hk : u.extractLsb' lo n = 0) : fieldN u lo n = 0 := (extractLsb'_val u lo n).symm.trans (congrArg BitVec.toNat hk)
  have clear {lo : Nat} (hb : u.getLsbD lo = false) : fieldN u lo 1 = 0 := (getLsbD_val u lo).symm.trans (congrArg Bool.toNat hb)
  unfold decodeUnitOp at h
  dsimp only at h
  split at h
  case h_19 => cases h
  case h_7 | h_18 =>
    rename_i hop hfn
    split at h
    · next hz =>
      obtain ⟨hb, ha, hb', hk⟩ := hz
      cases h
      refine congrArg some (unitAt_of_fields hg hop ?_)
      have := clear hb; have := zeroW ha; have := zeroW hb'; have := zeroB hk
      simp only [pAt_val]
      unfold fieldN at *
      omega
    · cases h
  case h_8 | h_9 =>
    rename_i hop hfn
    split at h
    · next hz =>
      obtain ⟨hd, hb, hk⟩ := hz
      cases h
      refine congrArg some (unitAt_of_fields hg hop ?_)
      have := clear hb; have := zeroW hd; have := zeroB hk
      simp only [wAt_val, xAt_val]
      unfold fieldN at *
      omega
    · cases h
  all_goals
    rename_i hop hfn
    have hu := unitU_of_fields hg hop hfn
    split at h
    · next hz =>
      cases h
      simp only [hz] at hu
      exact congrArg some hu
    · cases h

theorem encode_decodeUnit {i : Issue} {u : BitVec 32} {c : Instr} (hg : guardOf u = i.guard) (h : decodeUnit i u = some c) :
    encodeUnit c = some u := by
  unfold decodeUnit at h
  split at h
  case h_1 | h_2 | h_3 => exact encode_decodeR hg h
  case h_4 hop =>
    split at h
    · cases h
    next h0 =>
    obtain ⟨h18, h0⟩ := not_or.mp h0
    have := (getLsbD_val u 18).symm.trans (congrArg Bool.toNat (Bool.eq_false_of_not_eq_true h18))
    cases h
    refine congrArg some (unitAt_of_fields hg hop ?_)
    simp only [wAt_val, pAt_val, extractLsb'_val]
    unfold fieldN at *
    simp only [Bool.toNat_false] at this
    omega
  case h_10 hop => exact encode_decodeSF (.inl hop) hg h
  case h_11 hop => exact encode_decodeSF (.inr hop) hg h
  case h_12 hop => exact encode_decodeAcc (.inl hop) hg h
  case h_13 hop => exact encode_decodeAcc (.inr hop) hg h
  case h_14 hop => exact encode_decodeP hop hg h
  case h_18 hop => exact encode_decodeXS (.inl hop) hg h
  case h_19 hop => exact encode_decodeXS (.inr hop) hg h
  case h_20 | h_21 | h_22 | h_23 | h_24 | h_25 => exact encode_decodeSys hg h
  case h_26 | h_27 | h_28 => exact encode_decodeUnitOp hg h
  case h_29 | h_30 | h_31 | h_32 | h_33 | h_34 | h_35 | h_36 | h_37 | h_38 | h_39 | h_40 => exact encode_decodeK hg h
  case h_41 => cases h
  all_goals
    rename_i hop
    cases h
    refine congrArg some (unitAt_of_fields hg hop ?_)
    simp only [wAt_val, xAt_val, pAt_val, k16At_val, extractLsb'_val]
    unfold fieldN
    omega

/-- Settles O56: each reader has tested every bit that its format does not use. -/
theorem encodeOfDecode : Obligations.EncodeOfDecode := by
  unfold Obligations.EncodeOfDecode
  exact fun i u c => encode_decodeUnit

/-! ## Fetching -/

/-- No instruction has the opcode of a unit that stands before another (R129). -/
theorem opOf_of_decodeUnit {i : Issue} {u : BitVec 32} {c : Instr} (h : decodeUnit i u = some c) : opOf u ≠ 0x1F ∧ opOf u ≠ 0x17 := by
  constructor
  all_goals
    intro hop
    unfold decodeUnit at h
    rw [hop] at h
    cases h

theorem decodeFetch_plain {tid : Nat} {g : BitVec 4} {u : BitVec 32} {c : Instr} (hg : guardOf u = g)
    (h : decodeUnit ⟨tid, g, .none⟩ u = some c) (v : BitVec 32) : decodeFetch tid u v = some c := by
  obtain ⟨himm, hrep⟩ := opOf_of_decodeUnit h
  unfold decodeFetch
  rw [if_neg himm, if_neg hrep, hg, h]

theorem decodeFetch_imm {tid : Nat} {g : BitVec 4} {u : BitVec 32} {c : Instr} (k : Word) (hg : guardOf u = g)
    (h : decodeUnit ⟨tid, g, .imm k⟩ u = some c) : decodeFetch tid (BitVec.ofNat 32 (0x1F * 2 ^ 22 + k.toNat)) u = some c := by
  have hk := k.isLt
  have hp : BitVec.ofNat 32 (0x1F * 2 ^ 22 + k.toNat) = unitAt ⟨tid, 0, .none⟩ 0x1F k.toNat := by rw [unitAt]; simp
  have hop := opOf_unitAt ⟨tid, 0, .none⟩ (op := 0x1F) (low := k.toNat) (by omega) (by omega)
  have hguard := guardOf_unitAt ⟨tid, 0, .none⟩ (op := 0x1F) (low := k.toNat) (by omega) (by omega)
  have hrest : fieldN (unitAt ⟨tid, 0, .none⟩ 0x1F k.toNat) 16 6 = 0 := by
    rw [fieldN_unitAt _ (by omega) (by omega) (by omega)]; omega
  have hval : k16At (unitAt ⟨tid, 0, .none⟩ 0x1F k.toNat) = k := by
    apply BitVec.eq_of_toNat_eq
    rw [k16At_val, fieldN_unitAt _ (by omega) (by omega) (by omega)]; omega
  unfold decodeFetch
  rw [hp, if_pos hop, if_pos ⟨hguard, hrest⟩, hval, hg, h]

theorem decodeFetch_rep {tid : Nat} {g : BitVec 4} {u : BitVec 32} {c : Instr} (hg : guardOf u = g)
    (h : decodeUnit ⟨tid, g, .rep⟩ u = some c) : decodeFetch tid (BitVec.ofNat 32 (0x17 * 2 ^ 22)) u = some c := by
  unfold decodeFetch
  rw [if_neg (by decide), if_pos (by decide), if_pos (by decide), hg, h]

theorem decodeFetch_of_decodeUnit {i : Issue} {u : BitVec 32} {c : Instr} (hg : guardOf u = i.guard) (h : decodeUnit i u = some c) :
    match prefixUnit i.pfx with
    | none => ∀ v, decodeFetch i.tid u v = some c
    | some p => decodeFetch i.tid p u = some c := by
  obtain ⟨tid, g, pfx⟩ := i
  cases pfx with
  | none => exact decodeFetch_plain hg h
  | imm k => exact decodeFetch_imm k hg h
  | rep => exact decodeFetch_rep hg h

/-! ## The fields of a unit put together -/

theorem wAt_unitAt (i : Issue) {op low lo : Nat} {w : WReg} (hop : op < 64) (hlow : low < 4194304) (h : lo ≤ 18)
    (hw : low / 2 ^ lo % 2 ^ 4 = w.val) : wAt (unitAt i op low) lo = w :=
  Fin.ext ((fieldN_unitAt i hop hlow (by omega)).trans hw)
theorem xAt_unitAt (i : Issue) {op low lo : Nat} {x : XReg} (hop : op < 64) (hlow : low < 4194304) (h : lo ≤ 19)
    (hx : low / 2 ^ lo % 2 ^ 3 = x.val) : xAt (unitAt i op low) lo = x :=
  Fin.ext ((fieldN_unitAt i hop hlow (by omega)).trans hx)
theorem bits_unitAt (i : Issue) {op low lo n : Nat} {v : BitVec n} (hop : op < 64) (hlow : low < 4194304) (h : lo + n ≤ 22)
    (hv : low / 2 ^ lo % 2 ^ n = v.toNat) : (unitAt i op low).extractLsb' lo n = v :=
  BitVec.eq_of_toNat_eq ((extractLsb'_val ..).trans ((fieldN_unitAt i hop hlow h).trans hv))
theorem bit_unitAt (i : Issue) {op low lo : Nat} {b : Bool} (hop : op < 64) (hlow : low < 4194304) (h : lo < 22)
    (hb : low / 2 ^ lo % 2 ^ 1 = b.toNat) : (unitAt i op low).getLsbD lo = b := by
  have hv := (getLsbD_val (unitAt i op low) lo).trans ((fieldN_unitAt i hop hlow (by omega)).trans hb)
  revert hv
  cases b <;> cases (unitAt i op low).getLsbD lo <;> simp

/-- A unit carries its instruction's guard and reads as the instruction. -/
def Spells (u : BitVec 32) (c : Instr) : Prop := ∃ i : Issue, guardOf u = i.guard ∧ decodeUnit i u = some c

/-! ## One lemma per format: what a reader of the format's fields sees -/

/-- Formats U and, with `k` 0, R. -/
theorem spells_unitU {i : Issue} {op fn : Nat} {d a b : WReg} {k : BitVec 4} {c : Instr} (hop : op < 64) (hfn : fn < 64)
    (H : ∀ u, opOf u = op → wAt u 18 = d → wAt u 14 = a → wAt u 10 = b → u.extractLsb' 6 4 = k → fieldN u 0 6 = fn →
      decodeUnit i u = some c) : Spells (unitU op i d a b k fn) c := by
  have hlow : d.val * 2 ^ 18 + a.val * 2 ^ 14 + b.val * 2 ^ 10 + k.toNat * 2 ^ 6 + fn < 4194304 := by omega
  refine ⟨i, guardOf_unitAt i hop hlow, H _ (opOf_unitAt i hop hlow) (wAt_unitAt i hop hlow (by omega) ?_)
    (wAt_unitAt i hop hlow (by omega) ?_) (wAt_unitAt i hop hlow (by omega) ?_) (bits_unitAt i hop hlow (by omega) ?_)
    ((fieldN_unitAt i hop hlow (by omega)).trans ?_)⟩
  all_goals omega

theorem spells_unitR {i : Issue} {op fn : Nat} {d a b : WReg} {c : Instr} (hop : op < 64) (hfn : fn < 64)
    (H : ∀ u, opOf u = op → wAt u 18 = d → wAt u 14 = a → wAt u 10 = b → fieldN u 6 4 = 0 → fieldN u 0 6 = fn →
      decodeUnit i u = some c) : Spells (unitR op i d a b fn) c := by
  have he : unitR op i d a b fn = unitU op i d a b 0 fn := by simp [unitR, unitU]
  rw [he]
  exact spells_unitU hop hfn fun u h1 h2 h3 h4 h5 h6 =>
    H u h1 h2 h3 h4 ((extractLsb'_val u 6 4).symm.trans (congrArg BitVec.toNat h5)) h6

theorem spells_unitF {i : Issue} {fn : Nat} {d a : WReg} {pos wm1 : BitVec 4} {c : Instr} (hfn : fn < 64)
    (H : ∀ u, opOf u = 0x0B → wAt u 18 = d → wAt u 14 = a → u.extractLsb' 10 4 = pos → u.extractLsb' 6 4 = wm1 → fieldN u 0 6 = fn →
      decodeUnit i u = some c) : Spells (unitF i d a pos wm1 fn) c :=
  spells_unitU (b := ⟨pos.toNat, pos.isLt⟩) (by omega) hfn fun u h1 h2 h3 h4 h5 h6 =>
    H u h1 h2 h3 (BitVec.eq_of_toNat_eq ((extractLsb'_val u 10 4).trans (congrArg Fin.val h4))) h5 h6

theorem spells_imm14 {i : Issue} {op : Nat} {d a : WReg} {k : BitVec 14} {c : Instr} (hop : op < 64)
    (H : ∀ u, opOf u = op → wAt u 18 = d → wAt u 14 = a → u.extractLsb' 0 14 = k → decodeUnit i u = some c) :
    Spells (unitAt i op (d.val * 2 ^ 18 + a.val * 2 ^ 14 + k.toNat)) c := by
  have hlow : d.val * 2 ^ 18 + a.val * 2 ^ 14 + k.toNat < 4194304 := by omega
  refine ⟨i, guardOf_unitAt i hop hlow, H _ (opOf_unitAt i hop hlow) (wAt_unitAt i hop hlow (by omega) ?_)
    (wAt_unitAt i hop hlow (by omega) ?_) (bits_unitAt i hop hlow (by omega) ?_)⟩
  all_goals omega

theorem spells_shi {i : Issue} {d a : WReg} {kind : Nat} {k : BitVec 4} {c : Instr} (hkind : kind < 4)
    (H : ∀ u, opOf u = 0x09 → wAt u 18 = d → wAt u 14 = a → fieldN u 12 2 = kind → fieldN u 4 8 = 0 → u.extractLsb' 0 4 = k →
      decodeUnit i u = some c) : Spells (unitAt i 0x09 (d.val * 2 ^ 18 + a.val * 2 ^ 14 + kind * 2 ^ 12 + k.toNat)) c := by
  have hlow : d.val * 2 ^ 18 + a.val * 2 ^ 14 + kind * 2 ^ 12 + k.toNat < 4194304 := by omega
  have hop : 0x09 < 64 := by omega
  refine ⟨i, guardOf_unitAt i hop hlow, H _ (opOf_unitAt i hop hlow) (wAt_unitAt i hop hlow (by omega) ?_)
    (wAt_unitAt i hop hlow (by omega) ?_) ((fieldN_unitAt i hop hlow (by omega)).trans ?_)
    ((fieldN_unitAt i hop hlow (by omega)).trans ?_) (bits_unitAt i hop hlow (by omega) ?_)⟩
  all_goals omega

theorem spells_cmp {i : Issue} {pd : PReg} {a b : WReg} {cond : BitVec 4} {c : Instr}
    (H : ∀ u, opOf u = 0x03 → u.getLsbD 18 = false → pAt u 19 = pd → wAt u 14 = a → wAt u 10 = b → u.extractLsb' 6 4 = cond →
      fieldN u 0 6 = 0 → decodeUnit i u = some c) :
    Spells (unitAt i 0x03 (pd.val * 2 ^ 19 + a.val * 2 ^ 14 + b.val * 2 ^ 10 + cond.toNat * 2 ^ 6)) c := by
  have hlow : pd.val * 2 ^ 19 + a.val * 2 ^ 14 + b.val * 2 ^ 10 + cond.toNat * 2 ^ 6 < 4194304 := by omega
  have hop : 0x03 < 64 := by omega
  refine ⟨i, guardOf_unitAt i hop hlow, H _ (opOf_unitAt i hop hlow) (bit_unitAt i hop hlow (by omega) (by change _ = 0; omega))
    (xAt_unitAt i hop hlow (by omega) ?_) (wAt_unitAt i hop hlow (by omega) ?_) (wAt_unitAt i hop hlow (by omega) ?_)
    (bits_unitAt i hop hlow (by omega) ?_) ((fieldN_unitAt i hop hlow (by omega)).trans ?_)⟩
  all_goals omega

theorem spells_cmpi {i : Issue} {pd : PReg} {cond : BitVec 4} {a : WReg} {k : BitVec 11} {c : Instr}
    (H : ∀ u, opOf u = 0x0A → pAt u 19 = pd → u.extractLsb' 15 4 = cond → wAt u 11 = a → u.extractLsb' 0 11 = k →
      decodeUnit i u = some c) :
    Spells (unitAt i 0x0A (pd.val * 2 ^ 19 + cond.toNat * 2 ^ 15 + a.val * 2 ^ 11 + k.toNat)) c := by
  have hlow : pd.val * 2 ^ 19 + cond.toNat * 2 ^ 15 + a.val * 2 ^ 11 + k.toNat < 4194304 := by omega
  have hop : 0x0A < 64 := by omega
  refine ⟨i, guardOf_unitAt i hop hlow, H _ (opOf_unitAt i hop hlow) (xAt_unitAt i hop hlow (by omega) ?_)
    (bits_unitAt i hop hlow (by omega) ?_) (wAt_unitAt i hop hlow (by omega) ?_) (bits_unitAt i hop hlow (by omega) ?_)⟩
  all_goals omega

theorem spells_unitA {i : Issue} {n : Bool} {d a b : WReg} {sh : BitVec 5} {fn : Nat} {c : Instr} (hfn : fn < 16)
    (H : ∀ u, opOf u = 0x0D → wAt u 18 = d → wAt u 14 = a → wAt u 10 = b → u.getLsbD 9 = n → u.extractLsb' 4 5 = sh →
      fieldN u 0 4 = fn → decodeUnit i u = some c) : Spells (unitA i n d a b sh fn) c := by
  have hn := n.toNat_lt
  have hlow : d.val * 2 ^ 18 + a.val * 2 ^ 14 + b.val * 2 ^ 10 + n.toNat * 2 ^ 9 + sh.toNat * 2 ^ 4 + fn < 4194304 := by omega
  have hop : 0x0D < 64 := by omega
  refine ⟨i, guardOf_unitAt i hop hlow, H _ (opOf_unitAt i hop hlow) (wAt_unitAt i hop hlow (by omega) ?_)
    (wAt_unitAt i hop hlow (by omega) ?_) (wAt_unitAt i hop hlow (by omega) ?_) (bit_unitAt i hop hlow (by omega) ?_)
    (bits_unitAt i hop hlow (by omega) ?_) ((fieldN_unitAt i hop hlow (by omega)).trans ?_)⟩
  all_goals omega

theorem spells_macd {i : Issue} {n sgn : Bool} {xa xb : XReg} {c : Instr}
    (H : ∀ u, opOf u = 0x0E → u.getLsbD 21 = n → u.getLsbD 20 = sgn → xAt u 17 = xa → xAt u 14 = xb → fieldN u 0 14 = 0 →
      decodeUnit i u = some c) :
    Spells (unitAt i 0x0E (n.toNat * 2 ^ 21 + sgn.toNat * 2 ^ 20 + xa.val * 2 ^ 17 + xb.val * 2 ^ 14)) c := by
  have hn := n.toNat_lt
  have hs := sgn.toNat_lt
  have hlow : n.toNat * 2 ^ 21 + sgn.toNat * 2 ^ 20 + xa.val * 2 ^ 17 + xb.val * 2 ^ 14 < 4194304 := by omega
  have hop : 0x0E < 64 := by omega
  refine ⟨i, guardOf_unitAt i hop hlow, H _ (opOf_unitAt i hop hlow) (bit_unitAt i hop hlow (by omega) ?_)
    (bit_unitAt i hop hlow (by omega) ?_) (xAt_unitAt i hop hlow (by omega) ?_) (xAt_unitAt i hop hlow (by omega) ?_)
    ((fieldN_unitAt i hop hlow (by omega)).trans ?_)⟩
  all_goals omega

theorem spells_unitP {i : Issue} {pd pa pb : PReg} {w : WReg} {fn : Nat} {c : Instr} (hfn : fn < 64)
    (H : ∀ u, opOf u = 0x0F → pAt u 19 = pd → pAt u 16 = pa → pAt u 13 = pb → wAt u 9 = w → fieldN u 6 3 = 0 → fieldN u 0 6 = fn →
      decodeUnit i u = some c) : Spells (unitP i pd pa pb w fn) c := by
  have hlow : pd.val * 2 ^ 19 + pa.val * 2 ^ 16 + pb.val * 2 ^ 13 + w.val * 2 ^ 9 + fn < 4194304 := by omega
  have hop : 0x0F < 64 := by omega
  refine ⟨i, guardOf_unitAt i hop hlow, H _ (opOf_unitAt i hop hlow) (xAt_unitAt i hop hlow (by omega) ?_)
    (xAt_unitAt i hop hlow (by omega) ?_) (xAt_unitAt i hop hlow (by omega) ?_) (wAt_unitAt i hop hlow (by omega) ?_)
    ((fieldN_unitAt i hop hlow (by omega)).trans ?_) ((fieldN_unitAt i hop hlow (by omega)).trans ?_)⟩
  all_goals omega

theorem spells_lea {i : Issue} {xd xa : XReg} {k : Word} {c : Instr}
    (H : ∀ u, opOf u = 0x12 → xAt u 19 = xd → xAt u 16 = xa → k16At u = k → decodeUnit i u = some c) :
    Spells (unitAt i 0x12 (xd.val * 2 ^ 19 + xa.val * 2 ^ 16 + k.toNat)) c := by
  have hlow : xd.val * 2 ^ 19 + xa.val * 2 ^ 16 + k.toNat < 4194304 := by omega
  have hop : 0x12 < 64 := by omega
  refine ⟨i, guardOf_unitAt i hop hlow, H _ (opOf_unitAt i hop hlow) (xAt_unitAt i hop hlow (by omega) ?_)
    (xAt_unitAt i hop hlow (by omega) ?_) (bits_unitAt i hop hlow (by omega) ?_)⟩
  all_goals omega

theorem spells_xmov {i : Issue} {xd xa : XReg} {w : WReg} {fn : Nat} {c : Instr} (hfn : fn < 64)
    (H : ∀ u, opOf u = 0x13 → xAt u 19 = xd → xAt u 16 = xa → wAt u 12 = w → fieldN u 6 6 = 0 → fieldN u 0 6 = fn →
      decodeUnit i u = some c) :
    Spells (unitAt i 0x13 (xd.val * 2 ^ 19 + xa.val * 2 ^ 16 + w.val * 2 ^ 12 + fn)) c := by
  have hlow : xd.val * 2 ^ 19 + xa.val * 2 ^ 16 + w.val * 2 ^ 12 + fn < 4194304 := by omega
  have hop : 0x13 < 64 := by omega
  refine ⟨i, guardOf_unitAt i hop hlow, H _ (opOf_unitAt i hop hlow) (xAt_unitAt i hop hlow (by omega) ?_)
    (xAt_unitAt i hop hlow (by omega) ?_) (wAt_unitAt i hop hlow (by omega) ?_) ((fieldN_unitAt i hop hlow (by omega)).trans ?_)
    ((fieldN_unitAt i hop hlow (by omega)).trans ?_)⟩
  all_goals omega

theorem spells_mem {i : Issue} {op : Nat} {d : WReg} {x : XReg} {m : BitVec 2} {o : BitVec 13} {c : Instr} (hop : op < 64)
    (H : ∀ u, opOf u = op → wAt u 18 = d → xAt u 15 = x → u.extractLsb' 13 2 = m → u.extractLsb' 0 13 = o → decodeUnit i u = some c) :
    Spells (unitAt i op (d.val * 2 ^ 18 + x.val * 2 ^ 15 + m.toNat * 2 ^ 13 + o.toNat)) c := by
  have hlow : d.val * 2 ^ 18 + x.val * 2 ^ 15 + m.toNat * 2 ^ 13 + o.toNat < 4194304 := by omega
  refine ⟨i, guardOf_unitAt i hop hlow, H _ (opOf_unitAt i hop hlow) (wAt_unitAt i hop hlow (by omega) ?_)
    (xAt_unitAt i hop hlow (by omega) ?_) (bits_unitAt i hop hlow (by omega) ?_) (bits_unitAt i hop hlow (by omega) ?_)⟩
  all_goals omega

theorem spells_string {i : Issue} {v : WReg} {pd : PReg} {fn : Nat} {c : Instr} (hfn : fn < 64)
    (H : ∀ u, opOf u = 0x16 → wAt u 18 = v → pAt u 15 = pd → fieldN u 6 9 = 0 → fieldN u 0 6 = fn → decodeUnit i u = some c) :
    Spells (unitAt i 0x16 (v.val * 2 ^ 18 + pd.val * 2 ^ 15 + fn)) c := by
  have hlow : v.val * 2 ^ 18 + pd.val * 2 ^ 15 + fn < 4194304 := by omega
  have hop : 0x16 < 64 := by omega
  refine ⟨i, guardOf_unitAt i hop hlow, H _ (opOf_unitAt i hop hlow) (wAt_unitAt i hop hlow (by omega) ?_)
    (xAt_unitAt i hop hlow (by omega) ?_) ((fieldN_unitAt i hop hlow (by omega)).trans ?_)
    ((fieldN_unitAt i hop hlow (by omega)).trans ?_)⟩
  all_goals omega

theorem spells_unitK {i : Issue} {op : Nat} {d : WReg} {k : Word} {c : Instr} (hop : op < 64)
    (H : ∀ u, opOf u = op → wAt u 18 = d → fieldN u 16 2 = 0 → k16At u = k → decodeUnit i u = some c) : Spells (unitK op i d k) c := by
  have hlow : d.val * 2 ^ 18 + k.toNat < 4194304 := by omega
  refine ⟨i, guardOf_unitAt i hop hlow, H _ (opOf_unitAt i hop hlow) (wAt_unitAt i hop hlow (by omega) ?_)
    ((fieldN_unitAt i hop hlow (by omega)).trans ?_) (bits_unitAt i hop hlow (by omega) ?_)⟩
  all_goals omega

theorem spells_unitX {i : Issue} {op : Nat} {w : WReg} {x : XReg} {h : Bool} {c : Instr} (hop : op < 64)
    (H : ∀ u, opOf u = op → wAt u 18 = w → xAt u 15 = x → fieldN u 1 14 = 0 → u.getLsbD 0 = h → decodeUnit i u = some c) :
    Spells (unitX op i w x h) c := by
  have hh := h.toNat_lt
  have hlow : w.val * 2 ^ 18 + x.val * 2 ^ 15 + h.toNat < 4194304 := by omega
  refine ⟨i, guardOf_unitAt i hop hlow, H _ (opOf_unitAt i hop hlow) (wAt_unitAt i hop hlow (by omega) ?_)
    (xAt_unitAt i hop hlow (by omega) ?_) ((fieldN_unitAt i hop hlow (by omega)).trans ?_) (bit_unitAt i hop hlow (by omega) ?_)⟩
  all_goals omega

theorem spells_signal {i : Issue} {a : WReg} {ev : BitVec 4} {c : Instr}
    (H : ∀ u, opOf u = 0x26 → fieldN u 18 4 = 0 → wAt u 14 = a → fieldN u 4 10 = 0 → u.extractLsb' 0 4 = ev → decodeUnit i u = some c) :
    Spells (unitAt i 0x26 (a.val * 2 ^ 14 + ev.toNat)) c := by
  have hlow : a.val * 2 ^ 14 + ev.toNat < 4194304 := by omega
  have hop : 0x26 < 64 := by omega
  refine ⟨i, guardOf_unitAt i hop hlow, H _ (opOf_unitAt i hop hlow) ((fieldN_unitAt i hop hlow (by omega)).trans ?_)
    (wAt_unitAt i hop hlow (by omega) ?_) ((fieldN_unitAt i hop hlow (by omega)).trans ?_) (bits_unitAt i hop hlow (by omega) ?_)⟩
  all_goals omega

theorem spells_sys {i : Issue} {fn : Nat} {c : Instr} (hfn : fn < 64)
    (H : ∀ u, opOf u = 0x27 → fieldN u 6 16 = 0 → fieldN u 0 6 = fn → decodeUnit i u = some c) : Spells (unitAt i 0x27 fn) c := by
  have hlow : fn < 4194304 := by omega
  have hop : 0x27 < 64 := by omega
  refine ⟨i, guardOf_unitAt i hop hlow, H _ (opOf_unitAt i hop hlow) ((fieldN_unitAt i hop hlow (by omega)).trans ?_)
    ((fieldN_unitAt i hop hlow (by omega)).trans ?_)⟩
  all_goals omega

theorem spells_busy {i : Issue} {op fn : Nat} {pd : PReg} {c : Instr} (hop : op < 64) (hfn : fn < 64)
    (H : ∀ u, opOf u = op → pAt u 19 = pd → u.getLsbD 18 = false → wAt u 14 = 0 → wAt u 10 = 0 → u.extractLsb' 6 4 = 0#4 →
      fieldN u 0 6 = fn → decodeUnit i u = some c) : Spells (unitAt i op (pd.val * 2 ^ 19 + fn)) c := by
  have hlow : pd.val * 2 ^ 19 + fn < 4194304 := by omega
  refine ⟨i, guardOf_unitAt i hop hlow, H _ (opOf_unitAt i hop hlow) (xAt_unitAt i hop hlow (by omega) ?_)
    (bit_unitAt i hop hlow (by omega) (by change _ = 0; omega)) (wAt_unitAt i hop hlow (by omega) ?_)
    (wAt_unitAt i hop hlow (by omega) ?_) (bits_unitAt i hop hlow (by omega) (by change _ = 0; omega))
    ((fieldN_unitAt i hop hlow (by omega)).trans ?_)⟩
  all_goals omega

theorem spells_span {i : Issue} {fn : Nat} {x : XReg} {b : WReg} {c : Instr} (hfn : fn < 64)
    (H : ∀ u, opOf u = 0x29 → wAt u 18 = 0 → xAt u 15 = x → u.getLsbD 14 = false → wAt u 10 = b → u.extractLsb' 6 4 = 0#4 →
      fieldN u 0 6 = fn → decodeUnit i u = some c) : Spells (unitAt i 0x29 (x.val * 2 ^ 15 + b.val * 2 ^ 10 + fn)) c := by
  have hlow : x.val * 2 ^ 15 + b.val * 2 ^ 10 + fn < 4194304 := by omega
  have hop : 0x29 < 64 := by omega
  refine ⟨i, guardOf_unitAt i hop hlow, H _ (opOf_unitAt i hop hlow) (wAt_unitAt i hop hlow (by omega) ?_)
    (xAt_unitAt i hop hlow (by omega) ?_) (bit_unitAt i hop hlow (by omega) (by change _ = 0; omega))
    (wAt_unitAt i hop hlow (by omega) ?_) (bits_unitAt i hop hlow (by omega) (by change _ = 0; omega))
    ((fieldN_unitAt i hop hlow (by omega)).trans ?_)⟩
  all_goals omega

/-! ## An instruction's unit spells it -/

theorem spells_of_encodeUnit {c : Instr} {u : BitVec 32} (h : encodeUnit c = some u) : Spells u c := by
  unfold encodeUnit at h
  split at h
  case h_109 => cases h
  all_goals obtain rfl := Option.some.inj h
  case h_24 | h_25 | h_26 | h_27 =>
    exact spells_imm14 (by omega) fun u h1 h2 h3 h4 => by simp [decodeUnit, h1, h2, h3, h4]
  case h_28 =>
    exact spells_shi (kind := 0) (by omega) fun u h1 h2 h3 h4 h5 h6 => by simp [decodeUnit, decodeSF, h1, h2, h3, h4, h5, h6]
  case h_29 =>
    exact spells_shi (kind := 1) (by omega) fun u h1 h2 h3 h4 h5 h6 => by simp [decodeUnit, decodeSF, h1, h2, h3, h4, h5, h6]
  case h_30 =>
    exact spells_shi (kind := 2) (by omega) fun u h1 h2 h3 h4 h5 h6 => by simp [decodeUnit, decodeSF, h1, h2, h3, h4, h5, h6]
  case h_31 =>
    exact spells_shi (kind := 3) (by omega) fun u h1 h2 h3 h4 h5 h6 => by simp [decodeUnit, decodeSF, h1, h2, h3, h4, h5, h6]
  case h_32 =>
    exact spells_cmp fun u h1 h2 h3 h4 h5 h6 h7 => by simp [decodeUnit, h1, h2, h3, h4, h5, h6, h7, -BitVec.getLsbD_eq_getElem]
  case h_33 =>
    exact spells_cmpi fun u h1 h2 h3 h4 h5 => by simp [decodeUnit, h1, h2, h3, h4, h5]
  case h_34 | h_35 | h_36 | h_37 | h_38 =>
    exact spells_unitF (by omega) fun u h1 h2 h3 h4 h5 h6 => by simp [decodeUnit, decodeSF, h1, h2, h3, h4, h5, h6]
  case h_42 | h_43 | h_44 | h_45 | h_46 | h_47 =>
    exact spells_unitA (by omega) fun u h1 h2 h3 h4 h5 h6 h7 => by
      simp [decodeUnit, decodeAcc, h1, h2, h3, h4, h5, h6, h7, -BitVec.getLsbD_eq_getElem]
  case h_48 =>
    exact spells_macd fun u h1 h2 h3 h4 h5 h6 => by simp [decodeUnit, decodeAcc, h1, h2, h3, h4, h5, h6, -BitVec.getLsbD_eq_getElem]
  case h_49 | h_50 | h_51 | h_52 | h_53 | h_54 | h_55 | h_56 | h_57 | h_58 =>
    exact spells_unitP (by omega) fun u h1 h2 h3 h4 h5 h6 h7 => by simp [decodeUnit, decodeP, h1, h2, h3, h4, h5, h6, h7]
  case h_59 =>
    exact spells_lea fun u h1 h2 h3 h4 => by simp [decodeUnit, h1, h2, h3, h4]
  case h_60 | h_61 | h_62 | h_63 | h_64 | h_65 =>
    exact spells_xmov (by omega) fun u h1 h2 h3 h4 h5 h6 => by simp [decodeUnit, decodeXS, h1, h2, h3, h4, h5, h6]
  case h_66 | h_67 =>
    exact spells_mem (by omega) fun u h1 h2 h3 h4 h5 => by simp [decodeUnit, h1, h2, h3, h4, h5]
  case h_68 | h_69 | h_70 | h_71 =>
    exact spells_string (by omega) fun u h1 h2 h3 h4 h5 => by simp [decodeUnit, decodeXS, h1, h2, h3, h4, h5]
  case h_72 | h_73 | h_74 | h_75 | h_76 | h_77 | h_78 | h_79 | h_80 | h_81 | h_82 | h_83 =>
    exact spells_unitK (by omega) fun u h1 h2 h3 h4 => by simp [decodeUnit, decodeK, h1, h2, h3, h4]
  case h_84 | h_85 | h_86 | h_87 =>
    exact spells_unitX (by omega) fun u h1 h2 h3 h4 h5 => by simp [decodeUnit, decodeSys, h1, h2, h3, h4, h5, -BitVec.getLsbD_eq_getElem]
  case h_88 =>
    exact spells_signal fun u h1 h2 h3 h4 h5 => by simp [decodeUnit, decodeSys, h1, h2, h3, h4, h5]
  case h_89 | h_90 =>
    exact spells_sys (by omega) fun u h1 h2 h3 => by simp [decodeUnit, decodeSys, h1, h2, h3]
  case h_91 | h_92 | h_93 | h_94 | h_95 | h_96 | h_100 | h_101 | h_102 | h_103 | h_104 | h_105 | h_106 | h_107 =>
    exact spells_unitU (by omega) (by omega) fun u h1 h2 h3 h4 h5 h6 => by simp [decodeUnit, decodeUnitOp, h1, h2, h3, h4, h5, h6]
  case h_97 | h_108 =>
    exact spells_busy (by omega) (by omega) fun u h1 h2 h3 h4 h5 h6 h7 => by
      simp [decodeUnit, decodeUnitOp, h1, h2, h3, h4, h5, h6, h7, -BitVec.getLsbD_eq_getElem]
  case h_98 =>
    rename_i i x b
    have hs : Spells (unitAt i 0x29 (x.val * 2 ^ 15 + b.val * 2 ^ 10 + 0)) (.dgFeed i x b) :=
      spells_span (by omega) fun u h1 h2 h3 h4 h5 h6 h7 => by
        simp [decodeUnit, decodeUnitOp, h1, h2, h3, h4, h5, h6, h7, -BitVec.getLsbD_eq_getElem]
    simpa only [Nat.add_zero] using hs
  case h_99 =>
    exact spells_span (by omega) fun u h1 h2 h3 h4 h5 h6 h7 => by
      simp [decodeUnit, decodeUnitOp, h1, h2, h3, h4, h5, h6, h7, -BitVec.getLsbD_eq_getElem]
  all_goals exact spells_unitR (by omega) (by omega) fun u h1 h2 h3 h4 h5 h6 => by simp [decodeUnit, decodeR, h1, h2, h3, h4, h5, h6]

/-- Settles O55: every unit that an instruction has spells it, and a fetch joins the unit before it to it. -/
theorem decodeOfEncode : Obligations.DecodeOfEncode := by
  unfold Obligations.DecodeOfEncode
  intro c u h
  obtain ⟨i, hg, hd⟩ := spells_of_encodeUnit h
  exact ⟨i, hg, hd, decodeFetch_of_decodeUnit hg hd⟩

end Sys2Proof.Proofs
end

section
/-!
PROOF. Arithmetic and logic, comparisons, predicates, bit fields and the reckoner (R134 to R139). Each of these instructions only writes
registers, so each clause is `issueRegs_writes` with an equation between what the model computes and what the rule names: the equations come
first, one per shared operation.
-/

namespace Sys2Proof.Proofs

open Sys2Proof.Machine Sys2Proof.Laws Sys2Proof.Safety Sys2Proof.Claims

/-- What an instruction writes is judged at the registers that its thread has. -/
theorem writes_of_issueRegs {s : State} {c : Instr} {i : Issue} {ok : Bool} {reads : List WReg} {f g : Regs → Regs}
    (h : Issues s i ok reads false) (he : exec c s = .next (issueRegs s i ok reads f))
    (hpc : ∀ r p, f { r with pc := p } = { f r with pc := p }) (hfg : f (regsOf s i.tid) = g (regsOf s i.tid)) : Writes s c i g := by
  obtain ⟨u, hu, hregs, hst, hframe⟩ := issueRegs_writes h he hpc
  exact ⟨u, hu, by rw [hregs, hfg], hst, hframe⟩

theorem immOf_eq_immediate (i : Issue) (short : Word) : immOf i short = immediate i short := rfl

/-! ## Additions and subtractions (R134) -/

theorem overflows_eq_outside16 (v : Int) : overflows v = outside16 v := by
  simp only [overflows, outside16, Bool.decide_or, gt_iff_lt]

theorem psCZNV_eq_flags4 (ps v : Word) (c o : Bool) : psCZNV ps v c o = flags4 ps c (decide (v = 0)) (v.getLsbD 15) o := by
  unfold psCZNV flags4
  rw [psCZN_eq_flags3]
  rfl

theorem ofNat_sum (x y : Word) (n : Nat) : BitVec.ofNat 16 (x.toNat + y.toNat + n) = x + y + BitVec.ofNat 16 n := by
  simp [BitVec.ofNat_add]

theorem withWPs_addWord (r : Regs) (d : WReg) (x y : Word) (c : Bool) :
    withWPs r d (addWord r.ps x y c).1 (addWord r.ps x y c).2 = sumTo r d x y c := by
  simp only [addWord, sumTo, psCZNV_eq_flags4, overflows_eq_outside16, ofNat_sum, ge_iff_le]

theorem withWPs_subWord (r : Regs) (d : WReg) (x y : Word) (c : Bool) :
    withWPs r d (subWord r.ps x y c).1 (subWord r.ps x y c).2 = diffTo r d x y c := by
  simp only [subWord, diffTo, psCZNV_eq_flags4, overflows_eq_outside16]

/-- Settles O1: the six forms are `addWord` and `subWord` at their operands and carries. -/
theorem additionsAndSubtractions : Obligations.AdditionsAndSubtractions := by
  unfold Obligations.AdditionsAndSubtractions
  intro s i d a b imm
  refine ⟨fun h => ⟨?_, ?_, ?_, ?_⟩, fun h => ?_, fun h => ?_⟩
  · exact writes_of_issueRegs h rfl (fun _ _ => rfl) (withWPs_addWord ..)
  · exact writes_of_issueRegs h rfl (fun _ _ => rfl) (withWPs_addWord ..)
  · exact writes_of_issueRegs h rfl (fun _ _ => rfl) (withWPs_subWord ..)
  · exact writes_of_issueRegs h rfl (fun _ _ => rfl) (withWPs_subWord ..)
  · exact writes_of_issueRegs h rfl (fun _ _ => rfl) (withWPs_subWord ..)
  · exact writes_of_issueRegs h rfl (fun _ _ => rfl) (withWPs_addWord ..)

/-! ## Logic, minima, moves and bit counts (R134) -/

theorem withWPs_logicWord (r : Regs) (d : WReg) (v : Word) :
    withWPs r d (logicWord r.ps v).1 (logicWord r.ps v).2 = logicTo r d v := by
  simp only [logicWord, psZN, logicTo, flags2, BitVec.msb_eq_getLsbD_last]

theorem rotateLeft_eight (x : Word) : x.rotateLeft 8 = x.extractLsb' 0 8 ++ x.extractLsb' 8 8 := by
  apply BitVec.eq_of_getLsbD_eq
  intro k hk
  simp only [BitVec.getLsbD_rotateLeft, BitVec.getLsbD_append, BitVec.getLsbD_extractLsb']
  by_cases h : k < 8
  · simp [h]
  · simp [h, hk]; omega

theorem popCount_eq_ones (x : Word) : popCount x = ones x := by
  unfold popCount ones
  rw [List.countP_eq_length_filter]

/-- The first place of 16 that satisfies a test. -/
theorem find_range_getD {p : Nat → Bool} {n : Nat} (hbelow : ∀ k, k < n → p k = false) (hat : n = 16 ∨ n < 16 ∧ p n = true) :
    ((List.range 16).find? p).getD 16 = n := by
  rcases hat with rfl | ⟨hn, hp⟩
  · rw [List.find?_eq_none.mpr (fun k hk => by simp [hbelow k (List.mem_range.mp hk)])]; rfl
  · rw [List.find?_range_eq_some.mpr ⟨hp, List.mem_range.mpr hn, fun j hj => by simp [hbelow j hj]⟩]; rfl

/-- Settles O2: the results are the model's, the counts by their first 1 bit. -/
theorem logicMinimaMovesAndCounts : Obligations.LogicMinimaMovesAndCounts := by
  unfold Obligations.LogicMinimaMovesAndCounts
  refine ⟨fun s i d a b imm => ⟨fun h => ⟨?_, ?_, ?_, ?_⟩, fun h => ?_, fun h => ⟨?_, ?_, ?_⟩⟩,
    fun s i d a b k => ⟨fun h => ⟨?_, ?_, ?_, ?_⟩, fun h => ⟨?_, ?_, ?_, fun n hbelow hat => ?_, fun n hbelow hat => ?_⟩, fun h => ?_⟩⟩
  iterate 8 exact writes_of_issueRegs h rfl (fun _ _ => rfl) (withWPs_logicWord ..)
  iterate 4
    refine writes_of_issueRegs h rfl (fun _ _ => rfl) (congrArg (withW _ d) ?_)
    dsimp only
    split <;> split <;> first | rfl | omega
  · exact writes_of_issueRegs h rfl (fun _ _ => rfl) rfl
  · exact writes_of_issueRegs h rfl (fun _ _ => rfl) (congrArg (withW _ d) (rotateLeft_eight _))
  · exact writes_of_issueRegs h rfl (fun _ _ => rfl) (congrArg (fun n => withW _ d (nw n)) (popCount_eq_ones _))
  · exact writes_of_issueRegs h rfl (fun _ _ => rfl) (congrArg (fun n => withW _ d (nw n)) (find_range_getD hbelow hat))
  · exact writes_of_issueRegs h rfl (fun _ _ => rfl) (congrArg (fun n => withW _ d (nw n)) (find_range_getD hbelow hat))
  · exact writes_of_issueRegs h rfl (fun _ _ => rfl) rfl

/-! ## Comparisons and predicates (R136, R137) -/

theorem condHolds_eq_compares (n : Nat) (x y : Word) : condHolds n x y = compares n x y := by
  match n with
  | 0 | 1 | 2 | 3 | 4 | 5 | 6 | 7 | 8 | 9 | 10 => rfl
  | _ + 11 => rfl

theorem predOf_eq_pred (r : Regs) (p : PReg) : predOf r p = pred r p := by
  unfold predOf pred
  split <;> simp [*]

/-- A word is the one whose bits are given. -/
theorem eq_of_hasBits {v w : Word} {f : Nat → Bool} (hv : HasBits v f) (hw : HasBits w f) : v = w :=
  BitVec.eq_of_getLsbD_eq fun k hk => (hv k hk).trans (hw k hk).symm

theorem setBit_getLsbD (w : Word) (n : Nat) {k : Nat} (hk : k < 16) : (setBit w n).getLsbD k = (w.getLsbD k || decide (n = k)) := by
  simp only [setBit, BitVec.getLsbD_or, BitVec.getLsbD_ofNat, Nat.testBit_two_pow, hk, decide_true, Bool.true_and]

theorem predWord_hasBits (r : Regs) : HasBits (predWord r) (predicateBit r) := by
  intro k hk
  have hstep (w : Word) (b : Bool) (n : Nat) : (if b then setBit w n else w).getLsbD k = (w.getLsbD k || (b && decide (n = k))) := by
    cases b <;> simp [setBit_getLsbD w n hk]
  have hone : (1 : Word).getLsbD k = decide (k = 0) := by
    rw [show (1 : Word) = 1#16 from rfl, BitVec.getLsbD_one]; simp
  simp only [predWord, show List.range 7 = [0, 1, 2, 3, 4, 5, 6] from rfl, List.foldl]
  simp only [Nat.reduceAdd, Nat.reduceLT, dif_pos, hstep, hone]
  interval_cases k <;> simp [predicateBit]

theorem unpackPreds_eq_predsFrom (r : Regs) (w : Word) : unpackPreds r w = predsFrom r w := rfl

theorem movsp_hasBits (ps w : Word) :
    HasBits ((ps &&& 0xFFC0) ||| (w &&& 0x003F)) (fun k => if k < 6 then w.getLsbD k else ps.getLsbD k) := by
  intro k hk
  have h1 : (0xFFC0 : Word).getLsbD k = decide (6 ≤ k) := by revert k; decide
  have h2 : (0x003F : Word).getLsbD k = decide (k < 6) := by revert k; decide
  simp only [BitVec.getLsbD_or, BitVec.getLsbD_and, h1, h2]
  by_cases h : k < 6
  · simp [h, Nat.not_le.mpr h]
  · simp [h, Nat.not_lt.mp h]

/-- Settles O4: conditions and predicates are the model's; a moved word is the one whose bits the rule gives. -/
theorem comparisonsAndPredicates : Obligations.ComparisonsAndPredicates := by
  unfold Obligations.ComparisonsAndPredicates
  intro s i pd pa pb a b w cond imm
  refine ⟨fun h => ?_, fun h => ?_, fun h => ⟨?_, ?_, ?_, ?_⟩, fun h => ?_, fun h => ?_, fun h => ⟨fun v hv => ?_, ?_⟩,
    fun h => ⟨?_, fun v hv => ?_⟩⟩
  iterate 2 exact writes_of_issueRegs h rfl (fun _ _ => rfl) (congrArg (withP _ pd) (condHolds_eq_compares ..))
  iterate 5 exact writes_of_issueRegs h rfl (fun _ _ => rfl) (congrArg (withP _ pd) (by simp only [predOf_eq_pred]))
  · exact writes_of_issueRegs h rfl (fun _ _ => rfl) rfl
  · exact writes_of_issueRegs h rfl (fun _ _ => rfl) (congrArg (withW _ w) (eq_of_hasBits (predWord_hasBits _) hv))
  · exact writes_of_issueRegs h rfl (fun _ _ => rfl) rfl
  · exact writes_of_issueRegs h rfl (fun _ _ => rfl) rfl
  · refine writes_of_issueRegs h rfl (fun _ _ => rfl) ?_
    exact congrArg (fun ps => { regsOf s i.tid with ps := ps }) (eq_of_hasBits (movsp_hasBits _ _) hv)

/-! ## Bit fields (R138) -/

theorem lowMask_getLsbD (n : Nat) {k : Nat} (hk : k < 16) : (lowMask n).getLsbD k = decide (k < n) := by
  rw [lowMask, BitVec.getLsbD_ofNat, Nat.testBit_two_pow_sub_one]
  simp [hk]

theorem extractBits_hasBits (x : Word) (p w : Nat) : HasBits (extractBits x p w) (fun k => decide (k < w) && x.getLsbD (p + k)) := by
  intro k hk
  rw [extractBits, BitVec.getLsbD_and, BitVec.getLsbD_ushiftRight, lowMask_getLsbD w hk, Bool.and_comm]

theorem insertBits_hasBits (y x : Word) (p w : Nat) :
    HasBits (insertBits y x p w) (fun k => if p ≤ k ∧ k < p + w then x.getLsbD (k - p) else y.getLsbD k) := by
  intro k hk
  simp only [insertBits, BitVec.getLsbD_or, BitVec.getLsbD_and, BitVec.getLsbD_not, BitVec.getLsbD_shiftLeft, hk, decide_true, Bool.true_and,
    lowMask_getLsbD w (show k - p < 16 by omega)]
  by_cases hp : k < p
  · simp [hp, Nat.not_le.mpr hp]
  · have hle : p ≤ k := Nat.not_lt.mp hp
    have hw : k - p < w ↔ k < p + w := by omega
    by_cases h : k < p + w <;> simp [hp, hle, hw, h]

theorem signedBits_hasBits (x : Word) {p w : Nat} (hw : w < 16) :
    HasBits (if (extractBits x p (w + 1)).getLsbD w then extractBits x p (w + 1) ||| ~~~lowMask (w + 1) else extractBits x p (w + 1))
      (fun k => x.getLsbD (p + min k w)) := by
  intro k hk
  have hbit {j : Nat} (hj : j < 16) := extractBits_hasBits x p (w + 1) j hj
  have hsign : (extractBits x p (w + 1)).getLsbD w = x.getLsbD (p + w) := by simp [hbit hw]
  rw [hsign]
  by_cases h : k < w + 1
  · have hm : min k w = k := by omega
    split <;> simp [hbit hk, lowMask_getLsbD _ hk, h, hm, -BitVec.getLsbD_eq_getElem]
  · have hm : min k w = w := by omega
    split <;> simp_all [hbit hk, lowMask_getLsbD _ hk, -BitVec.getLsbD_eq_getElem]

/-- Settles O5: each result has the bits that the rule gives. -/
theorem bitFields : Obligations.BitFields := by
  unfold Obligations.BitFields
  intro s i d a pos wm1 v w p x y
  refine ⟨fun h => ⟨fun hv => ?_, fun hv => ?_⟩, fun h hv => ?_, fun h hv => ?_, fun h hv => ?_⟩
  · exact writes_of_issueRegs h rfl (fun _ _ => rfl) (congrArg (withW _ d) (eq_of_hasBits (extractBits_hasBits _ _ _) hv))
  · exact writes_of_issueRegs h rfl (fun _ _ => rfl) (congrArg (withW _ d) (eq_of_hasBits (signedBits_hasBits _ wm1.isLt) hv))
  · exact writes_of_issueRegs h rfl (fun _ _ => rfl) (congrArg (withW _ d) (eq_of_hasBits (insertBits_hasBits _ _ _ _) hv))
  · refine writes_of_issueRegs h rfl (fun _ _ => rfl) (congrArg (withW _ d) (eq_of_hasBits ?_ hv))
    intro k hk
    dsimp only
    split
    · exact (extractBits_hasBits _ _ _ k hk).trans (by rw [Nat.add_comm])
    · exact (extractBits_hasBits _ _ _ k hk).trans (by dsimp only; rw [Nat.zero_add])
  · refine writes_of_issueRegs h rfl (fun _ _ => rfl) (congrArg (withW _ d) (eq_of_hasBits ?_ hv))
    intro k hk
    dsimp only
    split
    · refine (insertBits_hasBits _ _ _ _ k hk).trans (if_congr ?_ rfl rfl)
      omega
    · refine (insertBits_hasBits _ _ _ _ k hk).trans (if_congr ?_ rfl rfl)
      omega

/-! ## The reckoner (R139) -/

theorem mul_eq_ofNat (x y : Word) : x * y = BitVec.ofNat 16 (x.toNat * y.toNat) := by
  simp [BitVec.ofNat_mul]

theorem highHalf_ofNat (n : Nat) : (BitVec.ofNat 32 n).extractLsb' 16 16 = BitVec.ofNat 16 (n / 65536) := by
  apply BitVec.eq_of_toNat_eq
  rw [BitVec.extractLsb'_toNat, BitVec.toNat_ofNat, BitVec.toNat_ofNat, Nat.shiftRight_eq_div_pow]
  omega

theorem highHalf_ofInt (v : Int) : (BitVec.ofInt 32 v).extractLsb' 16 16 = BitVec.ofInt 16 (v / 65536) := by
  apply BitVec.eq_of_toNat_eq
  rw [BitVec.extractLsb'_toNat, BitVec.toNat_ofInt, BitVec.toNat_ofInt, Nat.shiftRight_eq_div_pow]
  omega

theorem lowWord_eq_ofInt (b : BitVec 40) : b.extractLsb' 0 16 = BitVec.ofInt 16 b.toInt := by
  apply BitVec.eq_of_toNat_eq
  rw [BitVec.extractLsb'_toNat, BitVec.toNat_ofInt, Nat.shiftRight_eq_div_pow, BitVec.toInt_eq_toNat_cond]
  have := b.isLt
  split <;> omega

theorem sshiftRight_toInt (b : BitVec 40) (n : Nat) : (b.sshiftRight n).toInt = b.toInt / 2 ^ n := by
  rw [BitVec.toInt_sshiftRight, Int.shiftRight_eq_div_pow]; norm_cast

theorem pair_signExtend (x y : Word) : (x ++ y).signExtend 40 = BitVec.ofInt 40 (x.toInt * 65536 + y.toNat) := by
  rw [BitVec.signExtend, BitVec.toInt_append]
  simp [Int.mul_comm]

/-- An accumulator with its AV bit: the model's two fields are those of `accTo`. -/
theorem setAcc_eq_accTo (r : Regs) (n : Bool) (v : BitVec 40) (fits : Bool) :
    { setAcc r n v with ps := if !fits then psBit r.ps (avBit n) true else r.ps } = accTo r n v fits := by
  cases n <;> cases fits <;> rfl

theorem accumRegs_signed (r : Regs) (n : Bool) (x y : Word) : accumRegs r n true x y = macSigned r n x y := by
  have hfit (v : Int) : (decide (v < -(2 ^ 39 : Nat)) || decide (v ≥ (2 ^ 39 : Nat))) = !decide (-(2 ^ 39) ≤ v ∧ v < 2 ^ 39) := by
    rw [← Bool.decide_or, ← decide_not]
    congr 1
    simp
    omega
  simp only [accumRegs, accumulate, if_true, hfit]
  exact setAcc_eq_accTo ..

theorem accumRegs_unsigned (r : Regs) (n : Bool) (x y : Word) : accumRegs r n false x y = macUnsigned r n x y := by
  have hfit (v : Nat) : decide (v ≥ 2 ^ 40) = !decide (v < 2 ^ 40) := by
    rw [← decide_not]
    exact decide_eq_decide.mpr Nat.not_lt.symm
  simp only [accumRegs, accumulate, Bool.false_eq_true, if_false, hfit]
  exact setAcc_eq_accTo ..

theorem clampRead_eq (b : BitVec 40) (n : Nat) :
    clampRead b n = (BitVec.ofInt 16 (max (-32768) (min 32767 (b.toInt / 2 ^ n))), outside16 (b.toInt / 2 ^ n)) := by
  unfold clampRead outside16
  rw [sshiftRight_toInt]
  generalize b.toInt / 2 ^ n = v
  dsimp only
  split
  · rw [min_eq_left (by omega), decide_eq_true (.inr (by omega))]; rfl
  · split
    · rw [min_eq_right (by omega), max_eq_left (by omega), decide_eq_true (.inl (by omega))]; rfl
    · rw [min_eq_right (by omega), max_eq_right (by omega), decide_eq_false (by omega)]

/-- Settles O6: products by their halves, accumulations by `accTo`, the clamped read by `clampRead_eq`. -/
theorem reckoner : Obligations.Reckoner := by
  unfold Obligations.Reckoner
  intro s i n d a b sh
  refine ⟨fun h => ⟨?_, ?_, ?_⟩, fun h => ?_, fun h => ⟨?_, ?_, ?_⟩, fun h => ⟨?_, ?_⟩⟩
  · exact writes_of_issueRegs h rfl (fun _ _ => rfl) (congrArg (withW _ d) (mul_eq_ofNat ..))
  · exact writes_of_issueRegs h rfl (fun _ _ => rfl) (congrArg (withW _ d) (highHalf_ofInt _))
  · exact writes_of_issueRegs h rfl (fun _ _ => rfl) (congrArg (withW _ d) (highHalf_ofNat _))
  · exact writes_of_issueRegs h rfl (fun _ _ => by cases n <;> rfl) (by cases n <;> rfl)
  · exact writes_of_issueRegs h rfl (fun _ _ => by cases n <;> rfl) (accumRegs_signed ..)
  · exact writes_of_issueRegs h rfl (fun _ _ => by cases n <;> rfl) (accumRegs_unsigned ..)
  · refine writes_of_issueRegs h rfl (fun _ _ => by cases n <;> rfl) ?_
    rw [pair_signExtend]
    cases n <;> rfl
  · refine writes_of_issueRegs h rfl (fun _ _ => by cases n <;> rfl) (congrArg (withW _ d) ?_)
    dsimp only
    rw [lowWord_eq_ofInt, sshiftRight_toInt]
    rfl
  · refine writes_of_issueRegs h rfl (fun _ _ => by cases n <;> rfl) ?_
    simp only [clampRead_eq]
    rfl

end Sys2Proof.Proofs
end

section
/-!
PROOF. Ill-formed instructions and false guards (R115, R127, R128). Every instruction that a unit spells is performed by the shared operation
`issue`, with the form that `formOk` tests: one lemma per reader, as for the encoding. What `issue` does with a bad form or a false guard is then
said once.
-/

namespace Sys2Proof.Proofs

open Sys2Proof.Machine Sys2Proof.Laws Sys2Proof.Safety Sys2Proof.Claims

/-- A command is an instruction of issue `i`: it is performed by `issue`, which tests its form. -/
def IssuedAs (i : Issue) (c : Instr) : Prop := ∀ s, ∃ reads br body, exec c s = .next (issue s i (formOk c) reads br body)

section
variable {i : Issue} {c : Instr} {ok : Bool} {reads : List WReg} {d : WReg}

theorem issuedAs_issue {reads : State → List WReg} {br : Bool} {body : State → State → Act}
    (he : ∀ s, exec c s = .next (issue s i ok (reads s) br (body s))) (hok : formOk c = ok) : IssuedAs i c := by
  subst hok
  exact fun s => ⟨_, _, _, he s⟩

theorem issuedAs_regs {f : Regs → Regs} (he : ∀ s, exec c s = .next (issueRegs s i ok reads f)) (hok : formOk c = ok) : IssuedAs i c :=
  issuedAs_issue (reads := fun _ => reads) (br := false) (body := fun _ u => .done (mapRegs u i.tid f) 1 []) he hok

theorem issuedAs_alu {f : Regs → Word × Word} (he : ∀ s, exec c s = .next (issueAlu s i ok d reads f)) (hok : formOk c = ok) : IssuedAs i c :=
  issuedAs_regs he hok

theorem issuedAs_w {f : Regs → Word} (he : ∀ s, exec c s = .next (issueW s i ok d reads f)) (hok : formOk c = ok) : IssuedAs i c :=
  issuedAs_regs he hok

theorem issuedAs_bkSet {f : Regs → Comb → Comb} (he : ∀ s, exec c s = .next (bkSet s i reads f)) (hok : formOk c = okPlain i) :
    IssuedAs i c := by
  unfold bkSet issueBk at he
  exact issuedAs_issue he hok

theorem issuedAs_bk {whileBusy : Bool} {body : State → Comb → Act} (he : ∀ s, exec c s = .next (issueBk s i ok reads whileBusy body))
    (hok : formOk c = ok) : IssuedAs i c := by
  unfold issueBk at he
  exact issuedAs_issue he hok

theorem issuedAs_dg {whileBusy : Bool} {body : State → Act} (he : ∀ s, exec c s = .next (issueDg s i ok reads whileBusy body))
    (hok : formOk c = ok) : IssuedAs i c := by
  unfold issueDg at he
  exact issuedAs_issue he hok

theorem issuedAs_span {x : XReg} {words : State → Nat} {start : State → Word → State}
    (he : ∀ s, exec c s = .next (issueSpan s i ok reads x words start)) (hok : formOk c = ok) : IssuedAs i c := by
  unfold issueSpan at he
  exact issuedAs_issue he hok

theorem issuedAs_in {p : State → Nat} (he : ∀ s, exec c s = .next (doIn s i d (p s))) (hok : formOk c = okPlain i) : IssuedAs i c := by
  unfold doIn at he
  exact issuedAs_issue (body := fun s u => inAct u i.tid d (p s)) he hok

theorem issuedAs_out {p : State → Nat} (he : ∀ s, exec c s = .next (doOut s i d (p s))) (hok : formOk c = okPlain i) : IssuedAs i c := by
  unfold doOut at he
  exact issuedAs_issue (body := fun s u => outAct u i.tid (p s) (regsOf u i.tid).w[d]) he hok

theorem issuedAs_string {o : StrOp} {pd : PReg} (he : ∀ s, exec c s = .next (doString s i ok o d pd)) (hok : formOk c = ok) :
    IssuedAs i c := by
  unfold doString at he
  exact issuedAs_issue he hok

theorem issuedAs_call {k : Word} {ext : Bool} (he : ∀ s, exec c s = .next (doCall s i k ext)) (hok : formOk c = okCall i) : IssuedAs i c := by
  unfold doCall at he
  exact issuedAs_issue he hok

theorem issuedAs_ret {mask : Word} {ext : Bool} (he : ∀ s, exec c s = .next (doRet s i mask ext)) (hok : formOk c = okPlain i) :
    IssuedAs i c := by
  unfold doRet at he
  exact issuedAs_issue he hok

end

theorem issuedAs_decodeR {i : Issue} {u : BitVec 32} {c : Instr} (h : decodeR i u = some c) : IssuedAs i c := by
  unfold decodeR at h
  dsimp only at h
  split at h
  · cases h
  split at h
  case h_13 | h_14 | h_15 | h_16 | h_17 | h_18 | h_19 => cases h; exact issuedAs_w (fun _ => rfl) rfl
  case h_20 =>
    split at h
    · cases h
    split at h
    case h_2 | h_3 => cases h; exact issuedAs_alu (fun _ => rfl) rfl
    case h_8 => cases h
    all_goals cases h; exact issuedAs_w (fun _ => rfl) rfl
  case h_21 => cases h
  all_goals cases h; exact issuedAs_alu (fun _ => rfl) rfl

theorem issuedAs_decodeK {i : Issue} {u : BitVec 32} {c : Instr} (h : decodeK i u = some c) : IssuedAs i c := by
  unfold decodeK at h
  dsimp only at h
  split at h
  · cases h
  split at h
  · cases h; exact issuedAs_w (fun _ => rfl) rfl
  · cases h; exact issuedAs_issue (fun _ => rfl) rfl
  · cases h; exact issuedAs_in (fun _ => rfl) rfl
  · cases h; exact issuedAs_out (fun _ => rfl) rfl
  · cases h; exact issuedAs_issue (fun _ => rfl) rfl
  · split at h
    · cases h
    split at h
    case h_4 | h_5 => cases h; exact issuedAs_call (fun _ => rfl) rfl
    case h_6 | h_7 => cases h; exact issuedAs_ret (fun _ => rfl) rfl
    case h_8 => cases h
    all_goals cases h; exact issuedAs_issue (fun _ => rfl) rfl

theorem issuedAs_decodeSF {i : Issue} {u : BitVec 32} {c : Instr} (h : decodeSF i u = some c) : IssuedAs i c := by
  unfold decodeSF at h
  dsimp only at h
  split at h
  · split at h
    · cases h
    split at h
    all_goals cases h; exact issuedAs_alu (fun _ => rfl) rfl
  · split at h
    case h_6 => cases h
    all_goals cases h; exact issuedAs_w (fun _ => rfl) rfl

theorem issuedAs_decodeAcc {i : Issue} {u : BitVec 32} {c : Instr} (h : decodeAcc i u = some c) : IssuedAs i c := by
  unfold decodeAcc at h
  dsimp only at h
  split at h
  · split at h
    · cases h
    · cases h; exact issuedAs_issue (fun _ => rfl) rfl
  · split at h
    case h_4 => cases h; exact issuedAs_w (fun _ => rfl) rfl
    case h_5 => cases h; exact issuedAs_alu (fun _ => rfl) rfl
    case h_7 => cases h
    all_goals cases h; exact issuedAs_regs (fun _ => rfl) rfl

theorem issuedAs_decodeP {i : Issue} {u : BitVec 32} {c : Instr} (h : decodeP i u = some c) : IssuedAs i c := by
  unfold decodeP at h
  dsimp only at h
  split at h
  · cases h
  split at h
  case h_7 | h_9 => cases h; exact issuedAs_w (fun _ => rfl) rfl
  case h_11 => cases h
  all_goals cases h; exact issuedAs_regs (fun _ => rfl) rfl

theorem issuedAs_decodeXS {i : Issue} {u : BitVec 32} {c : Instr} (h : decodeXS i u = some c) : IssuedAs i c := by
  unfold decodeXS at h
  dsimp only at h
  split at h
  · split at h
    · cases h
    split at h
    case h_2 | h_6 => cases h; exact issuedAs_w (fun _ => rfl) rfl
    case h_7 => cases h
    all_goals cases h; exact issuedAs_regs (fun _ => rfl) rfl
  · split at h
    · cases h
    split at h
    case h_5 => cases h
    all_goals cases h; exact issuedAs_string (fun _ => rfl) rfl

theorem issuedAs_decodeSys {i : Issue} {u : BitVec 32} {c : Instr} (h : decodeSys i u = some c) : IssuedAs i c := by
  unfold decodeSys at h
  dsimp only at h
  split at h
  · split at h
    · cases h
    · cases h; exact issuedAs_issue (fun _ => rfl) rfl
  · split at h
    · cases h
    split at h
    case h_3 => cases h
    all_goals cases h; exact issuedAs_issue (fun _ => rfl) rfl
  · split at h
    · cases h
    split at h
    · cases h; exact issuedAs_issue (fun _ => rfl) rfl
    · split at h
      · cases h; exact issuedAs_issue (fun _ => rfl) rfl
      · cases h
    · split at h
      · cases h
      · cases h; exact issuedAs_in (fun _ => rfl) rfl
    · split at h
      · cases h
      · cases h; exact issuedAs_out (fun _ => rfl) rfl
    · cases h

theorem issuedAs_decodeUnitOp {i : Issue} {u : BitVec 32} {c : Instr} (h : decodeUnitOp i u = some c) : IssuedAs i c := by
  unfold decodeUnitOp at h
  dsimp only at h
  split at h
  case h_19 => cases h
  all_goals
    split at h
    case isFalse => cases h
  case h_8 | h_9 => cases h; exact issuedAs_span (fun _ => rfl) rfl
  case h_16 | h_17 | h_18 => cases h; exact issuedAs_bk (fun _ => rfl) rfl
  case h_10 | h_11 | h_12 | h_13 | h_14 | h_15 => cases h; exact issuedAs_bkSet (fun _ => rfl) rfl
  all_goals cases h; exact issuedAs_dg (fun _ => rfl) rfl

theorem issuedAs_decodeUnit {i : Issue} {u : BitVec 32} {c : Instr} (h : decodeUnit i u = some c) : IssuedAs i c := by
  unfold decodeUnit at h
  split at h
  case h_1 | h_2 | h_3 => exact issuedAs_decodeR h
  case h_4 =>
    split at h
    · cases h
    · cases h; exact issuedAs_regs (fun _ => rfl) rfl
  case h_5 | h_6 | h_7 | h_8 => cases h; exact issuedAs_alu (fun _ => rfl) rfl
  case h_9 => cases h; exact issuedAs_regs (fun _ => rfl) rfl
  case h_10 | h_11 => exact issuedAs_decodeSF h
  case h_12 | h_13 => exact issuedAs_decodeAcc h
  case h_14 => exact issuedAs_decodeP h
  case h_15 | h_16 => cases h; exact issuedAs_issue (fun _ => rfl) rfl
  case h_17 => cases h; exact issuedAs_regs (fun _ => rfl) rfl
  case h_18 | h_19 => exact issuedAs_decodeXS h
  case h_20 | h_21 | h_22 | h_23 | h_24 | h_25 => exact issuedAs_decodeSys h
  case h_26 | h_27 | h_28 => exact issuedAs_decodeUnitOp h
  case h_41 => cases h
  all_goals exact issuedAs_decodeK h

/-! ## What `issue` does with a bad form and with a false guard -/

/-- The PC rule of address 0xFFFF excuses only branches, so what it allows without the excuse it allows. -/
theorem badEnd_of_not_branch {i : Issue} {pc : Word} (br : Bool) (h : badEnd i pc false = false) : badEnd i pc br = false := by
  simp only [badEnd, Bool.false_and, Bool.not_false, Bool.and_true] at h
  simp only [badEnd, h, Bool.false_and]

/-- An instruction that reaches its form and its guard: its thread runs, no breakpoint stops it, and its units can be fetched. -/
theorem issue_reached {s : State} {i : Issue} {ok : Bool} {reads : List WReg} {br : Bool} (body : State → Act)
    (hst : (getT s i.tid).st = .active ∨ (getT s i.tid).st = .stalled) (hb : breakHit s i.tid = false)
    (hf : (fetchPoison s i.tid (regsOf s i.tid).pc.toNat ||
      (decide (unitsOf i = 2) && fetchPoison s i.tid ((regsOf s i.tid).pc + 1).toNat)) = false) :
    let u := if (getT s i.tid).st = .stalled then setSt s i.tid .active else s
    ((ok = false ∨ badEnd i (regsOf s i.tid).pc br = true) →
      issue s i ok reads br body = faultAt u i.tid 1 (regsOf s i.tid).pc 0 (unitsOf i)) ∧
    (ok = true → badEnd i (regsOf s i.tid).pc br = false → guardTrue (regsOf s i.tid) i.guard = false →
      issue s i ok reads br body = afterCommit (advance u i.tid (unitsOf i)) i.tid 1 []) := by
  have hu (u : State) (hu : u = s ∨ u = setSt s i.tid .active) (a : Nat) : fetchPoison u i.tid a = fetchPoison s i.tid a := by
    obtain rfl | rfl := hu
    · rfl
    · have hs : thrSlot (setSt s i.tid .active) i.tid = thrSlot s i.tid := by
        unfold thrSlot
        rw [item_setSt]
        rfl
      unfold fetchPoison thrImage
      rw [hs]
      rfl
  have hr : ¬((getT s i.tid).st ≠ .active ∧ (getT s i.tid).st ≠ .stalled) := by
    rcases hst with h | h <;> simp [h]
  intro u
  have hp := hu u (by dsimp only [u]; split <;> simp)
  unfold issue
  simp only [hr, hb, if_false, Bool.false_eq_true]
  rw [show (if (getT s i.tid).st = .stalled then setSt s i.tid .active else s) = u from rfl]
  simp only [hp]
  rw [if_neg (by simpa [regsOf] using hf)]
  refine ⟨fun h => if_pos ?_, fun h1 h2 h3 => ?_⟩
  · rcases h with h | h <;> simp_all [regsOf]
  · rw [if_neg (by simp_all [regsOf]), if_pos (by simp_all [regsOf])]

/-- Settles O57, by `issue_reached` at the form of the instruction. -/
theorem illegalFormsAndFalseGuards : Obligations.IllegalFormsAndFalseGuards := by
  unfold Obligations.IllegalFormsAndFalseGuards
  intro s i v c hc r u hst hb hf
  obtain ⟨reads, br, body, he⟩ := issuedAs_decodeUnit hc s
  obtain ⟨hbad, hguard⟩ := issue_reached (ok := formOk c) (reads := reads) (br := br) body hst hb hf
  rw [he]
  exact ⟨fun h => congrArg _ (hbad (.inl h)), fun h1 h2 h3 => congrArg _ (hguard h1 (badEnd_of_not_branch br h2) h3)⟩

end Sys2Proof.Proofs
end

section
/-!
PROOF. Loads and stores (R142). The address and the pointer that the model computes are those of `Claims.address` and `Claims.pointerAfter`; an
instruction that issues then does what its body says (`Laws.issue_issues`). What a commit leaves alone is stated once, for every instruction.
-/

namespace Sys2Proof.Proofs

open Sys2Proof.Machine Sys2Proof.Laws Sys2Proof.Safety Sys2Proof.Claims

/-! ## An instruction that issues, by what its body answers -/

section
variable {s : State} {i : Issue} {ok : Bool} {reads : List WReg} {br : Bool} {body : State → Act}

theorem issue_faults {cause : Nat} {a : Word} (h : Issues s i ok reads br) (hb : body (ready s i) = .fault cause a) :
    issue s i ok reads br body = faultAt (start s i) i.tid cause (regsOf s i.tid).pc a (unitsOf i) := by
  rw [issue_issues body h, hb]
  rfl

theorem issue_stalls (h : Issues s i ok reads br) (hb : body (ready s i) = .stall) :
    issue s i ok reads br body = setSt (start s i) i.tid .stalled := by
  rw [issue_issues body h, hb]
  rfl

theorem issue_sleeps {v : State} (h : Issues s i ok reads br) (hb : body (ready s i) = .sleep v) :
    issue s i ok reads br body = setSt (setPc v i.tid (regsOf s i.tid).pc) i.tid .waiting := by
  rw [issue_issues body h, hb]

end

/-! ## Loads and stores: effect, faults and stall -/

theorem memAddr_eq (i : Issue) (r : Regs) (x : XReg) (mode : BitVec 2) (off : BitVec 13) :
    memAddr i r x mode off = (address i r x mode off, pointerAfter r x mode) := by
  have h : mode = 0 ∨ mode = 1 ∨ mode = 2 ∨ mode = 3 := by bv_omega
  rcases h with rfl | rfl | rfl | rfl <;> rfl

/-- A word as a 16-bit number is itself. -/
@[simp] theorem nw_toNat (w : Word) : nw w.toNat = w := by simp [nw]

section
variable {u : State} {t a : Nat}

/-- A read that is allowed, present and sound hands its word on. -/
theorem checkRead_of_reads (h : Reads u t a) (k : Word → Act) : checkRead u t a k = k (readW u t a) := by
  obtain ⟨hr, hw, hp⟩ := h
  simp [checkRead, hr, hw, hp]

theorem checkRead_denied (h : readable u t a = false) (k : Word → Act) : checkRead u t a k = .fault 3 (nw a) := by
  simp [checkRead, h]

theorem checkRead_awaited (h : readable u t a = true) (hw : waitsSlot u t a = true) (k : Word → Act) : checkRead u t a k = .stall := by
  simp [checkRead, h, hw]

theorem checkRead_poisoned (h : readable u t a = true) (hw : waitsSlot u t a = false) (hp : poisonedW u t a = true) (k : Word → Act) :
    checkRead u t a k = .fault 9 (nw a) := by
  simp [checkRead, h, hw, hp]

end

/-- Settles O7, by the cases of `checkRead` and of the right to write. -/
theorem loadsAndStores : Obligations.LoadsAndStores := by
  unfold Obligations.LoadsAndStores
  intro s i d x mode off u r a
  have hm : memAddr i r x mode off = (a, pointerAfter r x mode) := memAddr_eq i r x mode off
  refine ⟨fun h => ⟨fun hr => ?_, fun hr => ?_, fun hr hw => ?_, fun hr hw hp => ?_⟩, fun h => ⟨fun hw => ?_, fun hw => ?_⟩⟩
  · refine congrArg Host.Outcome.next (issue_commits h ?_)
    rw [hm, checkRead_of_reads hr]
  · refine congrArg Host.Outcome.next (issue_faults h ?_)
    rw [hm, checkRead_denied hr, nw_toNat]
  · refine congrArg Host.Outcome.next (issue_stalls h ?_)
    rw [hm, checkRead_awaited hr hw]
  · refine congrArg Host.Outcome.next (issue_faults h ?_)
    rw [hm, checkRead_poisoned hr hw hp, nw_toNat]
  · refine congrArg Host.Outcome.next (issue_commits h ?_)
    rw [hm]
    exact if_neg (by simp [hw, u])
  · refine congrArg Host.Outcome.next (issue_faults h ?_)
    rw [hm]
    exact if_pos (by simp [hw, u])

/-! ## What records, commits and stores leave alone -/

/-- The registers of the package's identity and of its clocks, which stand before all others. -/
def clockRegs (m : Map (BitVec 80)) : Map (BitVec 80) := m.filter (fun e => decide (e.1 < 4 * 8 * 8 * 1048576))

theorem clockRegs_cons (e : Nat × BitVec 80) (m : Map (BitVec 80)) :
    clockRegs (e :: m) = if e.1 < 4 * 8 * 8 * 1048576 then e :: clockRegs m else clockRegs m := by
  unfold clockRegs
  rw [List.filter_cons]
  simp only [decide_eq_true_eq]

theorem clockRegs_kset {m : Map (BitVec 80)} {k : Nat} (h : 4 * 8 * 8 * 1048576 ≤ k) (v d : BitVec 80) :
    clockRegs (kset m k v d) = clockRegs m := by
  have del : clockRegs (kdel m k) = clockRegs m := by
    induction m with
    | nil => rfl
    | cons e m ih =>
      by_cases hk : k = e.1
      · rw [kdel, if_pos hk, ih, clockRegs_cons, if_neg (by omega)]
      · rw [kdel, if_neg hk, clockRegs_cons, clockRegs_cons, ih]
  have put (m : Map (BitVec 80)) : clockRegs (kput m k v) = clockRegs m := by
    induction m with
    | nil => rw [kput, clockRegs_cons, if_neg (Nat.not_lt.mpr h)]
    | cons e m ih =>
      by_cases hk : k < e.1
      · rw [kput, if_pos hk, clockRegs_cons, if_neg (Nat.not_lt.mpr h)]
      · rw [kput, if_neg hk, clockRegs_cons, clockRegs_cons, ih]
  unfold kset
  split
  · exact del
  · exact (put _).trans del

/-- A register behind those of the clocks is written beside them, whatever its die and index. -/
theorem clockRegs_setRS (s : State) {r : RegName} (h : 4 ≤ r.ctorIdx) (d sl i v : Nat) :
    clockRegs (setRS s r d sl i v).regs = clockRegs s.regs :=
  clockRegs_kset (by unfold rkey; omega) _ _

theorem kget_clockRegs (m : Map (BitVec 80)) {k : Nat} (h : k < 4 * 8 * 8 * 1048576) (d : BitVec 80) :
    kget (clockRegs m) k d = kget m k d := by
  induction m with
  | nil => rfl
  | cons e m ih =>
    rw [clockRegs_cons]
    split
    · rw [kget, kget, ih]
    · rw [ih, kget, if_neg (by omega)]

/-- The state without what a record or a notification may change: registers behind those of the clocks, sessions and the recorder. -/
def unrecorded (s : State) : State :=
  { s with regs := clockRegs s.regs, kpr := { s.kpr with sessions := [] }, log := State.reset.log }

theorem unrecorded_setRS (s : State) {r : RegName} (h : 4 ≤ r.ctorIdx) (d sl i v : Nat) : unrecorded (setRS s r d sl i v) = unrecorded s :=
  congrArg (fun m => { s with regs := m, kpr := { s.kpr with sessions := [] }, log := State.reset.log }) (clockRegs_setRS s h d sl i v)

theorem unrecorded_cnt (s : State) {r : RegName} (h : 4 ≤ r.ctorIdx) (d i : Nat) : unrecorded (cnt s r d i) = unrecorded s :=
  unrecorded_setRS s h d 7 i _

theorem unrecorded_log (s : State) (l : RecS) : unrecorded { s with log := l } = unrecorded s := rfl

theorem unrecorded_noteTo (s : State) (i : Nat) (c : Word) (ws : List Word) : unrecorded (noteTo s i c ws) = unrecorded s := by
  unfold noteTo
  split
  · rfl
  · split
    · exact unrecorded_cnt s (by decide) _ _
    · rfl

theorem unrecorded_notifyWhere (s : State) (sel : Session → Bool) (c : Word) (ws : List Word) :
    unrecorded (notifyWhere s sel c ws) = unrecorded s := by
  unfold notifyWhere
  split
  · rfl
  · refine foldl_keeps unrecorded (fun s i => ?_) _ _
    split
    · split
      · exact unrecorded_noteTo ..
      · rfl
    · rfl

theorem unrecorded_logRecord (s : State) (r : Rec) : unrecorded (logRecord s r) = unrecorded s := by
  have offer (s : State) (r : Rec) : unrecorded (offerRecord s r) = unrecorded s := by
    unfold offerRecord
    dsimp only
    split
    · exact unrecorded_notifyWhere ..
    · exact (unrecorded_notifyWhere ..).trans (unrecorded_notifyWhere ..)
  have count (l : RecS) : unrecorded (cnt { s with log := l } .recCntNotrec s.pkg.lead 0) = unrecorded s :=
    unrecorded_cnt { s with log := l } (by decide) _ _
  unfold logRecord
  rw [offer]
  split
  · exact count _
  · split
    · exact count _
    · rfl

/-- A record changes registers, sessions and the recorder alone (R440 to R445). -/
theorem unrecorded_recordF (s : State) (cls d : Nat) (code src : Word) (ws : List Word) :
    unrecorded (recordF s cls d code src ws) = unrecorded s := by
  have keep (s : State) (r : Rec) : unrecorded (keepRecord s d r) = unrecorded s := by
    unfold keepRecord
    split
    · exact unrecorded_logRecord s r
    · split
      · exact unrecorded_cnt { s with log := _ } (by decide) _ _
      · rfl
  have bucket (b : RateBucket) : unrecorded (setRateBucket s d code b) = unrecorded s := rfl
  unfold recordF
  dsimp only
  split
  · exact (keep ..).trans (bucket _)
  · split
    · exact (unrecorded_cnt _ (by decide) _ _).trans (bucket _)
    · exact (keep ..).trans (bucket _)

theorem unrecorded_record (s : State) (d : Nat) (code src : Word) (ws : List Word) : unrecorded (record s d code src ws) = unrecorded s :=
  unrecorded_recordF ..

@[simp] theorem record_core (s : State) (d : Nat) (code src : Word) (ws : List Word) : (record s d code src ws).core = s.core :=
  (congrArg State.core (unrecorded_record s d code src ws) :)

@[simp] theorem record_path (s : State) (d : Nat) (code src : Word) (ws : List Word) : (record s d code src ws).path = s.path :=
  (congrArg State.path (unrecorded_record s d code src ws) :)

/-- A state has the words, the frames and the threads' registers of another. -/
structure SameData (u v : State) : Prop where
  mem : u.core.mem = v.core.mem
  frames : u.path.frames = v.path.frames
  regs : ∀ t, regsOf u t = regsOf v t

theorem SameData.trans {u v w : State} (h : SameData u v) (h' : SameData v w) : SameData u w :=
  ⟨h.mem.trans h'.mem, h.frames.trans h'.frames, fun t => (h.regs t).trans (h'.regs t)⟩

theorem SameData.memAt {u v : State} (h : SameData u v) (b : Nat) : memAt u b = memAt v b := by
  unfold Machine.memAt
  rw [h.mem]

theorem SameData.byteAt {u v : State} (h : SameData u v) (f k : Nat) : byteAt u f k = byteAt v f k := by
  unfold Claims.byteAt getFrame
  rw [h.frames]

/-- A thread changed in all but its registers. -/
theorem sameData_modT (s : State) (t : Nat) {f : Thread → Thread} (hf : ∀ x, (f x).regs = x.regs) : SameData (modT s t f) s := by
  refine ⟨rfl, rfl, fun k => ?_⟩
  unfold regsOf
  by_cases h : k = t
  · rw [h, getT_modT_same, hf]
  · rw [getT_modT_ne _ _ _ _ h]

theorem sameData_haltThread (s : State) (t : Nat) : SameData (haltThread s t) s := by
  unfold haltThread setSt
  exact SameData.trans (sameData_modT _ t fun _ => rfl) (sameData_modT s t fun _ => rfl)

theorem sameData_record (s : State) (d : Nat) (code src : Word) (ws : List Word) : SameData (record s d code src ws) s :=
  ⟨by rw [record_core], by rw [record_path], fun t => by unfold regsOf getT; rw [record_core]⟩

/-- A commit leaves the words, the frames and the registers as its instruction has left them. -/
theorem sameData_commits (u : State) (i : Issue) (n : Nat) (accs : List (Nat × Bool)) : SameData (commits u i n accs) u := by
  have hcnt (s : State) : SameData (cntN s .cellCntIssue (thrDie i.tid) (cellInst (thrCell i.tid)) n) s := ⟨rfl, rfl, fun _ => rfl⟩
  unfold commits afterCommit
  dsimp only
  split
  · exact hcnt u
  · split
    · exact (sameData_record ..).trans ((sameData_haltThread ..).trans (hcnt u))
    · split
      · exact (sameData_haltThread ..).trans (hcnt u)
      · exact hcnt u

theorem memAt_mapRegs (s : State) (t : Nat) (f : Regs → Regs) (b : Nat) : memAt (mapRegs s t f) b = memAt s b := rfl
theorem byteAt_mapRegs (s : State) (t : Nat) (g : Regs → Regs) (f k : Nat) : byteAt (mapRegs s t g) f k = byteAt s f k := rfl
theorem byteAt_setMem (s : State) (a : Nat) (v : Word) (f k : Nat) : byteAt (setMem s a v) f k = byteAt s f k := rfl
theorem memAt_ready (s : State) (i : Issue) (b : Nat) : memAt (ready s i) b = memAt s b := by rw [ready_parts]; rfl
theorem byteAt_ready (s : State) (i : Issue) (f k : Nat) : byteAt (ready s i) f k = byteAt s f k := by rw [ready_parts]; rfl

/-! ## What loads and stores leave alone -/

theorem threads_writeW (s : State) (t a : Nat) (v : Word) : (writeW s t a v).core.threads = s.core.threads := by
  unfold writeW
  split
  · split
    · rw [modFrame_core]
    · rfl
  · rfl

theorem regsOf_writeW (s : State) (t a : Nat) (v : Word) (k : Nat) : regsOf (writeW s t a v) k = regsOf s k := by
  unfold regsOf getT
  rw [threads_writeW]

/-- A store outside the packet window writes the one word at its flat address. -/
theorem writeW_outside {a : Nat} (h : ¬(0x1000 ≤ a ∧ a < 0x1800)) (s : State) (t : Nat) (v : Word) :
    writeW s t a v = setMem s (flatAddr s t a) v := if_neg h

/-- A thread whose window may be accessed holds a packet, whose frame exists. -/
theorem item_of_thrFrame {s : State} {t : Nat} {f : Frame} (h : thrFrame s t = some f) :
    ∃ it, (getT s t).item = some it ∧ getFrame s it.frame = some f := by
  unfold thrFrame at h
  split at h
  · next it hit =>
    split at h
    · exact ⟨it, hit, h⟩
    · cases h
  · cases h

/-- The two bytes of window word `n`, high byte first. -/
def storeBytes (n : Nat) (v : Word) (f : Frame) : Frame :=
  setFrameByte (setFrameByte f (2 * n) (v.extractLsb' 8 8)) (2 * n + 1) (v.extractLsb' 0 8)

theorem frameByte_storeBytes (n : Nat) (v : Word) (f : Frame) :
    frameByte (storeBytes n v f) (2 * n) = v.extractLsb' 8 8 ∧ frameByte (storeBytes n v f) (2 * n + 1) = v.extractLsb' 0 8 ∧
      ∀ k, k / 2 ≠ n → frameByte (storeBytes n v f) k = frameByte f k := by
  unfold storeBytes frameByte setFrameByte
  refine ⟨?_, kget_kset_same .., fun k hk => ?_⟩
  · exact (kget_kset_ne _ _ _ _ _ _ (by omega)).trans (kget_kset_same ..)
  · exact (kget_kset_ne _ _ _ _ _ _ (by omega)).trans (kget_kset_ne _ _ _ _ _ _ (by omega))

/-- A store into the packet window writes the two bytes of its word. -/
theorem writeW_window {s : State} {t a : Nat} {it : Item} {f : Frame} (h : 0x1000 ≤ a ∧ a < 0x1800) (hit : (getT s t).item = some it)
    (hf : getFrame s it.frame = some f) (v : Word) : writeW s t a v = setFrame s it.frame (some (storeBytes (a - 0x1000) v f)) := by
  unfold writeW
  simp only [h, and_self, if_true, hit, modFrame, hf]
  rfl

theorem thrFrame_of_writable {s : State} {t a : Nat} (h : 0x1000 ≤ a ∧ a < 0x1800) (hw : writable s t a = true) : ∃ f, thrFrame s t = some f := by
  unfold writable at hw
  rw [if_neg (by omega), if_pos h.2] at hw
  split at hw
  · next f hf => exact ⟨f, hf⟩
  · cases hw

theorem memAt_writeW_ne {s : State} {t a b : Nat} (v : Word) (h : b ≠ flatAddr s t a ∨ 0x1000 ≤ a ∧ a < 0x1800) :
    memAt (writeW s t a v) b = memAt s b := by
  by_cases hw : 0x1000 ≤ a ∧ a < 0x1800
  · have hc : (writeW s t a v).core = s.core := by
      unfold writeW
      rw [if_pos hw]
      split
      · exact modFrame_core ..
      · rfl
    unfold memAt
    rw [hc]
  · rw [writeW_outside hw]
    exact memAt_setMem_ne _ _ _ _ (h.resolve_right hw)

/-- A register file written at `d`, read elsewhere. -/
theorem getElem_set_other {α : Type} {n : Nat} (v : Vector α n) (w : α) {d e : Fin n} (h : e ≠ d) : (v.set d w)[e] = v[e] :=
  Vector.getElem_set_ne d.isLt e.isLt (Fin.val_ne_of_ne h.symm)

/-- Settles O8: the effect is that of O7, and a commit leaves it as it is (`sameData_commits`). -/
theorem loadAndStoreFrames : Obligations.LoadAndStoreFrames := by
  unfold Obligations.LoadAndStoreFrames
  intro s u i d x mode off r a
  obtain ⟨hload, hstore⟩ := loadsAndStores s i d x mode off
  refine ⟨fun h hr he => ?_, fun h hw he => ?_⟩
  · obtain ⟨hld, -⟩ := hload h
    have hd : SameData u _ := Host.Outcome.next.inj (he.symm.trans (hld hr)) ▸ sameData_commits _ i 1 _
    have hmem := hd.memAt
    have hbytes := hd.byteAt
    have hregs := hd.regs i.tid
    simp only [setW, setX, regsOf_mapRegs, memAt_mapRegs, byteAt_mapRegs, memAt_ready, byteAt_ready] at hregs hmem hbytes
    refine ⟨hmem, hbytes, ?_⟩
    rw [hregs]
    refine ⟨fun e hne => ?_, fun e hne => ?_, rfl, rfl, rfl, rfl, rfl⟩
    · exact getElem_set_other _ _ hne
    · exact getElem_set_other _ _ hne
  · obtain ⟨hst, -⟩ := hstore h
    have hd : SameData u _ := Host.Outcome.next.inj (he.symm.trans (hst hw)) ▸ sameData_commits _ i 1 _
    have hmem := hd.memAt
    have hbytes := hd.byteAt
    have hregs := hd.regs i.tid
    simp only [setX, regsOf_mapRegs, regsOf_writeW, memAt_mapRegs, byteAt_mapRegs] at hregs hmem hbytes
    have hitem : (getT (ready s i) i.tid).item = (getT s i.tid).item := by rw [ready_thread]
    refine ⟨fun b hb => ?_, fun hout => ?_, fun it hit hin => ?_, by rw [hregs], ?_⟩
    · rw [hmem, memAt_writeW_ne _ hb, memAt_ready]
    · rw [hmem, writeW_outside hout]
      refine ⟨memAt_setMem_same .., fun f k => ?_⟩
      rw [hbytes, writeW_outside hout, byteAt_setMem, byteAt_ready]
    · obtain ⟨f, hf⟩ := thrFrame_of_writable hin hw
      obtain ⟨it', hit', hfr⟩ := item_of_thrFrame hf
      obtain rfl : it' = it := Option.some.inj ((hit'.symm.trans hitem).trans hit)
      obtain ⟨hhigh, hlow, hrest⟩ := frameByte_storeBytes (a - 0x1000) r.w[d] f
      have hstored (g k : Nat) := (hbytes g k).trans (congrArg (fun v => byteAt v g k) (writeW_window hin hit' hfr r.w[d]))
      refine ⟨?_, ?_, fun g k hk => ?_⟩
      · rw [hstored, byteAt, getFrame_setFrame_same, Option.map_some, hhigh]
      · rw [hstored, byteAt, getFrame_setFrame_same, Option.map_some, hlow]
      · rw [hstored, ← byteAt_ready s i]
        unfold byteAt
        by_cases hg : g = it'.frame
        · rw [hg, getFrame_setFrame_same, hfr, Option.map_some, Option.map_some, hrest k fun hk' => hk ⟨hg, hk'⟩]
        · rw [getFrame_setFrame_ne _ _ _ _ hg]
    · rw [hregs]
      exact ⟨fun e hne => getElem_set_other _ _ hne, rfl, rfl, rfl, rfl, rfl⟩

end Sys2Proof.Proofs
end

section
/-!
PROOF. The stack, calls and returns (R144, R146). Pushing and popping each succeed or fault under conditions that are stated once, for every frame;
an instruction then fixes the frame.
-/

namespace Sys2Proof.Proofs

open Sys2Proof.Machine Sys2Proof.Laws Sys2Proof.Safety Sys2Proof.Claims

/-! ## Writes of one thread, one after another -/

theorem kdel_kput {α : Type} (m : Map α) (k : Nat) (v : α) : kdel (kput m k v) k = kdel m k := by
  induction m with
  | nil => simp [kput, kdel]
  | cons e m ih =>
    obtain ⟨k', w⟩ := e
    by_cases hlt : k < k'
    · simp [kput, kdel, hlt]
    · by_cases hk : k = k'
      · subst hk
        simp [kput, kdel, ih]
      · simp [kput, kdel, hlt, hk, ih]

theorem kdel_kdel {α : Type} (m : Map α) (k : Nat) : kdel (kdel m k) k = kdel m k := by
  induction m with
  | nil => rfl
  | cons e m ih =>
    obtain ⟨k', w⟩ := e
    by_cases hk : k = k' <;> simp [kdel, hk]
    · simpa [hk] using ih
    · exact ih

/-- The last of two writes to a key counts. -/
theorem kset_kset {α : Type} [DecidableEq α] (m : Map α) (k : Nat) (v w d : α) : kset (kset m k v d) k w d = kset m k w d := by
  have h : kdel (kset m k v d) k = kdel m k := by
    unfold kset
    split <;> simp [kdel_kput, kdel_kdel]
  unfold kset at h ⊢
  rw [h]

theorem mapRegs_mapRegs (s : State) (t : Nat) (f g : Regs → Regs) : mapRegs (mapRegs s t f) t g = mapRegs s t (fun r => g (f r)) := by
  simp only [mapRegs, modT, getT_setT_same]
  simp only [setT, kset_kset]

/-- A change of registers is settled by what they become. -/
theorem mapRegs_eq {s : State} {t : Nat} {f : Regs → Regs} {r : Regs} (h : f (regsOf s t) = r) : mapRegs s t f = mapRegs s t fun _ => r := by
  subst h
  rfl

/-! ## Spans -/

theorem spanAccs_eq_accesses (a n : Nat) (w : Bool) : spanAccs a n w = accesses a n w := by
  simp [spanAccs, accesses, range']

theorem any_range' {a n : Nat} {p : Nat → Bool} (h : ∀ k, k < n → p (a + k) = false) : (range' a n).any p = false := by
  simp only [range', List.any_map, List.any_eq_false, List.mem_range, Function.comp_apply]
  exact fun k hk => by simp [h k hk]

/-! ## Pushing and popping -/

section
variable {u : State} {t : Nat}

theorem pushWords_ok {ws : List Word} (hroom : stkLo u t + ws.length ≤ (regsOf u t).x[7].toNat)
    (hw : MayWrite u t ((regsOf u t).x[7].toNat - ws.length) ws.length) (k : State → Act) :
    pushWords u t ws k = k (setX (writeWs u t ((regsOf u t).x[7].toNat - ws.length) ws) t 7
      (BitVec.ofNat 16 ((regsOf u t).x[7].toNat - ws.length))) := by
  unfold pushWords
  dsimp only
  rw [if_neg (by omega), if_neg]
  · rfl
  · rw [any_range' fun j hj => by rw [hw j hj]; rfl]
    exact Bool.false_ne_true

theorem pushWords_below {ws : List Word} (h : (regsOf u t).x[7].toNat < ws.length + stkLo u t) (k : State → Act) :
    pushWords u t ws k = .fault 7 ((regsOf u t).x[7] - BitVec.ofNat 16 ws.length) := if_pos h

theorem popWords_ok {n : Nat} (hlo : stkLo u t ≤ (regsOf u t).x[7].toNat) (hhi : (regsOf u t).x[7].toNat + n ≤ 0x1000)
    (hs : Sound u t (regsOf u t).x[7].toNat n) (k : List Word → State → Act) :
    popWords u t n k = k ((List.range n).map fun j => readW u t ((regsOf u t).x[7].toNat + j))
      (setX u t 7 (BitVec.ofNat 16 ((regsOf u t).x[7].toNat + n))) := by
  unfold popWords
  dsimp only
  rw [if_neg (by omega), if_neg]
  · rw [range', List.map_map]
    rfl
  · rw [any_range' hs]
    exact Bool.false_ne_true

theorem popWords_outside {n : Nat} (h : (regsOf u t).x[7].toNat < stkLo u t ∨ 0x1000 < (regsOf u t).x[7].toNat + n)
    (k : List Word → State → Act) : popWords u t n k = .fault 7 (regsOf u t).x[7] := by
  unfold popWords
  dsimp only
  rw [if_pos h, nw_toNat]

/-- X7 after a push. -/
theorem x7_pushed (v : State) (x : Word) (n : Nat) : (regsOf (setX v t 7 (BitVec.ofNat 16 (x.toNat - n))) t).x[7].toNat = x.toNat - n := by
  have hx := x.isLt
  simp only [setX, regsOf_mapRegs]
  rw [show ((regsOf v t).x.set (7 : XReg) (BitVec.ofNat 16 (x.toNat - n)))[7] = BitVec.ofNat 16 (x.toNat - n) from Vector.getElem_set_self ..]
  exact Nat.mod_eq_of_lt (by omega)

end

theorem wordAt_map_range {n k : Nat} (f : Nat → Word) (h : k < n) : wordAt ((List.range n).map f) k = f k := by
  simp [wordAt, h]

/-! ## Stack instructions, calls and returns -/

/-- The frame of a call in a thread whose registers are `r`, with the predicate word `pw`. -/
theorem callFrame_ext {r : Regs} {pw : Word} (h : HasBits pw (predicateBit r)) (mask : Word) :
    callFrame r r.pc mask true =
      r.pc :: pw :: [r.x[0], r.x[1], r.x[2], r.x[3], r.x[4], r.x[5], r.x[6]] ++ named r mask := by
  rw [eq_of_hasBits h (predWord_hasBits r)]
  rfl

theorem length_callFrame (r : Regs) (ret mask : Word) (ext : Bool) :
    (callFrame r ret mask ext).length = (if ext then 9 else 1) + (maskRegs mask).length := by
  unfold callFrame
  cases ext <;> simp only [List.length_append, List.length_cons, List.length_nil, List.length_map, if_true, if_false, Bool.false_eq_true]

/-- What a RETX makes of the registers, from the words of its frame: X7 stays as the pop has left it. -/
theorem mapRegs_retx (u : State) (t : Nat) (pc w top : Word) (ws : List Word) :
    mapRegs (setPc (setX u t 7 top) t pc) t (fun r =>
      { unpackPreds r w with x := Vector.ofFn (fun k : Fin 8 => if k.val < 7 then wordAt ws (2 + k.val) else (unpackPreds r w).x[k]) }) =
      mapRegs u t fun _ => { predsFrom (regsOf u t) w with
        pc := pc
        x := #v[wordAt ws 2, wordAt ws 3, wordAt ws 4, wordAt ws 5, wordAt ws 6, wordAt ws 7, wordAt ws 8, top] } := by
  have h7 : ((regsOf u t).x.set (7 : XReg) top)[7] = top := Vector.getElem_set_self ..
  have hx (x : Vector Word 8) : Vector.ofFn (fun k : Fin 8 => if k.val < 7 then wordAt ws (2 + k.val) else x[k]) =
      #v[wordAt ws 2, wordAt ws 3, wordAt ws 4, wordAt ws 5, wordAt ws 6, wordAt ws 7, wordAt ws 8, x[7]] := rfl
  rw [setPc, setX, mapRegs_mapRegs, mapRegs_mapRegs]
  refine mapRegs_eq ?_
  simp only [hx, unpackPreds_eq_predsFrom, predsFrom, h7]

theorem length_named (r : Regs) (mask : Word) : (named r mask).length = (maskRegs mask).length := List.length_map ..

/-- An instruction that pushes the frame `ws` and goes on in `g`. -/
theorem issue_pushes {s : State} {i : Issue} {ok : Bool} {reads : List WReg} {ws : List Word} {g : State → State}
    {body : State → Act} (h : Issues s i ok reads false)
    (hroom : stkLo (ready s i) i.tid + ws.length ≤ (regsOf (ready s i) i.tid).x[7].toNat)
    (hw : MayWrite (ready s i) i.tid ((regsOf (ready s i) i.tid).x[7].toNat - ws.length) ws.length)
    (hb : body (ready s i) = pushWords (ready s i) i.tid ws (fun s' =>
      .done (g s') (stackCycles ws.length) (spanAccs (regsOf s' i.tid).x[7].toNat ws.length true))) :
    issue s i ok reads false body =
      commits (g (setX (writeWs (ready s i) i.tid ((regsOf (ready s i) i.tid).x[7].toNat - ws.length) ws) i.tid 7
        (BitVec.ofNat 16 ((regsOf (ready s i) i.tid).x[7].toNat - ws.length)))) i ((ws.length + 1) / 2)
        (accesses ((regsOf (ready s i) i.tid).x[7].toNat - ws.length) ws.length true) := by
  refine issue_commits h (hb.trans ?_)
  rw [pushWords_ok hroom hw, x7_pushed, spanAccs_eq_accesses]
  rfl

/-- Settles O9, by the two outcomes of `pushWords` and of `popWords`. -/
theorem stackCallsAndReturns : Obligations.StackCallsAndReturns := by
  unfold Obligations.StackCallsAndReturns
  refine ⟨fun s i mask k => ?_, fun s i mask k => ?_⟩
  · intro u r sp put get words n cm xs
    refine ⟨fun h v hv => ?_, fun h hg => ?_, fun h v hv => ?_, fun pw hpw h v hv => ?_, fun h hg => ?_, fun h hg v hr hv => ?_⟩
    · obtain ⟨hroom, hw, rfl⟩ := hv
      refine congrArg Host.Outcome.next ((issue_pushes (ws := named r mask) (g := id) h hroom hw rfl).trans ?_)
      rw [length_named]
      rfl
    · obtain ⟨hlo, hhi, hs⟩ := hg
      refine congrArg Host.Outcome.next (issue_commits h ?_)
      rw [popWords_ok hlo hhi hs, spanAccs_eq_accesses]
      rfl
    · obtain ⟨hroom, hw, rfl⟩ := hv
      refine congrArg Host.Outcome.next ((issue_pushes (ws := r.pc :: named r cm) (g := fun s' => setPc s' i.tid k) h hroom hw rfl).trans ?_)
      rw [List.length_cons, length_named]
    · obtain ⟨hroom, hw, rfl⟩ := hv
      have hlen : (r.pc :: pw :: xs ++ named r cm).length = (maskRegs cm).length + 9 := by simp [xs, length_named]
      have hb : doCall s i k true = _ :=
        issue_pushes (ws := r.pc :: pw :: xs ++ named r cm) (g := fun s' => setPc s' i.tid k) h hroom hw (by
          rw [← callFrame_ext hpw cm]
          rfl)
      rw [hlen] at hb ⊢
      exact congrArg Host.Outcome.next hb
    · obtain ⟨hlo, hhi, hs⟩ := hg
      refine congrArg Host.Outcome.next (issue_commits h ?_)
      simp only [Bool.false_eq_true, if_false]
      rw [popWords_ok hlo hhi hs, spanAccs_eq_accesses, wordAt_map_range _ (by omega)]
      rfl
    · obtain ⟨hlo, hhi, hs⟩ := hg
      refine congrArg Host.Outcome.next (issue_commits h ?_)
      simp only [if_true]
      rw [popWords_ok hlo hhi hs, spanAccs_eq_accesses]
      rw [mapRegs_retx]
      simp (disch := omega) only [wordAt_map_range]
      rw [hv, hr]
      rfl
  · intro u sp n cm faults below outside
    refine ⟨fun h hb => ?_, fun h hb => ?_, fun h hb => ?_, fun h ho => ?_, fun h => ⟨fun ho => ?_, fun ho => ?_⟩⟩
    · refine congrArg Host.Outcome.next (issue_faults h ?_)
      have hl := length_named (regsOf u i.tid) mask
      exact (pushWords_below (ws := named (regsOf u i.tid) mask) (by rwa [hl]) _).trans (by rw [hl])
    · refine congrArg Host.Outcome.next (issue_faults h ?_)
      have hl := length_callFrame (regsOf u i.tid) (regsOf u i.tid).pc cm false
      exact (pushWords_below (ws := callFrame (regsOf u i.tid) (regsOf u i.tid).pc cm false) (by rwa [hl]) _).trans (by rw [hl]; rfl)
    · refine congrArg Host.Outcome.next (issue_faults h ?_)
      have hl := length_callFrame (regsOf u i.tid) (regsOf u i.tid).pc cm true
      exact (pushWords_below (ws := callFrame (regsOf u i.tid) (regsOf u i.tid).pc cm true) (by rwa [hl]) _).trans (by rw [hl]; rfl)
    · exact congrArg Host.Outcome.next (issue_faults h (popWords_outside ho _))
    · exact congrArg Host.Outcome.next (issue_faults h (popWords_outside ho _))
    · exact congrArg Host.Outcome.next (issue_faults h (popWords_outside ho _))

end Sys2Proof.Proofs
end

section
/-!
PROOF. String instructions (R147, R148) and MACD (R140). One iteration of each string instruction is stated by its own lemma over `strIter`; a
repeated fill is an induction on the iterations left.
-/

namespace Sys2Proof.Proofs

open Sys2Proof.Machine Sys2Proof.Laws Sys2Proof.Safety Sys2Proof.Claims

/-! ## One iteration -/

section
variable {u : State} {t : Nat}

theorem strIter_movs (v : WReg) (hp : Reads u t (regsOf u t).x[5].toNat) (hq : writable u t (regsOf u t).x[6].toNat = true) :
    strIter u t .movs v = .ok (setX (setX (writeW u t (regsOf u t).x[6].toNat (readW u t (regsOf u t).x[5].toNat)) t 5
      ((regsOf u t).x[5] + 1)) t 6 ((regsOf u t).x[6] + 1)) false := by
  obtain ⟨hr, hw, hs⟩ := hp
  simp [strIter, StrOp.src, StrOp.dstRead, StrOp.dstWrite, iterRead, hr, hw, hs, hq]

theorem strIter_fills (v : WReg) (hq : writable u t (regsOf u t).x[6].toNat = true) :
    strIter u t .fills v = .ok (setX (writeW u t (regsOf u t).x[6].toNat (regsOf u t).w[v]) t 6 ((regsOf u t).x[6] + 1)) false := by
  simp [strIter, StrOp.src, StrOp.dstRead, StrOp.dstWrite, iterRead, hq]

theorem strIter_cmps (v : WReg) (hp : Reads u t (regsOf u t).x[5].toNat) (hq : Reads u t (regsOf u t).x[6].toNat) :
    strIter u t .cmps v =
      if readW u t (regsOf u t).x[5].toNat = readW u t (regsOf u t).x[6].toNat then
        .ok (setX (setX u t 5 ((regsOf u t).x[5] + 1)) t 6 ((regsOf u t).x[6] + 1)) false
      else .ok u true := by
  obtain ⟨hr, hw, hs⟩ := hp
  obtain ⟨hr', hw', hs'⟩ := hq
  simp [strIter, StrOp.src, StrOp.dstRead, StrOp.dstWrite, iterRead, hr, hw, hs, hr', hw', hs']

theorem strIter_scans (v : WReg) (hp : Reads u t (regsOf u t).x[5].toNat) :
    strIter u t .scans v =
      if readW u t (regsOf u t).x[5].toNat = (regsOf u t).w[v] then .ok u true else .ok (setX u t 5 ((regsOf u t).x[5] + 1)) false := by
  obtain ⟨hr, hw, hs⟩ := hp
  simp [strIter, StrOp.src, StrOp.dstRead, StrOp.dstWrite, iterRead, hr, hw, hs]

end

section
variable (r : Regs)

theorem spanAccs_one (a : Nat) (w : Bool) : spanAccs a 1 w = [(a, w)] := rfl

theorem strAccs_movs : strAccs r .movs 1 = [(r.x[5].toNat, false), (r.x[6].toNat, true)] := by
  simp [strAccs, StrOp.src, StrOp.dstRead, StrOp.dstWrite, spanAccs_one]

theorem strAccs_cmps : strAccs r .cmps 1 = [(r.x[5].toNat, false), (r.x[6].toNat, false)] := by
  simp [strAccs, StrOp.src, StrOp.dstRead, StrOp.dstWrite, spanAccs_one]

theorem strAccs_scans : strAccs r .scans 1 = [(r.x[5].toNat, false)] := by
  simp [strAccs, StrOp.src, StrOp.dstRead, StrOp.dstWrite, spanAccs_one]

theorem strAccs_fills : strAccs r .fills 1 = [(r.x[6].toNat, true)] := by
  simp [strAccs, StrOp.src, StrOp.dstRead, StrOp.dstWrite, spanAccs_one]

end

/-- A string instruction without REP commits what its one iteration leaves. -/
theorem doString_once {s s' w : State} {i : Issue} {ok : Bool} {o : StrOp} {v : WReg} {pd : PReg} {stopped : Bool} {accs : List (Nat × Bool)}
    (hpfx : i.pfx = .none) (h : Issues s i ok (if o = .scans ∨ o = .fills then [v] else []) false)
    (hi : strIter (ready s i) i.tid o v = .ok s' stopped) (hw : strPred s' i.tid o pd stopped = w)
    (ha : strAccs (regsOf (ready s i) i.tid) o 1 = accs) : doString s i ok o v pd = commits w i 1 accs := by
  subst hw ha
  unfold doString
  refine issue_commits h ?_
  simp [hpfx, hi]

theorem strPred_cmps (s : State) (t : Nat) (pd : PReg) (b : Bool) : strPred s t .cmps pd b = setP s t pd b := if_pos (.inl rfl)
theorem strPred_movs (s : State) (t : Nat) (pd : PReg) (b : Bool) : strPred s t .movs pd b = s := if_neg (by decide)
theorem strPred_fills (s : State) (t : Nat) (pd : PReg) (b : Bool) : strPred s t .fills pd b = s := if_neg (by decide)
theorem strPred_scans (s : State) (t : Nat) (pd : PReg) (b : Bool) : strPred s t .scans pd b = setP s t pd b := if_pos (.inr rfl)



theorem accumRegs_eq (r : Regs) (n sgn : Bool) (x y : Word) :
    accumRegs r n sgn x y = if sgn then macSigned r n x y else macUnsigned r n x y := by
  cases sgn
  · exact accumRegs_unsigned r n x y
  · exact accumRegs_signed r n x y

theorem accumRegs_x (r : Regs) (n sgn : Bool) (x y : Word) : (accumRegs r n sgn x y).x = r.x := by
  cases n <;> rfl

/-- Settles O11: the four iterations, then MACD by its two reads. -/
theorem stringIterationsAndMacd : Obligations.StringIterationsAndMacd := by
  unfold Obligations.StringIterationsAndMacd
  refine ⟨fun s i v pd => ?_, fun s i n sgn xa xb => ?_⟩
  · intro u r p q hpfx
    refine ⟨fun h hp hq => ?_, fun h hp hq => ?_, fun h hp => ?_, fun h hq => ?_⟩
    · exact congrArg Host.Outcome.next (doString_once (o := .movs) hpfx h (strIter_movs v hp hq) (strPred_movs ..) (strAccs_movs _))
    · have hi := strIter_cmps v hp hq
      by_cases he : readW u i.tid p.toNat = readW u i.tid q.toNat
      · rw [if_pos he] at hi ⊢
        exact congrArg Host.Outcome.next (doString_once (o := .cmps) hpfx h hi (strPred_cmps ..) (strAccs_cmps _))
      · rw [if_neg he] at hi ⊢
        exact congrArg Host.Outcome.next (doString_once (o := .cmps) hpfx h hi (strPred_cmps ..) (strAccs_cmps _))
    · have hi := strIter_scans v hp
      by_cases he : readW u i.tid p.toNat = r.w[v]
      · rw [if_pos he] at hi ⊢
        exact congrArg Host.Outcome.next (doString_once (o := .scans) hpfx h hi (strPred_scans ..) (strAccs_scans _))
      · rw [if_neg he] at hi ⊢
        exact congrArg Host.Outcome.next (doString_once (o := .scans) hpfx h hi (strPred_scans ..) (strAccs_scans _))
    · exact congrArg Host.Outcome.next (doString_once (o := .fills) hpfx h (strIter_fills v hq) (strPred_fills ..) (strAccs_fills _))
  · intro u r a b v w r' h ha hb
    refine congrArg Host.Outcome.next (issue_commits h ?_)
    have hra : readable u i.tid a = true := ha.1
    have hrb : readable u i.tid b = true := hb.1
    dsimp only
    rw [if_neg, checkRead_of_reads ha, checkRead_of_reads hb]
    · simp only [accumRegs_x, Bool.and_eq_true, decide_eq_true_eq]
      simp only [accumRegs_eq]
      rfl
    · show ¬(!readable u i.tid a || !readable u i.tid b) = true
      simp [hra, hrb]

/-! ## A repeated fill -/

/-- From `u` to `w`, thread `t` has filled the `k` words of its own from `q` on with `v`, and its repeat has ended: X6 past the last word, BC 0,
RPT 0. -/
structure Filled (u w : State) (t q k : Nat) (v : Word) : Prop where
  filled : ∀ j, j < k → memAt w (t * 0x2000 + (q + j)) = v
  other : ∀ b, b < t * 0x2000 + q ∨ t * 0x2000 + q + k ≤ b → memAt w b = memAt u b
  x6 : (regsOf w t).x[6] = BitVec.ofNat 16 (q + k)
  bc : (regsOf w t).bc = 0
  rpt : (regsOf w t).ps.getLsbD 6 = false
  words : (regsOf w t).w = (regsOf u t).w
  preds : (regsOf w t).p = (regsOf u t).p

/-- The state after one iteration of a fill that counts in BC and leaves RPT as `b` says. -/
def fillStep (u : State) (t : Nat) (v : WReg) (b : Bool) : State :=
  let w := setX (writeW u t (regsOf u t).x[6].toNat (regsOf u t).w[v]) t 6 ((regsOf u t).x[6] + 1)
  setRpt (setBc w t ((regsOf w t).bc - 1)) t b

section
variable {u : State} {t : Nat}

theorem regsOf_fillStep (v : WReg) (b : Bool) :
    regsOf (fillStep u t v b) t = { regsOf u t with
      x := (regsOf u t).x.set (6 : XReg) ((regsOf u t).x[6] + 1), bc := (regsOf u t).bc - 1, ps := psBit (regsOf u t).ps rptBit b } := by
  simp only [fillStep, setRpt, setPs, setBc, setX, regsOf_mapRegs, regsOf_writeW]

/-- A thread's own word lies at its own place of the flat store (R104). -/
theorem flatAddr_private {a : Nat} (h : a < 0x1000) : flatAddr u t a = t * 0x2000 + a := if_pos (by omega)

theorem memAt_fillStep (v : WReg) (b : Bool) (h : (regsOf u t).x[6].toNat < 0x1000) (a : Nat) :
    memAt (fillStep u t v b) a =
      if a = t * 0x2000 + (regsOf u t).x[6].toNat then (regsOf u t).w[v] else memAt u a := by
  simp only [fillStep, setRpt, setPs, setBc, setX, memAt_mapRegs]
  rw [writeW_outside (by omega), flatAddr_private h]
  split
  · next he => rw [he, memAt_setMem_same]
  · next he => exact memAt_setMem_ne _ _ _ _ he

/-- One iteration of a repeated fill over a thread's own words: the last one ends the repeat, another one goes on. -/
theorem repLoop_fills_step {v : WReg} (pc : Word) (r0 : Regs) (k n : Nat) (h : (regsOf u t).x[6].toNat < 0x1000) :
    repLoop t .fills v 0 pc false r0 (k + 1) n u =
      if (regsOf u t).bc - 1 = 0 then .done (fillStep u t v false) (n + 1) (strAccs r0 .fills (n + 1))
      else repLoop t .fills v 0 pc false r0 k (n + 1) (fillStep u t v true) := by
  have hw : writable u t (regsOf u t).x[6].toNat = true := if_pos h
  rw [repLoop, strIter_fills v hw]
  simp only [setBc, setX, regsOf_mapRegs, regsOf_writeW, strPred_fills, Bool.false_eq_true, if_false, fillStep]

theorem x6_fillStep (v : WReg) (b : Bool) : (regsOf (fillStep u t v b) t).x[6] = (regsOf u t).x[6] + 1 := by
  rw [regsOf_fillStep]
  exact Vector.getElem_set_self ..

/-- The repeat ends after its last word. -/
theorem filled_last (v : WReg) (hbc : (regsOf u t).bc - 1 = 0) (h : (regsOf u t).x[6].toNat < 0x1000) :
    Filled u (fillStep u t v false) t (regsOf u t).x[6].toNat 1 (regsOf u t).w[v] where
  filled j hj := by
    obtain rfl : j = 0 := by omega
    rw [memAt_fillStep v false h, if_pos (by omega)]
  other b hb := by rw [memAt_fillStep v false h, if_neg (by omega)]
  x6 := by
    rw [x6_fillStep]
    bv_omega
  bc := by rw [regsOf_fillStep]; exact hbc
  rpt := by
    rw [regsOf_fillStep]
    simp [psBit, rptBit]
  words := by rw [regsOf_fillStep]
  preds := by rw [regsOf_fillStep]

/-- One word before the words that the rest of the repeat fills. -/
theorem Filled.cons {w : State} {k : Nat} {v : WReg} (h : (regsOf u t).x[6].toNat < 0x1000)
    (hf : Filled (fillStep u t v true) w t ((regsOf u t).x[6].toNat + 1) k (regsOf u t).w[v]) :
    Filled u w t (regsOf u t).x[6].toNat (k + 1) (regsOf u t).w[v] where
  filled j hj := by
    cases j with
    | zero => rw [hf.other _ (by omega), memAt_fillStep v true h, if_pos (by omega)]
    | succ j => rw [← hf.filled j (by omega), Nat.add_assoc _ 1 j, Nat.add_comm 1 j]
  other b hb := by rw [hf.other b (by omega), memAt_fillStep v true h, if_neg (by omega)]
  x6 := by rw [hf.x6, Nat.add_right_comm, Nat.add_assoc]
  bc := hf.bc
  rpt := hf.rpt
  words := by rw [hf.words, regsOf_fillStep]
  preds := by rw [hf.preds, regsOf_fillStep]

theorem repLoop_fills {v : WReg} (pc : Word) (r0 : Regs) (k : Nat) (hk : 1 ≤ k) (n : Nat) (hbc : (regsOf u t).bc.toNat = k)
    (hq : (regsOf u t).x[6].toNat + k ≤ 0x1000) :
    ∃ w, repLoop t .fills v 0 pc false r0 k n u = .done w (n + k) (strAccs r0 .fills (n + k)) ∧
      Filled u w t (regsOf u t).x[6].toNat k (regsOf u t).w[v] := by
  induction k, hk using Nat.le_induction generalizing u n with
  | base =>
    have hlast : (regsOf u t).bc - 1 = 0 := by bv_omega
    exact ⟨_, by rw [repLoop_fills_step pc r0 0 n (by omega), if_pos hlast], filled_last v hlast (by omega)⟩
  | succ k hk ih =>
    have hmore : (regsOf u t).bc - 1 ≠ 0 := by bv_omega
    have hx : ((regsOf u t).x[6] + 1).toNat = (regsOf u t).x[6].toNat + 1 := by bv_omega
    obtain ⟨w, he, hf⟩ := ih (u := fillStep u t v true) (n + 1) (by rw [regsOf_fillStep]; bv_omega) (by rw [x6_fillStep]; omega)
    refine ⟨w, ?_, ?_⟩
    · rw [repLoop_fills_step pc r0 k n (by omega), if_neg hmore, he, Nat.add_right_comm, Nat.add_assoc]
    · rw [x6_fillStep, hx, regsOf_fillStep] at hf
      exact hf.cons (by omega)

/-- The span check of a repeated fill passes over a thread's own words. -/
theorem repCheck_fills {n : Nat} (hq : (regsOf u t).x[6].toNat + n ≤ 0x1000) : repCheck u t .fills n = none := by
  have hwrite : (range' (regsOf u t).x[6].toNat n).find? (fun a => !writable u t a) = none := by
    simp only [range', List.find?_eq_none, List.mem_map, List.mem_range, forall_exists_index, and_imp]
    rintro _ j hj rfl
    rw [show writable u t ((regsOf u t).x[6].toNat + j) = true from if_pos (by omega)]
    exact Bool.false_ne_true
  have hwrap : ¬((regsOf u t).x[6].toNat + n - 1 > 0xFFFF) := by omega
  simp [repCheck, StrOp.src, StrOp.dstRead, StrOp.dstWrite, hwrap, hwrite]

end

/-- Settles O12: the loop of the repeat by `repLoop_fills`, and a commit leaves what it has filled. -/
theorem repeatedFill : Obligations.RepeatedFill := by
  unfold Obligations.RepeatedFill
  intro s t i v u r n q hpfx h hstep hn hq he
  obtain ⟨w, hloop, hf⟩ := repLoop_fills (u := ready s i) (t := i.tid) (v := v) (regsOf s i.tid).pc r n hn 0 rfl hq
  have hc : doString s i (okString i && decide ((0 : PReg) = 0)) .fills v 0 = commits w i (0 + n) (strAccs r .fills (0 + n)) := by
    unfold doString
    refine issue_commits h ?_
    have hstep' : (getT (ready s i) i.tid).stepping = false := (ready_stepping s i).trans hstep
    have hn' : (regsOf (ready s i) i.tid).bc.toNat ≠ 0 := Nat.ne_of_gt hn
    have hcheck : repCheck (ready s i) i.tid .fills (regsOf (ready s i) i.tid).bc.toNat = none := repCheck_fills hq
    simp only [hpfx, if_true, hn', if_false, hcheck, hstep']
    exact hloop
  have hd : SameData t w := Host.Outcome.next.inj (he.symm.trans (congrArg Host.Outcome.next hc)) ▸ sameData_commits w i _ _
  refine ⟨fun k hk => ?_, fun b hb => ?_, ?_⟩
  · rw [hd.memAt, hf.filled k hk]
  · rw [hd.memAt, hf.other b hb, memAt_ready]
  · rw [hd.regs]
    exact ⟨hf.x6, hf.bc, hf.rpt, hf.words, hf.preds⟩

end Sys2Proof.Proofs
end

section
/-!
PROOF. The ports (R108 to R111, R150): every row of `portIn` is an IN of its port and every row of `portOut` an OUT to it; what the instruction
does follows from what `ioRead` and `ioWrite` answer. The obligations about ports then compute one answer each.
-/

namespace Sys2Proof.Proofs

open Sys2Proof.Machine Sys2Proof.Laws Sys2Proof.Safety Sys2Proof.Claims

/-! ## The rows of single ports -/

theorem exec_of_portIn {s : State} {c : Instr} {i : Issue} {d : WReg} {p : Nat} (h : portIn s c = some (i, d, p)) :
    exec c s = .next (doIn s i d p) := by
  unfold portIn at h
  split at h
  case h_16 | h_17 | h_18 | h_19 | h_20 =>
    split at h
    · next hk => cases h; exact congrArg Host.Outcome.next (if_pos hk)
    · cases h
  case h_21 => cases h
  all_goals cases h; rfl

theorem outIf_of_cond {s : State} {i : Issue} {a : WReg} {p : Nat} {cond : Nat → Bool} (h : cond (written s i a).toNat = true) :
    outIf s i a p cond = doOut s i a p := if_pos h

/-- A word whose bit 15 is set is 0x8000 or above. -/
theorem msb_iff_le (w : Word) : w.msb = true ↔ 0x8000 ≤ w.toNat := by
  simp [BitVec.msb_eq_decide]

theorem exec_of_portOut {s : State} {c : Instr} {i : Issue} {a : WReg} {p : Nat} (h : portOut s c = some (i, a, p)) :
    exec c s = .next (doOut s i a p) := by
  unfold portOut at h
  split at h
  case h_3 =>
    split at h
    · next hk => cases h; exact congrArg Host.Outcome.next (if_pos (by simpa [or_assoc] using hk))
    · cases h
  case h_5 | h_6 | h_7 | h_8 | h_28 | h_29 | h_30 | h_31 =>
    split at h
    · next hv => cases h; exact congrArg Host.Outcome.next (outIf_of_cond (by rw [hv]; rfl))
    · cases h
  case h_10 =>
    split at h
    · next hv => cases h; exact congrArg Host.Outcome.next (outIf_of_cond (decide_eq_true ((msb_iff_le _).mp hv)))
    · cases h
  case h_11 =>
    split at h
    · cases h
    · next hv =>
      cases h
      exact congrArg Host.Outcome.next (outIf_of_cond (decide_eq_true (Nat.lt_of_not_le fun hle => hv ((msb_iff_le _).mpr hle))))
  case h_12 =>
    split at h
    · cases h
    · next hv => 
      cases h
      exact congrArg Host.Outcome.next (outIf_of_cond (decide_eq_true fun h0 => hv (BitVec.eq_of_toNat_eq h0)))
  case h_13 =>
    split at h
    · next hv => cases h; exact congrArg Host.Outcome.next (outIf_of_cond (by rw [hv]; rfl))
    · cases h
  case h_14 | h_15 | h_16 | h_17 | h_18 | h_19 =>
    split at h
    · next hk => cases h; exact congrArg Host.Outcome.next (if_pos hk)
    · cases h
  case h_22 =>
    split at h
    · cases h
    · next hk => cases h; exact congrArg Host.Outcome.next (if_pos (Bool.eq_false_of_not_eq_true hk))
  case h_23 =>
    split at h
    · next hk => cases h; exact congrArg Host.Outcome.next (if_pos hk)
    · cases h
  case h_32 => cases h
  all_goals cases h; rfl

/-! ## What an IN and an OUT do, by the answer of their port -/

section
variable {s u' : State} {c : Instr} {i : Issue} {d : WReg} {p : Nat} {v : Word}

theorem gives_now (h : Reading s c i d p) (hr : ioRead (ready s i) i.tid p = .now v u') : GivesNow c s i d v u' := by
  obtain ⟨hp, hi, -⟩ := h
  refine (exec_of_portIn hp).trans (congrArg Host.Outcome.next (issue_commits hi ?_))
  unfold inAct
  rw [hr]

theorem gives_later (h : Reading s c i d p) (hr : ioRead (ready s i) i.tid p = .later (some v) none u') : GivesLater c s i d v u' := by
  obtain ⟨hp, hi, -⟩ := h
  refine (exec_of_portIn hp).trans (congrArg Host.Outcome.next (issue_commits hi ?_))
  unfold inAct
  rw [hr]

theorem awaits_unit {lock : Option Nat} (h : Reading s c i d p) (hr : ioRead (ready s i) i.tid p = .later none lock u') :
    Awaits c s i d lock u' := by
  obtain ⟨hp, hi, -⟩ := h
  refine (exec_of_portIn hp).trans (congrArg Host.Outcome.next (issue_commits hi ?_))
  unfold inAct
  rw [hr]

theorem in_stalls (hp : portIn s c = some (i, d, p)) (hi : Issues s i (okPlain i) [] false) (hr : ioRead (ready s i) i.tid p = .stall) :
    Stalls c s i := by
  refine (exec_of_portIn hp).trans (congrArg Host.Outcome.next (issue_stalls hi ?_))
  unfold inAct
  rw [hr]

theorem in_denied (hp : portIn s c = some (i, d, p)) (hi : Issues s i (okPlain i) [] false) (hr : portOk (ready s i) i.tid p = false) :
    Faults c s i 4 (nw p) := by
  have hd : ioRead (ready s i) i.tid p = .denied := by simp [ioRead, hr]
  refine (exec_of_portIn hp).trans (congrArg Host.Outcome.next (issue_faults hi ?_))
  unfold inAct
  rw [hd]

/-- The value that an OUT writes is that of its register before the instruction. -/
theorem written_eq (s : State) (i : Issue) (a : WReg) : (regsOf (ready s i) i.tid).w[a] = written s i a := by
  rw [ready_regs]
  rfl

theorem out_leaves (h : Writing s c i d p) (hw : ioWrite (ready s i) i.tid p (written s i d) = .ok u') : Leaves c s i u' := by
  obtain ⟨hp, hi, -⟩ := h
  refine (exec_of_portOut hp).trans (congrArg Host.Outcome.next (issue_commits hi ?_))
  unfold outAct
  rw [written_eq, hw]

theorem out_stalls (h : Writing s c i d p) (hw : ioWrite (ready s i) i.tid p (written s i d) = .stall) : Stalls c s i := by
  obtain ⟨hp, hi, -⟩ := h
  refine (exec_of_portOut hp).trans (congrArg Host.Outcome.next (issue_stalls hi ?_))
  unfold outAct
  rw [written_eq, hw]

theorem out_faults {cause : Nat} (hp : portOut s c = some (i, d, p)) (hi : Issues s i (okPlain i) [d] false)
    (hw : ioWrite (ready s i) i.tid p (written s i d) = .fault cause) : Faults c s i cause (nw p) := by
  refine (exec_of_portOut hp).trans (congrArg Host.Outcome.next (issue_faults hi ?_))
  unfold outAct
  rw [written_eq, hw]

theorem ioRead_inside (h : Reading s c i d p) (hp : insideCell p = true) : ioRead (ready s i) i.tid p = readInside (ready s i) i.tid p := by
  simp [ioRead, h.2.2, hp]

/-- The scoreboard bit of an IN is that of the thread before the instruction. -/
theorem inBit_ready (s : State) (i : Issue) : inBit (ready s i) i.tid = (getT s i.tid).sb.getLsbD 8 := by
  unfold inBit
  rw [ready_thread]

theorem ioRead_outside (h : ReadingFar s c i d p) (hp : insideCell p = false) :
    ioRead (ready s i) i.tid p = readOutside (ready s i) i.tid p := by
  simp [ioRead, h.1.2.2, hp, inBit_ready, h.2, -BitVec.getLsbD_eq_getElem]

theorem ioWrite_action (h : Writing s c i d p) (hp : stageMask p = none) (v : Word) :
    ioWrite (ready s i) i.tid p v = writeAction (ready s i) i.tid p v := by
  simp [ioWrite, h.2.2, hp]

end

end Sys2Proof.Proofs
end

section
/-!
PROOF. The ports inside a cell, denials, and the ports of time, alarms, events, posting, buffers, locks, unit claims and policers that an IN reads
(R34, R49 to R51, R75, R103, R108 to R114, R118, R150, R155 to R157, R170 to R175, R271 to R275, R319).
-/

namespace Sys2Proof.Proofs

open Sys2Proof.Machine Sys2Proof.Laws Sys2Proof.Safety Sys2Proof.Claims

/-! ## Ports inside the cell -/

theorem stCode_eq_stateCode (st : ThrState) : stCode st = stateCode st := by cases st <;> rfl

theorem stateCode_le (st : ThrState) : stateCode st ≤ 7 := by cases st <;> decide

theorem stWord_eq (s : State) (t : Nat) : stWord s t = nw (stateCode (getT s t).st + if (getT s t).item.isSome then 256 else 0) := by
  rw [stWord, stCode_eq_stateCode]

/-- io:DBG_STATE shows the state's code alone. -/
theorem stWord_and_seven (s : State) (t : Nat) : stWord s t &&& 7 = nw (stateCode (getT s t).st) := by
  rw [stWord_eq]
  have h := stateCode_le (getT s t).st
  generalize stateCode (getT s t).st = n at h
  split <;> interval_cases n <;> rfl

theorem foldl_setBit_getLsbD (l : List Nat) (f : Nat → Bool) (g : Nat → Nat) (w : Word) {k : Nat} (hk : k < 16) :
    (l.foldl (fun w t => if f t then setBit w (g t) else w) w).getLsbD k = (w.getLsbD k || l.any (fun t => f t && decide (g t = k))) := by
  induction l generalizing w with
  | nil => simp
  | cons t l ih =>
    rw [List.foldl_cons, ih]
    cases hf : f t
    · simp [hf]
    · simp [hf, setBit_getLsbD w (g t) hk, Bool.or_assoc, -BitVec.getLsbD_eq_getElem]

theorem faultPend_hasBits (s : State) (c : Nat) :
    HasBits (faultPend s c) (fun k => decide (k < 8 ∧ (getT s (c * 8 + k)).st = .faulted)) := by
  intro k hk
  have hf := foldl_setBit_getLsbD (cellThreads c) (fun t => decide ((getT s t).st = .faulted)) (· % 8) 0 hk
  simp only [decide_eq_true_eq] at hf
  rw [faultPend, hf, show (0 : Word).getLsbD k = false from BitVec.getLsbD_zero, Bool.false_or]
  rw [Bool.eq_iff_iff]
  simp only [cellThreads, List.any_map, List.any_eq_true, List.mem_range, Function.comp_apply,
    Bool.and_eq_true, decide_eq_true_eq]
  constructor
  · rintro ⟨j, hj, hst, hmod⟩
    obtain rfl : j = k := by omega
    exact ⟨hj, hst⟩
  · rintro ⟨h8, hst⟩
    exact ⟨k, h8, hst, by omega⟩

theorem selFault_eq (s : State) (c : Nat) :
    selFault s c = if 1 ≤ (getCell s c).fltSel.toNat ∧ (getCell s c).fltSel.toNat ≤ 7 ∧
      (getT s (c * 8 + (getCell s c).fltSel.toNat)).st = .faulted then (getT s (c * 8 + (getCell s c).fltSel.toNat)).fault else none := by
  unfold selFault selected
  split
  · next h => simp [h.1, h.2]
  · next h => rw [if_neg fun h' => h ⟨h'.1, h'.2.1⟩]; rfl

theorem selected_of_range {c : Nat} {w : Word} (h1 : 1 ≤ w.toNat) (h7 : w.toNat ≤ 7) : selected c w = some (c * 8 + w.toNat) := if_pos ⟨h1, h7⟩

/-- Settles O14: each port by what `readInside` answers, each denial by what `ioRead` and `ioWrite` test first. -/
theorem portsInsideTheCellAndDenials : Obligations.PortsInsideTheCellAndDenials := by
  unfold Obligations.PortsInsideTheCellAndDenials
  refine ⟨fun s c i d p => ?_, fun s c i r p => ?_⟩
  · intro u t cell sel fault h
    have now {v : Word} {u' : State} (hp : insideCell p = true) (hr : readInside u t p = .now v u') : GivesNow c s i d v u' :=
      gives_now h ((ioRead_inside h hp).trans hr)
    refine ⟨?_, ?_, ?_, ?_, ?_, ?_, ?_, ?_, ?_, ?_, ?_⟩
    · rintro rfl; exact now rfl rfl
    · rintro rfl; exact now rfl rfl
    · rintro rfl; exact now rfl rfl
    · rintro rfl v hv
      rw [eq_of_hasBits hv (faultPend_hasBits u (thrCell t))]
      exact now rfl rfl
    · rintro rfl; exact now rfl rfl
    · rintro rfl
      rw [show fault = _ from (selFault_eq u (thrCell t)).symm]
      exact now rfl rfl
    · rintro rfl
      rw [show fault = _ from (selFault_eq u (thrCell t)).symm]
      exact now rfl rfl
    · rintro rfl
      rw [show fault = _ from (selFault_eq u (thrCell t)).symm]
      exact now rfl rfl
    · rintro rfl h1 h7
      refine now rfl (congrArg (fun w => InRes.now w u) ?_ : readInside u t 0x0018 = _)
      rw [selected_of_range (w := (getCell u (thrCell t)).fltSel) h1 h7]
      exact stWord_eq ..
    · rintro rfl; exact now rfl rfl
    · rintro rfl h1 h7
      refine now rfl (congrArg (fun w => InRes.now w u) ?_ : readInside u t 0x3002 = _)
      rw [selected_of_range (w := (getCell u (thrCell t)).dbgSel) h1 h7]
      exact stWord_and_seven ..
  · refine ⟨fun hp hi => ⟨in_denied hp hi, fun hok hin hsb => in_stalls hp hi ?_⟩, fun hp hi hok => out_faults hp hi ?_, fun h => ?_, fun h ht => ?_⟩
    · simp [ioRead, hok, hin, inBit_ready, hsb, -BitVec.getLsbD_eq_getElem]
    · simp [ioWrite, hok]
    · simp [portOk, h]
    · simp [portOk, h, isSup, ht]

end Sys2Proof.Proofs
end

section
/-!
PROOF. The ports of time, alarms, events and posting (R34, R49 to R51, R75, R113, R180), of buffers (R271 to R275), and of locks, unit claims and
policers (R155 to R157, R170 to R175, R319) that an IN reads.
-/

namespace Sys2Proof.Proofs

open Sys2Proof.Machine Sys2Proof.Laws Sys2Proof.Safety Sys2Proof.Claims

/-! ## Words of a time -/

theorem wordAt_wordsOf {n k : Nat} (v : Nat) (h : k < n) : wordAt (wordsOf n v) k = nw (v / 65536 ^ (n - 1 - k)) := by
  induction n generalizing v k with
  | zero => omega
  | succ n ih =>
    cases k with
    | zero => rfl
    | succ k =>
      obtain ⟨j, rfl⟩ := Nat.exists_eq_add_of_lt (show k < n by omega)
      refine (ih (v % 65536 ^ (k + j + 1)) (by omega)).trans ?_
      rw [show k + j + 1 - 1 - k = j by omega, show k + j + 1 + 1 - 1 - (k + 1) = j by omega,
        show 65536 ^ (k + j + 1) = 65536 ^ j * (65536 * 65536 ^ k) by ring, Nat.mod_mul_right_div_self]
      exact BitVec.eq_of_toNat_eq (Nat.mod_mod_of_dvd _ (Dvd.intro _ rfl))

/-- A time in words: seconds in three, nanoseconds in two. -/
theorem wordAt_timeWords (t : Nat) :
    wordAt (timeWords t) 0 = nw (t / nsPerS / 2 ^ 32) ∧ wordAt (timeWords t) 1 = nw (t / nsPerS / 2 ^ 16) ∧
      wordAt (timeWords t) 2 = nw (t / nsPerS) ∧ wordAt (timeWords t) 3 = nw (t % nsPerS / 2 ^ 16) ∧
      wordAt (timeWords t) 4 = nw (t % nsPerS) := by
  have hs {k : Nat} (hk : k < 3) : wordAt (timeWords t) k = wordAt (wordsOf 3 (t / nsPerS)) k := by
    interval_cases k <;> rfl
  have hn {k : Nat} (hk : k < 2) : wordAt (timeWords t) (3 + k) = wordAt (wordsOf 2 (t % nsPerS)) k := by
    interval_cases k <;> rfl
  refine ⟨?_, ?_, ?_, (hn (k := 0) (by decide)).trans ?_, (hn (k := 1) (by decide)).trans ?_⟩
  · rw [hs (by decide), wordAt_wordsOf _ (by decide)]; norm_num
  · rw [hs (by decide), wordAt_wordsOf _ (by decide)]; norm_num
  · rw [hs (by decide), wordAt_wordsOf _ (by decide)]; norm_num
  · rw [wordAt_wordsOf _ (by decide)]; norm_num
  · rw [wordAt_wordsOf _ (by decide)]; norm_num

/-! ## The lowest free place -/

theorem find_range'_first {a n k : Nat} {p : Nat → Bool} (hk : a ≤ k) (hn : k < a + n) (hbelow : ∀ j, a ≤ j → j < k → p j = false)
    (hat : p k = true) : (range' a n).find? p = some k := by
  induction n generalizing a with
  | zero => omega
  | succ n ih =>
    have hcons : range' a (n + 1) = a :: range' (a + 1) n := by
      simp [range', List.range_succ_eq_map, Nat.add_comm, Nat.add_left_comm, Function.comp_def]
    rw [hcons]
    rcases Nat.eq_or_lt_of_le hk with rfl | hlt
    · rw [List.find?_cons_of_pos hat]
    · rw [List.find?_cons_of_neg (by simp [hbelow a (le_refl a) hlt])]
      exact ih hlt (by omega) fun j hj => hbelow j (by omega)

theorem find_range'_none {a n : Nat} {p : Nat → Bool} (h : ∀ j, a ≤ j → j < a + n → p j = false) : (range' a n).find? p = none := by
  simp only [range', List.find?_eq_none, List.mem_map, List.mem_range, forall_exists_index, and_imp]
  rintro _ j hj rfl
  simp [h (a + j) (by omega) (by omega)]

/-- An IN of a port outside the cell whose unit answers at once. -/
theorem far_gives {s u' : State} {c : Instr} {i : Issue} {d : WReg} {p : Nat} {v : Word} (h : ReadingFar s c i d p) (hp : insideCell p = false)
    (hr : readOutside (ready s i) i.tid p = given (v, u')) : GivesLater c s i d v u' :=
  gives_later h.1 ((ioRead_outside h hp).trans hr)

/-- Settles O16, by what each unit answers. -/
theorem timeAndPostingPorts : Obligations.TimeAndPostingPorts := by
  unfold Obligations.TimeAndPostingPorts
  intro s c i d p u t die latched alarm e ns pdom level served tooMany h
  refine ⟨?_, ?_, ?_, ?_, ?_, ?_, ?_, ?_, ?_, ?_⟩
  · rintro rfl; exact far_gives h rfl rfl
  · rintro rfl; exact far_gives h rfl rfl
  · rintro rfl
    refine far_gives h rfl (congrArg (fun w => given (w, latched)) ?_ : readOutside u t 0x0400 = _)
    have hl : (getT latched t).timeLatch = (stime u die, mono u die) := by rw [getT_modT_same]
    rw [← (wordAt_timeWords (stime u die)).1]
    unfold latchWord
    rw [hl]
    rfl
  · rintro rfl
    obtain ⟨-, h1, -⟩ := wordAt_timeWords (getT u t).timeLatch.1
    rw [← h1]
    exact far_gives h rfl rfl
  · rintro rfl
    obtain ⟨-, -, h2, -⟩ := wordAt_timeWords (getT u t).timeLatch.1
    rw [← h2]
    exact far_gives h rfl rfl
  · rintro rfl
    obtain ⟨-, -, -, h3, -⟩ := wordAt_timeWords (getT u t).timeLatch.1
    rw [← h3]
    exact far_gives h rfl rfl
  · rintro rfl
    obtain ⟨-, -, -, -, h4⟩ := wordAt_timeWords (getT u t).timeLatch.1
    rw [← h4]
    exact far_gives h rfl rfl
  · rintro rfl
    have h3 := wordAt_wordsOf (n := 4) (k := 3) (getT u t).timeLatch.2 (by decide)
    rw [Nat.pow_zero, Nat.div_one] at h3
    rw [← h3]
    exact far_gives h rfl rfl
  · rintro rfl
    have gives {v : Word} {u' : State} (ha : armAlarm u t = (v, u')) : GivesLater c s i d v u' := far_gives h rfl (congrArg given ha)
    have free {k : Nat} (hk : 192 ≤ k) (hk' : k < 256) (hbelow : ∀ j, 192 ≤ j → j < k → (getSched u die j).isSome = true)
        (hat : getSched u die k = none) : (range' 192 64).find? (fun j => (getSched u die j).isNone) = some k :=
      find_range'_first hk hk' (fun j h1 h2 => by simpa using hbelow j h1 h2) (by simp [hat])
    refine ⟨fun hns => gives (if_pos hns), fun hns hall => gives ?_, fun k hns hk hk' hbelow hat hlt => gives ?_,
      fun k hns hk hk' hbelow hat hle => gives ?_⟩
    · have hnone : (range' 192 64).find? (fun j => (getSched u die j).isNone) = none :=
        find_range'_none fun j h1 h2 => by simpa using hall j h1 (by omega)
      unfold armAlarm
      dsimp only
      rw [if_neg (Nat.not_lt.mpr hns), hnone]
    · unfold armAlarm
      dsimp only
      rw [if_neg (Nat.not_lt.mpr hns), free hk hk' hbelow hat]
      exact if_neg (Nat.not_le.mpr hlt)
    · unfold armAlarm
      dsimp only
      rw [if_neg (Nat.not_lt.mpr hns), free hk hk' hbelow hat]
      exact if_pos hle
  · rintro rfl
    have gives {v : Word} {u' : State} (ha : postGo u t = (v, u')) : GivesLater c s i d v u' := far_gives h rfl (congrArg given ha)
    have full : tooMany = true ↔ bitsOf (pdomCfg u t) 13 1 = 0 ∧
        postsWaiting u t ≥ bitsOf (getRS u .cellPdomShare (thrDie t) (thrSlot u t) (thrDom u t)) 8 8 := decide_eq_true_iff
    have notDenied (hs : served = true) : ¬(!served) = true := by simp [hs]
    refine ⟨fun hs => gives (if_pos ?_), fun hs hfull => gives ((if_neg (notDenied hs)).trans ?_),
      fun hs hback hroom => gives ((if_neg (notDenied hs)).trans ?_)⟩
    · show (!served) = true
      rw [hs]
      rfl
    · by_cases hback : heldBack u die (pdom * 8 + level) = true
      · exact if_pos hback
      · exact (if_neg hback).trans (if_pos (full.mp (hfull.resolve_left hback)))
    · refine (if_neg (Bool.eq_false_iff.mp hback)).trans ((if_neg fun hc => ?_).trans rfl)
      rw [full.mpr hc] at hroom
      cases hroom

/-! ## Buffer ports -/

theorem findFrom_first {p : Nat → Bool} {a k n : Nat} (hk : a ≤ k) (hn : k < a + n) (hbelow : ∀ j, a ≤ j → j < k → p j = false)
    (hat : p k = true) : findFrom p a n = some k := by
  induction n generalizing a with
  | zero => omega
  | succ n ih =>
    rcases Nat.eq_or_lt_of_le hk with rfl | hlt
    · exact if_pos hat
    · exact (if_neg (by simp [hbelow a (le_refl a) hlt])).trans (ih hlt (by omega) fun j hj => hbelow j (by omega))

section
variable {u : State} {t h : Nat}

theorem heldFrame_none (hu : h = 0 ∨ kget (getT u t).handles h 0 = 0) : heldFrame u t h = none := if_pos hu

theorem heldFrame_some (hu : ¬(h = 0 ∨ kget (getT u t).handles h 0 = 0)) : heldFrame u t h = some (kget (getT u t).handles h 0) := if_neg hu

theorem bufReleaseOp_unheld (hf : heldFrame u t (stagedHandle u t) = none) : bufReleaseOp u t = (0x1000, u) := by
  unfold bufReleaseOp
  dsimp only
  rw [hf]

theorem bufReleaseOp_held {f : Nat} (hf : heldFrame u t (stagedHandle u t) = some f) :
    bufReleaseOp u t = (0x8000, setHandle (endShare u f (.thread t (stagedHandle u t))) t (stagedHandle u t) 0) := by
  unfold bufReleaseOp
  dsimp only
  rw [hf]

theorem bufFreeOp_unheld (hf : heldFrame u t (stagedHandle u t) = none) :
    bufFreeOp u t = (0x1000, freeRefused u t 1 0xFFFF (stagedHandle u t)) := by
  unfold bufFreeOp
  dsimp only
  rw [hf]

theorem bufFreeOp_held {f : Nat} {x : Frame} (hf : heldFrame u t (stagedHandle u t) = some f) (hx : getFrame u f = some x) :
    bufFreeOp u t =
      if mayFree x (.thread t (stagedHandle u t)) then
        (0x8000, setHandle (endShare u f (.thread t (stagedHandle u t))) t (stagedHandle u t) 0)
      else (0x0800, freeRefused u t 2 x.pool (stagedHandle u t)) := by
  unfold bufFreeOp
  dsimp only
  rw [hf]
  dsimp only
  rw [hx]

theorem bufSendOp_unheld (hf : heldFrame u t (stagedHandle u t) = none) : bufSendOp u t = (0x1000, u) := by
  unfold bufSendOp
  dsimp only
  rw [hf]

theorem bufSendOp_held {f : Nat} (hf : heldFrame u t (stagedHandle u t) = some f) :
    bufSendOp u t =
      if (stage u t 0x0606).getLsbD 9 then
        if (((getFrame u f).map (·.shares.length)).getD 0) ≥ 1024 then (0x0400, u)
        else (0x8000, sendBuffer (addShare u f (.thread t 0)) t f (.thread t 0))
      else (0x8000, sendBuffer (setHandle u t (stagedHandle u t) 0) t f (.thread t (stagedHandle u t))) := by
  unfold bufSendOp
  dsimp only
  rw [hf]

end

/-- Settles O17, by what each buffer operation answers. -/
theorem bufferPorts : Obligations.BufferPorts := by
  unfold Obligations.BufferPorts
  intro s c i d p u t die h pool owner f unheld beyond gives refusedFree hr
  refine ⟨?_, ?_, ?_, ?_, ?_⟩
  · rintro rfl
    have answer {v : Word} {u' : State} (ha : bufAllocate u t = (v, u')) : GivesLater c s i d v u' := far_gives hr rfl (congrArg given ha)
    refine ⟨fun hfull => answer (if_pos hfull), fun hroom hb => answer ((if_neg (Nat.not_le.mpr hroom)).trans (if_pos hb)),
      fun hroom hb hg => answer ((if_neg (Nat.not_le.mpr hroom)).trans ((if_neg hb).trans (if_pos ?_))),
      fun k hroom hb hg hk hk' hbelow hat => answer ((if_neg (Nat.not_le.mpr hroom)).trans ((if_neg hb).trans ((if_neg ?_).trans ?_)))⟩
    · rw [hg]
      rfl
    · rw [hg]
      exact Bool.false_ne_true
    · have hfind : findFrom (fun j => kget (getT u t).handles j 0 = 0) 1 255 = some k :=
        findFrom_first hk hk' (fun j h1 h2 => decide_eq_false (hbelow j h1 h2)) (decide_eq_true hat)
      rw [hfind]
  · rintro rfl
    have answer {v : Word} {u' : State} (ha : bufReleaseOp u t = (v, u')) : GivesLater c s i d v u' := far_gives hr rfl (congrArg given ha)
    exact ⟨fun hu => answer (bufReleaseOp_unheld (heldFrame_none hu)), fun hu => answer (bufReleaseOp_held (heldFrame_some hu))⟩
  · rintro rfl
    have answer {v : Word} {u' : State} (ha : bufFreeOp u t = (v, u')) : GivesLater c s i d v u' := far_gives hr rfl (congrArg given ha)
    exact ⟨fun hu => answer (bufFreeOp_unheld (heldFrame_none hu)),
      fun x hu hx hm => answer ((bufFreeOp_held (heldFrame_some hu) hx).trans (if_pos hm)),
      fun x hu hx hm => answer ((bufFreeOp_held (heldFrame_some hu) hx).trans (if_neg (Bool.eq_false_iff.mp hm)))⟩
  · rintro rfl
    have answer {v : Word} {u' : State} (ha : bufSendOp u t = (v, u')) : GivesLater c s i d v u' := far_gives hr rfl (congrArg given ha)
    have shares {x : Frame} (hx : getFrame u f = some x) : ((getFrame u f).map (·.shares.length)).getD 0 = x.shares.length := by rw [hx]; rfl
    refine ⟨fun hu => answer (bufSendOp_unheld (heldFrame_none hu)), fun x hu hx hk hn => ?_, fun x hu hx hk hn => ?_, fun hu hk => ?_⟩
    · exact answer ((bufSendOp_held (heldFrame_some hu)).trans ((if_pos hk).trans (if_pos (hn.trans (shares hx).ge))))
    · exact answer ((bufSendOp_held (heldFrame_some hu)).trans ((if_pos hk).trans (if_neg (Nat.not_le.mpr ((shares hx).trans_lt hn)))))
    · exact answer ((bufSendOp_held (heldFrame_some hu)).trans (if_neg (Bool.eq_false_iff.mp hk)))
  · rintro rfl
    exact far_gives hr rfl rfl

/-! ## Locks, unit claims and policers -/

theorem locksCounted_eq (s : State) (t : Nat) :
    locksCounted s t = (getT s t).locks.length + (match (getT s t).inPend with | some q => if q.acquire.isSome then 1 else 0 | none => 0) := by
  unfold locksCounted
  rcases (getT s t).inPend with - | ⟨rd, value, - | n⟩ <;> rfl

/-- An IN of io:LOCK_ACQ + n is an acquire. -/
theorem readOutside_lock {u : State} {t p : Nat} (h1 : 0x1000 ≤ p) (h2 : p < 0x2000) : readOutside u t p = lockAcquire u t (p - 0x1000) := by
  unfold readOutside
  dsimp only
  repeat rw [if_neg (by omega)]
  exact if_pos ⟨h1, by omega⟩

theorem insideCell_lock {p : Nat} (h1 : 0x1000 ≤ p) (h2 : p < 0x2000) : insideCell p = false := by
  simp only [insideCell, Bool.or_eq_false_iff, Bool.and_eq_false_imp, decide_eq_false_iff_not, decide_eq_true_eq]
  omega

section
variable {u : State} {t : Nat}

theorem readOutside_police_stalls (h : talPolice u t = none) : readOutside u t 0x0509 = .stall := by simp [readOutside, h]

theorem readOutside_police_gives {r : Word × State} (h : talPolice u t = some r) : readOutside u t 0x0509 = given r := by
  simp [readOutside, h]

theorem claimDg_free (h : (getCell u (t / 8)).digest.claim = none) :
    claimDg u t = (gotWord (getCell u (t / 8)).digest.abandoned, setCell u (t / 8)
      { getCell u (t / 8) with digest := { (getCell u (t / 8)).digest with claim := some t, abandoned := false } }) := by
  unfold claimDg thrCell
  dsimp only
  rw [h]

theorem claimDg_held {k : Nat} (h : (getCell u (t / 8)).digest.claim = some k) : claimDg u t = (ownerCode (thrMaster k), u) := by
  unfold claimDg thrCell
  dsimp only
  rw [h]

theorem claimBk_free (h : (getComb u (thrComb t)).claim = none) :
    claimBk u t = (gotWord (getComb u (thrComb t)).abandoned,
      setComb u (thrComb t) { getComb u (thrComb t) with claim := some t, abandoned := false }) := by
  unfold claimBk
  dsimp only
  rw [h]

theorem claimBk_held {k : Nat} (h : (getComb u (thrComb t)).claim = some k) : claimBk u t = (ownerCode (thrMaster k), u) := by
  unfold claimBk
  dsimp only
  rw [h]

end

/-- Settles O18, by what the banks, the claims and the policers answer. -/
theorem lockClaimAndPolicePorts : Obligations.LockClaimAndPolicePorts := by
  unfold Obligations.LockClaimAndPolicePorts
  intro s c i d p u t die counted cell comb dir ten bytes h
  have hcount : locksCounted u t = counted := locksCounted_eq u t
  refine ⟨fun h1 h2 => ?_, ?_, ?_, ?_, ?_, ?_, ?_⟩
  · have hr := (ioRead_outside h (insideCell_lock h1 h2)).trans (readOutside_lock h1 h2)
    refine ⟨fun hc => awaits_unit h.1 (hr.trans (if_neg ?_)), fun hc => gives_later h.1 (hr.trans (if_pos ?_))⟩
    · exact Nat.not_le.mpr (hcount.trans_lt hc)
    · exact hc.trans hcount.ge
  · rintro rfl; exact awaits_unit h.1 ((ioRead_outside h rfl).trans rfl)
  · rintro rfl; exact far_gives h rfl rfl
  · rintro rfl
    rw [← hcount]
    refine far_gives h rfl (congrArg (fun w => given (w, u)) ?_ : readOutside u t 0x2004 = _)
    simp only [holdsDg, holdsBk, decide_eq_true_eq]
    rfl
  · rintro rfl
    exact ⟨fun hc => far_gives h rfl (congrArg given (claimDg_free hc)), fun k hc => far_gives h rfl (congrArg given (claimDg_held hc))⟩
  · rintro rfl
    exact ⟨fun hc => far_gives h rfl (congrArg given (claimBk_free hc)), fun k hc => far_gives h rfl (congrArg given (claimBk_held hc))⟩
  · rintro rfl
    have answer {v : Word} {u' : State} (ha : talPolice u t = some (v, u')) : GivesLater c s i d v u' :=
      far_gives h rfl (readOutside_police_gives ha)
    have room (hq : combQueueFull u t = false) := Bool.eq_false_iff.mp hq
    have may (hg : talGranted u t = true) : ¬(!talGranted u t) = true := by simp [hg]
    refine ⟨fun hq => in_stalls h.1.1 h.1.2.1 ((ioRead_outside h rfl).trans (readOutside_police_stalls (if_pos hq))),
      fun hq hg => answer ((if_neg (room hq)).trans (if_pos (by rw [hg]; rfl))),
      fun hq hg => ⟨fun hen => ?_, fun hen hn => ?_, fun hen hn => ?_⟩⟩
    · exact answer ((if_neg (room hq)).trans ((if_neg (may hg)).trans (if_pos hen)))
    · exact answer ((if_neg (room hq)).trans ((if_neg (may hg)).trans ((if_neg (by rw [hen]; decide)).trans (if_pos hn))))
    · exact answer ((if_neg (room hq)).trans ((if_neg (may hg)).trans ((if_neg (by rw [hen]; decide)).trans (if_neg (Nat.not_le.mpr hn)))))

end Sys2Proof.Proofs
end

section
/-!
PROOF. The ports that an OUT writes: staging, the supervisor and its debugger (R8, R10, R109, R116 to R122), events, locks and alarms (R50, R157,
R173, R179, R180), and the launches of forager, learn and tally requests (R201 to R218, R317).
-/

namespace Sys2Proof.Proofs

open Sys2Proof.Machine Sys2Proof.Laws Sys2Proof.Safety Sys2Proof.Claims

section
variable {s u' : State} {c : Instr} {i : Issue} {a : WReg} {p : Nat}

/-- An OUT to a port that triggers an action. -/
theorem action_leaves (h : Writing s c i a p) (hp : stageMask p = none) (hw : writeAction (ready s i) i.tid p (written s i a) = .ok u') :
    Leaves c s i u' := out_leaves h ((ioWrite_action h hp _).trans hw)

theorem action_stalls (h : Writing s c i a p) (hp : stageMask p = none) (hw : writeAction (ready s i) i.tid p (written s i a) = .stall) :
    Stalls c s i := out_stalls h ((ioWrite_action h hp _).trans hw)

theorem action_faults {cause : Nat} (h : Writing s c i a p) (hp : stageMask p = none)
    (hw : writeAction (ready s i) i.tid p (written s i a) = .fault cause) : Faults c s i cause (nw p) :=
  out_faults h.1 h.2.1 ((ioWrite_action h hp _).trans hw)

end

/-! ## Events, locks, units and alarms -/

section
variable {u : State} {t : Nat}

theorem cancelAlarm_faults {v : Word} (h : v.toNat % 256 < 192) : cancelAlarm u t v = none := if_pos h

theorem cancelAlarm_free {v : Word} (h : 192 ≤ v.toNat % 256) (he : getSched u (thrDie t) (v.toNat % 256) = none) :
    cancelAlarm u t v = some u := by
  unfold cancelAlarm
  dsimp only
  rw [if_neg (Nat.not_lt.mpr h), he]

theorem cancelAlarm_armed {v : Word} {e : SchedEntry} (h : 192 ≤ v.toNat % 256) (he : getSched u (thrDie t) (v.toNat % 256) = some e) :
    cancelAlarm u t v = if e.armer / 8 = t / 8 then some (setSched u (thrDie t) (v.toNat % 256) none) else none := by
  unfold cancelAlarm
  dsimp only
  rw [if_neg (Nat.not_lt.mpr h), he]
  rfl

theorem writeAction_alarm_ok {v : Word} (h : cancelAlarm u t v = some u') : writeAction u t 0x0418 v = .ok u' := by simp [writeAction, h]
theorem writeAction_alarm_faults {v : Word} (h : cancelAlarm u t v = none) : writeAction u t 0x0418 v = .fault 4 := by simp [writeAction, h]

theorem lockRelease_free {v : Word} (hb : inBit u t = false) :
    lockRelease u t v =
      if v.toNat % 4096 ∈ (getT u t).locks then
        .ok (bankAdd (modT u t (fun x => { x with locks := x.locks.erase (v.toNat % 4096) })) (thrDie t) (v.toNat % 4096)
          (.release t (v.toNat % 4096)))
      else .fault 5 := if_neg (by simp [hb])

theorem unitFree_free {busy holds : Bool} {free : State} (hb : inBit u t = false) (hbusy : busy = false) :
    unitFree u t busy holds free = if holds then .ok free else .fault 5 := if_neg (by simp [hb, hbusy])

theorem unitFree_busy {busy holds : Bool} {free : State} (hb : inBit u t = true ∨ busy = true) : unitFree u t busy holds free = .stall :=
  if_pos (by rcases hb with hb | hb <;> simp [hb])

theorem getT_setBank (u : State) (d b : Nat) (l : List LockReq) (t : Nat) : getT (setBank u d b l) t = getT u t := rfl

/-- Cancelling a subscription takes it from the thread; the requests dropped stand in the banks. -/
theorem lockSub_cancelSub (u : State) (t : Nat) : (getT (cancelSub u t) t).lockSub = none := by
  have hd (v : State) : getT (dropReqs v t true) t = getT v t := foldl_keeps (getT · t) (fun _ _ => getT_setBank _ _ _ _ _) _ _
  rw [cancelSub, hd, getT_modT_same]

theorem freeDg_digest (u : State) (c : Nat) : (getCell (freeDg u c false) c).digest =
    { freshDigest with keys := (getCell u c).digest.keys, abandoned := (getCell u c).digest.abandoned } := by
  rw [freeDg, modCell, getCell_setCell_same, Bool.or_false]

theorem freeBk_eq (u : State) (k : Nat) : freeBk u k false = setComb u k { freshComb with
    abandoned := (getComb u k).abandoned, next := (getComb u k).next, stallEpoch := (getComb u k).stallEpoch } := by
  rw [freeBk, modComb, Bool.or_false]

end

/-- Settles O20, by what each write does. -/
theorem eventLockAndAlarmPorts : Obligations.EventLockAndAlarmPorts := by
  unfold Obligations.EventLockAndAlarmPorts
  intro s c i a p u t die v n k comb h
  refine ⟨?_, ?_, ?_, ?_, ?_, ?_, ?_, ?_⟩
  · rintro rfl; exact action_leaves h rfl rfl
  · rintro rfl hm
    refine action_leaves h rfl (congrArg OutRes.ok ?_ : writeAction u t 0x0102 v = _)
    exact if_pos hm
  · rintro rfl hm
    exact ⟨action_leaves h rfl (congrArg OutRes.ok (if_neg (Bool.eq_false_iff.mp hm)) : writeAction u t 0x0102 v = _), lockSub_cancelSub u t⟩
  · rintro rfl hv
    refine action_leaves h rfl (congrArg OutRes.ok ?_ : writeAction u t 0x0103 v = _)
    rw [if_neg hv]
  · rintro rfl hv
    refine action_leaves h rfl (congrArg OutRes.ok ?_ : writeAction u t 0x0103 v = _)
    rw [if_pos hv]
  · rintro rfl
    refine ⟨fun hk => ?_, fun hk he => ?_, fun e hk he ha => ?_, fun e hk he ha => ?_⟩
    · exact action_faults h rfl (writeAction_alarm_faults (cancelAlarm_faults hk))
    · exact action_leaves h rfl (writeAction_alarm_ok (cancelAlarm_free hk he))
    · exact action_leaves h rfl (writeAction_alarm_ok ((cancelAlarm_armed hk he).trans (if_pos ha)))
    · exact action_faults h rfl (writeAction_alarm_faults ((cancelAlarm_armed hk he).trans (if_neg ha)))
  · intro hp hb
    have hbit : inBit u t = true := (inBit_ready s i).trans hb
    rcases hp with rfl | rfl | rfl
    · exact action_stalls h rfl (if_pos hbit : lockRelease u t v = _)
    · exact action_stalls h rfl (unitFree_busy (.inl hbit))
    · exact action_stalls h rfl (unitFree_busy (.inl hbit))
  · intro hb
    have hbit : inBit u t = false := (inBit_ready s i).trans hb
    refine ⟨?_, ?_, ?_, ?_, ?_, ?_, ?_, ?_⟩
    · rintro rfl hn
      exact action_leaves h rfl ((lockRelease_free hbit).trans (if_pos hn))
    · rintro rfl hn
      exact action_faults h rfl ((lockRelease_free hbit).trans (if_neg hn))
    · rintro rfl hop hc
      exact ⟨_, action_leaves h rfl ((unitFree_free hbit (by rw [thrCell, hop]; rfl)).trans (if_pos (decide_eq_true hc))), freeDg_digest u _⟩
    · rintro rfl hop hc
      exact action_faults h rfl ((unitFree_free hbit (by rw [thrCell, hop]; rfl)).trans (if_neg (ne_true_of_eq_false (decide_eq_false hc))))
    · rintro rfl hop
      exact action_stalls h rfl (unitFree_busy (.inr (Option.isSome_iff_ne_none.mpr hop)))
    · rintro rfl hop hc
      exact action_leaves h rfl ((unitFree_free hbit (by rw [hop]; rfl)).trans
        ((if_pos (decide_eq_true hc)).trans (congrArg OutRes.ok (freeBk_eq u _))))
    · rintro rfl hop hc
      exact action_faults h rfl ((unitFree_free hbit (by rw [hop]; rfl)).trans (if_neg (ne_true_of_eq_false (decide_eq_false hc))))
    · rintro rfl hop
      exact action_stalls h rfl (unitFree_busy (.inr (Option.isSome_iff_ne_none.mpr hop)))

end Sys2Proof.Proofs
end

section
/-!
PROOF. The launches of forager, learn and tally requests (R201, R202, R205, R218, R317).
-/

namespace Sys2Proof.Proofs

open Sys2Proof.Machine Sys2Proof.Laws Sys2Proof.Safety Sys2Proof.Claims

section
variable {u u' : State} {t : Nat} {v : Word}

theorem privWords_of_le {b n : Nat} (h : n = 0 ∨ b + n ≤ 0x1000) :
    privWords u t b n = (List.range n).map (fun k => memAt u (t * 0x2000 + (b + k))) := by
  unfold privWords
  refine List.map_congr_left fun k hk => ?_
  have hk : k < n := List.mem_range.mp hk
  rw [flatAddr_private (by omega)]

theorem writeAction_launch_ok (h : fgGo u t v = some u') : writeAction u t 0x030F v = .ok u' := by simp [writeAction, h]
theorem writeAction_launch_stalls (h : fgGo u t v = none) : writeAction u t 0x030F v = .stall := by simp [writeAction, h]
theorem writeAction_count_ok (h : talCount u t = some u') : writeAction u t 0x0508 v = .ok u' := by simp [writeAction, h]
theorem writeAction_count_stalls (h : talCount u t = none) : writeAction u t 0x0508 v = .stall := by simp [writeAction, h]

/-- The state with the next number given out. -/
def numbered (u : State) : State := { u with path := { u.path with nextId := u.path.nextId + 1 } }

theorem fgGo_ready (h : (getT u t).sb.getLsbD (v.toNat % 8) = false) (hh : heldOf u (t / 8) < 8) :
    fgGo u t v = some (launch (numbered u) (stagedReq (numbered u) t (v.toNat % 8) u.path.nextId)) :=
  if_neg (by rw [h]; exact fun hb => hb.elim Bool.false_ne_true (Nat.not_le.mpr hh))

/-- A staged request whose key and data lie within the thread's own words (R202). -/
theorem stagedReq_of_le {slot id : Nat}
    (hk : (stage u t 0x0303).toNat = 0 ∨ (stage u t 0x0302).toNat + (stage u t 0x0303).toNat ≤ 0x1000) {dl : Nat}
    (hl : dl = if (stage u t 0x0300).toNat % 8 = 1 ∨ (stage u t 0x0300).toNat % 8 = 2 ∨ (stage u t 0x0300).toNat % 8 = 4
      then (stage u t 0x0305).toNat else 0)
    (hd : dl = 0 ∨ (stage u t 0x0304).toNat + dl ≤ 0x1000) :
    stagedReq u t slot id =
      ⟨id, t, (stage u t 0x0300).toNat % 8,
        if (stage u t 0x0300).toNat % 8 = 5 then (stage u t 0x0301).toNat % 16 else (stage u t 0x0301).toNat % 64, slot,
        thrSlot u t, thrDom u t, (List.range (stage u t 0x0303).toNat).map (fun k => memAt u (t * 0x2000 + ((stage u t 0x0302).toNat + k))),
        (List.range dl).map (fun k => memAt u (t * 0x2000 + ((stage u t 0x0304).toNat + k))), (stage u t 0x0306).toNat, false, false⟩ := by
  unfold stagedReq
  dsimp only
  rw [← hl, privWords_of_le hk, privWords_of_le hd]
  have hbad : ¬(((stage u t 0x0303).toNat ≠ 0 ∧ (stage u t 0x0302).toNat + (stage u t 0x0303).toNat > 0x1000) ∨
    (dl ≠ 0 ∧ (stage u t 0x0304).toNat + dl > 0x1000)) := by omega
  rw [if_neg hbad, if_neg hbad, decide_eq_false hbad]

/-- The words of key and of action of a staged learn request (R218). -/
theorem lrnPost_of_en {x : Desc} (hx : curDesc u (thrDie t) ((stage u t 0x0320).toNat % 64) = x) (hen : x.en = true) :
    lrnPost u t = if (x.keyWords ≠ 0 ∧ (stage u t 0x0321).toNat + x.keyWords > 0x1000) ∨
        (descA x ≠ 0 ∧ (stage u t 0x0322).toNat + descA x > 0x1000) then learnBad u (thrDie t) ((stage u t 0x0320).toNat % 64) (thrMaster t)
      else postLearn u (thrDie t) ⟨false, t, thrDom u t, (stage u t 0x0320).toNat % 64,
        decide ((stage u t 0x0320).toNat / 256 % 2 = 1), privWords u t (stage u t 0x0321).toNat x.keyWords,
        privWords u t (stage u t 0x0322).toNat (descA x)⟩ := by
  unfold lrnPost
  dsimp only
  rw [hx, if_pos hen, if_pos hen]

theorem talCount_free (h : combQueueFull u t = false) :
    talCount u t = if !talGranted u t then some (talDenied u t) else
      some (addCount u (thrDie t) (thrComb t % 8) (stagedTenant u t) (if (stage u t 0x0502).getLsbD 0 then 2 else 0) (countBytes u t)
        (countTime u t)) := if_neg (by simp [h])

end

/-- Settles O21, by what each write does. -/
theorem foragerLearnAndTallyPorts : Obligations.ForagerLearnAndTallyPorts := by
  unfold Obligations.ForagerLearnAndTallyPorts
  intro s c i a p u t die slot op table ka kl da dl private_ u1 lt x kn an lk la h
  refine ⟨?_, ?_, ?_⟩
  · rintro rfl
    refine ⟨fun hbusy => ?_, fun hsb hheld hk hd => ?_⟩
    · refine action_stalls h rfl (writeAction_launch_stalls (if_pos ?_))
      rwa [ready_thread]
    · have hsb' : (getT u t).sb.getLsbD slot = false := (congrArg (fun y : Thread => y.sb.getLsbD slot) (ready_thread s i)).trans hsb
      refine action_leaves h rfl (writeAction_launch_ok ((fgGo_ready hsb' hheld).trans (congrArg (fun q => some (launch u1 q)) ?_)))
      exact stagedReq_of_le (u := u1) hk rfl hd
  · rintro rfl hen
    refine ⟨fun hbad => ?_, fun hk hn => ?_⟩
    · exact action_leaves h rfl (congrArg OutRes.ok ((lrnPost_of_en rfl hen).trans (if_pos (hbad.imp And.symm And.symm))))
    · refine action_leaves h rfl (congrArg OutRes.ok ((lrnPost_of_en rfl hen).trans ((if_neg ?_).trans ?_)))
      · exact fun hb => hb.elim (fun ⟨h0, h1⟩ => hk.elim h0 (Nat.not_le.mpr h1)) (fun ⟨h0, h1⟩ => hn.elim h0 (Nat.not_le.mpr h1))
      · rw [privWords_of_le hk, privWords_of_le (n := descA _) hn]
        rfl
  · rintro rfl
    refine ⟨fun hf => ?_, fun hf hg => ?_, fun hf hg => ?_⟩
    · exact action_stalls h rfl (writeAction_count_stalls (if_pos hf))
    · exact action_leaves h rfl (writeAction_count_ok ((talCount_free hf).trans (if_pos (by simp [hg]))))
    · exact action_leaves h rfl (writeAction_count_ok ((talCount_free hf).trans (if_neg (by simp [hg]))))

/-! ## Staging, the supervisor and its debugger -/

section
variable {s u u' : State} {c : Instr} {i : Issue} {a : WReg} {p t k n : Nat} {v : Word}

theorem out_staged {m : Word} (h : Writing s c i a p) (hm : stageMask p = some m) :
    Leaves c s i (setStage (ready s i) i.tid p (written s i a &&& m)) :=
  out_leaves h (by simp [ioWrite, h.2.2, hm])

/-- What a write to io:THR_EN does to one thread of its cell (R109). -/
def enableThread (s : State) (t : Nat) : State :=
  if !isSup t && (decide ((getT s t).st = .free) || decide ((getT s t).st = .disabled)) then setSt s t (idleState s t) else s

theorem getT_enableThread_ne (h : k ≠ t) : getT (enableThread u t) k = getT u k := by
  unfold enableThread
  split
  · exact getT_modT_ne _ _ _ _ h
  · rfl

theorem getCell_enableThread (u : State) (t n : Nat) : getCell (enableThread u t) n = getCell u n := by
  unfold enableThread
  split <;> rfl

theorem getT_enableThreads_of_not_mem {l : List Nat} (h : t ∉ l) (u : State) : getT (forEach l enableThread u) t = getT u t := by
  induction l generalizing u with
  | nil => rfl
  | cons k l ih =>
    obtain ⟨hk, hl⟩ := not_or.mp (fun hm => h (List.mem_cons.mpr hm))
    exact (ih hl _).trans (getT_enableThread_ne hk)

theorem getCell_enableThreads (l : List Nat) (u : State) (n : Nat) : getCell (forEach l enableThread u) n = getCell u n :=
  foldl_keeps (getCell · n) (fun _ _ => getCell_enableThread _ _ _) l u

/-- A FREE or DISABLED thread becomes FREE or DISABLED as the enable bits of its cell say. -/
theorem st_enableThread (ht : isSup t = false) (hst : (getT u t).st = .free ∨ (getT u t).st = .disabled) :
    (getT (enableThread u t) t).st = if (getCell u (thrCell t)).thrEn.getLsbD (t % 8) then .free else .disabled := by
  have hc : (!isSup t && (decide ((getT u t).st = .free) || decide ((getT u t).st = .disabled))) = true := by
    rcases hst with hst | hst <;> simp [ht, hst]
  rw [enableThread, if_pos hc, st_setSt, idleState, thrEnabled, ht]
  rfl

theorem st_enableThreads {l : List Nat} (hl : l.Nodup) (hmem : t ∈ l) (ht : isSup t = false)
    (hst : (getT u t).st = .free ∨ (getT u t).st = .disabled) :
    (getT (forEach l enableThread u) t).st = if (getCell u (thrCell t)).thrEn.getLsbD (t % 8) then .free else .disabled := by
  induction l generalizing u with
  | nil => exact absurd hmem List.not_mem_nil
  | cons k l ih =>
    obtain ⟨hk, hl⟩ := List.nodup_cons.mp hl
    rcases List.mem_cons.mp hmem with rfl | hm
    · exact (congrArg Thread.st (getT_enableThreads_of_not_mem hk _)).trans (st_enableThread ht hst)
    · have hne : t ≠ k := fun he => hk (he ▸ hm)
      have hst' := hst
      rw [← getT_enableThread_ne (t := k) hne] at hst'
      refine (ih hl hm hst').trans ?_
      rw [getCell_enableThread]

theorem writeThrEn_eq (u : State) (n : Nat) (v : Word) :
    writeThrEn u n v = forEach (cellThreads n) enableThread (modCell u n (fun x => { x with thrEn := v.setWidth 8 &&& 0xFE })) := rfl

theorem thrEn_writeThrEn (u : State) (n : Nat) (v : Word) : (getCell (writeThrEn u n v) n).thrEn = v.setWidth 8 &&& 0xFE := by
  rw [writeThrEn_eq, getCell_enableThreads, modCell, getCell_setCell_same]

theorem cellThreads_nodup (n : Nat) : (cellThreads n).Nodup := List.nodup_range.map (fun _ _ h => Nat.add_left_cancel h)

theorem enableMask_getLsbD (h1 : 1 ≤ k) (h8 : k < 8) : (v.setWidth 8 &&& 0xFE : BitVec 8).getLsbD k = v.getLsbD k := by
  have hk : k = 1 ∨ k = 2 ∨ k = 3 ∨ k = 4 ∨ k = 5 ∨ k = 6 ∨ k = 7 := by omega
  rcases hk with rfl | rfl | rfl | rfl | rfl | rfl | rfl <;> simp [-BitVec.getLsbD_eq_getElem]

/-- A write to io:THR_EN on a thread 1 to 7 that is FREE or DISABLED (R109). -/
theorem st_writeThrEn (h1 : 1 ≤ k) (h8 : k < 8) (hst : (getT u (n * 8 + k)).st = .free ∨ (getT u (n * 8 + k)).st = .disabled) :
    (getT (writeThrEn u n v) (n * 8 + k)).st = if v.getLsbD k then .free else .disabled := by
  have hmod : (n * 8 + k) % 8 = k := by omega
  have hdiv : thrCell (n * 8 + k) = n := by unfold thrCell; omega
  have hsup : isSup (n * 8 + k) = false := by
    unfold isSup
    rw [hmod]
    exact decide_eq_false (by omega)
  have hmem : n * 8 + k ∈ cellThreads n := List.mem_map.mpr ⟨k, List.mem_range.mpr h8, rfl⟩
  have hkeep : getT (modCell u n (fun x => { x with thrEn := v.setWidth 8 &&& 0xFE })) (n * 8 + k) = getT u (n * 8 + k) := rfl
  rw [← hkeep] at hst
  rw [writeThrEn_eq, st_enableThreads (cellThreads_nodup n) hmem hsup hst, hdiv, modCell, getCell_setCell_same, hmod,
    enableMask_getLsbD h1 h8]

/-! ### Resets, halts, resumes and steps -/

theorem threadReset_cleared {r : Nat} {q : Bool} (h : isSup t = false) :
    (getT (threadReset u t r q) t).st = .resetting ∧ (getT (threadReset u t r q) t).item = none ∧
      (getT (threadReset u t r q) t).locks = [] ∧ (getT (threadReset u t r q) t).handles = [] := by
  have hr : threadReset u t r q = setSt (clearThread u t r q) t .resetting := if_neg (by simp [h])
  rw [hr]
  refine ⟨st_setSt _ _ _, (item_setSt _ _ _).trans ?_, ?_, ?_⟩ <;> simp [setSt, clearThread, releaseHandles]

theorem isSup_selected (h1 : 1 ≤ k) (h7 : k ≤ 7) : isSup (n * 8 + k) = false := decide_eq_false (by omega)

theorem tryWake_of_not_waiting (h : (getT u t).st ≠ .waiting) : tryWake u t = u := by
  unfold tryWake
  dsimp only
  split
  · next hst _ => exact absurd hst h
  · rfl

theorem getT_modOut (u : State) (f : Nat) (g : Outstanding → Outstanding) (t : Nat) : getT (modOut u f g) t = getT u t := by
  unfold modOut
  split <;> rfl

theorem getT_endFreeze (u : State) (t : Nat) : getT (endFreeze u t) t = { getT u t with freeze := none } := by
  unfold endFreeze
  dsimp only
  split
  · next h => rw [← h]
  · split
    · split
      · exact (getT_modOut _ _ _ _).trans (getT_setT_same u t _)
      · exact getT_setT_same u t _
    · exact getT_setT_same u t _

theorem dbgResumeT_active (h : (getT u t).st = .halted) (hf : (getT u t).haltFrom = some .active) :
    (getT (dbgResumeT u t) t).st = .active ∧ (getT (dbgResumeT u t) t).haltFrom = none := by
  have hr : resumeState (endFreeze u t) t = .active := by rw [resumeState, getT_endFreeze]; simp [hf]
  unfold dbgResumeT
  dsimp only
  rw [if_pos h, hr, tryWake_of_not_waiting] <;> simp [setSt]

theorem dbgStepT_active (h : (getT u t).st = .halted) (hf : (getT u t).haltFrom = some .active) :
    (getT (dbgStepT u t) t).st = .active ∧ (getT (dbgStepT u t) t).stepping = true := by
  have hr : resumeState u t = .active := by rw [resumeState, hf]
  unfold dbgStepT
  dsimp only
  rw [hr, if_pos ⟨h, .inl rfl⟩, tryWake_of_not_waiting] <;> simp [setSt]

theorem dbgHaltT_halts (h : (getT u t).st = .free ∨ (getT u t).st = .active ∨ (getT u t).st = .stalled ∨ (getT u t).st = .waiting) :
    dbgHaltT u t false = dbgRecord (haltThread u t) 0x4004 t :=
  if_neg (by rcases h with h | h | h | h <;> simp [h])

theorem supResumeT_faulted {f : ThrFault} (h : (getT u t).st = .faulted) (hf : (getT u t).fault = some f) :
    supResumeT u t = modT (setSt u t .active) t
      (fun x => { x with fault := none, cycBase := if f.cause = 8 then 0 else x.cycBase }) := by
  unfold supResumeT
  rw [h, hf]

theorem supSkipT_faulted {f : ThrFault} (h : (getT u t).st = .faulted) (hf : (getT u t).fault = some f) (h8 : f.cause ≠ 8) :
    (getT (supSkipT u t) t).st = .active ∧ (getT (supSkipT u t) t).fault = none ∧
      (regsOf (supSkipT u t) t).pc = f.pc + nw f.units ∧ (regsOf (supSkipT u t) t).w = (regsOf u t).w := by
  have hs : supSkipT u t = modT (supResumeT u t) t (fun x => { x with regs := { x.regs with pc := f.pc + nw f.units } }) := by
    unfold supSkipT
    rw [h, hf]
    exact if_neg h8
  rw [hs, supResumeT_faulted h hf]
  simp [setSt, regsOf]

theorem supKillT_faulted (h : (getT u t).st = .faulted) : ∃ w r, supKillT u t = threadReset w t r true := ⟨_, _, if_pos h⟩

theorem supCommand_of_sel (hs : selected n (getCell u n).fltSel = some t) :
    (v = 1 → supCommand u n v = supResumeT u t) ∧ (v = 2 → supCommand u n v = supSkipT u t) ∧
      (v = 3 → supCommand u n v = supKillT u t) ∧ (v = 4 → supCommand u n v = threadReset u t reasonThreadReset false) := by
  unfold supCommand
  rw [hs]
  refine ⟨?_, ?_, ?_, ?_⟩ <;> rintro rfl <;> rfl

theorem dbgCommand_of_sel (hd : (getCell u n).dbg = some .supervisor) (hs : selected n (getCell u n).dbgSel = some t) :
    (v = 1 → dbgCommand u n v = dbgHaltT u t false) ∧ (v = 2 → dbgCommand u n v = dbgResumeT u t) ∧
      (v = 3 → dbgCommand u n v = dbgStepT u t) ∧ (v = 4 → dbgCommand u n v = threadReset u t reasonThreadReset false) := by
  unfold dbgCommand
  rw [hd, hs]
  refine ⟨?_, ?_, ?_, ?_⟩ <;> rintro rfl <;> rfl

theorem dbgCommand_of_not_attached (h : (getCell u n).dbg ≠ some .supervisor) : dbgCommand u n v = u := by
  unfold dbgCommand
  split
  · next hd _ => exact absurd hd h
  · rfl

theorem not_faulted_unchanged (h : (getT u t).st ≠ .faulted) : supResumeT u t = u ∧ supSkipT u t = u ∧ supKillT u t = u := by
  unfold supResumeT supSkipT
  refine ⟨?_, ?_, if_neg h⟩ <;> split
  · next hst _ => exact absurd hst h
  · rfl
  · next hst _ => exact absurd hst h
  · rfl

theorem dbgSelect_free (h : ∀ k, (getCell u n).dbg ≠ some (.session k)) :
    dbgSelect u n v = modCell u n (fun x => { x with dbg := some .supervisor, dbgSel := v }) := by
  unfold dbgSelect
  split
  · next k hk => exact absurd hk (h k)
  · rfl

theorem dbgSelect_session (h : (getCell u n).dbg = some (.session k)) : dbgSelect u n v = u := by
  unfold dbgSelect
  rw [h]

end

/-- Settles O19, by what each write does. -/
theorem supervisorPorts : Obligations.SupervisorPorts := by
  unfold Obligations.SupervisorPorts
  intro s c i a p u t v cell picks fl db h
  refine ⟨fun m hm => out_staged h hm, ?_, ?_, ?_, ?_, ?_, ?_, ?_, ?_⟩
  · rintro rfl
    refine ⟨_, action_leaves h rfl rfl, thrEn_writeThrEn _ _ _, fun k h1 h8 hv hst => ?_, fun k h1 h8 hv hst => ?_⟩
    · exact (st_writeThrEn h1 h8 (.inr hst)).trans (if_pos hv)
    · exact (st_writeThrEn h1 h8 (.inl hst)).trans (if_neg (ne_true_of_eq_false hv))
  · rintro rfl; exact action_leaves h rfl rfl
  · rintro rfl; exact action_leaves h rfl rfl
  · rintro rfl hsel
    obtain ⟨hresume, hskip, hkill, hreset⟩ := supCommand_of_sel (v := v) (selected_of_range hsel.1 hsel.2)
    have leaves {u'} (hc : supCommand u (t / 8) v = u') : Leaves c s i u' := action_leaves h rfl (congrArg OutRes.ok hc)
    have hsup : isSup fl = false := isSup_selected hsel.1 hsel.2
    refine ⟨fun hv hst f hf => ?_, fun hv hst f hf h8 => ?_, fun hv hst => ?_, fun hv => ?_, fun hst hv => ?_⟩
    · exact leaves ((hresume hv).trans (supResumeT_faulted hst hf))
    · exact ⟨_, leaves (hskip hv), supSkipT_faulted hst hf h8⟩
    · obtain ⟨w, r, hw⟩ := supKillT_faulted hst
      exact ⟨_, leaves ((hkill hv).trans hw), threadReset_cleared hsup⟩
    · exact ⟨_, leaves (hreset hv), threadReset_cleared hsup⟩
    · obtain ⟨h1, h2, h3⟩ := not_faulted_unchanged hst
      rcases hv with hv | hv | hv
      · exact leaves ((hresume hv).trans h1)
      · exact leaves ((hskip hv).trans h2)
      · exact leaves ((hkill hv).trans h3)
  · rintro rfl hd
    exact action_leaves h rfl (congrArg OutRes.ok (dbgSelect_free hd))
  · rintro rfl ⟨k, hd⟩
    exact action_leaves h rfl (congrArg OutRes.ok (dbgSelect_session hd))
  · rintro rfl hd hsel
    obtain ⟨hhalt, hresume, hstep, hreset⟩ := dbgCommand_of_sel (v := v) hd (selected_of_range hsel.1 hsel.2)
    have leaves {u'} (hc : dbgCommand u (t / 8) v = u') : Leaves c s i u' := action_leaves h rfl (congrArg OutRes.ok hc)
    refine ⟨fun hv hst => ?_, fun hv hst hf => ?_, fun hv hst hf => ?_, fun hv => ?_⟩
    · exact leaves ((hhalt hv).trans (dbgHaltT_halts hst))
    · exact ⟨_, leaves (hresume hv), dbgResumeT_active hst hf⟩
    · exact ⟨_, leaves (hstep hv), dbgStepT_active hst hf⟩
    · obtain ⟨hst, hitem, -, -⟩ := threadReset_cleared (u := u) (r := reasonThreadReset) (q := false) (isSup_selected hsel.1 hsel.2)
      exact ⟨_, leaves (hreset hv), hst, hitem⟩
  · rintro rfl hd
    exact action_leaves h rfl (congrArg OutRes.ok (dbgCommand_of_not_attached hd))

end Sys2Proof.Proofs
end

section
/-!
PROOF. Instruction space, events and SYS (R151 to R153, R177, R178), the digest unit (R155, R158 to R163), the bulk unit (R164 to R166).
-/

namespace Sys2Proof.Proofs

open Sys2Proof.Machine Sys2Proof.Laws Sys2Proof.Safety Sys2Proof.Claims

/-- Settles O13, by what each instruction's effect is on the state in which it issues. -/
theorem instructionSpaceEventsAndSystem : Obligations.InstructionSpaceEventsAndSystem := by
  unfold Obligations.InstructionSpaceEventsAndSystem
  intro s i d x hi mask ev u t
  refine ⟨fun h => ⟨fun hp => ?_, ?_, fun hc => ?_, fun hc => ?_⟩, fun h => ⟨fun n hn => ?_, fun hn => ?_⟩, fun h => ?_⟩
  · exact congrArg Host.Outcome.next (issue_commits h (if_neg (ne_true_of_eq_false hp)))
  · exact congrArg Host.Outcome.next (issue_commits h rfl)
  · exact congrArg Host.Outcome.next (issue_commits h (congrArg (Act.done · 1 []) (if_neg (ne_true_of_eq_false hc))))
  · exact congrArg Host.Outcome.next (issue_commits h (congrArg (Act.done · 1 []) (if_pos hc)))
  · refine congrArg Host.Outcome.next (issue_commits h ?_)
    dsimp only
    rw [hn]
    rfl
  · refine congrArg Host.Outcome.next (issue_sleeps h ?_)
    dsimp only
    rw [hn]
  · exact congrArg Host.Outcome.next (issue_commits h rfl)

/-! ## The digest unit -/

section
variable {s u : State} {c : Instr} {i : Issue} {ok : Bool} {reads : List WReg} {n : Nat} {accs : List (Nat × Bool)}
  {body : State → Act} {busy : Bool}

theorem holdsDg_of_hasDigest (h : HasDigest s i ok reads) : holdsDg (ready s i) i.tid = true := decide_eq_true h.2

/-- An instruction of the digest unit that its claimant issues has its effect, while the unit is idle or whatever the unit does. -/
theorem issueDg_body (h : HasDigest s i ok reads) (hop : busy = true ∨ (getDg (ready s i) i.tid).op = none) :
    (if !holdsDg (ready s i) i.tid then .fault 6 0
      else if !busy && (getDg (ready s i) i.tid).op.isSome then .stall else body (ready s i)) = body (ready s i) := by
  rw [holdsDg_of_hasDigest h]
  rcases hop with rfl | hop
  · rfl
  · rw [hop, Option.isSome_none, Bool.and_false]
    rfl

theorem issueDg_commits (h : HasDigest s i ok reads) (hop : busy = true ∨ (getDg (ready s i) i.tid).op = none)
    (hb : body (ready s i) = .done u n accs) : issueDg s i ok reads busy body = commits u i n accs :=
  issue_commits h.1 ((issueDg_body h hop).trans hb)

theorem issueDg_faults {cause : Nat} {a : Word} (h : HasDigest s i ok reads) (hop : busy = true ∨ (getDg (ready s i) i.tid).op = none)
    (hb : body (ready s i) = .fault cause a) :
    issueDg s i ok reads busy body = faultAt (start s i) i.tid cause (regsOf s i.tid).pc a (unitsOf i) :=
  issue_faults h.1 ((issueDg_body h hop).trans hb)

/-- A feed or key load whose span may be read and awaits nothing starts. -/
theorem issueSpan_commits {x : XReg} {words : State → Nat} {begin : State → Word → State} (h : HasDigest s i ok reads)
    (hop : (getDg (ready s i) i.tid).op = none)
    (hr : ∀ q ∈ wordsFrom (regsOf (ready s i) i.tid).x[x] (words (ready s i)),
      readable (ready s i) i.tid q = true ∧ waitsSlot (ready s i) i.tid q = false) :
    issueSpan s i ok reads x words begin = commits (begin (ready s i) (regsOf (ready s i) i.tid).x[x]) i 1
      ((wordsFrom (regsOf (ready s i) i.tid).x[x] (words (ready s i))).map (fun q => (q, false))) := by
  refine issue_commits h.1 ?_
  have hfind : (spanWords (regsOf (ready s i) i.tid).x[x] (words (ready s i))).find? (fun k => !readable (ready s i) i.tid k) = none :=
    List.find?_eq_none.mpr fun q hq => by simp [(hr q hq).1]
  have hwait : (spanWords (regsOf (ready s i) i.tid).x[x] (words (ready s i))).any (waitsSlot (ready s i) i.tid) = false :=
    List.any_eq_false.mpr fun q hq => ne_true_of_eq_false (hr q hq).2
  dsimp only
  rw [hfind]
  dsimp only
  rw [holdsDg_of_hasDigest h, hop, hwait]
  rfl

end

theorem dgStatus_hasBits {x : Digest} (hm : x.mode < 5) : HasBits (dgStatus x) (fun j => match j with
    | 15 => x.op.isSome | 11 => x.err | 10 => x.trunc | 14 => x.mode.testBit 2 | 13 => x.mode.testBit 1 | 12 => x.mode.testBit 0
    | _ => false) := by
  intro k hk
  unfold dgStatus
  generalize x.mode = m at hm
  generalize x.op.isSome = b
  generalize x.err = e
  generalize x.trunc = r
  revert m b e r k
  decide

theorem bytesOf_single (w : Word) : bytesOf [w] = twoBytes w := rfl

/-- Settles O22, by what each instruction's effect is while the unit is idle. -/
theorem digestInstructions : Obligations.DigestInstructions := by
  unfold Obligations.DigestInstructions
  intro s i a b d pd xa k u t x r p n idle
  refine ⟨fun h hop => ?_, fun h hop => ⟨fun hm => ?_, fun hm => ?_, fun hm => ?_⟩, fun h hop => ⟨?_, ?_⟩,
    fun h hop => ⟨fun he => ?_, fun he => ?_⟩, fun h v hv hm => ?_, fun h => ?_, fun h hop hq => ?_, fun h hop hq => ?_⟩
  · exact congrArg Host.Outcome.next (issueDg_commits h (.inr hop) rfl)
  · exact congrArg Host.Outcome.next (issueDg_commits h (.inr hop)
      (congrArg (fun v => Act.done (setDg u t { x with acc := { x.acc with s := v } }) 1 []) (if_pos hm)))
  · refine congrArg Host.Outcome.next (issueDg_commits h (.inr hop)
      (congrArg (fun v => Act.done (setDg u t { x with acc := { x.acc with s := v } }) 1 []) ((if_neg ?_).trans (if_pos hm))))
    show ¬x.mode ≤ 1
    omega
  · refine congrArg Host.Outcome.next (issueDg_commits h (.inr hop)
      (congrArg (fun v => Act.done (setDg u t { x with acc := { x.acc with s := v } }) 1 []) ((if_neg ?_).trans (if_neg ?_))))
    · show ¬x.mode ≤ 1
      omega
    · show ¬x.mode = 4
      omega
  · exact congrArg Host.Outcome.next (issueDg_commits h (.inr hop) rfl)
  · exact congrArg Host.Outcome.next (issueDg_commits h (.inr hop) rfl)
  · exact congrArg Host.Outcome.next (issueDg_commits h (.inr hop) (if_neg (ne_true_of_eq_false he)))
  · exact congrArg Host.Outcome.next (issueDg_faults h (.inr hop) (if_pos he))
  · rw [eq_of_hasBits hv (dgStatus_hasBits hm)]
    exact congrArg Host.Outcome.next (issueDg_commits h (.inl rfl) rfl)
  · exact congrArg Host.Outcome.next (issueDg_commits h (.inl rfl) rfl)
  · refine congrArg Host.Outcome.next ((issueSpan_commits h hop hq).trans (congrArg (fun y => commits (setDg u t y) i 1 _) ?_))
    by_cases hn : n = 0
    · exact (if_pos hn).trans (by rw [if_pos hn, ← show x.op = none from hop])
    · exact (if_neg hn).trans (by rw [if_neg hn]; rfl)
  · exact congrArg Host.Outcome.next (issueSpan_commits h hop hq)

/-! ## The bulk unit -/

section
variable {s u : State} {c : Instr} {i : Issue} {ok : Bool} {reads : List WReg} {n : Nat} {accs : List (Nat × Bool)}
  {body : State → Comb → Act} {busy : Bool}

theorem issueBk_body (h : HasBulk s i ok reads) (hop : busy = true ∨ (getComb (ready s i) (thrComb i.tid)).op = none) :
    (if !holdsBk (ready s i) i.tid then .fault 6 0
      else if !busy && (getComb (ready s i) (thrComb i.tid)).op.isSome then .stall
      else body (ready s i) (getComb (ready s i) (thrComb i.tid))) = body (ready s i) (getComb (ready s i) (thrComb i.tid)) := by
  have hh : holdsBk (ready s i) i.tid = true := decide_eq_true h.2
  rw [hh]
  rcases hop with rfl | hop
  · rfl
  · rw [hop, Option.isSome_none, Bool.and_false]
    rfl

theorem issueBk_commits (h : HasBulk s i ok reads) (hop : busy = true ∨ (getComb (ready s i) (thrComb i.tid)).op = none)
    (hb : body (ready s i) (getComb (ready s i) (thrComb i.tid)) = .done u n accs) :
    issueBk s i ok reads busy body = commits u i n accs := issue_commits h.1 ((issueBk_body h hop).trans hb)

theorem issueBk_faults {cause : Nat} {a : Word} (h : HasBulk s i ok reads)
    (hop : busy = true ∨ (getComb (ready s i) (thrComb i.tid)).op = none)
    (hb : body (ready s i) (getComb (ready s i) (thrComb i.tid)) = .fault cause a) :
    issueBk s i ok reads busy body = faultAt (start s i) i.tid cause (regsOf s i.tid).pc a (unitsOf i) :=
  issue_faults h.1 ((issueBk_body h hop).trans hb)

/-- An instruction that changes the unit from its source registers. -/
theorem bkSet_commits (f : Regs → Comb → Comb) (h : HasBulk s i (okPlain i) reads) (hop : (getComb (ready s i) (thrComb i.tid)).op = none) :
    bkSet s i reads f = commits (setComb (ready s i) (thrComb i.tid)
      (f (regsOf (ready s i) i.tid) (getComb (ready s i) (thrComb i.tid)))) i 1 [] := issueBk_commits h (.inr hop) rfl

end

/-- Settles O23, by what each instruction's effect is while the unit is idle. -/
theorem bulkInstructions : Obligations.BulkInstructions := by
  unfold Obligations.BulkInstructions
  intro s i a b d pd u t c r sets started
  refine ⟨fun h hop => ⟨?_, ?_, ?_⟩, fun h hop => ⟨?_, ?_, ?_⟩, fun h hop => ⟨fun he => ?_, fun he => ?_⟩, fun h => ?_, fun h => ?_⟩
  · exact congrArg Host.Outcome.next (bkSet_commits _ h hop)
  · exact congrArg Host.Outcome.next (bkSet_commits _ h hop)
  · exact congrArg Host.Outcome.next (bkSet_commits _ h hop)
  · exact congrArg Host.Outcome.next (bkSet_commits _ h hop)
  · exact congrArg Host.Outcome.next (bkSet_commits _ h hop)
  · exact congrArg Host.Outcome.next (bkSet_commits _ h hop)
  · exact congrArg Host.Outcome.next (issueBk_commits h (.inr hop) (if_neg (ne_true_of_eq_false he)))
  · exact congrArg Host.Outcome.next (issueBk_faults h (.inr hop) (if_pos he))
  · exact congrArg Host.Outcome.next (issueBk_commits h (.inl rfl) rfl)
  · exact congrArg Host.Outcome.next (issueBk_commits h (.inl rfl) rfl)

end Sys2Proof.Proofs
end

section
/-! PROOF. A step runs the front of the queue, and what a cold reset leaves (R9). -/

namespace Sys2Proof.Proofs

open Sys2Proof.Machine Sys2Proof.Laws Sys2Proof.Safety Sys2Proof.Claims

/-- Every command's arm answers with a state. -/
theorem exec_goes_on (c : Instr) (s : State) : ∃ t, exec c s = .next t := by
  cases c <;> exact ⟨_, rfl⟩

theorem step_of_cons {s : State} {c : Instr} {rest : List Instr} (h : s.pending = c :: rest) :
    step s = exec c { s with pending := rest } := by
  unfold step
  rw [h]

theorem step_of_nil {s : State} (h : s.pending = []) : step s = .next (tick s) := by
  unfold step
  rw [h]

/-- Settles O52. -/
theorem stepRunsTheFront : Obligations.StepRunsTheFront := by
  unfold Obligations.StepRunsTheFront
  intro s
  refine ⟨fun _ _ => step_of_cons, step_of_nil, ?_⟩
  cases hp : s.pending with
  | nil => exact ⟨_, step_of_nil hp⟩
  | cons c rest =>
    obtain ⟨t, ht⟩ := exec_goes_on c { s with pending := rest }
    exact ⟨t, (step_of_cons hp).trans ht⟩

/-- Settles O53: each reset value by evaluation, data space and threads because nothing stands in their maps. -/
theorem resetState : Obligations.ResetState := by
  unfold Obligations.ResetState
  exact ⟨by decide, by decide, by decide, by decide, by decide, by decide, by decide, by decide, by decide, by decide, by decide,
    by decide, by decide, rfl, rfl, rfl, fun _ => rfl, fun _ => rfl, by decide, by decide, reset_wf⟩

end Sys2Proof.Proofs
end

section
/-! PROOF. EMP commands that are not performed (R356, R360, R363, R364, R369): every command of a session is taken by `empWith`. -/

namespace Sys2Proof.Proofs

open Sys2Proof.Machine Sys2Proof.Laws Sys2Proof.Safety Sys2Proof.Claims

/-- A command whose frame, CODE and privilege are given is taken by the lead Keeper's checks. -/
def TakenBy (c : Instr) : Option (EmpMsg × Nat × Nat) → Prop
  | none => True
  | some (m, code, priv) => ∀ s, ∃ body later, exec c s = .next (empWith s m code priv body later)

section
variable {c : Instr} {m : EmpMsg} {code priv : Nat}

theorem empThen_eq (s : State) (m : EmpMsg) (code priv : Nat) (b : State → Nat → Reply) (l : State → Nat → State) :
    empThen s m code priv b l = empWith s m code priv (fun s i => .now (b s i)) l := rfl

theorem empCmd_eq (s : State) (m : EmpMsg) (code priv : Nat) (b : State → Nat → Reply) :
    empCmd s m code priv b = empWith s m code priv (fun s i => .now (b s i)) (fun s _ => s) := rfl

theorem takenBy_of_empThen (h : ∀ s, ∃ b l, exec c s = .next (empThen s m code priv b l)) : TakenBy c (some (m, code, priv)) := fun s =>
  have ⟨_, _, hb⟩ := h s
  ⟨_, _, hb.trans (congrArg Host.Outcome.next (empThen_eq _ _ _ _ _ _))⟩

theorem takenBy_of_empCmd (h : ∀ s, ∃ b, exec c s = .next (empCmd s m code priv b)) : TakenBy c (some (m, code, priv)) := fun s =>
  have ⟨_, hb⟩ := h s
  ⟨_, _, hb.trans (congrArg Host.Outcome.next (empCmd_eq _ _ _ _ _))⟩

theorem takenBy_ite_none {p : Prop} [Decidable p] {e : Option (EmpMsg × Nat × Nat)} (h : ¬p → TakenBy c e) :
    TakenBy c (if p then none else e) := by
  split
  · trivial
  · next hp => exact h hp

theorem takenBy_ite_some {p : Prop} [Decidable p] {e : Option (EmpMsg × Nat × Nat)} (h : p → TakenBy c e) :
    TakenBy c (if p then e else none) := by
  split
  · next hp => exact h hp
  · trivial

/-- A command of a table row: it is taken where its STAGE bit is the row's. -/
theorem tblRow_of_stage {s : State} {st : Bool} {b : State → Nat → Reply} (h : tblStage m = st) :
    tblRow s m st code b = empCmd s m code operator b := by
  unfold tblRow
  rw [h]
  exact if_pos rfl

end

set_option maxRecDepth 2000 in
/-- Every command of a session is taken by the checks of R360, with its CODE and its privilege. -/
theorem takenBy_empOf (c : Instr) : TakenBy c (empOf c) := by
  cases c
  case genCommit | fwActivate => exact fun _ => ⟨_, _, rfl⟩
  case sesClose | sesMgmtSet | fwUnclaim => exact takenBy_of_empThen fun _ => ⟨_, _, rfl⟩
  case tblInsert m | tblUpdate m | tblDelete m =>
    refine takenBy_ite_none fun hs => takenBy_of_empCmd fun s => ⟨_, congrArg Host.Outcome.next (tblRow_of_stage (Bool.eq_false_iff.mpr hs))⟩
  case tblInsertStaged m | tblUpdateStaged m | tblDeleteStaged m =>
    refine takenBy_ite_some fun hs => takenBy_of_empCmd fun s => ⟨_, congrArg Host.Outcome.next (tblRow_of_stage hs)⟩
  case fwResetPackage m =>
    exact takenBy_ite_none fun hs => takenBy_of_empThen fun s => ⟨_, _, congrArg Host.Outcome.next (if_neg hs)⟩
  case fwResetDie m | fwResetComb m | fwResetCell m =>
    exact takenBy_ite_some fun hs => takenBy_of_empCmd fun s => ⟨_, congrArg Host.Outcome.next (if_neg (not_not_intro hs))⟩
  case empUnknownCmd m code =>
    exact takenBy_ite_none fun hs => takenBy_of_empCmd fun s => ⟨_, congrArg Host.Outcome.next (if_neg hs)⟩
  all_goals try exact trivial
  all_goals exact takenBy_of_empCmd fun _ => ⟨_, rfl⟩

theorem exec_of_empOf {c : Instr} {m : EmpMsg} {code priv : Nat} (h : empOf c = some (m, code, priv)) (s : State) :
    ∃ body later, exec c s = .next (empWith s m code priv body later) := by
  have hc := takenBy_empOf c
  rw [h] at hc
  exact hc s

/-! ## The checks in their order (R360) -/

section
variable {s : State} {m : EmpMsg} {code priv i : Nat} {x : Session} {body : State → Nat → Answer} {later : State → Nat → State}

/-- The frame is an EMP command of this version. -/
def IsEmp (m : EmpMsg) : Prop := 30 ≤ m.avail ∧ m.w0.toNat / 4096 = 1 ∧ m.w0.toNat % 256 = 1
/-- Its payload is whole. -/
def IsWhole (m : EmpMsg) : Prop := m.len ≤ 4480 ∧ 30 + 2 * m.len ≤ m.avail

theorem frameCheck_notEmp (h : ¬IsEmp m) : empFrameCheck s m code false = some (kcnt s .kprCntNotEmp) :=
  if_pos (by unfold IsEmp at h; omega)

theorem frameCheck_notWhole (he : IsEmp m) (h : ¬IsWhole m) : empFrameCheck s m code false =
    some (sendReply (kcnt s .kprCntLength) m code m.session ((findSession s m.session).map (·.2.key)) stsLength false []) :=
  (if_neg (by unfold IsEmp at he; omega)).trans (if_pos (by unfold IsWhole at h; omega))

theorem frameCheck_whole (he : IsEmp m) (h : IsWhole m) : empFrameCheck s m code false =
    if (findSession s m.session).isNone ∧ !(false && decide (m.session = 0)) then
      some (sendReply (kcnt s .kprCntAuthFail) m code m.session none stsAuth false [])
    else none :=
  (if_neg (by unfold IsEmp at he; omega)).trans (if_neg (by unfold IsWhole at h; omega))

theorem frameCheck_noSession (he : IsEmp m) (h : IsWhole m) (hf : findSession s m.session = none) :
    empFrameCheck s m code false = some (sendReply (kcnt s .kprCntAuthFail) m code m.session none stsAuth false []) :=
  (frameCheck_whole he h).trans (if_pos (by simp [hf]))

theorem frameCheck_session (he : IsEmp m) (h : IsWhole m) (hf : findSession s m.session = some (i, x)) :
    empFrameCheck s m code false = none := (frameCheck_whole he h).trans (if_neg (by simp [hf]))

theorem empWith_stopped {u : State} (hup : mailboxUp s m = true) (h : empFrameCheck s m code false = some u) :
    empWith s m code priv body later = u := by
  unfold empWith
  rw [hup, h]
  rfl

section
variable (hup : mailboxUp s m = true) (hc : empFrameCheck s m code false = none) (hf : findSession s m.session = some (i, x))
include hup hc hf

theorem empWith_badTag (ht : empTag x.key (empCovered m code) ≠ m.tag) :
    empWith s m code priv body later = authFail s m m.session := by
  simp only [empWith, hup, hc, hf, Bool.not_true, Bool.false_eq_true, if_false, if_pos ht]

variable (ht : empTag x.key (empCovered m code) = m.tag)
include ht

theorem empWith_refused (hk : seqKind x.hi x.seen m.seq = .refused) : empWith s m code priv body later =
    sendReply (kcnt s .kprCntSeq) m code m.session (some x.key) stsSeq false [] := by
  simp only [empWith, hup, hc, hf, Bool.not_true, Bool.false_eq_true, if_false, if_neg (not_not_intro ht), hk]

theorem empWith_seen (hk : seqKind x.hi x.seen m.seq = .seen) {r : SeqRec}
    (hr : x.window.find? (fun r => decide (r.seq = m.seq) && decide (r.tag = m.tag)) = some r) :
    empWith s m code priv body later = sendReply s m code m.session (some x.key) r.status true [] := by
  simp only [empWith, hup, hc, hf, Bool.not_true, Bool.false_eq_true, if_false, if_neg (not_not_intro ht), hk, hr]

/-- What becomes of a frame with a fresh sequence number. -/
theorem empWith_fresh (hk : seqKind x.hi x.seen m.seq = .new ∨ seqKind x.hi x.seen m.seq = .late) :
    empWith s m code priv body later =
      let t := setSession s i (some (acceptSeq x (leadMono s) m.port m.src m.vlan m.seq m.tag))
      if priv > owner then reply t m code i x.key stsUnknown []
      else if x.priv < priv then reply t m code i x.key stsPriv []
      else if startLimit t then reply (kcnt t .kprCntBusy) m code i x.key stsBusy []
      else if m.w0.toNat / 256 % 4 ≠ 0 then reply (startCmd t) m code i x.key stsRange []
      else
        match body (startCmd t) i with
        | .now r =>
          let t := reply r.st m code i x.key r.status r.words
          if r.status = stsOk then later t i else t
        | .wait t => t := by
  unfold empWith
  simp only [hup, hc, hf, Bool.not_true, Bool.false_eq_true, if_false, if_neg (not_not_intro ht)]
  rcases hk with hk | hk <;> rw [hk] <;> rfl

end

end

/-- Settles O36: each of R360's checks, in their order, by what `empWith` does where it is the first that fails. -/
theorem commandsNotTaken : Obligations.CommandsNotTaken := by
  unfold Obligations.CommandsNotTaken
  intro s c m code priv hc emp whole
  obtain ⟨body, later, hexec⟩ := exec_of_empOf hc s
  rw [hexec]
  refine ⟨fun hdown => ?_, fun hup => ⟨fun he => ?_, fun he hw => ?_, fun he hw hf => ?_, fun i x he hw hf => ?_⟩⟩
  · exact congrArg _ (empWith_down hdown body later)
  · exact congrArg _ (empWith_stopped hup (frameCheck_notEmp he))
  · exact congrArg _ (empWith_stopped hup (frameCheck_notWhole he hw))
  · exact congrArg _ (empWith_stopped hup (frameCheck_noSession he hw hf))
  have hn : empFrameCheck s m code false = none := frameCheck_session he hw hf
  refine ⟨fun ht => ?_, fun ht => ⟨fun hk => ?_, fun hk r hr => ?_, fun hk h1 => ?_, fun hk h1 h2 => ?_, fun hk h1 h2 h3 => ?_,
    fun hk h1 h2 h3 h4 => ?_⟩⟩
  · exact congrArg _ (empWith_badTag hup hn hf ht)
  · exact congrArg _ (empWith_refused hup hn hf ht hk)
  · exact congrArg _ (empWith_seen hup hn hf ht hk hr)
  · exact congrArg _ ((empWith_fresh hup hn hf ht hk).trans (if_pos h1))
  · exact congrArg _ ((empWith_fresh hup hn hf ht hk).trans ((if_neg (Nat.not_lt.mpr h1)).trans (if_pos h2)))
  · exact congrArg _ ((empWith_fresh hup hn hf ht hk).trans
      ((if_neg (Nat.not_lt.mpr h1)).trans ((if_neg (Nat.not_lt.mpr h2)).trans (if_pos h3))))
  · exact congrArg _ ((empWith_fresh hup hn hf ht hk).trans ((if_neg (Nat.not_lt.mpr h1)).trans
      ((if_neg (Nat.not_lt.mpr h2)).trans ((if_neg (ne_true_of_eq_false h3)).trans (if_pos h4)))))

end Sys2Proof.Proofs
end

section
/-!
PROOF. What becomes of a command that is taken: the answers of a body, its ranges and dies; then the debug commands (R118 to R122), and those of
external time and the schedule (R34, R42, R44 to R47).
-/

namespace Sys2Proof.Proofs

open Sys2Proof.Machine Sys2Proof.Laws Sys2Proof.Safety Sys2Proof.Claims

/-! ## A body's answer -/

section
variable {s u : State} {m : EmpMsg} {i code priv st : Nat} {x : Session} {c : Instr} {ws : List Word} {body : State → Nat → Reply}
  {P : State → List Word → Prop}

theorem does_of_body (hc : exec c s = .next (empCmd s m code priv body)) (hb : body (taken s m i x) i = answerOk u ws) :
    Does s m i x code priv c u ws := fun h => by
  rw [hc, empCmd_accepted h, hb]
  rfl

theorem doesWith_of_body (hc : exec c s = .next (empCmd s m code priv body)) (hb : body (taken s m i x) i = answerOk u ws)
    (hP : P u ws) : DoesWith s m i x code priv c P := fun h => ⟨u, ws, does_of_body hc hb h, hP⟩

theorem refuses_of_body (hc : exec c s = .next (empCmd s m code priv body)) (hb : body (taken s m i x) i = ⟨st, ws, taken s m i x⟩) :
    Refuses s m i x code priv c st ws := fun h => by
  rw [hc, empCmd_accepted h, hb]

end

section
variable {s : State} {b : Bool} {p : Prop} [Decidable p] {body : State → Reply} {d : Nat} {dies : BitVec 8}

theorem inRange_true (h : b = true) : inRange s b body = body s := if_pos h
theorem inRange_false (h : b = false) : inRange s b body = ⟨stsRange, [], s⟩ := if_neg (ne_true_of_eq_false h)
theorem inRange_of (h : p) : inRange s (decide p) body = body s := if_pos (decide_eq_true h)
theorem inRange_of_not (h : ¬p) : inRange s (decide p) body = ⟨stsRange, [], s⟩ := if_neg (ne_true_of_eq_false (decide_eq_false h))
theorem onDie_usable (h : usable s d = true) : onDie s d body = body s := if_pos h
theorem onDies_ok {body : State → List Nat → Reply} (h : diesOk s dies = true) : onDies s dies body = body s (diesOf dies) := if_pos h

end

/-! ## Debug commands -/

section
variable {s : State} {i c k : Nat} {w : Word} {body : State → Nat → Reply}

theorem onCell_mine (hn : namedCell s w = some c) (hm : (getCell s c).dbg = some (.session i)) : onCell s i w body = body s c := by
  unfold onCell
  rw [hn]
  exact if_pos hm

theorem onCell_other (hn : namedCell s w = some c) (hm : (getCell s c).dbg ≠ some (.session i)) :
    onCell s i w body = ⟨stsNotOwner, [], s⟩ := by
  unfold onCell
  rw [hn]
  exact if_neg hm

theorem onThread_attached (hn : namedThread s w = some k) (hm : attached s i k) : onThread s i w body = body s k := by
  unfold onThread
  rw [hn]
  exact if_pos hm

theorem onThread_other (hn : namedThread s w = some k) (hm : ¬attached s i k) : onThread s i w body = ⟨stsNotOwner, [], s⟩ := by
  unfold onThread
  rw [hn]
  exact if_neg hm

theorem onHalted_halted (hn : namedThread s w = some k) (hm : attached s i k) (hh : (getT s k).st = .halted) :
    onHalted s i w body = body s k := (onThread_attached hn hm).trans (if_pos hh)

theorem onHalted_running (hn : namedThread s w = some k) (hm : attached s i k) (hh : (getT s k).st ≠ .halted) :
    onHalted s i w body = ⟨stsBusy, [], s⟩ := (onThread_attached hn hm).trans (if_neg hh)

theorem onRead_named (hn : namedThread s w = some k) : onRead s w body = body s k := by
  unfold onRead
  rw [hn]

end

/-- Bit `n` of a sum of powers of 2. -/
theorem predNumber_getLsbD (f : Nat → Bool) {n : Nat} (hn : n < 8) :
    (nw (sumN ((List.range 8).map (fun k => if f k then 2 ^ k else 0)))).getLsbD n = f n := by
  have h : ∀ b : BitVec 8, ∀ n, n < 8 →
      (nw (sumN ((List.range 8).map (fun k => if b.getLsbD k then 2 ^ k else 0)))).getLsbD n = b.getLsbD n := by decide
  have hf : ∀ k, k < 8 → (BitVec.ofFnLE (fun j : Fin 8 => f j)).getLsbD k = f k := fun k hk => by
    rw [BitVec.getLsbD_ofFnLE, dif_pos hk]
  have hsum := h (BitVec.ofFnLE (fun j : Fin 8 => f j)) n hn
  rw [hf n hn] at hsum
  rw [← hsum]
  refine congrArg (fun l => (nw (sumN l)).getLsbD n) (List.map_congr_left fun k hk => ?_)
  rw [hf k (List.mem_range.mp hk)]

section
variable {s u : State} {i j c k : Nat} {m : EmpMsg} {cell thread : Word}

/-! The bodies of the commands with branches of their own, by the branch taken. -/

theorem dbgAttach_does {x : Session} (hc : namedCell (taken s m i x) cell = some c) (hd : (getCell (taken s m i x) c).dbg = none) :
    Does s m i x 0x0D00 operator (.dbgAttach m cell) (modCell (taken s m i x) c (fun y => { y with dbg := some (.session i) })) [] := by
  refine does_of_body rfl ?_
  rw [hc]
  dsimp only
  rw [hd]

theorem dbgAttach_again {x : Session} (hc : namedCell (taken s m i x) cell = some c)
    (hd : (getCell (taken s m i x) c).dbg = some (.session i)) :
    Does s m i x 0x0D00 operator (.dbgAttach m cell) (taken s m i x) [] := by
  refine does_of_body rfl ?_
  rw [hc]
  dsimp only
  rw [hd]
  exact if_pos rfl

theorem dbgAttach_refuses {x : Session} (hc : namedCell (taken s m i x) cell = some c)
    (hd : (getCell (taken s m i x) c).dbg = some (.session j)) (hj : j ≠ i) :
    Refuses s m i x 0x0D00 operator (.dbgAttach m cell) stsConflict [0, cell, 1, 0x0D00, sessionId j] := by
  refine refuses_of_body rfl ?_
  rw [hc]
  dsimp only
  rw [hd]
  exact if_neg hj

theorem dbgHalt_does {x : Session} {freeze : Bool} (hn : namedThread (taken s m i x) thread = some k) (ha : attached (taken s m i x) i k)
    (hf : (getT (taken s m i x) k).st ≠ .faulted) (hr : (getT (taken s m i x) k).st ≠ .resetting)
    (hh : (getT (taken s m i x) k).st ≠ .halted) :
    Does s m i x 0x0D02 operator (.dbgHalt m thread freeze) (dbgHaltT (taken s m i x) k freeze) [] := by
  refine does_of_body rfl ((onThread_attached hn ha).trans ?_)
  split
  · next h => exact absurd h hf
  · next h => exact absurd h hr
  · next h => exact absurd h hh
  · rfl

theorem dbgHalt_faulted {x : Session} {freeze : Bool} (hn : namedThread (taken s m i x) thread = some k) (ha : attached (taken s m i x) i k)
    (hf : (getT (taken s m i x) k).st = .faulted) : Refuses s m i x 0x0D02 operator (.dbgHalt m thread freeze) stsBusy [] := by
  refine refuses_of_body rfl ((onThread_attached hn ha).trans ?_)
  rw [hf]
  rfl

theorem wordsOf_length (n v : Nat) : (wordsOf n v).length = n := by
  induction n generalizing v with
  | zero => rfl
  | succ n ih => rw [wordsOf, List.length_cons, ih]

/-- Where the registers stand in the reply of DBG_REG_READ. -/
theorem regWords_parts {lw lx la lb : List Word} {p : Word} (hw : lw.length = 16) (hx : lx.length = 8) (ha : la.length = 3)
    (hb : lb.length = 3) (bc ps pc : Word) (rest : List Word) :
    let ws := lw ++ lx ++ [p] ++ la ++ lb ++ [bc, ps, pc] ++ rest
    ws.take 16 = lw ∧ (ws.drop 16).take 8 = lx ∧ ws[24]? = some p ∧ (ws.drop 31).take 3 = [bc, ps, pc] := by
  refine ⟨?_, ?_, ?_, ?_⟩
  · simp [hw]
  · simp [hw, hx]
  · simp [List.getElem?_append, hw, hx]
  · have hl : (lw ++ lx ++ [p] ++ la ++ lb).length = 31 := by simp [hw, hx, ha, hb]
    rw [List.append_assoc _ [bc, ps, pc], List.drop_left' hl]
    rfl

/-- DBG_REG_READ of a thread that stands still (R119). -/
theorem dbgRegRead_does {x : Session} {n : Nat} (hn : namedThread (taken s m i x) thread = some k)
    (hst : (getT (taken s m i x) k).st = .halted ∨ (getT (taken s m i x) k).st = .faulted) :
    DoesWith s m i x 0x0D07 observer (.dbgRegRead m thread) (fun u ws =>
      u = taken s m i x ∧ ws.take 16 = (regsOf (taken s m i x) k).w.toList ∧ (ws.drop 16).take 8 = (regsOf (taken s m i x) k).x.toList ∧
        (n < 8 → (∀ v, (ws[24]?) = some v → v.getLsbD n = (regsOf (taken s m i x) k).p.toList.getD n false)) ∧
        (ws.drop 31).take 3 =
          [(regsOf (taken s m i x) k).bc, (regsOf (taken s m i x) k).ps, (regsOf (taken s m i x) k).pc]) := by
  refine doesWith_of_body rfl ((onRead_named hn).trans (if_pos hst)) ⟨rfl, ?_⟩
  obtain ⟨h1, h2, h3, h4⟩ := regWords_parts (p := nw (sumN ((List.range 8).map (fun j =>
      if (regsOf (taken s m i x) k).p.toList.getD j false then 2 ^ j else 0))))
    (Vector.length_toList (xs := (regsOf (taken s m i x) k).w)) (Vector.length_toList (xs := (regsOf (taken s m i x) k).x))
    (wordsOf_length 3 (regsOf (taken s m i x) k).acc0.toNat) (wordsOf_length 3 (regsOf (taken s m i x) k).acc1.toNat)
    (regsOf (taken s m i x) k).bc (regsOf (taken s m i x) k).ps (regsOf (taken s m i x) k).pc
    ([stWord (taken s m i x) k, nw (getT (taken s m i x) k).sb.toNat] ++ wordsOf 2 (cycles (taken s m i x) k).toNat ++
      (List.range 8).map (chanWord (taken s m i x) k))
  simp only [List.append_assoc] at h1 h2 h3 h4 ⊢
  refine ⟨h1, h2, fun hlt v hv => ?_, h4⟩
  obtain rfl := Option.some.inj (h3.symm.trans hv)
  exact predNumber_getLsbD _ hlt

end

/-! ## Time and the schedule -/

theorem namesPps_iff (v : Nat) : namesPps v = true ↔ bitsOf v 0 2 = 1 ∨ bitsOf v 2 2 = 1 := by simp [namesPps]

theorem pinConflict_unclaimed {s : State} {pin : Nat} (h : getClaim s 1 pin = none) :
    pinConflict s pin = [1, nw pin, 0, 0, keeperId s.pkg.lead] := by
  unfold pinConflict
  rw [h]

/-- Settles O37, command by command. -/
theorem timeAndDebugCommands : Obligations.TimeAndDebugCommands := by
  unfold Obligations.TimeAndDebugCommands
  refine ⟨?_, ?_⟩
  · intro s m i j c k reg count n x cell thread addr freeze watch image rd wr threads value words t mine kept
    refine ⟨fun hc => ⟨dbgAttach_does hc, dbgAttach_again hc, dbgAttach_refuses hc, fun hm => ?_, fun hm => ?_, fun hm hroom => ?_,
      fun hm hroom => ?_, fun hm => ?_⟩, fun hn => ⟨fun ha => ⟨dbgHalt_does hn ha, dbgHalt_faulted hn ha, fun hh => ⟨?_, ?_, fun hr hv => ?_⟩,
      fun hh => ⟨?_, ?_⟩, fun hsup => ?_, fun hsup => ?_, fun hw hl hr => ?_⟩, fun ha => ⟨?_, ?_⟩, dbgRegRead_does hn,
      fun h1 h2 h3 hr hp => ?_⟩⟩
    · exact does_of_body rfl (onCell_mine hc hm)
    · exact refuses_of_body rfl (onCell_other hc hm)
    · exact does_of_body rfl ((onCell_mine hc hm).trans (if_neg (Nat.not_le.mpr hroom)))
    · exact refuses_of_body rfl ((onCell_mine hc hm).trans (if_pos hroom))
    · exact does_of_body rfl (onCell_mine hc hm)
    · exact does_of_body rfl (onHalted_halted hn ha hh)
    · exact does_of_body rfl (onHalted_halted hn ha hh)
    · exact does_of_body rfl ((onThread_attached hn ha).trans ((inRange_of ⟨hr, hv⟩).trans (if_pos hh)))
    · exact refuses_of_body rfl (onHalted_running hn ha hh)
    · exact refuses_of_body rfl (onHalted_running hn ha hh)
    · exact does_of_body rfl ((onThread_attached hn ha).trans (inRange_true (by rw [hsup]; rfl)))
    · exact refuses_of_body rfl ((onThread_attached hn ha).trans (inRange_false (by rw [hsup]; rfl)))
    · exact does_of_body rfl ((onThread_attached hn ha).trans (inRange_true (by simpa using ⟨⟨hw, hl⟩, hr⟩)))
    · exact refuses_of_body rfl (onThread_other hn ha)
    · exact refuses_of_body rfl (onThread_other hn ha)
    · refine does_of_body rfl ((onRead_named hn).trans ((inRange_of ⟨h1, h2, h3⟩).trans
        ((inRange_true (List.all_eq_true.mpr hr)).trans (if_neg ?_))))
      exact ne_true_of_eq_false (List.any_eq_false.mpr fun a ha => ne_true_of_eq_false (hp a ha))
  · intro s m i x value sec ns offset leap61 leap59 dies index first count die entry t lead v at_ ok pps held
    refine ⟨does_of_body rfl rfl, fun hok hp => ?_, fun hok hp hpin hcl => ?_, fun hok => ?_, fun hns hs hheld hstep => ?_,
      fun hns hs hheld => ?_, fun hns hs => ?_, fun hl hs => ?_, fun hd h1 h2 hal => ⟨fun ht => ?_, fun ht => ?_⟩,
      fun hd h1 h2 h3 => ?_, fun hd hr => ?_, fun hd => ?_⟩
    · refine does_of_body rfl ((inRange_true (by simpa using hok)).trans (if_neg ?_))
      exact fun hc => hc.2 (hp ((namesPps_iff _).mp hc.1))
    · exact refuses_of_body rfl ((inRange_true (by simpa using hok)).trans ((if_pos ⟨(namesPps_iff _).mpr hp, hpin⟩).trans
        (congrArg (answerConflict t) (pinConflict_unclaimed hcl))))
    · exact refuses_of_body rfl (inRange_false (Bool.eq_false_iff.mpr fun hb => hok (by simpa using hb)))
    · exact does_of_body rfl ((if_neg (by omega)).trans ((if_neg hs).trans ((if_neg (mt (namesPps_iff _).mp hheld)).trans
        (if_neg (ne_true_of_eq_false hstep)))))
    · exact does_of_body rfl ((if_neg (by omega)).trans ((if_neg hs).trans (if_pos ((namesPps_iff _).mpr hheld))))
    · exact refuses_of_body rfl ((if_neg (by omega)).trans (if_pos hs))
    · have hb : ¬(leap61 && leap59) = true := fun hb => hl (by simpa using hb)
      exact does_of_body rfl ((inRange_true (by rw [Bool.eq_false_iff.mpr hb]; rfl)).trans (if_neg hs))
    · refine does_of_body rfl ((onDies_ok hd).trans ((inRange_true (by simp [h1, h2, hal])).trans (if_neg ?_)))
      simpa using ht
    · refine refuses_of_body rfl ((onDies_ok hd).trans ((inRange_true (by simp [h1, h2, hal])).trans (if_pos ?_)))
      simpa using ht
    · exact does_of_body rfl ((onDies_ok hd).trans (inRange_of ⟨h1, h2, h3⟩))
    · exact refuses_of_body rfl ((onDies_ok hd).trans (inRange_of_not hr))
    · exact does_of_body rfl (onDie_usable hd)

end Sys2Proof.Proofs
end

section
/-!
PROOF. The commands of tables (R189, R209, R212, R213) and of learning (R223, R234, R235, R238, R240 to R242).
-/

namespace Sys2Proof.Proofs

open Sys2Proof.Machine Sys2Proof.Laws Sys2Proof.Safety Sys2Proof.Claims

/-! ## Rights and staging -/

section
variable {s : State} {i table gen n : Nat}

theorem tblRight_write {body : State → Reply} (h : permits s i (fun row => mayWriteTbl s s.pkg.lead row table) = true) :
    tblRight s i table true body = body s := if_pos h

theorem tblRight_write_refused {body : State → Reply} (h : ¬permits s i (fun row => mayWriteTbl s s.pkg.lead row table) = true) :
    tblRight s i table true body = ⟨stsPriv, [], s⟩ := if_neg h

theorem tblRight_read {body : State → Reply} (h : permits s i (fun row => mayLookup s s.pkg.lead row table) = true) :
    tblRight s i table false body = body s := if_pos h

/-- The open slot of a staging command of the session that opened it. -/
theorem stageTarget_open {body : State → Nat → Reply} (h : openFor s i gen n) : stageTarget s i gen body = body s n := by
  obtain ⟨hs, hg, hst, ho⟩ := h
  unfold stageTarget
  rw [hs]
  exact (if_neg (not_not_intro hg)).trans ((if_neg (not_not_intro hst)).trans (if_neg (not_not_intro ho)))

theorem stageTarget_other {body : State → Nat → Reply} (hs : stagedSlot s = some n) (hg : slotGen s (refDie s) n = gen)
    (hst : slotState s (refDie s) n = 1) (ho : s.gen.openOwner ≠ some i) : stageTarget s i gen body = ⟨stsNotOwner, [], s⟩ := by
  unfold stageTarget
  rw [hs]
  exact (if_neg (not_not_intro hg)).trans ((if_neg (not_not_intro hst)).trans (if_pos ho))

theorem stageTarget_sealed {body : State → Nat → Reply} (hs : stagedSlot s = some n) (hg : slotGen s (refDie s) n = gen)
    (hst : slotState s (refDie s) n ≠ 1) : stageTarget s i gen body = ⟨stsBusy, [], s⟩ := by
  unfold stageTarget
  rw [hs]
  exact (if_neg (not_not_intro hg)).trans (if_pos hst)

end

/-! ## Dynamic writes on one die -/

/-- But for a lack of room, the status of a die does not turn on its rehash request. -/
theorem dieStatus_of_ne_noRoom {st : Nat} {out : Bool} (h : st ≠ stNoRoom) : dieStatus st out = dieStatus st false := by
  unfold dieStatus
  rw [if_neg h, if_neg h]

section
variable {s : State} {m : EmpMsg} {i op d : Nat} {a : TblArgs}

/-- A dynamic write on one die answers with that die's status (R212, R213). -/
theorem dynCmd_one (ha : tblArgs m = some a) (hslot : a.slot = 0) (hok : diesOk s a.dies = true) (hd : diesOf a.dies = [d])
    (hkey : keyOutsideMask (curDesc s (refDie s) a.table) a.key = false)
    (hmay : permits s i (fun row => mayWriteTbl s s.pkg.lead row a.table) = true)
    (hfit : fitsDesc (curDesc s (refDie s) a.table) a (decide (op ≠ 3)) = true) :
    dynCmd s m i op =
      let w := dynWrite (flushEngine s d a.table) d a.table op a.key a.data 0 (sessionId i)
      let st := dieStatus w.1.status (rehashOf w.2 d a.table).outstanding
      ⟨firstFailed [st], dieWords [(d, st)], w.2⟩ := by
  unfold dynCmd
  rw [ha]
  refine (onDies_ok hok).trans ?_
  rw [hd]
  refine (inRange_true ?_).trans ((tblRight_write hmay).trans rfl)
  rw [hslot, hfit, hkey]
  rfl

end

/-! ## Staged writes -/

section
variable {s : State} {m : EmpMsg} {i op n : Nat} {a : TblArgs}

/-- A staged write that no die refuses is performed on every usable die (R213). -/
theorem stageCmd_ok (ha : tblArgs m = some a) (hslot : a.slot = 0) (hdies : a.dies = 0)
    (ho : openFor s i (slotGen s (refDie s) n) n) (hkey : keyOutsideMask (tblDesc s (refDie s) n a.table) a.key = false)
    (hmay : permits s i (fun row => mayWriteTbl s s.pkg.lead row a.table) = true)
    (hfit : fitsDesc (tblDesc s (refDie s) n a.table) a (decide (op ≠ 3)) = true)
    (hall : ∀ e ∈ usableDies s, dieStatus (stageOn n i op a s e).1 (rehashOf s e a.table).outstanding = 0) :
    stageCmd s m i op = answerOk (forEach (usableDies s) (fun s e => (stageOn n i op a s e).2) s)
      (dieWords ((usableDies s).map (fun e => (e, 0)))) := by
  have hl : (usableDies s).map (fun d => (d, dieStatus (stageOn n i op a s d).1 (rehashOf s d a.table).outstanding)) =
      (usableDies s).map (fun e => (e, 0)) := List.map_congr_left fun e he => by rw [hall e he]
  have hgen : ((stagedSlot s).map (slotGen s (refDie s))).getD 0 = slotGen s (refDie s) n := by rw [ho.1]; rfl
  have hnone : ((usableDies s).map (fun e => (e, 0))).find? (fun e : Nat × Nat => decide (e.2 ≠ 0 ∧ e.2 < 0x8000)) = none :=
    List.find?_eq_none.mpr fun e he => by
      obtain ⟨k, -, rfl⟩ := List.mem_map.mp he
      simp
  unfold stageCmd
  rw [ha]
  refine (inRange_of ⟨hslot, hdies⟩).trans ?_
  rw [hgen]
  refine (stageTarget_open ho).trans ((inRange_true ?_).trans ((tblRight_write hmay).trans ?_))
  · rw [hfit, hkey]
    rfl
  · dsimp only
    rw [hl, hnone]

/-- Registers of the open slot that every die accepts are written on every die. -/
theorem stageRegs_ok {l : List (RegName × Nat × Nat)}
    (h : ∀ e ∈ usableDies s, ∀ f ∈ l, definedBits f.1 f.2.2 = true ∧
      stagedOk (forEach l (fun s f => setRS s f.1 e n f.2.1 f.2.2) s) e n f.1 f.2.1 = true) :
    stageRegs s n l = answerOk (wakeAll (forEach (usableDies s)
      (fun s e => forEach l (fun s f => setRS s f.1 e n f.2.1 f.2.2) s) s)) [] := by
  unfold stageRegs
  exact inRange_true (List.all_eq_true.mpr fun e he => List.all_eq_true.mpr fun f hf => Bool.and_eq_true_iff.mpr (h e he f hf))

theorem stageSet_ok {rs : List RegName} {first : Nat} {vs : List Nat} (h : ∀ e ∈ usableDies s, setWriteOk s e n rs first vs = true) :
    stageSet s n rs first vs = answerOk (wakeAll (forEach (usableDies s) (fun s e => writeSet rs e n s first vs) s)) [] :=
  inRange_true (List.all_eq_true.mpr h)

end

/-! ## Lookups and reads -/

section
variable {s u : State} {m : EmpMsg} {i d table slot cursor count : Nat} {x : Session} {a : TblArgs} {r : TblRes} {e : Entry}

/-- A lookup on one die that hits answers with the entry. -/
theorem tblLookup_does (ha : tblArgs m = some a) (hst : a.stage = false) (hok : diesOk (taken s m i x) a.dies = true)
    (hd : diesOf a.dies = [d]) (hlive : slotLive (taken s m i x) (refDie (taken s m i x)) a.slot = true)
    (hfit : fitsDesc (tblDesc (taken s m i x) (refDie (taken s m i x)) a.slot a.table) a false = true)
    (hsee : permits (taken s m i x) i (fun row => mayLookup (taken s m i x) (taken s m i x).pkg.lead row a.table) = true)
    (hl : lookupKey (taken s m i x) d a.slot a.table (tblDesc (taken s m i x) d a.slot a.table)
      (maskKey (tblDesc (taken s m i x) d a.slot a.table) a.key)
      (deepMiss (taken s m i x) d (tblDesc (taken s m i x) d a.slot a.table)
        (maskKey (tblDesc (taken s m i x) d a.slot a.table) a.key)) = (r, u))
    (hhit : r.hit = true) (he : r.entry = some e) : Does s m i x 0x0301 observer (.tblLookup m) u (0 :: entryWords e) := by
  refine does_of_body rfl ?_
  rw [ha]
  refine (onDies_ok hok).trans ?_
  rw [hd]
  refine (inRange_true ?_).trans ((tblRight_read hsee).trans ?_)
  · rw [hst, hlive, hfit]
    rfl
  · have hh : hostLookup a ([], taken s m i x) d = ([(0, entryWords e)], u) := by
      unfold hostLookup
      dsimp only
      rw [hl]
      dsimp only
      rw [hhit, he]
      rfl
    rw [List.foldl_cons, List.foldl_nil, hh]
    exact congrArg (fun l => Reply.mk stsOk (0 :: l) u) (List.append_nil _)

/-- A read whose entries all fit the reply and are sound. -/
theorem tblRead_does (hd : usable (taken s m i x) d = true) (ht : table < 64) (hs : slot < 4) (h1 : 1 ≤ count) (h64 : count ≤ 64)
    (hlive : slotLive (taken s m i x) d slot = true) (hen : (tblDesc (taken s m i x) d slot table).en = true)
    (hsee : permits (taken s m i x) i (fun row => mayLookup (taken s m i x) (taken s m i x).pkg.lead row table) = true)
    (hlen : (validFrom (taken s m i x) d table (tblDesc (taken s m i x) d slot table) cursor).length ≤ count)
    (hsound : ∀ f ∈ validFrom (taken s m i x) d table (tblDesc (taken s m i x) d slot table) cursor, f.2.uncorr = false) :
    Does s m i x 0x0305 observer (.tblRead m d table slot cursor count) (taken s m i x)
      ([0xFFFF, 0xFFFF] ++ (validFrom (taken s m i x) d table (tblDesc (taken s m i x) d slot table) cursor).flatMap (fun f =>
        posWords (tblDesc (taken s m i x) d slot table) (cursorPos d (tblDesc (taken s m i x) d slot table) f.1) ++ entryWords f.2)) := by
  refine does_of_body rfl ((onDie_usable hd).trans ((inRange_true ?_).trans ((tblRight_read hsee).trans ?_)))
  · rw [hlive, hen, decide_eq_true ⟨ht, hs, h1, h64⟩]
    rfl
  · have hnone := List.getElem?_eq_none hlen
    have hall := List.filter_eq_self.mpr fun f hf => congrArg Bool.not (hsound f hf)
    have hany := List.any_eq_false.mpr fun f hf => ne_true_of_eq_false (hsound f hf)
    dsimp only
    rw [List.take_of_length_le hlen, hnone, hall, hany]
    rfl

end

/-- Settles O38, command by command. -/
theorem tableAndLearningCommands : Obligations.TableAndLearningCommands := by
  unfold Obligations.TableAndLearningCommands
  refine ⟨?_, ?_⟩
  · intro s m i d n table slot cursor count group x dies a gen desc masks members cfg u r e t may see cur dyn one gs sd all staged zeros put
      sees reads found
    have hrow (hst : tblStage m = false) {c op code} (hc : exec c s = .next (tblRow s m false code (fun s i => dynCmd s m i op))) :
        exec c s = .next (empCmd s m code operator (fun s i => dynCmd s m i op)) := hc.trans (congrArg _ (tblRow_of_stage hst))
    have hrow' (hst : tblStage m = true) {c op code} (hc : exec c s = .next (tblRow s m true code (fun s i => stageCmd s m i op))) :
        exec c s = .next (empCmd s m code operator (fun s i => stageCmd s m i op)) := hc.trans (congrArg _ (tblRow_of_stage hst))
    have hdyn (h : one) {op} (hf : fitsDesc cur a (decide (op ≠ 3)) = true) {st} (hs : (dyn op).1.status = st)
        (hne : st ≠ stNoRoom) : dynCmd t m i op = ⟨firstFailed [dieStatus st false], dieWords [(d, dieStatus st false)], (dyn op).2⟩ := by
      obtain ⟨hst, ha, hslot, hok, hd, hkey, hmay⟩ := h
      refine (dynCmd_one ha hslot hok hd hkey hmay hf).trans ?_
      dsimp only
      rw [show (dynWrite (flushEngine t d a.table) d a.table op a.key a.data 0 (sessionId i)).1.status = st from hs,
        dieStatus_of_ne_noRoom hne]
    have hstg (h : staged) {op} (hf : fitsDesc sd a (decide (op ≠ 3)) = true) (hall : all op) :
        stageCmd t m i op = answerOk (put op) zeros := by
      obtain ⟨hst, ha, hslot, hd, ho, hkey, hmay⟩ := h
      exact stageCmd_ok ha hslot hd ho hkey hmay hf hall
    refine ⟨fun h hf hs => ?_, fun h hf hs hacc => ?_, fun h hf hs => ?_, fun h hf hs => ?_, fun h hf hs => ?_, fun h hf hall => ?_,
      fun h hf hall => ?_, fun h hf hall => ?_, fun ha hst hok hd hlive hfit hsee hl hhit he => ?_, fun hok ht hs => ?_,
      fun hd ht hs h1 h64 hlive hen hsee hlen hsound => ?_, fun hok hd ht hmay => ?_, fun hok ht hmay => ?_, fun hok ht => ?_,
      fun ho => ⟨fun ht hdl hml => ?_, fun hg hml => ?_⟩, fun hs hg hst ho => ?_⟩
    · exact does_of_body (hrow h.1 rfl) (hdyn (op := 1) h hf hs (by decide))
    · rw [hrow h.1 rfl, empCmd_accepted hacc]
      rw [hdyn (op := 1) h hf hs (by decide)]
      rfl
    · exact does_of_body (hrow h.1 rfl) (hdyn (op := 2) h hf hs (by decide))
    · exact does_of_body (hrow h.1 rfl) (hdyn (op := 3) h hf hs (by decide))
    · exact does_of_body (hrow h.1 rfl) (hdyn (op := 3) h hf hs (by decide))
    · exact does_of_body (hrow' h.1 rfl) (hstg (op := 1) h hf hall)
    · exact does_of_body (hrow' h.1 rfl) (hstg (op := 2) h hf hall)
    · exact does_of_body (hrow' h.1 rfl) (hstg (op := 3) h hf hall)
    · exact tblLookup_does ha hst hok hd hlive hfit hsee hl hhit he
    · exact does_of_body rfl ((onDies_ok hok).trans (inRange_of ⟨ht, hs⟩))
    · exact tblRead_does hd ht hs h1 h64 hlive hen hsee hlen hsound
    · refine does_of_body rfl ((onDies_ok hok).trans ((inRange_of ht).trans ((tblRight_write hmay).trans ?_)))
      rw [hd]
      rfl
    · exact refuses_of_body rfl ((onDies_ok hok).trans ((inRange_of ht).trans (tblRight_write_refused hmay)))
    · exact does_of_body rfl ((onDies_ok hok).trans (inRange_of ht))
    · exact fun hall => does_of_body rfl ((stageTarget_open ho).trans ((inRange_of ⟨ht, hdl, hml⟩).trans (stageRegs_ok hall)))
    · exact fun hall => does_of_body rfl ((stageTarget_open ho).trans ((inRange_of ⟨hg, hml⟩).trans (stageRegs_ok hall)))
    · exact refuses_of_body rfl (stageTarget_other hs hg hst ho)
  · intro s m i d n periodMs passTicks gpn setId first table x dies tenants key value gen values classes rs t window vs
    refine ⟨fun hok => ?_, fun h1 h2 h3 h4 h5 hall => ?_, fun h => ?_, fun h => ?_, fun h => ?_, fun ho => ⟨fun h1 h2 hr hall => ?_,
      fun h1 h2 h3 => ?_⟩, fun hd => ?_, fun hok hd ht => ⟨fun hq => ?_, fun hq => ?_⟩⟩
    · exact does_of_body rfl (onDies_ok hok)
    · refine does_of_body rfl (inRange_true ?_)
      rw [decide_eq_true ⟨h1, h2, h3, h4, h5⟩]
      refine (Bool.true_and _).trans (List.all_eq_true.mpr fun e he => ?_)
      split
      · next c hc => exact decide_eq_true (hall e he c hc)
      · rfl
    · exact refuses_of_body rfl (inRange_false (by rw [decide_eq_false h]; rfl))
    · exact does_of_body rfl (inRange_true h)
    · exact does_of_body rfl (inRange_true h)
    · refine does_of_body rfl ((stageTarget_open ho).trans ((inRange_of ⟨h1, h2⟩).trans ?_))
      rw [hr]
      exact stageSet_ok hall
    · exact does_of_body rfl ((stageTarget_open ho).trans (inRange_of ⟨h1, h2, h3⟩))
    · exact does_of_body rfl (onDie_usable hd)
    · refine does_of_body rfl ((onDies_ok hok).trans ((inRange_of ht).trans ?_))
      rw [hd]
      exact congrArg (answerOk · []) (if_pos (by simpa [and_assoc] using hq))
    · refine does_of_body rfl ((onDies_ok hok).trans ((inRange_of ht).trans ?_))
      rw [hd]
      exact congrArg (answerOk · []) (if_neg (by simpa using hq))

end Sys2Proof.Proofs
end

section
/-! PROOF. The commands of generations (R247 to R250, R253, R255, R258 to R260). -/

namespace Sys2Proof.Proofs

open Sys2Proof.Machine Sys2Proof.Laws Sys2Proof.Safety Sys2Proof.Claims

/-! ## Registers of other names -/

/-- What every step of a loop over a list leaves, the loop leaves. -/
theorem forEach_keeps {α γ : Type} (g : State → γ) {l : List α} {f : State → α → State} (h : ∀ b ∈ l, ∀ s, g (f s b) = g s) (s : State) :
    g (forEach l f s) = g s := by
  induction l generalizing s with
  | nil => rfl
  | cons b l ih =>
    exact (ih (fun c hc => h c (List.mem_cons_of_mem _ hc)) _).trans (h b List.mem_cons_self s)

theorem lt_of_usable {s : State} {d : Nat} (h : usable s d = true) : d < 8 := by
  obtain ⟨-, hb⟩ := Bool.and_eq_true_iff.mp h
  exact BitVec.lt_of_getLsbD hb

theorem lt_of_mem_usableDies {s : State} {d : Nat} (h : d ∈ usableDies s) : d < 8 := lt_of_usable (List.mem_filter.mp h).2

/-- Instances of two registers have keys of their own, on whichever dies. -/
theorem rkey_ne_of_reg {r r' : RegName} (h : r'.ctorIdx ≠ r.ctorIdx) {d d' sl sl' i i' : Nat} (hd : d < 8) (hd' : d' < 8) (hsl : sl < 8)
    (hsl' : sl' < 8) (hi : i < 1048576) (hi' : i' < 1048576) : rkey r' d' sl' i' ≠ rkey r d sl i := by
  unfold rkey
  omega

theorem getR_setR_of_reg {r r' : RegName} (h : r'.ctorIdx ≠ r.ctorIdx) {d d' i i' : Nat} (hd : d < 8) (hd' : d' < 8) (hi : i < 1048576)
    (hi' : i' < 1048576) (s : State) (v : Nat) : getR (setR s r d i v) r' d' i' = getR s r' d' i' :=
  congrArg BitVec.toNat (kget_kset_ne _ _ _ _ _ _ (rkey_ne_of_reg h hd hd' (by decide) (by decide) hi hi'))

/-- PAIR.STATUS of a die, and what the package shares. -/
def pairSide (k : Nat) (s : State) : Pkg × Nat := (s.pkg, getR s .pairStatus k 0)

theorem pairSide_setR {r : RegName} (h : RegName.pairStatus.ctorIdx ≠ r.ctorIdx) {k d : Nat} (hk : k < 8) (hd : d < 8) (s : State) (v : Nat) :
    pairSide k (setR s r d 0 v) = pairSide k s :=
  congrArg (Prod.mk s.pkg) (getR_setR_of_reg h hd hk (by decide) (by decide) s v)

theorem pairStatus_ne_slotReg (n : Nat) : RegName.pairStatus.ctorIdx ≠ (slotReg n).ctorIdx := by
  unfold slotReg
  split <;> decide

theorem pairState_of_pairSide {s t : State} (h : pairSide s.pkg.lead t = pairSide s.pkg.lead s) : pairState t = pairState s := by
  obtain ⟨hp, hr⟩ := Prod.mk.inj h
  unfold pairState fieldR
  rw [hp, hr]

/-- Disarming a commit leaves the state of the pair. -/
theorem pairState_disarmCommit {s : State} (h : s.pkg.lead < 8) (n : Nat) : pairState (disarmCommit s n) = pairState s := by
  refine pairState_of_pairSide ?_
  unfold disarmCommit slotStates modSlot
  refine (forEach_keeps _ (fun d hd u => ?_) _).trans (forEach_keeps _ (fun d hd u => ?_) s)
  · exact pairSide_setR (pairStatus_ne_slotReg n) h (lt_of_mem_usableDies hd) u _
  · exact pairSide_setR (by decide) h (lt_of_mem_usableDies hd) (setSched u d entGenCommit none) _

/-! ## Commands on the staged generation -/

section
variable {s u : State} {m : EmpMsg} {i code priv st : Nat} {x : Session} {c : Instr} {ws : List Word} {body : State → Nat → Answer}

theorem does_of_answer (hc : exec c s = .next (empWith s m code priv body (fun s _ => s)))
    (hb : body (taken s m i x) i = .now (answerOk u ws)) : Does s m i x code priv c u ws := fun h => by
  rw [hc, empWith_accepted h, hb]
  rfl

theorem refuses_of_answer (hc : exec c s = .next (empWith s m code priv body (fun s _ => s)))
    (hb : body (taken s m i x) i = .now ⟨st, ws, taken s m i x⟩) : Refuses s m i x code priv c st ws := fun h => by
  rw [hc, empWith_accepted h, hb]
  exact congrArg Host.Outcome.next (ite_self _)

end

section
variable {s u : State} {m : EmpMsg} {i n gen T : Nat}

theorem stagedGen_eq (hs : stagedSlot s = some n) (hg : slotGen s (refDie s) n = gen) : stagedGen s gen = some n := by
  unfold stagedGen
  rw [hs]
  exact if_pos hg

/-- GEN_COMMIT of a SEALED generation, while no joint commit runs (R253, R482). -/
theorem commitGen_sealed (hs : stagedSlot s = some n) (hg : slotGen s (refDie s) n = gen) (hst : slotState s (refDie s) n = 2)
    (hj : s.pair.joint = none) (hp : pairState s ≠ pairPaired ∨ secondary s = false) :
    commitGen s m i gen T =
      if slotMismatch s n then .now ⟨stsDigest, [nw (mismatchMask s n)], s⟩
      else if T < stime s s.pkg.lead + leadTime s then .now (answerNo s stsTimePast)
      else if decide (pairState s = pairPaired) then
        let s := sendPartner s (commitPort s) kPropose (pairDigest s (refDie s) n ++ timeWords T)
        .wait { s with pair := { s.pair with joint := some ⟨n, T, leadMono s, i, m⟩ } }
      else .now (answerOk (armCommit s n T) []) := by
  unfold commitGen
  dsimp only
  rw [stagedGen_eq hs hg]
  refine if_neg ?_
  rw [hst, hj]
  rcases hp with hp | hp <;> simp [hp]

end

/-- Settles O39, command by command. -/
theorem generationCommands : Obligations.GenerationCommands := by
  unfold Obligations.GenerationCommands
  intro s m i n at_ setId first pdom off slot die source x gen sec ns values units records words dies policy rs u t r ds vs T mine is
  refine ⟨does_of_body rfl rfl, fun hl hs h0 => ?_, fun hl hs => ?_, fun hl hs h0 => ?_, fun ho hr hall => ?_, fun ho h1 h2 h3 h4 hf => ?_,
    fun ho h1 h2 h3 h4 hf => ?_, fun ho h1 h2 h3 h4 => ?_, fun h ho => ⟨?_, ?_⟩, fun h => ?_, fun ho hs => ?_,
    fun h hns hm hp hj => ⟨fun hT => ?_, fun hT => ?_⟩, fun h hns hm hp hj => ?_, fun h hT hp hlead => ?_, fun h hT => ?_, fun h hj => ?_,
    fun h => ?_, fun hs => ?_, fun hd => ?_, fun hd => ?_, fun h1 h2 h3 h4 h5 => ?_⟩
  · refine does_of_body rfl ((inRange_of hl).trans ((if_neg (by rw [hs]; decide)).trans ?_))
    rw [h0]
  · exact refuses_of_body rfl ((inRange_of hl).trans (if_pos (by rw [hs]; rfl)))
  · refine refuses_of_body rfl ((inRange_of hl).trans ((if_neg (by rw [hs]; decide)).trans ?_))
    rw [h0]
    rfl
  · refine does_of_body rfl ((stageTarget_open ho).trans ?_)
    rw [hr]
    exact stageSet_ok hall
  · refine does_of_body rfl ((stageTarget_open ho).trans ((inRange_true ?_).trans ?_))
    · rw [decide_eq_true ⟨h1, h2, h3⟩, List.all_eq_true.mpr h4]
      rfl
    · rw [hf]
  · refine does_of_body rfl ((stageTarget_open ho).trans ((inRange_of ⟨h1, h2, h3, h4⟩).trans ?_))
    rw [hf]
  · exact does_of_body rfl ((stageTarget_open ho).trans (inRange_of ⟨h1, h2, h3, h4⟩))
  · exact refuses_of_body rfl (stageTarget_other h.1 h.2.1 h.2.2 ho)
  · exact refuses_of_body rfl (stageTarget_other h.1 h.2.1 h.2.2 ho)
  · obtain ⟨hs, hg, hst⟩ := h
    exact refuses_of_body rfl (stageTarget_sealed hs hg (by rw [hst]; decide))
  · refine does_of_body rfl ((stageTarget_open ho).trans ?_)
    rw [hs]
  · obtain ⟨hs, hg, hst⟩ := h
    refine does_of_answer rfl ((if_neg (Nat.not_le.mpr hns)).trans ((commitGen_sealed hs hg hst hj (.inl hp)).trans ?_))
    exact (if_neg (ne_true_of_eq_false hm)).trans ((if_neg (Nat.not_lt.mpr hT)).trans (if_neg (ne_true_of_eq_false (decide_eq_false hp))))
  · obtain ⟨hs, hg, hst⟩ := h
    refine refuses_of_answer rfl ((if_neg (Nat.not_le.mpr hns)).trans ((commitGen_sealed hs hg hst hj (.inl hp)).trans ?_))
    exact (if_neg (ne_true_of_eq_false hm)).trans (if_pos hT)
  · obtain ⟨hs, hg, hst⟩ := h
    exact refuses_of_answer rfl ((if_neg (Nat.not_le.mpr hns)).trans ((commitGen_sealed hs hg hst hj hp).trans (if_pos hm)))
  · obtain ⟨hs, hg, hst⟩ := h
    refine does_of_body rfl ?_
    rw [stagedGen_eq hs hg]
    refine (if_neg (not_not_intro hst)).trans ((if_neg (Nat.not_le.mpr hT)).trans (congrArg (answerOk · []) (if_neg fun hc => ?_)))
    exact hp ((pairState_disarmCommit hlead n).symm.trans hc.1)
  · obtain ⟨hs, hg, hst⟩ := h
    refine refuses_of_body rfl ?_
    rw [stagedGen_eq hs hg]
    exact (if_neg (not_not_intro hst)).trans (if_pos hT)
  · have hsg : ∃ k, is k ∧ k ≠ 3 := h.elim (fun h => ⟨1, h, by decide⟩) (fun h => ⟨2, h, by decide⟩)
    obtain ⟨k, ⟨hs, hg, hst⟩, hk⟩ := hsg
    refine does_of_body rfl ?_
    rw [stagedGen_eq hs hg]
    exact if_neg (not_or.mpr ⟨fun h3 => hk (hst.symm.trans h3), by rw [hj]; decide⟩)
  · obtain ⟨hs, hg, hst⟩ := h
    refine refuses_of_body rfl ?_
    rw [stagedGen_eq hs hg]
    exact if_pos (.inl hst)
  · exact does_of_body rfl (inRange_of hs)
  · exact does_of_body rfl (onDies_ok hd)
  · exact does_of_body rfl (inRange_true hd)
  · intro v hv
    refine does_of_body rfl ((inRange_true ?_).trans (if_neg ?_))
    · rw [decide_eq_true ⟨h1, h2⟩, h3, h4, h5]
      rfl
    · rw [show agrees _ _ = true from hv]
      decide

end Sys2Proof.Proofs
end

section
/-! PROOF. The commands of buffers and queues (R265, R267, R277, R281, R284, R285). -/

namespace Sys2Proof.Proofs

open Sys2Proof.Machine Sys2Proof.Laws Sys2Proof.Safety Sys2Proof.Claims

section
variable {s : State} {i d first count limit : Nat}

theorem granting_ok {may : Nat → Bool} {body : State → Reply} (h : permits s i may = true) : granting s i may body = body s := if_pos h
theorem granting_no {may : Nat → Bool} {body : State → Reply} (h : ¬permits s i may = true) :
    granting s i may body = ⟨stsPriv, [], s⟩ := if_neg h

theorem queueSpan_ok (h1 : 1 ≤ count) (h2 : count ≤ limit) (h3 : first + count ≤ 262144) : queueSpan first count limit = true :=
  decide_eq_true ⟨h1, h2, h3⟩

/-- The body of a command on a span of a die's queues that the session may use. -/
theorem queueSpan_body {body : State → Reply} (hd : usable s d = true) (h1 : 1 ≤ count) (h2 : count ≤ limit)
    (h3 : first + count ≤ 262144)
    (hr : permits s i (fun row => (range' (d * 262144 + first) count).all (mayQueue s s.pkg.lead row)) = true) :
    onDie s d (fun s => inRange s (queueSpan first count limit) (fun s => queueRight s i d first count body)) = body s :=
  (onDie_usable hd).trans ((inRange_true (queueSpan_ok h1 h2 h3)).trans (granting_ok hr))

end

/-! ## Multicast groups -/

/-- The bits of a sum of powers of 2, one for each number below 8 that `f` names. -/
theorem mask8_getLsbD (f : Nat → Bool) {n : Nat} (hn : n < 8) :
    (BitVec.ofNat 8 (sumN ((List.range 8).map (fun k => if f k then 2 ^ k else 0)))).getLsbD n = f n := by
  have h := predNumber_getLsbD f hn
  rw [nw, BitVec.getLsbD_ofNat, decide_eq_true (by omega : n < 16), Bool.true_and] at h
  rw [BitVec.getLsbD_ofNat, decide_eq_true hn, Bool.true_and, h]

theorem getGroup_setGroup_same (s : State) (d g : Nat) (x : McGroup) : getGroup (setGroup s d g x) d g = x := by
  simp [getGroup, setGroup]

theorem getGroup_setGroup_ne (s : State) {d e g : Nat} (x : McGroup) (h : e ≠ d) :
    getGroup (setGroup s d g x) e g = getGroup s e g :=
  kget_kset_ne _ _ _ _ _ _ (by omega)

/-- A group that is written on each die of a list is what was written there. -/
theorem getGroup_forEach {l : List Nat} (hl : l.Nodup) {d : Nat} (hd : d ∈ l) (f : Nat → McGroup) (g : Nat) (s : State) :
    getGroup (forEach l (fun s d => setGroup s d g (f d)) s) d g = f d := by
  induction l generalizing s with
  | nil => exact absurd hd List.not_mem_nil
  | cons k l ih =>
    obtain ⟨hk, hl⟩ := List.nodup_cons.mp hl
    rcases List.mem_cons.mp hd with rfl | hm
    · have hkeep := forEach_keeps (getGroup · d g) (f := fun s e => setGroup s e g (f e))
        (fun e he u => getGroup_setGroup_ne u (f e) (fun h => hk (h ▸ he))) (setGroup s d g (f d))
      exact hkeep.trans (getGroup_setGroup_same _ _ _ _)
    · exact ih hl hm _

theorem usableDies_nodup (s : State) : (usableDies s).Nodup := List.nodup_range.filter _

/-- QM_MC_SET writes a group's members and its die mask on every usable die (R281). -/
theorem qmMcSet_does {s : State} {m : EmpMsg} {i : Nat} {x : Session} (hl : m.len % 2 = 1) (hn : (mcMembers m).length ≤ 2200)
    (hq : ∀ q ∈ mcMembers m, qidExists (taken s m i x) q = true ∧ usable (taken s m i x) (qidDie q) = true)
    (hm : ∀ d, d < 8 → (membersOn (mcMembers m) d).length ≤ 1023)
    (hr : permits (taken s m i x) i (fun row => mayMc (taken s m i x) (taken s m i x).pkg.lead row &&
      (mcMembers m).all (mayQueue (taken s m i x) (taken s m i x).pkg.lead row)) = true)
    (hs : ∀ d ∈ usableDies (taken s m i x), storeUsed (taken s m i x) d (pw m 0) + (membersOn (mcMembers m) d).length ≤ 131072) :
    DoesWith s m i x 0x0507 operator (.qmMcSet m) (fun u ws => ws = [] ∧
      ∀ d ∈ usableDies (taken s m i x), d < 8 → (getGroup u d (pw m 0)).members = membersOn (mcMembers m) d ∧
        ∀ e, e < 8 → (getGroup u d (pw m 0)).dies.getLsbD e = decide (membersOn (mcMembers m) e ≠ [])) := by
  refine doesWith_of_body rfl ((inRange_true ?_).trans ((granting_ok hr).trans (if_neg ?_))) ⟨rfl, fun d hd _ => ?_⟩
  · rw [decide_eq_true ⟨hl, hn⟩, List.all_eq_true.mpr fun q hmem => Bool.and_eq_true_iff.mpr (hq q hmem)]
    exact List.all_eq_true.mpr fun d hd => decide_eq_true (hm d (List.mem_range.mp hd))
  · exact ne_true_of_eq_false (List.any_eq_false.mpr fun d hd h => absurd (of_decide_eq_true h) (Nat.not_lt.mpr (hs d hd)))
  · rw [getGroup_forEach (usableDies_nodup _) hd (fun d => ⟨BitVec.ofNat 8 (sumN ((List.range 8).map (fun d =>
      if membersOn (mcMembers m) d = [] then 0 else 2 ^ d))), membersOn (mcMembers m) d⟩)]
    refine ⟨rfl, fun e he => ?_⟩
    refine Eq.trans ?_ (mask8_getLsbD (fun d => decide (membersOn (mcMembers m) d ≠ [])) he)
    refine congrArg (fun l => (BitVec.ofNat 8 (sumN l)).getLsbD e) (List.map_congr_left fun k _ => ?_)
    by_cases hk : membersOn (mcMembers m) k = [] <;> simp [hk]

/-- QM_QUEUE_SET of a span that exists (R277). -/
theorem queueSet_body {s : State} {m : EmpMsg} {i : Nat} (hlen : m.len = 4 + 4 * pw m 3) (hd : usable s (pw m 0) = true)
    (h1 : 1 ≤ pw m 3) (h2 : pw m 3 ≤ 1024) (h3 : pw2 m 1 + pw m 3 ≤ 262144) {body : State → Reply} :
    inRange s (decide (m.len = 4 + 4 * pw m 3) && usable s (pw m 0) && queueSpan (pw2 m 1) (pw m 3) 1024)
      (fun s => queueRight s i (pw m 0) (pw2 m 1) (pw m 3) body) = queueRight s i (pw m 0) (pw2 m 1) (pw m 3) body :=
  inRange_true (by rw [decide_eq_true hlen, hd, queueSpan_ok h1 h2 h3]; rfl)

/-- Settles O40, command by command. -/
theorem bufferAndQueueCommands : Obligations.BufferAndQueueCommands := by
  unfold Obligations.BufferAndQueueCommands
  intro s m i cls first count pool die profile group port x dies counts owners value wide t ds v os qd qf qn vs w mc g right
  refine ⟨fun hd hc h1 h2 h3 h4 h5 => ?_, fun hd hc => ?_, fun hd h1 h2 h3 h4 h5 h6 => ?_, fun hd ho => ?_,
    fun hlen hd h1 h2 h3 => ⟨fun hr hdef hok => ⟨fun hm => ?_, fun hm => ?_⟩, fun hr => ?_⟩, fun hd hp => ?_,
    fun hd hg hdef hport hq => ?_, fun hd hinst hdef hq hp => ?_, fun hl hn hq hm hr hs => ?_, fun hg hr => ?_,
    fun hd h1 h2 h3 hr hq => ?_, fun hd h1 h2 h3 hr q hq => ?_, fun hd h1 h2 h3 hr => ?_, fun hd => ?_⟩
  · refine does_of_body rfl ((onDies_ok hd).trans ((if_neg (by rw [hc]; decide)).trans (inRange_true ?_)))
    rw [decide_eq_true ⟨h1, h2, h3⟩, List.all_eq_true.mpr fun c hc => decide_eq_true (h4 c hc), List.all_eq_true.mpr h5]
    rfl
  · exact refuses_of_body rfl ((onDies_ok hd).trans (if_pos (Option.isSome_iff_ne_none.mpr hc)))
  · refine does_of_body rfl ((onDies_ok hd).trans ((inRange_true ?_).trans (inRange_true ?_)))
    · rw [decide_eq_true ⟨h1, h2, h3⟩, h4]
      refine (Bool.true_and _).trans (List.all_eq_true.mpr fun d hd => Bool.or_eq_true_iff.mpr ?_)
      exact h5.imp (fun h => decide_eq_true h) (fun h => List.all_eq_true.mpr (h d hd))
    · exact List.all_eq_true.mpr fun d hd => decide_eq_true (h6 d hd)
  · exact does_of_body rfl ((onDies_ok hd).trans (inRange_true (List.all_eq_true.mpr fun o h => decide_eq_true (ho o h))))
  · refine does_of_body rfl ((queueSet_body hlen hd h1 h2 h3).trans ((granting_ok hr).trans ((inRange_true ?_).trans (if_neg ?_))))
    · rw [List.all_eq_true.mpr hdef, List.all_eq_true.mpr hok]
      rfl
    · exact ne_true_of_eq_false (List.any_eq_false.mpr fun l hl => ne_true_of_eq_false (hm l hl))
  · refine refuses_of_body rfl ((queueSet_body hlen hd h1 h2 h3).trans ((granting_ok hr).trans ((inRange_true ?_).trans (if_pos ?_))))
    · rw [List.all_eq_true.mpr hdef, List.all_eq_true.mpr hok]
      rfl
    · exact List.any_eq_true.mpr hm
  · exact refuses_of_body rfl ((queueSet_body hlen hd h1 h2 h3).trans (granting_no hr))
  · exact does_of_body rfl ((onDie_usable hd).trans (inRange_of hp))
  · refine does_of_body rfl ((onDie_usable hd).trans (inRange_true ?_))
    rw [decide_eq_true hg, hdef, hport]
    refine (Bool.true_and _).trans (List.all_eq_true.mpr fun q hmem => ?_)
    obtain ⟨hnamed, hen⟩ := List.mem_filter.mp hmem
    obtain ⟨e, he, hsome⟩ := List.mem_filterMap.mp hnamed
    obtain ⟨hkey, hsome⟩ := Option.ite_none_right_eq_some.mp hsome
    obtain rfl := Option.some.inj hsome
    obtain ⟨h1, h2⟩ := Bool.and_eq_true_iff.mp hen
    exact decide_eq_true (hq e he hkey (of_decide_eq_true h1) (of_decide_eq_true h2))
  · refine does_of_body rfl ((onDie_usable hd).trans (inRange_true ?_))
    rw [hinst, hdef, decide_eq_true hp, Bool.and_true, Bool.true_and, Bool.true_and]
    cases hw : isWritten t die 2 (wide.toNat % 262144) with
    | false => rfl
    | true => exact decide_eq_true (hq hw)
  · exact qmMcSet_does hl hn hq hm hr hs
  · exact does_of_body rfl ((inRange_of hg).trans (granting_ok hr))
  · refine does_of_body rfl ((queueSpan_body hd h1 h2 h3 hr).trans ?_)
    have hnone : (busyQueues t die).filter (fun q => decide (first ≤ qidLocal q ∧ qidLocal q < first + count)) = [] :=
      List.filter_eq_nil_iff.mpr fun q hmem h => hq q hmem (of_decide_eq_true h)
    have hzero : wordsOf 2 0 = [0, 0] := by decide
    dsimp only
    rw [hnone, List.foldl_nil, List.append_assoc, hzero]
    rfl
  · refine does_of_body rfl ((queueSpan_body hd h1 h2 h3 hr).trans ?_)
    dsimp only
    rw [hq, List.foldl_cons, List.foldl_nil, Nat.zero_add]
  · exact does_of_body rfl (queueSpan_body hd h1 h2 h3 hr)
  · exact does_of_body rfl (onDies_ok hd)

end Sys2Proof.Proofs
end

section
/-! PROOF. The commands of ports and lanes (R290, R291, R297, R302 to R305, R308 to R310, R313, R489 to R492, R512). -/

namespace Sys2Proof.Proofs

open Sys2Proof.Machine Sys2Proof.Laws Sys2Proof.Safety Sys2Proof.Claims

section
variable {s : State} {g d : Nat} {on : Bool} {body : State → Reply}

theorem onPort_named (h : portNamed s g = true) : onPort s g body = body s := if_pos h

/-- A command that enables nothing, or finds no higher rank at the copy engine, goes on (R308). -/
theorem copierFree_ok (h : ∀ c, getClaim s 5 d = some c → on = true → c.rank < 2) : copierFree s d on body = body s := by
  unfold copierFree
  split
  · next c hc => exact if_neg fun ⟨ho, hr⟩ => absurd (h c hc ho) (Nat.not_lt.mpr hr)
  · rfl

end

/-- The body of PORT_FC_SET after its checks of form. -/
theorem portFcSet_body {s : State} {m : EmpMsg} {body : State → Reply} (hp : portNamed s (pw m 0) = true) (hl : m.len = 6)
    (hc : portConfigured s (pw m 0) = true) (h1 : Nat.land (pw m 1) 0x7F80 = 0) (h2 : pw m 2 < 256) (h3 : pw m 3 < 1024) :
    onPort s (pw m 0) (fun s => inRange s (decide (m.len = 6) && portConfigured s (pw m 0) &&
      decide (Nat.land (pw m 1) 0x7F80 = 0 ∧ pw m 2 < 256 ∧ pw m 3 < 1024)) body) = body s :=
  (onPort_named hp).trans (inRange_true (by rw [decide_eq_true hl, hc, decide_eq_true ⟨h1, h2, h3⟩]; rfl))

/-- The words of LANE_PRBS: four for each lane. -/
theorem prbsWords_length (f : Nat → Nat) (n : Nat) : ((List.range n).flatMap (fun k => wordsOf 4 (f k))).length = 4 * n := by
  simp [List.length_flatMap, wordsOf_length, Nat.mul_comm]

/-- Settles O41, command by command. -/
theorem portAndLaneCommands : Obligations.PortAndLaneCommands := by
  unfold Obligations.PortAndLaneCommands
  intro s m i gpn cls die group first profile k xoff xon x gpns queues sessions samplers lanes taps value wide values t v d p here g fc free
    ld lf lv
  refine ⟨fun h => ⟨?_, ?_⟩, fun h h1 h2 => ?_, fun h hl hc h1 h2 h3 => ⟨fun hf ho hn hok => ?_, fun hf => ?_⟩, fun h h1 h2 h3 => ?_,
    fun hd => ⟨fun h1 h2 h3 => ?_, fun h1 h2 h3 h4 hr => ?_, fun h1 h2 h3 => ?_, fun h1 h2 h3 h4 hf => ?_,
      fun h1 h2 => ⟨fun h3 => ?_, fun h3 h4 hf => ?_⟩, fun h1 h2 => ⟨fun h3 => ?_, fun h3 => ?_⟩⟩,
    fun h1 h2 h3 h4 => ?_, fun h1 h2 h3 h4 h5 h6 => ⟨fun hb => ?_, fun hb => ?_⟩, fun h hc => ⟨fun hf => ?_, fun hf => ?_⟩⟩
  · exact does_of_body rfl (inRange_true (List.all_eq_true.mpr h))
  · exact does_of_body rfl (inRange_true (List.all_eq_true.mpr h))
  · exact does_of_body rfl ((onPort_named h).trans (inRange_true (by rw [h1, decide_eq_true h2]; rfl)))
  · refine does_of_body rfl ((portFcSet_body h hl hc h1 h2 h3).trans ?_)
    rw [hf]
    exact inRange_true (by rw [decide_eq_true ⟨ho, hn⟩, hok]; rfl)
  · refine refuses_of_body rfl ((portFcSet_body h hl hc h1 h2 h3).trans ?_)
    rw [hf]
    rfl
  · exact does_of_body rfl ((onPort_named h).trans (inRange_true (by rw [decide_eq_true h1, h2, decide_eq_true h3]; rfl)))
  · exact does_of_body rfl ((onDie_usable hd).trans (inRange_true (by rw [decide_eq_true h1, h2, decide_eq_true h3]; rfl)))
  · refine does_of_body rfl ((onDie_usable hd).trans ((inRange_true ?_).trans (granting_ok hr)))
    rw [queueSpan_ok h1 h2 h3, List.all_eq_true.mpr h4]
    rfl
  · exact does_of_body rfl ((onDie_usable hd).trans (inRange_true (by rw [decide_eq_true h1, h2, decide_eq_true h3]; rfl)))
  · refine does_of_body rfl ((onDie_usable hd).trans ((inRange_true ?_).trans
      (copierFree_ok fun c hc ho => hf c hc (of_decide_eq_true ho))))
    rw [decide_eq_true ⟨h1, h2⟩, h3, h4]
    rfl
  · have hoff : decide (wide.toNat % 2 = 1 ∧ fieldR t .egrSmpCfg die k 0 1 = 0) = false := decide_eq_false (by omega)
    refine does_of_body rfl ((onDie_usable hd).trans ((inRange_true ?_).trans ?_))
    · rw [decide_eq_true h1, h2]
      rfl
    · rw [hoff]
      exact copierFree_ok fun c _ ho => absurd ho Bool.false_ne_true
  · have hon : decide (wide.toNat % 2 = 1 ∧ fieldR t .egrSmpCfg die k 0 1 = 0) = true := decide_eq_true ⟨h3, h4⟩
    refine does_of_body rfl ((onDie_usable hd).trans ((inRange_true ?_).trans ?_))
    · rw [decide_eq_true h1, h2]
      rfl
    · rw [hon]
      exact copierFree_ok fun c hc _ => hf c hc trivial
  · refine does_of_body rfl ((onDie_usable hd).trans ((inRange_true ?_).trans (if_neg ?_)))
    · rw [List.all_eq_true.mpr fun l hl => decide_eq_true (h1 l hl), decide_eq_true h2]
      rfl
    · exact ne_true_of_eq_false (List.any_eq_false.mpr fun l hl => ne_true_of_eq_false (h3 l hl))
  · refine refuses_of_body rfl ((onDie_usable hd).trans ((inRange_true ?_).trans (if_pos (List.any_eq_true.mpr h3))))
    rw [List.all_eq_true.mpr fun l hl => decide_eq_true (h1 l hl), decide_eq_true h2]
    rfl
  · refine does_of_body rfl (inRange_true ?_)
    rw [List.all_eq_true.mpr h1, List.all_eq_true.mpr fun q hq => Bool.and_eq_true_iff.mpr (h2 q hq), List.all_eq_true.mpr h3,
      List.all_eq_true.mpr h4]
    rfl
  · refine does_of_body rfl ((inRange_true ?_).trans (if_neg (ne_true_of_eq_false hb)))
    rw [decide_eq_true ⟨h1, h2, h3⟩, h4, h5, h6]
    rfl
  · refine refuses_of_body rfl ((inRange_true ?_).trans (if_pos hb))
    rw [decide_eq_true ⟨h1, h2, h3⟩, h4, h5, h6]
    rfl
  · refine doesWith_of_body rfl ((onPort_named h).trans ((inRange_true hc).trans (if_neg ?_))) ⟨prbsWords_length _ _, _, rfl⟩
    exact fun h1 => absurd (hf.symm.trans h1) (by decide)
  · exact refuses_of_body rfl ((onPort_named h).trans ((inRange_true hc).trans (if_pos hf)))

end Sys2Proof.Proofs
end

section
/-! PROOF. Sessions: how one opens, what its commands do, how it ends (R356, R365 to R368, R374). -/

namespace Sys2Proof.Proofs

open Sys2Proof.Machine Sys2Proof.Laws Sys2Proof.Safety Sys2Proof.Claims

/-! ## Opening a session -/

section
variable {s : State} {m : EmpMsg}

theorem sesHello_checked (hup : mailboxUp s m = true) (hc : empFrameCheck s m 0x0100 true = none) :
    exec (.sesHello m) s = .next (
      if startLimit s then sendReply (kcnt s .kprCntBusy) m 0x0100 m.session none stsBusy false []
      else
        let s := startCmd s
        if m.len ≠ 0 ∨ m.w0.toNat / 256 % 4 ≠ 0 then noteFail (sendReply s m 0x0100 m.session none stsRange false [])
        else
          let np := Config.nonce s.free
          let s := { s with free := s.free + 1, kpr := { s.kpr with nonces := s.kpr.nonces ++ [(np, leadMono s)] } }
          sendReply s m 0x0100 m.session none stsOk false (wordsOf 8 np.toNat)) := by
  refine congrArg Host.Outcome.next ?_
  rw [hup, hc]
  rfl

theorem sesOpen_checked (hup : mailboxUp s m = true) (hc : empFrameCheck s m 0x0101 true = none) :
    exec (.sesOpen m) s = .next (
      if failLimit s then sendReply (kcnt s .kprCntBusy) m 0x0101 m.session none stsBusy false []
      else if (keySlot s 0).priv = 0 ∨ (keySlot s (pw m 0 % 16)).priv = 0 ∨
          empTag (keySlot s (pw m 0 % 16)).key (empCovered m 0x0101) ≠ m.tag then
        noteFail (sendReply (authFail s m (nw (pw m 0 % 16))) m 0x0101 m.session none stsAuth false [])
      else openChecked s m) := by
  refine congrArg Host.Outcome.next ?_
  rw [hup, hc]
  rfl

/-- The state in which an opening's nonce has been spent. -/
def nonceSpent (s : State) (m : EmpMsg) : State :=
  { startCmd s with kpr := { (startCmd s).kpr with
    nonces := (startCmd s).kpr.nonces.filter (fun n => decide (n.1 ≠ BitVec.ofNat 128 (valOf (pws m 1 8)))) } }

/-- A nonce of the last 10 s. -/
def freshNonce (s : State) (m : EmpMsg) : Bool :=
  s.kpr.nonces.any (fun n => decide (n.1 = BitVec.ofNat 128 (valOf (pws m 1 8))) && decide (leadMono s < n.2 + 10 * nsPerS))

theorem freshNonce_iff : freshNonce s m = true ↔
    ∃ n ∈ s.kpr.nonces, n.1 = BitVec.ofNat 128 (valOf (pws m 1 8)) ∧ leadMono s < n.2 + 10 * nsPerS := by
  simp [freshNonce]

/-- An opening of the right form whose tag was correct (R366). -/
theorem openChecked_form (hs : startLimit s = false) (h1 : m.len = 17) (h2 : Nat.land (pw m 0) 0x7CF0 = 0)
    (h3 : m.w0.toNat / 256 % 4 = 0) :
    openChecked s m =
      let k := keySlot s (pw m 0 % 16)
      let want := pw m 0 / 256 % 4
      let refuse (s : State) (key : Option (BitVec 256)) (st : Nat) (ws : List Word) : State :=
        noteFail (sendReply s m 0x0101 m.session key st false ws)
      if !freshNonce s m ∨ want = 0 ∨ want > k.priv then refuse (nonceSpent s m) none stsAuth []
      else
        match ownerSession s with
        | some (j, x) =>
          if want = 3 ∧ pw m 0 < 32768 then refuse (nonceSpent s m) (some k.key) stsConflict [0, sesIdOf j x, 1, 0, sessionId j]
          else openChecked.next m (if want = 3 then endSession (nonceSpent s m) j 3 else nonceSpent s m) (pw m 0 % 16) want refuse k.key
        | none => openChecked.next m (nonceSpent s m) (pw m 0 % 16) want refuse k.key := by
  unfold openChecked
  exact (if_neg (ne_true_of_eq_false hs)).trans (if_neg (not_or.mpr ⟨not_not_intro h1, not_or.mpr ⟨not_not_intro h2, not_not_intro h3⟩⟩))

end

/-- A command with a sequel that is refused has no sequel. -/
theorem refuses_of_then {s : State} {m : EmpMsg} {i code priv st : Nat} {x : Session} {c : Instr} {ws : List Word}
    {body : State → Nat → Reply} {later : State → Nat → State} (hc : exec c s = .next (empThen s m code priv body later))
    (hb : body (taken s m i x) i = ⟨st, ws, taken s m i x⟩) (hst : st ≠ stsOk) : Refuses s m i x code priv c st ws := fun h => by
  rw [hc, empThen_accepted h, hb]
  exact congrArg Host.Outcome.next (if_neg hst)

/-- What follows a command that is done. -/
theorem then_of_body {s u : State} {m : EmpMsg} {i code priv : Nat} {x : Session} {c : Instr} {ws : List Word}
    {body : State → Nat → Reply} {later : State → Nat → State} (hc : exec c s = .next (empThen s m code priv body later))
    (hb : body (taken s m i x) i = answerOk u ws) (h : Accepted s m code priv i x) :
    exec c s = .next (later (answered u m code i x stsOk ws) i) := by
  rw [hc, empThen_accepted h, hb]
  rfl

/-- A new key of a slot, or the slot cleared (R365). -/
theorem sesKeySet_does {s : State} {m : EmpMsg} {i slot priv : Nat} {x y : Session} {wrapped : BitVec 256}
    (hy : session (taken s m i x) i = some y) (h : (slot = 0 ∧ priv = 3) ∨ (1 ≤ slot ∧ slot ≤ 15 ∧ priv ≤ 2)) :
    Does s m i x 0x0107 owner (.sesKeySet m slot priv wrapped) (recordK (setKeySlot (taken s m i x) slot
      (if priv = 0 then ⟨0, 0⟩ else ⟨priv, wrapped ^^^ keyPad y.key slot m.seq⟩)) (taken s m i x).pkg.lead 0x0006
      [nw slot, nw priv, m.session]) [] := by
  refine does_of_body rfl ?_
  rw [hy]
  exact if_pos h

/-- Settles O42, command by command. -/
theorem sessionCommands : Obligations.SessionCommands := by
  unfold Obligations.SessionCommands
  intro s m i j slot priv x y code other wrapped value t head head' u asked want k np spent known form fresh
  have hauth (h : head') (hf : failLimit s = false) (hk : known) : exec (.sesOpen m) s = .next (openChecked s m) := by
    refine (sesOpen_checked h.1 h.2).trans (congrArg _ ((if_neg (ne_true_of_eq_false hf)).trans (if_neg ?_)))
    obtain ⟨h0, h1, h2⟩ := hk
    exact not_or.mpr ⟨h0, not_or.mpr ⟨h1, not_not_intro h2⟩⟩
  refine ⟨fun h hs hl hw => ?_, fun h hs => ?_, fun h => ⟨?_, ?_⟩, fun h hf => ?_, fun h hf hk => ?_, fun h hf hk hs hform hno => ?_,
    fun h hf hk hs hform hfr h1 h2 ho => ⟨fun hroom hj => ?_, fun hroom => ?_⟩, fun hl h => ?_, fun hl => ?_, fun hl => ?_,
    fun hl h1 h2 hy => ?_, fun hl => ?_, fun hj hne => ?_, fun hj => ?_, fun hy h => ?_, fun hy h1 h2 => ?_, fun hv h => ?_, fun hv => ?_,
    fun hk hup hc hf ht hq => ?_⟩
  · exact (sesHello_checked h.1 h.2).trans (congrArg _ ((if_neg (ne_true_of_eq_false hs)).trans (if_neg (by simp [hl, hw]))))
  · exact (sesHello_checked h.1 h.2).trans (congrArg _ (if_pos hs))
  · exact congrArg Host.Outcome.next (if_pos (by rw [h]; rfl))
  · exact congrArg Host.Outcome.next (if_pos (by rw [h]; rfl))
  · exact (sesOpen_checked h.1 h.2).trans (congrArg _ (if_pos hf))
  · refine (sesOpen_checked h.1 h.2).trans (congrArg _ ((if_neg (ne_true_of_eq_false hf)).trans (if_pos ?_)))
    refine Decidable.byContradiction fun hc => hk ?_
    obtain ⟨h0, hc⟩ := not_or.mp hc
    obtain ⟨h1, h2⟩ := not_or.mp hc
    exact ⟨h0, h1, Decidable.not_not.mp h2⟩
  · obtain ⟨f1, f2, f3⟩ := hform
    refine (hauth h hf hk).trans (congrArg _ ((openChecked_form hs f1 f2 f3).trans (if_pos ?_)))
    refine Decidable.byContradiction fun hc => hno ?_
    obtain ⟨h0, hc⟩ := not_or.mp hc
    obtain ⟨h1, h2⟩ := not_or.mp hc
    exact ⟨freshNonce_iff.mp (by simpa using h0), Nat.pos_of_ne_zero h1, Nat.not_lt.mp h2⟩
  · obtain ⟨f1, f2, f3⟩ := hform
    refine (hauth h hf hk).trans (congrArg _ ((openChecked_form hs f1 f2 f3).trans ((if_neg ?_).trans ?_)))
    · rw [freshNonce_iff.mpr hfr]
      exact not_or.mpr ⟨by decide, not_or.mpr ⟨Nat.ne_of_gt h1, Nat.not_lt.mpr h2⟩⟩
    · rw [ho]
      refine (if_neg (Nat.not_le.mpr hroom)).trans ?_
      rw [show (range' 1 41).find? (fun i => (session (nonceSpent s m) i).isNone) = some j from hj]
      rfl
  · obtain ⟨f1, f2, f3⟩ := hform
    refine (hauth h hf hk).trans (congrArg _ ((openChecked_form hs f1 f2 f3).trans ((if_neg ?_).trans ?_)))
    · rw [freshNonce_iff.mpr hfr]
      exact not_or.mpr ⟨by decide, not_or.mpr ⟨Nat.ne_of_gt h1, Nat.not_lt.mpr h2⟩⟩
    · rw [ho]
      exact if_pos hroom
  · exact then_of_body (body := fun s _ => inRange s (decide (m.len = 0)) (answerOk · [])) (later := fun s i => endSession s i 1) rfl
      (inRange_of hl) h
  · exact does_of_body rfl (inRange_of hl)
  · exact refuses_of_body rfl (inRange_of_not hl)
  · refine does_of_body rfl ((inRange_of ⟨hl, h1, h2⟩).trans ?_)
    rw [hy]
  · exact does_of_body rfl (inRange_of hl)
  · refine does_of_body rfl ?_
    rw [hj]
    exact if_neg hne
  · refine refuses_of_body rfl ?_
    rw [hj]
    rfl
  · have hp : priv ≠ 0 := by omega
    have hk := sesKeySet_does (wrapped := wrapped) hy (h.imp_right fun ⟨h1, h2, _, h3⟩ => ⟨h1, h2, h3⟩)
    rwa [if_neg hp] at hk
  · exact sesKeySet_does hy (.inr ⟨h1, h2, by decide⟩)
  · exact then_of_body (body := fun s _ => inRange s (mgmtOk value.toNat) (answerOk · []))
      (later := fun s _ => setR (setR s .kprMgmtCfg 0 0 value.toNat) .kprMgmtCfg 1 0 value.toNat) rfl (inRange_true hv) h
  · exact refuses_of_then rfl (inRange_false hv) (by decide)
  · refine congrArg Host.Outcome.next ((if_neg (ne_true_of_eq_false hk)).trans ?_)
    exact (empCmd_eq _ _ _ _ _).trans ((empWith_fresh hup hc hf ht (.inl hq)).trans (if_pos (by decide)))

end Sys2Proof.Proofs
end

section
/-! PROOF. Register access, claims, locks of sessions and the access map (R96, R334 to R336, R376 to R383, R392 to R396). -/

namespace Sys2Proof.Proofs

open Sys2Proof.Machine Sys2Proof.Laws Sys2Proof.Safety Sys2Proof.Claims

/-! ## Register access -/

section
variable {s : State} {r : RegName} {d first : Nat} {vs : List Nat}

/-- Reads that clear nothing show every value of the state. -/
theorem readRegs_noclear (a : RegArgs) (l : List Nat) (acc : List Word × State) :
    l.foldl (fun (acc : List Word × State) i =>
      let v := if instExists a.reg a.die i then regView acc.2 a.reg a.die a.slot i else 0
      let s' := if true then acc.2 else clearOnRead acc.2 a.reg a.die a.slot i
      (acc.1 ++ wordsOf (regWords a.reg) v, s')) acc =
    (acc.1 ++ l.flatMap (fun k => wordsOf (regWords a.reg) (if instExists a.reg a.die k then regView acc.2 a.reg a.die a.slot k else 0)),
      acc.2) := by
  induction l generalizing acc with
  | nil => simp
  | cons k l ih =>
    rw [List.foldl_cons, ih, List.flatMap_cons, ← List.append_assoc]
    rfl

theorem regWrite_ok (hw : r.spec.writable = true)
    (h : ∀ e ∈ (range' first vs.length).zip vs, writeRule s r d e.1 e.2 = stsOk) :
    regWrite s r d first vs = answerOk (forEach ((range' first vs.length).zip vs) (fun s e => writeReg s r d e.1 e.2) s) [] := by
  have hnone : ((range' first vs.length).zip vs).find? (fun e => decide (writeRule s r d e.1 e.2 ≠ stsOk)) = none :=
    List.find?_eq_none.mpr fun e he hne => of_decide_eq_true hne (h e he)
  unfold regWrite
  dsimp only
  rw [hw, hnone]
  rfl

theorem regWrite_readOnly (hw : r.spec.writable = false) : regWrite s r d first vs = ⟨stsRange, [], s⟩ :=
  if_pos (by rw [hw]; rfl)

/-- A write of one value. -/
theorem regWrite_one {v : Nat} (hw : r.spec.writable = true) (h : writeRule s r d first v = stsOk) :
    regWrite s r d first [v] = answerOk (writeReg s r d first v) [] :=
  regWrite_ok hw fun e he => by
    obtain rfl := List.mem_singleton.mp he
    exact h

theorem regWrite_one_refused {v : Nat} (hw : r.spec.writable = true) (h : writeRule s r d first v ≠ stsOk) :
    regWrite s r d first [v] = ⟨writeRule s r d first v, [], s⟩ := by
  have hsome : ((range' first [v].length).zip [v]).find? (fun e => decide (writeRule s r d e.1 e.2 ≠ stsOk)) = some (first, v) :=
    List.find?_cons_of_pos (decide_eq_true h)
  unfold regWrite
  dsimp only
  rw [hw, hsome]
  rfl

/-- The rule of MEM.BANK_PWR (R334 to R336). -/
theorem bankPwrRule {u v : Nat} (hu : u < 339) (hv : v < 4) : writeRule s .memBankPwr d u v =
    if v % 4 = 3 ∨ spareUnit s d u then stsRange else if v % 4 ≠ 0 ∧ unitHeld s d u then stsBusy else stsOk := by
  have hdef : definedBits .memBankPwr v = true := by
    have : ∀ v, v < 4 → definedBits .memBankPwr v = true := by decide
    exact this v hv
  have hinst : instExists .memBankPwr d u = true := Bool.and_eq_true_iff.mpr ⟨decide_eq_true hu, Bool.or_true _⟩
  exact if_neg (by rw [hdef, hinst]; decide)

theorem wqHistRule {q : Nat} (hq : q < 128) : writeRule s .dispWqHistCtl d q 1 = stsOk := by
  have hdef : definedBits .dispWqHistCtl 1 = true := by decide
  have hinst : instExists .dispWqHistCtl d q = true := Bool.and_eq_true_iff.mpr ⟨decide_eq_true hq, Bool.or_true _⟩
  exact if_neg (by rw [hdef, hinst]; decide)

end

/-! ## Claims -/

section
variable {s : State} {cls idx value : Nat} {rank : Nat} {feature holder : Word}

theorem takeClaim_free (h : getClaim s cls idx = none) : takeClaim s cls idx rank feature holder value =
    .ok (claimChanged (setClaim s cls idx (some ⟨rank, feature, holder, value, none⟩)) cls idx rank holder) := by
  unfold takeClaim
  rw [h]

theorem takeClaim_held {c : Claim} (h : getClaim s cls idx = some c) (hr : rank ≤ c.rank) :
    takeClaim s cls idx rank feature holder value = .error c := by
  unfold takeClaim
  rw [h]
  exact if_neg (Nat.not_lt.mpr hr)

/-- CLAIM_SET of a resource that may be asked for. -/
theorem claimSet_body {i : Nat} (hok : claimOk s cls idx value = true) (hs : cls = 6 → shareRefused s idx value = none) :
    (if !claimOk s cls idx value then answerNo s stsRange
      else
        match if cls = 6 then shareRefused s idx value else none with
        | some ws => answerConflict s ws
        | none =>
          match takeClaim s cls idx 1 0x0F01 (sessionId i) value with
          | .ok s => answerOk (wakeAll s) []
          | .error c => answerConflict s (conflictWords cls idx c)) =
      match takeClaim s cls idx 1 0x0F01 (sessionId i) value with
      | .ok s => answerOk (wakeAll s) []
      | .error c => answerConflict s (conflictWords cls idx c) := by
  have hnone : (if cls = 6 then shareRefused s idx value else none) = none := by
    split
    · next h => exact hs h
    · rfl
  rw [hok, hnone]
  rfl

end

/-- Settles O43, command by command. -/
theorem registerClaimAndMapCommands : Obligations.RegisterClaimAndMapCommands := by
  unfold Obligations.RegisterClaimAndMapCommands
  intro s m i die unit queue block first cls index value lock x a req c policy rows t w vs iv shows mine got sets v freed
  have hmod (h : req ≠ 3) : ¬req.toNat % 4 = 3 := fun h3 => h (BitVec.eq_of_toNat_eq (by rwa [Nat.mod_eq_of_lt req.isLt] at h3))
  refine ⟨fun ha hl => ⟨fun hn => ?_, fun hn hc => ?_⟩, fun ha => ?_, fun ha hl hn => ⟨fun hw hr => ?_, fun hw => ?_⟩,
    fun hd hu hr hs => ⟨fun hh => ?_, fun hne hh => ?_⟩, fun hd hu hs => ?_, fun hd hq => ?_, fun hf => ?_, does_of_body rfl rfl,
    fun hok hs => ⟨fun hc => ?_, fun hc hr => ?_⟩, fun hc hr => ?_, fun hc hr => ?_, fun hp => ?_,
    fun hd hl => ⟨fun hn => ?_, fun hn => ?_, fun ho => ?_, fun ho => ?_⟩, does_of_body rfl rfl, fun h1 h2 h3 => ?_,
    fun h1 h2 h3 h4 => ?_, does_of_body rfl rfl, does_of_body rfl rfl⟩
  · refine does_of_body rfl ?_
    rw [ha]
    refine (inRange_of hl).trans ?_
    dsimp only
    rw [hn]
    rw [readRegs_noclear]
    rfl
  · refine does_of_body rfl ?_
    rw [ha]
    refine (inRange_of hl).trans ?_
    dsimp only
    rw [hn, hc]
    rfl
  · refine refuses_of_body rfl ?_
    rw [ha]
    rfl
  · refine does_of_body rfl ?_
    rw [ha]
    exact (if_neg (not_or.mpr ⟨not_not_intro hl, ne_true_of_eq_false hn⟩)).trans (regWrite_ok hw hr)
  · refine refuses_of_body rfl ?_
    rw [ha]
    exact (if_neg (not_or.mpr ⟨not_not_intro hl, ne_true_of_eq_false hn⟩)).trans (regWrite_readOnly hw)
  · have hrule : writeRule t .memBankPwr die unit req.toNat = stsOk := by
      rw [bankPwrRule hu req.isLt, if_neg (not_or.mpr ⟨hmod hr, ne_true_of_eq_false hs⟩)]
      refine if_neg fun ⟨h0, hheld⟩ => hh.elim (fun h => h0 (by rw [h]; rfl)) (fun h => absurd (hheld.symm.trans h) (by decide))
    refine does_of_body rfl ((onDie_usable hd).trans ((inRange_of hu).trans ((regWrite_one (by decide) hrule).trans ?_)))
    exact congrArg (fun v => answerOk (setField t .memBankPwr die unit 0 2 v) []) (Nat.mod_eq_of_lt req.isLt)
  · have hrule : writeRule t .memBankPwr die unit req.toNat = stsBusy := by
      rw [bankPwrRule hu req.isLt, if_neg (not_or.mpr ⟨hmod hr, ne_true_of_eq_false hs⟩)]
      refine if_pos ⟨fun h0 => hne (BitVec.eq_of_toNat_eq ?_), hh⟩
      rwa [Nat.mod_eq_of_lt req.isLt] at h0
    refine refuses_of_body rfl ((onDie_usable hd).trans ((inRange_of hu).trans ((regWrite_one_refused (by decide) ?_).trans ?_)))
    · rw [hrule]
      decide
    · rw [hrule]
  · have hrule : writeRule t .memBankPwr die unit req.toNat = stsRange := by rw [bankPwrRule hu req.isLt, if_pos (.inr hs)]
    refine refuses_of_body rfl ((onDie_usable hd).trans ((inRange_of hu).trans ((regWrite_one_refused (by decide) ?_).trans ?_)))
    · rw [hrule]
      decide
    · rw [hrule]
  · exact does_of_body rfl ((onDie_usable hd).trans ((inRange_of hq).trans (regWrite_one (by decide) (wqHistRule hq))))
  · refine does_of_body rfl (inRange_of ⟨?_, hf⟩)
    exact fun h => by simp [h] at hf
  · refine does_of_body rfl ((claimSet_body hok hs).trans ?_)
    rw [takeClaim_free hc]
  · refine refuses_of_body rfl ((claimSet_body hok hs).trans ?_)
    rw [takeClaim_held hc hr]
    rfl
  · refine does_of_body rfl ?_
    rw [hc]
    exact if_neg (not_not_intro hr)
  · refine refuses_of_body rfl ?_
    rw [hc]
    exact if_pos hr
  · exact does_of_body rfl (inRange_true hp)
  · exact does_of_body rfl ((onDie_usable hd).trans ((inRange_of hl).trans (if_neg (Nat.not_le.mpr hn))))
  · exact refuses_of_body rfl ((onDie_usable hd).trans ((inRange_of hl).trans (if_pos hn)))
  · exact does_of_body rfl ((onDie_usable hd).trans ((inRange_of hl).trans (if_pos ho)))
  · exact refuses_of_body rfl ((onDie_usable hd).trans ((inRange_of hl).trans (if_neg ho)))
  · exact does_of_body rfl (inRange_true (by rw [decide_eq_true ⟨h1, h2⟩, List.all_eq_true.mpr fun r hr => decide_eq_true (h3 r hr)]; rfl))
  · exact does_of_body rfl (inRange_true (by rw [decide_eq_true ⟨h1, h2⟩, List.all_eq_true.mpr h3, h4]; rfl))

end Sys2Proof.Proofs
end

section
/-! PROOF. The commands of tally, of faults and of inspection (R315, R319, R320, R323, R328, R331, R349,
R407, R410, R413, R422, R426, R435, R436). -/

namespace Sys2Proof.Proofs

open Sys2Proof.Machine Sys2Proof.Laws Sys2Proof.Safety Sys2Proof.Claims

/-! ## Faults and inspection -/

section
variable {s : State} {m : EmpMsg} {i die unit failStep : Nat} {x : Session} {preserving : Bool}

/-- FLT_DIE_RESTORE of a die that was not tripped, while no generation is staged (R410, R511). -/
theorem fltDieRestore_body {v : State} (hg : genStaged v = false) (ht : v.flt.tripped.getLsbD die = false) :
    (if genStaged v then answerNo v stsBusy
      else if v.flt.tripped.getLsbD die ∧ (thermal v die).temps.any (fun t => decide (t > 1000)) then answerNo v stsBusy
      else
        let (step, v) := restoreDie v die failStep
        if step = 0 then answerOk v [] else ⟨stsDegraded, [nw step], v⟩) =
      if (restoreDie v die failStep).1 = 0 then answerOk (restoreDie v die failStep).2 []
      else ⟨stsDegraded, [nw (restoreDie v die failStep).1], (restoreDie v die failStep).2⟩ := by
  rw [hg, ht]
  rfl

theorem inspStatus_words_length (f : Nat → List Word) (h : ∀ d, (f d).length = 34) (ds : List Nat) :
    (ds.flatMap f).length = 34 * ds.length := by
  induction ds with
  | nil => rfl
  | cons d ds ih => rw [List.flatMap_cons, List.length_append, h, ih, List.length_cons]; omega

/-- A march test of a unit that is not HELD (R422). -/
theorem inspMarch_free (hd : usable (taken s m i x) die = true) (hu : unit < 339) (hh : unitHeld (taken s m i x) die unit = false)
    (hs : isSpareBank unit = false) (hb : unit < 195 → bankStep (taken s m i x) die = none)
    (hp : preserving = true → unitState (taken s m i x) die unit ≠ 2) :
    let r := marchFree (taken s m i x) die unit preserving []
    let u := recordK r.2 die 0xB005 [nw unit, if preserving then 1 else 0, nw r.1]
    Does s m i x 0x0904 operator (.inspMarch m die unit preserving .pass) u ((kget u.insp.results die []).getLast?.getD []) := by
  refine does_of_body rfl ((onDie_usable hd).trans ((inRange_of hu).trans
    ((if_neg ?_).trans ((if_neg ?_).trans ((if_neg ?_).trans (if_neg ?_))))))
  · rw [hh]
    exact fun h => absurd h.1 Bool.false_ne_true
  · exact fun ⟨h1, h2⟩ => by rw [hb h2] at h1; exact absurd h1 Bool.false_ne_true
  · exact fun ⟨_, h2, h3⟩ => hp h2 h3
  · rw [hh, hs]
    decide

theorem repairsOf_other (die : Nat) (l : List (Nat × Nat × Nat)) : repairsOf die (l.filter (fun e => decide (e.1 ≠ die))) = [] := by
  refine List.filterMap_eq_nil_iff.mpr fun e he => if_neg ?_
  exact of_decide_eq_true (List.mem_filter.mp he).2

/-- INSP_FUSE of as many repairs as fuses are left (R435). -/
theorem inspFuse_does (hd : usable (taken s m i x) die = true)
    (hl : kget (taken s m i x).insp.fuses die 0 + (repairsOf die (taken s m i x).insp.soft).length ≤ 256) :
    DoesWith s m i x 0x0907 owner (.inspFuse m die) (fun u ws => ws = [] ∧ repairsOf die u.insp.soft = [] ∧
      u.insp.fused = (taken s m i x).insp.fused ++ (repairsOf die (taken s m i x).insp.soft).map (fun e => (die, e)) ∧
      kget u.insp.fuses die 0 = kget (taken s m i x).insp.fuses die 0 + (repairsOf die (taken s m i x).insp.soft).length) := by
  refine doesWith_of_body rfl ((onDie_usable hd).trans (if_neg (Nat.not_lt.mpr hl))) ⟨rfl, ?_⟩
  have hkeep (l : List (Nat × Nat)) (v : State) (a b c : Nat) :
      (recordK (forEach l (fun s e => setField s .inspRepair die e.1 8 8 (fieldR s .inspRepair die e.1 8 8 + 1)) v) die 0xB006
        [nw a, nw b, nw c]).insp = v.insp :=
    (congrArg State.insp (unrecorded_record _ _ _ _ _)).trans
      (show (forEach l _ v).insp = v.insp from forEach_keeps State.insp (fun _ _ _ => by rfl) v)
  rw [hkeep]
  exact ⟨repairsOf_other _ _, rfl, kget_kset_same _ _ _ _⟩

end

/-- Settles O44, command by command. -/
theorem tallyFaultAndInspectionCommands : Obligations.TallyFaultAndInspectionCommands := by
  unfold Obligations.TallyFaultAndInspectionCommands
  intro s m i first count rate burst kind die failStep unit cursor base blocks n x closeCtl retain dies combs seq value tenant egress
    preserving shares bad groups t ds v cc dir set tal mine again l used res hit
  refine ⟨fun h => ?_, fun h => ?_, fun hd => ?_, does_of_body rfl rfl, fun hs hp => ?_, fun hs => ?_,
    fun hd => ⟨fun hm => ⟨?_, ?_⟩, fun hm => ?_⟩, fun h1 h2 h3 h4 h5 h6 hr => ?_, fun hd => ?_, fun h1 h2 h3 h4 => ?_,
    fun h1 h2 h3 h4 => ⟨fun hg => ?_, fun hg ht hn => ⟨fun h0 => ?_, fun h0 hacc => ?_⟩⟩, fun hd => ?_, fun h1 h2 h3 h4 h5 => ?_,
    fun hd => ⟨?_, ?_, fun h1 h2 hh => ?_, fun hu hh hs hb hp => inspMarch_free hd hu hh hs hb hp, ?_, ?_, fun hl => ?_,
      fun hl => inspFuse_does hd hl, fun h1 h2 hr => ⟨fun hb => ?_, fun hb => ?_⟩⟩⟩
  · exact does_of_body rfl (inRange_true h)
  · exact refuses_of_body rfl (inRange_false h)
  · exact does_of_body rfl (onDies_ok hd)
  · refine does_of_body rfl ((inRange_true hs).trans (congrArg (fun k => Reply.mk k [] _) (if_neg ?_)))
    exact ne_true_of_eq_false (List.any_eq_false.mpr fun b hb => ne_true_of_eq_false (hp b hb))
  · exact refuses_of_body rfl (inRange_false hs)
  · exact does_of_body rfl ((onDies_ok hd).trans (granting_ok hm))
  · exact does_of_body rfl ((onDies_ok hd).trans (granting_ok hm))
  · exact refuses_of_body rfl ((onDies_ok hd).trans (granting_no hm))
  · refine does_of_body rfl ((inRange_true ?_).trans (granting_ok hr))
    rw [decide_eq_true ⟨h1, h2⟩, decide_eq_true ⟨h3, h4⟩, h5, List.all_eq_true.mpr fun k hk => decide_eq_true (h6 k hk)]
    rfl
  · exact does_of_body rfl (onDies_ok hd)
  · exact does_of_body rfl (inRange_of ⟨h1, h2, h3, h4⟩)
  · exact refuses_of_body rfl ((inRange_of ⟨h1, by rw [h2]; rfl, by rw [h3]; rfl, h4⟩).trans (if_pos hg))
  · refine does_of_body rfl ((inRange_of ⟨h1, by rw [h2]; rfl, by rw [h3]; rfl, h4⟩).trans
      ((fltDieRestore_body hg ht).trans (if_pos (hn.trans h0))))
  · refine (congrArg Host.Outcome.next (empCmd_accepted hacc _)).trans ?_
    rw [(inRange_of ⟨h1, by rw [h2]; rfl, by rw [h3]; rfl, h4⟩).trans ((fltDieRestore_body hg ht).trans (if_neg (hn ▸ h0))), hn]
  · refine doesWith_of_body rfl (onDies_ok hd) ⟨rfl, inspStatus_words_length _ (fun d => ?_) _⟩
    have h8 : ((List.range 8).flatMap (fun k => wordsOf 2 (regView (taken s m i x) .inspCombStat d 7 k))).length = 16 := rfl
    simp only [List.length_append, List.flatMap_cons, List.flatMap_nil, wordsOf_length, h8, List.length_nil]
    split <;> rfl
  · exact does_of_body rfl (inRange_of ⟨h1, h2, h3, h4, h5⟩)
  · exact does_of_body rfl (onDie_usable hd)
  · exact does_of_body rfl (onDie_usable hd)
  · exact refuses_of_body rfl ((onDie_usable hd).trans ((inRange_of h2).trans (if_pos ⟨hh, h1⟩)))
  · exact does_of_body rfl (onDie_usable hd)
  · exact does_of_body rfl (onDie_usable hd)
  · exact refuses_of_body rfl ((onDie_usable hd).trans (if_pos hl))
  · exact refuses_of_body rfl ((onDie_usable hd).trans ((inRange_of ⟨h1, h2⟩).trans ((granting_ok hr).trans (if_pos hb))))
  · exact does_of_body rfl ((onDie_usable hd).trans ((inRange_of ⟨h1, h2⟩).trans
      ((granting_ok hr).trans (if_neg (ne_true_of_eq_false hb)))))

end Sys2Proof.Proofs
end

section
/-! PROOF. The commands of the recorder, of the Keeper's firmware and of the pair (R439 to R455, R461 to R470, R472 to R487). -/

namespace Sys2Proof.Proofs

open Sys2Proof.Machine Sys2Proof.Laws Sys2Proof.Safety Sys2Proof.Claims

/-! ## Registers of every die, and words kept in order -/

theorem rkey_ne_of_die {r : RegName} {d d' : Nat} (h : d ≠ d') : rkey r d 7 0 ≠ rkey r d' 7 0 := by
  unfold rkey
  omega

theorem pkg_setAll (s : State) (r : RegName) (v : Nat) : (setAll s r 0 v).pkg = s.pkg := forEach_keeps _ (fun _ _ _ => by rfl) s

/-- Writing a register on every die leaves another register as it was. -/
theorem getR_setAll_other {r q : RegName} (hq : q.ctorIdx ≠ r.ctorIdx) {s : State} (hn : s.pkg.n ≤ 8) {d v : Nat} (hd : d < 8) :
    getR (setAll s r 0 v) q d 0 = getR s q d 0 :=
  forEach_keeps (fun u => getR u q d 0) (fun e he u =>
    getR_setR_of_reg hq (by have := List.mem_range.mp he; omega) hd (by decide) (by decide) u v) s

/-- A register cleared on every die reads 0 on each of them. -/
theorem getR_setAll_zero (s : State) (r : RegName) {d : Nat} (hd : d < s.pkg.n) : getR (setAll s r 0 0) r d 0 = 0 := by
  have key (l : List Nat) (u : State) (h : d ∈ l ∨ getR u r d 0 = 0) : getR (forEach l (fun s e => setR s r e 0 0) u) r d 0 = 0 := by
    induction l generalizing u with
    | nil => exact h.resolve_left List.not_mem_nil
    | cons e l ih =>
      refine ih (setR u r e 0 0) ?_
      by_cases hde : d = e
      · exact hde ▸ .inr (getR_setR_zero u r d 0)
      · refine h.imp (fun h => (List.mem_cons.mp h).resolve_left hde) (Eq.trans ?_)
        exact congrArg BitVec.toNat (kget_kset_ne _ _ _ _ _ _ (rkey_ne_of_die hde))
  exact key _ s (.inl (List.mem_range.mpr hd))

/-- Words put under their indices from `n` on read back in order. -/
theorem kget_foldl_kset (l : List Word) (n : Nat) (m : Map Word) (k : Nat) :
    kget ((l.zipIdx n).foldl (fun m e => kset m e.2 e.1 0) m) k 0 =
      if n ≤ k ∧ k < n + l.length then l.getD (k - n) 0 else kget m k 0 := by
  induction l generalizing n m with
  | nil => rw [if_neg (by simp only [List.length_nil]; omega)]; rfl
  | cons w l ih =>
    rw [List.zipIdx_cons, List.foldl_cons, ih, List.length_cons]
    rcases Nat.lt_trichotomy k n with h | rfl | h
    · rw [if_neg (by omega), if_neg (by omega), kget_kset_ne _ _ _ _ _ _ (by omega)]
    · rw [if_neg (by omega), if_pos (by omega), kget_kset_same, Nat.sub_self, List.getD_cons_zero]
    · rw [kget_kset_ne _ _ _ _ _ _ (by omega), show k - n = (k - (n + 1)) + 1 by omega, List.getD_cons_succ]
      exact if_congr (by omega) rfl rfl

/-! ## The pair -/

/-- Frames to the partner leave the groups. -/
theorem groups_sendDown (s : State) : (sendDown s).pair.groups = s.pair.groups := by
  have send (s : State) (g : Nat) : (sendPartner s g kDown []).pair.groups = s.pair.groups := by
    unfold sendPartner
    split
    · unfold sendPair
      split <;> rfl
    · rfl
  unfold sendDown
  split
  · exact forEach_keeps (fun s => s.pair.groups) (fun g _ s => send s g) s
  · rfl

section
variable {s : State} {first : Nat} (gpns : List (Option Nat))

/-- The members of groups, set one by one. -/
def putMembers (s : State) (first : Nat) (gpns : List (Option Nat)) : State :=
  forEach gpns.zipIdx (fun s e => { s with pair := { s.pair with groups := kset s.pair.groups (first + e.2) e.1 none } }) s

theorem regs_putMembers : (putMembers s first gpns).regs = s.regs := forEach_keeps _ (fun _ _ _ => by rfl) s
theorem pkg_putMembers : (putMembers s first gpns).pkg = s.pkg := forEach_keeps _ (fun _ _ _ => by rfl) s

theorem pairState_putMembers : pairState (putMembers s first gpns) = pairState s := by
  unfold pairState fieldR getR getRS
  rw [regs_putMembers, pkg_putMembers]

theorem pairOn_putMembers : pairOn (putMembers s first gpns) = pairOn s := by
  unfold pairOn pairCfg getR getRS
  rw [regs_putMembers, pkg_putMembers]

end

/-- What PAIR_LEAVE leaves of the pair: its groups. -/
def leftPair (v : State) (gs : Map (Option Nat)) : State :=
  let s := freshPair (setAll (setAll v .pairCfg 0 0) .pairStatus 0 0) 0
  { s with pair := { s.pair with groups := gs } }

theorem getR_leftPair (v : State) (gs : Map (Option Nat)) (r : RegName) (d : Nat) :
    getR (leftPair v gs) r d 0 = getR (setAll (setAll v .pairCfg 0 0) .pairStatus 0 0) r d 0 := rfl

theorem pkg_leftPair (v : State) (gs : Map (Option Nat)) : (leftPair v gs).pkg = v.pkg :=
  show (setAll _ _ _ _).pkg = _ by rw [pkg_setAll, pkg_setAll]

theorem leftPair_cleared (v : State) (gs : Map (Option Nat)) (hn : (leftPair v gs).pkg.n ≤ 8) (d : Nat) (hd : d < (leftPair v gs).pkg.n) :
    getR (leftPair v gs) .pairCfg d 0 = 0 ∧ getR (leftPair v gs) .pairStatus d 0 = 0 := by
  rw [pkg_leftPair] at hn hd
  rw [getR_leftPair, getR_leftPair, getR_setAll_other (by decide) (by rwa [pkg_setAll]) (by omega)]
  exact ⟨getR_setAll_zero _ _ hd, getR_setAll_zero _ _ (by rwa [pkg_setAll])⟩

/-- The state out of which PAIR_LEAVE clears the registers: the entries gone, DOWN sent, OFF. -/
def leaving (s : State) : State :=
  let s := removeGroups (sendDown s)
  let s := setSched (setSched s (gpnDie (portA s)) (entHeartbeat 0) none) (gpnDie (portB s)) (entHeartbeat 1) none
  setPairState { s with pair := { s.pair with groups := [] } } pairOff 5

/-- PAIR_LEAVE out of a pair: no key, no partner, no joint commit, the groups as they were, and both registers of the pair 0. -/
theorem pairLeave_does {s : State} {m : EmpMsg} {i : Nat} {x : Session} (hp : pairState (taken s m i x) ≠ pairOff) :
    DoesWith s m i x 0x0C02 owner (.pairLeave m) (fun u ws => ws = [] ∧ u.pair.key = 0 ∧ u.pair.partner = none ∧
      u.pair.joint = none ∧ u.pair.groups = (taken s m i x).pair.groups ∧
      (u.pkg.n ≤ 8 → ∀ d, d < u.pkg.n → getR u .pairCfg d 0 = 0 ∧ getR u .pairStatus d 0 = 0)) := by
  refine doesWith_of_body (u := leftPair (leaving (taken s m i x)) (removeGroups (sendDown (taken s m i x))).pair.groups) rfl (if_neg hp)
    ⟨rfl, rfl, rfl, rfl, groups_sendDown _, leftPair_cleared _ _⟩

/-- PAIR_GROUP_SET while no state forces the members down (R479, R481). -/
theorem pairGroupSet_does {s : State} {m : EmpMsg} {i first : Nat} {x : Session} {gpns : List (Option Nat)} (h1 : gpns ≠ [])
    (h2 : first + gpns.length ≤ 1024)
    (h3 : ∀ g, some g ∈ gpns → frontPort (taken s m i x) g = true ∧
      (pairOn (taken s m i x) = true → g ∉ pairPorts (taken s m i x)))
    (h4 : pairState (taken s m i x) < pairIsolated) :
    Does s m i x 0x0C04 operator (.pairGroupSet m first gpns)
      (if pairOn (taken s m i x) then forEach (range' first gpns.length) putGroup (putMembers (taken s m i x) first gpns)
        else putMembers (taken s m i x) first gpns) [] := by
  refine does_of_body rfl ((inRange_true ?_).trans (congrArg (answerOk · []) ?_))
  · rw [decide_eq_true ⟨h1, h2⟩]
    refine List.all_eq_true.mpr fun o ho => ?_
    cases o with
    | none => rfl
    | some g =>
      obtain ⟨hf, hg⟩ := h3 g ho
      cases hon : pairOn (taken s m i x) with
      | false => simp only [hf, Bool.false_and, Bool.not_false, Bool.and_self]
      | true => simp only [hf, decide_eq_false (hg hon), Bool.and_false, Bool.not_false, Bool.and_self]
  · have hlow : ¬ pairState (putMembers (taken s m i x) first gpns) ≥ pairIsolated := by
      rw [pairState_putMembers]
      exact Nat.not_le.mpr h4
    refine (congrArg (fun u => if pairOn u then forEach _ putGroup u else u) (if_neg hlow)).trans ?_
    exact congrArg (fun b : Bool => if b = true then forEach (range' first gpns.length) putGroup (putMembers (taken s m i x) first gpns)
      else putMembers (taken s m i x) first gpns) (pairOn_putMembers gpns)

theorem dieWords_length (f : Nat → Nat) (ds : List Nat) : (ds.flatMap fun d => wordsOf 2 (f d)).length = 2 * ds.length := by
  induction ds with
  | nil => rfl
  | cons d ds ih => rw [List.flatMap_cons, List.length_append, wordsOf_length, ih, List.length_cons]; omega

/-- FW_RESET of the package: the reply goes before the reset (R465). -/
theorem fwResetPackage_does {s : State} {m : EmpMsg} {i : Nat} {x : Session} (h : pw m 0 = 1) (hacc : Accepted s m 0x0A04 owner i x) :
    exec (.fwResetPackage m) s = .next (warmReset (answered (sendDown (taken s m i x)) m 0x0A04 i x stsOk []) m.session) :=
  then_of_body (body := fun s _ => inRange s (decide (pw m 0 = 1)) fun s => answerOk (sendDown s) [])
    (later := fun s _ => warmReset s m.session) (congrArg Host.Outcome.next (if_neg (by omega))) (inRange_of h) hacc

theorem front_ok {s : State} {g : Nat} (h : frontPort s g = true ∧ 400 ≤ portRate s g) :
    (frontPort s g && decide (portRate s g ≥ 400)) = true := by
  rw [h.1, decide_eq_true h.2]
  rfl

/-- Settles O45, command by command. -/
theorem recorderFirmwareAndPairCommands : Obligations.RecorderFirmwareAndPairCommands := by
  unfold Obligations.RecorderFirmwareAndPairCommands
  intro s m i index count die cursor offset portA portB table first x y codes words record rate pairId burst dies older secondary value im
    wrapped gpns t lead v spare w erased trial quiet d comb cell out dead back front put
  refine ⟨does_of_body rfl rfl, fun h1 h2 h3 => does_of_body rfl (inRange_of ⟨h1, h2, h3⟩), fun h => ?_, fun h => ?_,
    does_of_body rfl rfl,
    fun h1 h2 h3 h4 h5 => ?_, fun hd h1 h2 => ?_, fun him hc => ?_, fun hd => does_of_body rfl (onDie_usable hd), fun h1 h2 h3 => ?_,
    fun hm hb => ?_, fun h1 h2 h3 h4 => does_of_body rfl (inRange_of ⟨h1, h2, h3, h4⟩), fun h1 h2 h3 => ?_, fun h => ?_,
    fun hm hg hv hacc => ?_, fun hm hv => ?_, fun h => ?_, fun h1 hd => ⟨fun hl => ?_, fun hl hg ha => ?_⟩, fun h1 hd h2 => ?_,
    fun h1 hd h2 h3 h4 => ?_, fun hm => does_of_body rfl (inRange_of hm), fun h => ?_, fun hm hacc => ?_, fun h => ?_,
    fun hy hp ha hb hne htab => ?_, fun hy hp => ?_, fun h => does_of_body rfl (if_pos h), fun h => pairLeave_does h,
    fun h => does_of_body rfl (if_neg (not_not_intro h)), fun h => refuses_of_body rfl (if_pos h),
    fun h1 h2 h3 h4 => pairGroupSet_does h1 h2 h3 h4, does_of_body rfl rfl⟩
  · exact does_of_body rfl (if_neg (by rw [h]; exact Bool.false_ne_true))
  · exact refuses_of_body rfl (if_pos (Option.isSome_iff_ne_none.mpr h))
  · refine does_of_body rfl (inRange_true ?_)
    rw [codesOk, decide_eq_true ⟨h1, h2⟩, decide_eq_true ⟨h4, h5⟩, List.all_eq_true.mpr fun c hc => decide_eq_true (h3 c hc)]
    rfl
  · exact does_of_body rfl ((onDies_ok hd).trans (inRange_of ⟨h1, h2⟩))
  · refine does_of_body rfl ?_
    rw [him]
    exact inRange_of hc
  · refine does_of_body rfl (inRange_true ?_)
    rw [h1, decide_eq_true ⟨h2, h3⟩]
    rfl
  · refine doesWith_of_body rfl ((inRange_of hm).trans
      (congrArg (fun k => Reply.mk k _ _) (if_neg (ne_true_of_eq_false hb)))) ⟨rfl, ?_⟩
    simp only [List.append_assoc]
    exact List.drop_left' (dieWords_length _ _)
  · refine does_of_body rfl (inRange_true ?_)
    rw [decide_eq_true ⟨h1, h2⟩, h3]
    rfl
  · refine refuses_of_body rfl (inRange_false ?_)
    rw [h, Bool.and_false]
  · refine (congrArg Host.Outcome.next (empWith_accepted hacc _ _)).trans ?_
    rw [if_neg (not_not_intro hm), if_neg (by rw [hg, hv]; decide)]
  · refine refuses_of_answer rfl ((if_neg (not_not_intro hm)).trans (if_pos (.inr ?_)))
    rw [hv]
    rfl
  · exact fun hacc => fwResetPackage_does h hacc
  · exact refuses_of_body (congrArg Host.Outcome.next (if_neg (not_not_intro h1))) ((onDie_usable hd).trans (if_pos hl))
  · exact does_of_body (congrArg Host.Outcome.next (if_neg (not_not_intro h1))) ((onDie_usable hd).trans
      ((if_neg hl).trans ((if_neg (ne_true_of_eq_false hg)).trans (if_pos ha))))
  · exact does_of_body (congrArg Host.Outcome.next (if_neg (not_not_intro h1))) ((onDie_usable hd).trans (inRange_of h2))
  · exact does_of_body (congrArg Host.Outcome.next (if_neg (not_not_intro h1))) ((onDie_usable hd).trans
      (inRange_of ⟨h2, h3, by rw [h4]; rfl⟩))
  · refine doesWith_of_body rfl (inRange_of h) ⟨rfl, fun k hk => ?_⟩
    refine (kget_foldl_kset record 0 [] k).trans (if_pos ⟨Nat.zero_le k, ?_⟩)
    omega
  · exact then_of_body (body := fun s _ => inRange s (decide (m.len = 0)) (fun s => answerOk s [])) (later := fun s _ => unclaim s) rfl
      (inRange_of hm) hacc
  · refine does_of_body rfl ?_
    rw [h]
  · refine does_of_body rfl ?_
    rw [hy]
    refine (if_neg (not_not_intro hp)).trans (inRange_true ?_)
    exact Bool.and_eq_true_iff.mpr ⟨Bool.and_eq_true_iff.mpr
      ⟨Bool.and_eq_true_iff.mpr ⟨front_ok ha, front_ok hb⟩, decide_eq_true hne⟩, htab⟩
  · refine refuses_of_body rfl ?_
    rw [hy]
    exact if_pos hp

end Sys2Proof.Proofs
end

section
/-! PROOF. Frames received at a port (R55, R78, R268, R302, R493). -/

namespace Sys2Proof.Proofs

open Sys2Proof.Machine Sys2Proof.Laws Sys2Proof.Safety Sys2Proof.Claims

/-! ## What leaves registers and the package as they were -/

theorem regName_ctorIdx_ne {q r : RegName} (h : q ≠ r) : q.ctorIdx ≠ r.ctorIdx := fun e =>
  h (by rw [← RegName.ofNat_ctorIdx q, e, RegName.ofNat_ctorIdx])

/-- `t` shares the package with `s`, and every register of a die, but those named. -/
def SameRegs (rs : List RegName) (s t : State) : Prop :=
  t.pkg = s.pkg ∧ ∀ q, q ∉ rs → ∀ d sl i, d < 8 → sl < 8 → i < 1048576 → getRS t q d sl i = getRS s q d sl i

namespace SameRegs

variable {rs rs' : List RegName} {s t u : State}

theorem refl (rs : List RegName) (s : State) : SameRegs rs s s := ⟨rfl, fun _ _ _ _ _ _ _ _ => rfl⟩

theorem of_eq (hp : t.pkg = s.pkg) (hr : t.regs = s.regs) : SameRegs rs s t := ⟨hp, fun q _ d sl i _ _ _ => by unfold getRS; rw [hr]⟩

theorem trans (h : SameRegs rs s t) (h' : SameRegs rs t u) : SameRegs rs s u :=
  ⟨h'.1.trans h.1, fun q hq d sl i hd hs hi => (h'.2 q hq d sl i hd hs hi).trans (h.2 q hq d sl i hd hs hi)⟩

theorem mono (h : SameRegs rs s t) (hr : ∀ r ∈ rs, r ∈ rs') : SameRegs rs' s t :=
  ⟨h.1, fun q hq d sl i hd hs hi => h.2 q (fun hq' => hq (hr q hq')) d sl i hd hs hi⟩

theorem setRS (s : State) {r : RegName} (hr : r ∈ rs) {d sl i : Nat} (hd : d < 8) (hsl : sl < 8) (hi : i < 1048576) (v : Nat) :
    SameRegs rs s (setRS s r d sl i v) :=
  ⟨rfl, fun q hq _ _ _ hd' hs' hi' => congrArg BitVec.toNat (kget_kset_ne _ _ _ _ _ _
    (rkey_ne_of_reg (regName_ctorIdx_ne fun (e : q = r) => hq (e ▸ hr)) hd hd' hsl hs' hi hi'))⟩

theorem cntN (s : State) {r : RegName} (hr : r ∈ rs) {d i : Nat} (hd : d < 8) (hi : i < 1048576) (n : Nat) :
    SameRegs rs s (cntN s r d i n) :=
  setRS s hr hd (by decide) hi _

theorem cnt (s : State) {r : RegName} (hr : r ∈ rs) {d i : Nat} (hd : d < 8) (hi : i < 1048576) : SameRegs rs s (cnt s r d i) :=
  cntN s hr hd hi 1

/-- What each step of a loop leaves, the loop leaves. -/
theorem forEach {α : Type} {f : State → α → State} {l : List α} (h : ∀ t, t.pkg = s.pkg → ∀ a ∈ l, SameRegs rs t (f t a)) :
    SameRegs rs s (forEach l f s) := by
  have key (l : List α) (h : ∀ t, t.pkg = s.pkg → ∀ a ∈ l, SameRegs rs t (f t a)) (t : State) (ht : SameRegs rs s t) :
      SameRegs rs s (l.foldl f t) := by
    induction l generalizing t with
    | nil => exact ht
    | cons a l ih =>
      exact ih (fun t ht b hb => h t ht b (List.mem_cons_of_mem a hb)) _ (ht.trans (h t ht.1 a List.mem_cons_self))
  exact key l h s (refl rs s)

end SameRegs

/-- The registers that a record may change: counters of records and notifications that were lost. -/
def recordRegs : List RegName := [.recCntSupp, .recCntNotrec, .recCntDieLost, .kprCntNotifyDrop]

theorem sameRegs_noteTo {s : State} (hl : s.pkg.lead < 8) (i : Nat) (c : Word) (ws : List Word) :
    SameRegs recordRegs s (noteTo s i c ws) := by
  unfold noteTo
  split
  · exact .refl _ s
  · split
    · exact .cnt s (by decide) hl (by decide)
    · exact .of_eq rfl rfl

theorem sameRegs_notifyWhere {s : State} (hl : s.pkg.lead < 8) (sel : Session → Bool) (c : Word) (ws : List Word) :
    SameRegs recordRegs s (notifyWhere s sel c ws) := by
  unfold notifyWhere
  split
  · exact .refl _ s
  · refine .forEach fun t ht i _ => ?_
    split
    · split
      · exact sameRegs_noteTo (ht ▸ hl) i c ws
      · exact .refl _ t
    · exact .refl _ t

theorem sameRegs_offerRecord {s : State} (hl : s.pkg.lead < 8) (r : Rec) : SameRegs recordRegs s (offerRecord s r) := by
  have h := sameRegs_notifyWhere hl (fun x => x.filter.getLsbD (r.code.toNat / 4096)) 0x8001 (1 :: recWords r)
  unfold offerRecord
  dsimp only
  split
  · exact h
  · exact h.trans (sameRegs_notifyWhere (h.1 ▸ hl) _ _ _)

theorem sameRegs_logRecord {s : State} (hl : s.pkg.lead < 8) (r : Rec) : SameRegs recordRegs s (logRecord s r) := by
  have count (u : RecS) : SameRegs recordRegs s (cnt { s with log := u } .recCntNotrec s.pkg.lead 0) :=
    (SameRegs.of_eq (t := { s with log := u }) rfl rfl).trans (.cnt _ (by decide) hl (by decide))
  have offer {t : State} (h : SameRegs recordRegs s t) (r : Rec) : SameRegs recordRegs s (offerRecord t r) :=
    h.trans (sameRegs_offerRecord (h.1 ▸ hl) r)
  unfold logRecord
  refine offer ?_ _
  split
  · exact count _
  · split
    · exact (count _).trans (.of_eq rfl rfl)
    · exact .of_eq rfl rfl

/-- A record of a die changes no register but the counters of what was lost. -/
theorem sameRegs_recordF {s : State} (hl : s.pkg.lead < 8) {d : Nat} (hd : d < 8) (cls : Nat) (code src : Word) (ws : List Word) :
    SameRegs recordRegs s (recordF s cls d code src ws) := by
  have keep (b : RateBucket) (r : Rec) : SameRegs recordRegs s (keepRecord (setRateBucket s d code b) d r) := by
    refine (SameRegs.of_eq (t := setRateBucket s d code b) rfl rfl).trans ?_
    unfold keepRecord
    split
    · exact sameRegs_logRecord (s := setRateBucket s d code b) hl r
    · split
      · exact (SameRegs.of_eq rfl rfl).trans (.cnt _ (by decide) hd (by decide))
      · exact .of_eq rfl rfl
  unfold recordF
  dsimp only
  split
  · exact keep _ _
  · split
    · exact (SameRegs.of_eq (t := setRateBucket s d code _) rfl rfl).trans (.cnt _ (by decide) hd (by decide))
    · exact keep _ _

theorem sameRegs_record {s : State} (hl : s.pkg.lead < 8) {d : Nat} (hd : d < 8) (code src : Word) (ws : List Word) :
    SameRegs recordRegs s (record s d code src ws) := sameRegs_recordF hl hd 0 code src ws

/-! ## Slots of an instant -/

theorem slotIn_lt {s : State} {d st n : Nat} (h : slotIn s d st = some n) : n < 4 :=
  List.mem_range.mp (List.mem_of_find?_eq_some h)

theorem slotAt_lt {s : State} {d t n : Nat} (h : slotAt s d t = some n) : n < 4 := by
  unfold slotAt at h
  split at h
  · next p hp =>
    split at h
    · obtain rfl := Option.some.inj h
      exact slotIn_lt hp
    · exact slotIn_lt h
  · exact slotIn_lt h

/-- The registers that say which slot is current, and when the pending one becomes so. -/
def slotRegs : List RegName := [.genSlot0, .genSlot1, .genSlot2, .genSlot3, .genCommitT]

theorem slotReg_mem (n : Nat) : slotReg n ∈ slotRegs := by
  unfold slotReg
  split <;> decide

theorem slotAt_of_sameRegs {rs : List RegName} {s u : State} (h : SameRegs rs s u) (hr : ∀ r ∈ slotRegs, r ∉ rs) {d : Nat} (hd : d < 8)
    (t : Nat) : slotAt u d t = slotAt s d t := by
  have hin (st : Nat) : slotIn u d st = slotIn s d st := by
    unfold slotIn slotState fieldR getR
    simp only [h.2 _ (hr _ (slotReg_mem _)) d 7 0 hd (by decide) (by decide)]
  have hc : commitT u d = commitT s d := by
    unfold commitT getR
    rw [h.2 _ (hr .genCommitT (by decide)) d 7 0 hd (by decide) (by decide)]
  unfold slotAt curSlot
  rw [hin, hin, hc]

/-! ## Frames at the port -/

section
variable {s : State} {g slot : Nat} {b : List Byte} {early : Bool}

theorem gpnDie_lt (hg : g < 256) : gpnDie g < 8 := by
  unfold gpnDie
  rw [if_pos hg]
  omega

theorem gpnPort_le (g : Nat) : gpnPort g ≤ 32 := by
  unfold gpnPort
  split <;> omega

theorem gpnPort_lt (g : Nat) : gpnPort g < 1048576 := Nat.lt_of_le_of_lt (gpnPort_le g) (by decide)

theorem isHostPort_false (hg : g < 256) : isHostPort g = false := decide_eq_false (by omega)

/-- The guards of a port pass a frame while PGUARD.STORM of its slot is 0 (R228, R229). -/
theorem admitFrame_unguarded (hg : g < 256) (h0 : getRS s .pguardStorm (gpnDie g) slot (gpnPort g) = 0) :
    admitFrame s g slot b false early = enterFifo s g ⟨b, false, early, stime s (gpnDie g), mono s (gpnDie g), slot⟩ := by
  have hguard : stormGuard s g slot b = (true, s) := by
    unfold stormGuard
    simp only [h0, bitsOf, Nat.zero_mod, Nat.zero_div]
    split
    · rfl
    · split <;> rfl
  have hsource : badSource s g slot b = false := by
    unfold badSource
    rw [h0]
    rfl
  unfold admitFrame
  simp only [isHostPort_false hg, hguard, hsource, Bool.false_eq_true, or_self, if_false, Bool.not_true]

/-- A sound data frame carries the slot of its instant; with none it is counted (R254). -/
theorem classifyFrame_data (h : DataFrame s g b) :
    (slotAt s (gpnDie g) (stime s (gpnDie g)) = none → classifyFrame s g b false early = cnt s .bootCntPregen (gpnDie g) 0) ∧
    (slotAt s (gpnDie g) (stime s (gpnDie g)) = some slot → classifyFrame s g b false early = admitFrame s g slot b false early) := by
  obtain ⟨h1, h2, h3, hg⟩ := h
  have e1 : two b 12 ≠ 0x8808 := h1
  have e2 : two b 12 ≠ 0x88B6 := h2
  unfold classifyFrame
  simp only [if_neg e1, e2, and_false, if_false, isHostPort_false hg, Bool.false_eq_true, false_and, h3, Bool.not_true]
  exact ⟨fun hs => by rw [hs], fun hs => by rw [hs]⟩

theorem checkXoff_path (s : State) (g : Nat) : (checkXoff s g).path = s.path := by
  have hsend : (sendPause s g 0xFFFF).path = s.path := by
    unfold sendPause
    split <;> rfl
  unfold checkXoff
  split
  · exact hsend
  · rfl

theorem enterFifo_refused {f : IngFrame} (h : fifoRefuses s g f.bytes = true) (k : Nat) :
    ingressOf (enterFifo s g f) k = ingressOf s k := by
  unfold enterFifo ingressOf
  rw [if_pos h]
  exact congrArg (fun q : PathS => kget q.ingress k []) (record_path _ _ _ _ _)

theorem enterFifo_ingress {f : IngFrame} (h : fifoRefuses s g f.bytes = false) :
    ingressOf (enterFifo s g f) g = ingressOf s g ++ [f] ∧ ∀ k, k ≠ g → ingressOf (enterFifo s g f) k = ingressOf s k := by
  unfold enterFifo ingressOf
  rw [if_neg (ne_true_of_eq_false h), checkXoff_path]
  exact ⟨kget_kset_same _ _ _ _, fun k hk => kget_kset_ne _ _ _ _ _ _ hk⟩

/-- The port as it has counted a sound frame of `n` bytes (R493). -/
def counted (s : State) (g n : Nat) : State := cntN (cnt s .phyCntRxOk (gpnDie g) (gpnPort g)) .phyCntRxB (gpnDie g) (gpnPort g) n

theorem sameRegs_counted (hd : gpnDie g < 8) (n : Nat) : SameRegs [.phyCntRxOk, .phyCntRxB] s (counted s g n) :=
  (SameRegs.cnt s (by decide) hd (gpnPort_lt g)).trans (.cntN _ (by decide) hd (gpnPort_lt g) n)

theorem slotAt_counted (hg : g < 256) (n t : Nat) : slotAt (counted s g n) (gpnDie g) t = slotAt s (gpnDie g) t :=
  slotAt_of_sameRegs (sameRegs_counted (gpnDie_lt hg) n) (by decide) (gpnDie_lt hg) t

theorem fifoRefuses_counted (hg : g < 256) (n : Nat) : fifoRefuses (counted s g n) g b = fifoRefuses s g b := by
  have hr (q : RegName) (hq : q ∉ [RegName.phyCntRxOk, .phyCntRxB]) :
      getR (counted s g n) q (gpnDie g) (gpnPort g) = getR s q (gpnDie g) (gpnPort g) :=
    (sameRegs_counted (gpnDie_lt hg) n).2 q hq _ 7 _ (gpnDie_lt hg) (by decide) (gpnPort_lt g)
  have hocc : occupancy (counted s g n) g = occupancy s g := rfl
  have hfc : portFc (counted s g n) g = portFc s g := hr _ (by decide)
  have hmode : portMode (counted s g n) g = portMode s g := congrArg (bitsOf · 0 4) (hr .phyPortCfg (by decide))
  unfold fifoRefuses fifoBytes framePri fcMode lossless xoffBytes
  rw [hocc, hfc, hmode]

end

theorem frameRx_not_received {s : State} {g : Nat} {b : List Byte} {fcsOk codeErr early : Bool} (h : ¬Receives s g) :
    EndsIn (.frameRx g b fcsOk codeErr early) s s := by
  refine congrArg Host.Outcome.next (if_pos ?_)
  by_contra hn
  simp only [not_or, Bool.not_eq_true', Bool.not_eq_false] at hn
  exact h hn

/-- A port that receives counts the first test that fails, or takes the frame in. -/
theorem frameRx_received {s : State} {g : Nat} {b : List Byte} {fcsOk codeErr early : Bool} (h : Receives s g) :
    EndsIn (.frameRx g b fcsOk codeErr early) s
      (match macFail (b.length + 4) fcsOk codeErr with
      | some r => if (early && decide (b.length + 4 > 516)) = true ∧ b.length + 4 ≤ 9216 then
          classifyFrame (cnt s r (gpnDie g) (gpnPort g)) g b true true else cnt s r (gpnDie g) (gpnPort g)
      | none => classifyFrame (counted s g (b.length + 4)) g b false (early && decide (b.length + 4 > 516))) := by
  obtain ⟨h1, h2, h3⟩ := h
  refine congrArg Host.Outcome.next (if_neg ?_)
  rw [h1, h2, h3]
  decide

/-- A sound frame at a port that receives. -/
theorem frameRx_sound {s : State} {g : Nat} {b : List Byte} {early : Bool} (h : Receives s g)
    (hn : 64 ≤ b.length + 4 ∧ b.length + 4 ≤ 9216) : EndsIn (.frameRx g b true false early) s
      (classifyFrame (counted s g (b.length + 4)) g b false (early && decide (b.length + 4 > 516))) := by
  have hmac : macFail (b.length + 4) true false = none := by
    simp only [macFail, Bool.not_true, Bool.false_eq_true, if_false, if_neg (Nat.not_lt.mpr hn.1), if_neg (Nat.not_lt.mpr hn.2)]
  have e := frameRx_received (b := b) (fcsOk := true) (codeErr := false) (early := early) h
  rw [hmac] at e
  exact e

theorem frameRx_admitted {s : State} {g slot : Nat} {b : List Byte} {early : Bool} (h : Receives s g)
    (hn : 64 ≤ b.length + 4 ∧ b.length + 4 ≤ 9216) (hd : DataFrame s g b) (hs : slotAt s (gpnDie g) (stime s (gpnDie g)) = some slot)
    (h0 : getRS s .pguardStorm (gpnDie g) slot (gpnPort g) = 0) : EndsIn (.frameRx g b true false early) s
      (enterFifo (counted s g (b.length + 4)) g
        ⟨b, false, early && decide (b.length + 4 > 516), stime s (gpnDie g), mono s (gpnDie g), slot⟩) := by
  have hg := hd.2.2.2
  have h0' : getRS (counted s g (b.length + 4)) .pguardStorm (gpnDie g) slot (gpnPort g) = 0 :=
    ((sameRegs_counted (gpnDie_lt hg) _).2 _ (by decide) _ slot _ (gpnDie_lt hg) (by have := slotAt_lt hs; omega) (gpnPort_lt g)).trans h0
  exact (frameRx_sound h hn).trans (congrArg Host.Outcome.next
    (((classifyFrame_data (s := counted s g (b.length + 4)) hd).2 ((slotAt_counted hg _ _).trans hs)).trans (admitFrame_unguarded hg h0')))

/-- Settles O26: the tests of R493 in their order, then a sound frame's way into the FIFO. -/
theorem framesAtThePort : Obligations.FramesAtThePort := by
  unfold Obligations.FramesAtThePort
  intro s g slot b fcsOk codeErr early d p n sound
  refine ⟨frameRx_not_received, fun hr => ⟨frameRx_received hr, fun hn => ?_, fun hn => ?_, fun hn => ?_, fun hn hd hs => ?_,
    fun hn hd hs h0 hf => ?_, fun hn hd hs h0 hf => ?_⟩⟩
  · have hmac : macFail n true codeErr = some .phyCntRxShort := if_pos hn
    refine (frameRx_received hr).trans (congrArg Host.Outcome.next ?_)
    rw [hmac]
    rfl
  · have hmac : macFail n true codeErr = some .phyCntRxLong := (if_neg (show ¬ n < 64 by omega)).trans (if_pos hn)
    refine (frameRx_received hr).trans (congrArg Host.Outcome.next ?_)
    rw [hmac]
    exact if_neg fun h => absurd h.2 (Nat.not_le.mpr hn)
  · have hmac : macFail n true true = some .phyCntRxErr := (if_neg (Nat.not_lt.mpr hn.1)).trans (if_neg (Nat.not_lt.mpr hn.2))
    refine (frameRx_received hr).trans (congrArg Host.Outcome.next ?_)
    rw [hmac]
    rfl
  · refine ⟨cnt (counted s g n) .bootCntPregen d 0, (frameRx_sound hr hn).trans (congrArg Host.Outcome.next ?_), fun h => rfl⟩
    exact (classifyFrame_data (s := counted s g n) (slot := 0) hd).1 ((slotAt_counted hd.2.2.2 _ _).trans hs)
  · exact ⟨_, frameRx_admitted hr hn hd hs h0, enterFifo_ingress (f := ⟨b, _, _, _, _, _⟩) ((fifoRefuses_counted hd.2.2.2 n).trans hf)⟩
  · exact ⟨_, frameRx_admitted hr hn hd hs h0, enterFifo_refused (f := ⟨b, _, _, _, _, _⟩) ((fifoRefuses_counted hd.2.2.2 n).trans hf)⟩

end Sys2Proof.Proofs
end

section
/-! PROOF. What writes of tables, of learned entries and of the groups' entries leave alone (R190 to R199, R223, R238, R239, R481). -/

namespace Sys2Proof.Proofs

open Sys2Proof.Machine Sys2Proof.Laws Sys2Proof.Safety Sys2Proof.Claims

/-- The state without what a write of a table may change: registers behind those of the clocks, threads, tables, sessions and the recorder. -/
def offTables (s : State) : State := { unrecorded s with core := State.reset.core, tbl := State.reset.tbl }

theorem offTables_of_unrecorded {s t : State} (h : unrecorded t = unrecorded s) : offTables t = offTables s :=
  congrArg (fun s : State => { s with core := State.reset.core, tbl := State.reset.tbl }) h

section
variable (s : State) (d t : Nat)

@[simp] theorem offTables_ite (c : Prop) [Decidable c] (s t : State) :
    offTables (if c then s else t) = if c then offTables s else offTables t := apply_ite _ _ _ _

theorem offTables_forEach {α : Type} {f : State → α → State} (h : ∀ s a, offTables (f s a) = offTables s) (l : List α) (s : State) :
    offTables (forEach l f s) = offTables s := foldl_keeps offTables h l s

@[simp] theorem offTables_setR {r : RegName} (h : 4 ≤ r.ctorIdx) (i v : Nat) : offTables (setR s r d i v) = offTables s :=
  offTables_of_unrecorded (unrecorded_setRS s h d 7 i v)
@[simp] theorem offTables_cntN {r : RegName} (h : 4 ≤ r.ctorIdx) (i n : Nat) : offTables (cntN s r d i n) = offTables s :=
  offTables_setR s d h i _
@[simp] theorem offTables_cnt {r : RegName} (h : 4 ≤ r.ctorIdx) (i : Nat) : offTables (cnt s r d i) = offTables s := offTables_cntN s d h i 1
@[simp] theorem offTables_setEntry (e : Option Entry) : offTables (setEntry s d e) = offTables s := rfl
@[simp] theorem offTables_setRehash (x : Rehash) : offTables (setRehash s d t x) = offTables s := rfl
@[simp] theorem offTables_setTracker (l : List MoveLine) : offTables (setTracker s d l) = offTables s := rfl
@[simp] theorem offTables_setEngine (l : List WriteReq) : offTables (setEngine s d l) = offTables s := rfl
@[simp] theorem offTables_answer (q : FgReq) (r : TblRes) : offTables (answer s q r) = offTables s := rfl

@[simp] theorem offTables_record (code src : Word) (ws : List Word) : offTables (record s d code src ws) = offTables s :=
  offTables_of_unrecorded (unrecorded_record s d code src ws)

@[simp] theorem offTables_recordK (code : Word) (ws : List Word) : offTables (recordK s d code ws) = offTables s := offTables_record ..

@[simp] theorem offTables_notify (code : Word) (ws : List Word) : offTables (notify s code ws) = offTables s :=
  offTables_of_unrecorded (unrecorded_notifyWhere s _ code ws)

@[simp] theorem offTables_meetUncorr (x : Desc) (p : Nat) : offTables (meetUncorr s d t x p) = offTables s := by
  unfold meetUncorr
  dsimp only
  split <;> simp [recordUncorr]

@[simp] theorem offTables_moveBack (x : Desc) (par : Map (Option (Nat × Nat))) (fuel a p n : Nat) :
    offTables (moveBack s d x par fuel a p n).1 = offTables s := by
  induction fuel generalizing s a p n with
  | zero => rfl
  | succ f ih =>
    unfold moveBack
    split
    · next hf _ => cases hf; exact ih ..
    · rfl

variable {s d t}

/-- Making room for an entry moves entries alone. -/
theorem offTables_placeFor {u : State} {p n : Nat} {x : Desc} {key : List Word} (h : placeFor s d x key = .at_ u p n) :
    offTables u = offTables s := by
  unfold placeFor at h
  dsimp only at h
  split at h
  · cases h; rfl
  · split at h
    · split at h
      · cases h
      · rw [placeOvf_state h]
      · split at h
        · cases h; exact offTables_moveBack ..
        · rw [placeOvf_state h]
    · rw [placeOvf_state h]

theorem offTables_writeEntry {x : Desc} {e : Entry} {r : TblRes × State} (h : writeEntry s d t x e = some r) :
    offTables r.2 = offTables s := by
  unfold writeEntry at h
  split at h
  · cases h; exact offTables_meetUncorr ..
  · cases h
  · next u p n hp => cases h; simp (disch := decide) [offTables_placeFor hp]

variable (s d t)

@[simp] theorem offTables_noRoom (x : Desc) (key : List Word) (src : Word) : offTables (noRoom s d t x key src) = offTables s := by
  simp (disch := decide) [noRoom, countNoRoom, sendRehash]

@[simp] theorem offTables_insertEntry (x : Desc) (e : Entry) (src : Word) : offTables (insertEntry s d t x e src).2 = offTables s := by
  unfold insertEntry
  dsimp only
  split
  · exact offTables_meetUncorr ..
  · split
    · rfl
    · rfl
    · split
      · next hw => exact offTables_writeEntry hw
      · exact offTables_noRoom ..

@[simp] theorem offTables_removeEntry : offTables (removeEntry s d t) = offTables s := by
  unfold removeEntry
  split
  · rfl
  · simp (disch := decide)

@[simp] theorem offTables_writeFound (op : Nat) (x : Desc) (key data : List Word) (arg : Nat) :
    offTables (writeFound s d t op x key data arg).2 = offTables s := by
  unfold writeFound
  dsimp only
  repeat' split
  all_goals simp

@[simp] theorem offTables_dynWrite (op : Nat) (key data : List Word) (arg : Nat) (src : Word) :
    offTables (dynWrite s d t op key data arg src).2 = offTables s := by
  unfold dynWrite
  dsimp only
  repeat' split
  all_goals simp

@[simp] theorem offTables_doForager (q : FgReq) : offTables (doForager s q) = offTables s := by simp (disch := decide) [doForager, countReqErr]

@[simp] theorem offTables_doRefresh (key : List Word) : offTables (doRefresh s d t key) = offTables s := by
  unfold doRefresh modEntry
  split <;> rfl

@[simp] theorem offTables_bufferNote (ws : List Word) : offTables (bufferNote s d t ws) = offTables s := by
  unfold bufferNote
  dsimp only
  split <;> rfl

@[simp] theorem offTables_addAssist (ws : List Word) : offTables (addAssist s d ws) = offTables s := by
  unfold addAssist
  dsimp only
  split
  · exact offTables_cnt s d (by decide) 0
  · rfl

@[simp] theorem offTables_entryNote (e : Entry) : offTables (entryNote s d t e) = offTables s := by simp [entryNote, learnNote]

@[simp] theorem offTables_doSweep (key : List Word) (stamp : Word) : offTables (doSweep s d t key stamp) = offTables s := by
  unfold doSweep
  split <;> simp

@[simp] theorem offTables_doWrite (w : WriteReq) : offTables (doWrite d s w) = offTables s := by
  cases w <;> simp [doWrite]

@[simp] theorem offTables_flushEngine : offTables (flushEngine s d t) = offTables s :=
  foldl_keeps offTables (fun s w => offTables_doWrite s d w) _ _

@[simp] theorem offTables_flushGpnDie : offTables (flushGpnDie s d t) = offTables s := offTables_forEach (by simp) _ _

@[simp] theorem offTables_flushGpn : offTables (flushGpn s d) = offTables s := offTables_forEach (by simp) _ _

@[simp] theorem offTables_writeGroup : offTables (writeGroup s d t).2 = offTables s := by
  unfold writeGroup
  generalize (if pairOn s then (groupPort s t).map (groupAction s t) else none) = want
  dsimp only
  split <;> simp

end

/-- The state without what a write of the groups' entries may change: as above, and the pair. -/
def offGroups (s : State) : State := { offTables s with pair := State.reset.pair }

theorem offGroups_of_offTables {s t : State} (h : offTables t = offTables s) : offGroups t = offGroups s :=
  (congrArg (fun s : State => { s with pair := State.reset.pair }) h :)

theorem offGroups_pair (s : State) (p : PairS) : offGroups { s with pair := p } = offGroups s := rfl

@[simp] theorem offGroups_putGroup (s : State) (g : Nat) : offGroups (putGroup s g) = offGroups s := by
  have dies (l : List Nat) (a : Bool × State) :
      offGroups (l.foldl (fun (a : Bool × State) d => let r := writeGroup a.2 d g; (a.1 || r.1, r.2)) a).2 = offGroups a.2 :=
    foldl_keeps (fun a : Bool × State => offGroups a.2) (fun a d => by exact offGroups_of_offTables (offTables_writeGroup a.2 d g)) l a
  have h := dies (usableDies s) (false, s)
  unfold putGroup
  revert h
  generalize (usableDies s).foldl _ (false, s) = r
  intro h
  dsimp only
  split
  · exact (offGroups_of_offTables (offTables_recordK ..)).trans ((offGroups_pair ..).trans h)
  · exact (offGroups_pair ..).trans h

@[simp] theorem offGroups_refreshGroups (s : State) : offGroups (refreshGroups s) = offGroups s := by
  unfold refreshGroups
  split
  · rfl
  · exact foldl_keeps offGroups offGroups_putGroup _ s

end Sys2Proof.Proofs
end

section
/-! PROOF. Flow control and link states (R297 to R302, R496). -/

namespace Sys2Proof.Proofs

open Sys2Proof.Machine Sys2Proof.Laws Sys2Proof.Safety Sys2Proof.Claims

/-! ## Ports -/

theorem gpnDie_gpnOf {die port : Nat} (hd : die < 8) (hp : port ≤ 32) : gpnDie (gpnOf die port) = die := by
  unfold gpnDie gpnOf
  repeat' split
  all_goals omega

theorem gpnPort_gpnOf {die port : Nat} (hd : die < 8) (hp : port ≤ 32) : gpnPort (gpnOf die port) = port := by
  unfold gpnPort gpnOf
  repeat' split
  all_goals omega

theorem getPort_of_egr {s t : State} (h : t.egr = s.egr) (g : Nat) : getPort t g = getPort s g := by
  unfold getPort
  rw [h]

theorem getPort_modPort_same (s : State) (g : Nat) (f : PortS → PortS) : getPort (modPort s g f) g = f (getPort s g) := kget_kset_same ..

theorem getPort_modPort_ne (s : State) {g h : Nat} (hne : h ≠ g) (f : PortS → PortS) : getPort (modPort s g f) h = getPort s h :=
  kget_kset_ne _ _ _ _ _ _ hne

theorem getPort_recordK (s : State) (d g : Nat) (code : Word) (ws : List Word) : getPort (recordK s d code ws) g = getPort s g :=
  getPort_of_egr (congrArg State.egr (offTables_recordK s d code ws)) g

theorem getPort_cnt (s : State) (r : RegName) (d i g : Nat) : getPort (cnt s r d i) g = getPort s g := rfl

theorem kget_kset_if {α : Type} [DecidableEq α] (m : Map α) (k j : Nat) (v d : α) :
    kget (kset m k v d) j d = if j = k then v else kget m j d := by
  split
  · next h => rw [h, kget_kset_same]
  · next h => exact kget_kset_ne m k j v d d h

/-! ## Stops of classes (R299 to R301) -/

section
variable {s : State} {g c k q : Nat}

theorem getPort_endStop (s : State) (g c : Nat) : getPort (endStop s g c) g =
    { getPort s g with
      pausedUntil := kset (getPort s g).pausedUntil c none none, stoppedSince := kset (getPort s g).stoppedSince c none none } := by
  have h : getPort (countStopped s g c) g = getPort s g := by
    unfold countStopped
    dsimp only
    split <;> rfl
  unfold endStop
  rw [getPort_modPort_same, h]

theorem getPort_endStop_ne (s : State) {g h : Nat} (hne : h ≠ g) (c : Nat) : getPort (endStop s g c) h = getPort s h := by
  have hc : getPort (countStopped s g c) h = getPort s h := by
    unfold countStopped
    dsimp only
    split <;> rfl
  unfold endStop
  rw [getPort_modPort_ne _ hne, hc]

theorem endStop_time (s : State) (g c : Nat) : (endStop s g c).time = s.time := by
  unfold endStop countStopped
  dsimp only
  split <;> rfl

theorem sameRegs_endStop (hd : gpnDie g < 8) (hc : c < 8) : SameRegs [.egrPausedNs] s (endStop s g c) := by
  have h : SameRegs [.egrPausedNs] s (countStopped s g c) := by
    unfold countStopped
    dsimp only
    split
    · exact .cntN s (by decide) hd (by have := gpnPort_le g; omega) _
    · exact .refl _ s
  exact h.trans (.of_eq rfl rfl)

/-- Registers of a port of a die, and its clock, give a pause its time (R300). -/
theorem quantaNs_of_sameRegs {rs : List RegName} {t : State} (h : SameRegs rs s t) (hr : RegName.phyPortCfg ∉ rs) (hd : gpnDie g < 8)
    (q : Nat) : quantaNs t g q = quantaNs s g q := by
  have hm : portMode t g = portMode s g :=
    congrArg (bitsOf · 0 4) (h.2 _ hr _ 7 _ hd (by decide) (by have := gpnPort_le g; omega))
  unfold quantaNs portRate
  rw [hm]

/-- What a received frame of `q` quanta makes of a class that does not ignore it: when its stop ends (R300). -/
def stopEnd (s : State) (g q : Nat) : Option Nat := if q = 0 then none else some (mono s (gpnDie g) + quantaNs s g q)

/-- `t` is `s` but for stops of classes of port `g`. -/
structure StopsOnly (g : Nat) (s t : State) : Prop where
  time : t.time = s.time
  regs : SameRegs [.egrPausedNs] s t
  ignoring : (getPort t g).ignoreUntil = (getPort s g).ignoreUntil

theorem StopsOnly.refl (g : Nat) (s : State) : StopsOnly g s s := ⟨rfl, .refl _ s, rfl⟩

theorem StopsOnly.trans {t u : State} (h : StopsOnly g s t) (h' : StopsOnly g t u) : StopsOnly g s u :=
  ⟨h'.time.trans h.time, h.regs.trans h'.regs, h'.ignoring.trans h.ignoring⟩

theorem StopsOnly.ignores {t : State} (h : StopsOnly g s t) (k : Nat) : ignores t g k = ignores s g k := by
  unfold Machine.ignores mono clock
  rw [h.ignoring, h.time]

theorem StopsOnly.stopEnd {t : State} (h : StopsOnly g s t) (hd : gpnDie g < 8) (q : Nat) : stopEnd t g q = stopEnd s g q := by
  unfold Proofs.stopEnd mono clock
  rw [quantaNs_of_sameRegs h.regs (by decide) hd, h.time]

theorem stopsOnly_endStop (hd : gpnDie g < 8) (hc : c < 8) : StopsOnly g s (endStop s g c) :=
  ⟨endStop_time s g c, sameRegs_endStop hd hc, by rw [getPort_endStop]⟩

theorem endStop_pausedUntil (s : State) (g c k : Nat) : kget (getPort (endStop s g c) g).pausedUntil k none =
    if k = c then none else kget (getPort s g).pausedUntil k none := by
  rw [getPort_endStop]
  exact kget_kset_if (getPort s g).pausedUntil c k none none

/-- One class of a received frame. -/
theorem stopClass_stops (hd : gpnDie g < 8) (hc : c < 8) (hi : ignores s g c = false) :
    StopsOnly g s (stopClass g s (c, q)) ∧ ∀ k, kget (getPort (stopClass g s (c, q)) g).pausedUntil k none =
      if k = c then stopEnd s g q else kget (getPort s g).pausedUntil k none := by
  by_cases hq : q = 0
  · have e : stopClass g s (c, q) = endStop s g c := (if_neg (ne_true_of_eq_false hi)).trans (if_pos hq)
    rw [e]
    refine ⟨stopsOnly_endStop hd hc, fun k => ?_⟩
    rw [endStop_pausedUntil, stopEnd, if_pos hq]
  · let u := if classStopped s g c then s else endStop s g c
    have hu : StopsOnly g s u ∧ ∀ k, k ≠ c → kget (getPort u g).pausedUntil k none = kget (getPort s g).pausedUntil k none := by
      by_cases hs : classStopped s g c = true
      · rw [show u = s from if_pos hs]
        exact ⟨.refl g s, fun _ _ => rfl⟩
      · rw [show u = endStop s g c from if_neg hs]
        exact ⟨stopsOnly_endStop hd hc, fun k hk => (endStop_pausedUntil s g c k).trans (if_neg hk)⟩
    have e : stopClass g s (c, q) = modPort u g (fun p =>
        { p with pausedUntil := kset p.pausedUntil c (some (mono u (gpnDie g) + quantaNs u g q)) none,
                 stoppedSince := kset p.stoppedSince c (some ((kget p.stoppedSince c none).getD (mono u (gpnDie g)))) none }) :=
      (if_neg (ne_true_of_eq_false hi)).trans (if_neg hq)
    rw [e]
    refine ⟨hu.1.trans ⟨rfl, .of_eq rfl rfl, by rw [getPort_modPort_same]⟩, fun k => ?_⟩
    rw [getPort_modPort_same]
    dsimp only
    rw [kget_kset_if]
    split
    · rw [← hu.1.stopEnd hd q, stopEnd, if_neg hq]
    · next h => exact hu.2 k h

/-- A frame that stops every class, or releases it: each takes its time. -/
theorem stopClasses_stop (hd : gpnDie g < 8) (l : List Nat) (hl : ∀ c ∈ l, c < 8) (hi : ∀ c, c < 8 → ignores s g c = false) (k : Nat)
    (hk : k ∈ l ∨ kget (getPort s g).pausedUntil k none = stopEnd s g q) :
    kget (getPort (forEach (l.map fun c => (c, q)) (stopClass g) s) g).pausedUntil k none = stopEnd s g q := by
  induction l generalizing s with
  | nil => exact hk.resolve_left List.not_mem_nil
  | cons c l ih =>
    obtain ⟨hs, hp⟩ := stopClass_stops (q := q) hd (hl c List.mem_cons_self) (hi c (hl c List.mem_cons_self))
    rw [← hs.stopEnd hd q]
    refine ih (fun c hc => hl c (List.mem_cons_of_mem _ hc)) (fun c hc => (hs.ignores c).trans (hi c hc)) ?_
    rw [hs.stopEnd hd q, hp]
    by_cases h : k = c
    · exact .inr (if_pos h)
    · rw [if_neg h]
      exact hk.imp (fun hk => (List.mem_cons.mp hk).resolve_left h) id

/-- A PAUSE frame that a port receives (R299, R300). -/
theorem pause_received {b : List Byte} (hr : Receives s g) (hd : gpnDie g < 8) (h60 : 60 ≤ b.length) (hmax : b.length ≤ 9212)
    (htype : field16 b 12 = 0x8808) (hop : field16 b 14 = 1) (hfc : portFc s g / 4 % 4 = 1) (hi : ∀ k, k < 8 → ignores s g k = false) :
    Ends (.frameRx g b true false false) s (fun u => ∀ k, k < 8 → kget (getPort u g).pausedUntil k none = stopEnd s g (field16 b 16)) := by
  let v := cnt (counted s g (b.length + 4)) .egrCntPauseRx (gpnDie g) (gpnPort g)
  have hv : SameRegs [.phyCntRxOk, .phyCntRxB, .egrCntPauseRx] s v :=
    ((sameRegs_counted hd _).mono (by decide)).trans (.cnt _ (by decide) hd (gpnPort_lt g))
  have hfc' : portFc (counted s g (b.length + 4)) g = portFc s g :=
    (sameRegs_counted hd _).2 _ (by decide) _ 7 _ hd (by decide) (gpnPort_lt g)
  have hend : stopEnd v g (field16 b 16) = stopEnd s g (field16 b 16) := by
    unfold stopEnd
    rw [quantaNs_of_sameRegs hv (by decide) hd]
    rfl
  refine ⟨forEach ((List.range 8).map fun c => (c, field16 b 16)) (stopClass g) v, (frameRx_sound hr ⟨by omega, by omega⟩).trans
    (congrArg Host.Outcome.next ((if_pos htype).trans ((if_neg Bool.false_ne_true).trans (if_pos ⟨hop, ?_⟩)))), fun k hk => ?_⟩
  · have hi' (c : Nat) (hc : c < 8) : ignores v g c = false := hi c hc
    rw [← hend]
    exact stopClasses_stop hd (List.range 8) (fun c hc => List.mem_range.mp hc) hi' k (.inl (List.mem_range.mpr hk))
  · rw [hfc']
    exact hfc

/-- A port that has stopped its peer tells it again (R302). -/
theorem pauseRefresh_sends {die port : Nat} (hd : die < 8) (hp : port ≤ 32) (hx : (getPort s (gpnOf die port)).xoffSent = true)
    (hl : (getPort s (gpnOf die port)).link = .up) (ho : xonBytes s (gpnOf die port) ≤ occupancy s (gpnOf die port))
    (ht : (getPort s (gpnOf die port)).xoffAt + quantaNs s (gpnOf die port) 32768 ≤ mono s die) :
    Ends (.pauseRefresh die port) s (fun u => (getPort u (gpnOf die port)).xoffAt = mono s die ∧
      u.out = s.out ++ [.pause (gpnOf die port) (decide (portFc s (gpnOf die port) % 4 = 2))
        (if portFc s (gpnOf die port) % 4 = 2 then BitVec.ofNat 8 (lossless s (gpnOf die port)) else 0xFF) 0xFFFF]) := by
  have hd' : gpnDie (gpnOf die port) < 8 := (gpnDie_gpnOf hd hp).symm ▸ hd
  have hfc : portFc (cnt s .egrCntPauseTx (gpnDie (gpnOf die port)) (gpnPort (gpnOf die port))) (gpnOf die port) =
      portFc s (gpnOf die port) :=
    (SameRegs.cnt (rs := [.egrCntPauseTx]) s (by decide) hd' (gpnPort_lt _)).2 _ (by decide) _ 7 _ hd' (by decide) (gpnPort_lt _)
  refine ⟨_, congrArg Host.Outcome.next (if_pos ⟨hx, ho, ht⟩), congrArg PortS.xoffAt (getPort_modPort_same _ _ _), ?_⟩
  have hup : portIsUp s (gpnOf die port) = true := decide_eq_true hl
  have hout : (sendPause s (gpnOf die port) 0xFFFF).out = s.out ++ [.pause (gpnOf die port) (decide (portFc s (gpnOf die port) % 4 = 2))
      (if portFc s (gpnOf die port) % 4 = 2 then BitVec.ofNat 8 (lossless s (gpnOf die port)) else 0xFF) 0xFFFF] := by
    unfold sendPause
    rw [if_pos hup]
    dsimp only
    unfold fcMode lossless
    rw [hfc]
    rfl
  exact hout

/-- A class stopped for WD ignores received frames for ten times as long (R301). -/
theorem pfcWatchdog_ignores {die port t a : Nat} (hd : die < 8) (hp : port ≤ 32) (hc : c < 8)
    (ht : kget (getPort s (gpnOf die port)).pausedUntil c none = some t) (hnow : mono s die < t)
    (ha : kget (getPort s (gpnOf die port)).stoppedSince c none = some a) (hw : bitsOf (portFc s (gpnOf die port)) 16 10 ≠ 0)
    (hlong : a + bitsOf (portFc s (gpnOf die port)) 16 10 * 1000000 ≤ mono s die) :
    Ends (.pfcWatchdog die port c) s (fun u => kget (getPort u (gpnOf die port)).pausedUntil c none = none ∧
      kget (getPort u (gpnOf die port)).ignoreUntil c none =
        some (mono s die + 10 * (bitsOf (portFc s (gpnOf die port)) 16 10 * 1000000))) := by
  have hg := gpnDie_gpnOf hd hp
  have hstop : classStopped s (gpnOf die port) c = true := by
    unfold classStopped
    rw [ht, hg]
    exact decide_eq_true hnow
  have hwd : watchdogNs (endStop s (gpnOf die port) c) (gpnOf die port) = watchdogNs s (gpnOf die port) :=
    congrArg (fun v => bitsOf v 16 10 * 1000000)
      ((sameRegs_endStop (hg.symm ▸ hd) hc).2 .egrPortFc (by decide) _ 7 _ (hg.symm ▸ hd) (by decide) (gpnPort_lt _))
  have hmono : mono (endStop s (gpnOf die port) c) die = mono s die := by
    unfold mono clock
    rw [endStop_time]
  have e : exec (.pfcWatchdog die port c) s = .next (recordK (cnt (modPort (endStop s (gpnOf die port) c) (gpnOf die port) fun p =>
      { p with ignoreUntil := kset p.ignoreUntil c (some (mono s die + 10 * watchdogNs s (gpnOf die port))) none })
      .egrCntPfcWd die (port * 8 + c)) die 0x8005 [nw (gpnOf die port), nw c]) := by
    refine congrArg Host.Outcome.next ?_
    have hw' : watchdogNs s (gpnOf die port) ≠ 0 := by
      unfold watchdogNs
      omega
    dsimp only
    rw [ha]
    dsimp only
    rw [if_pos ⟨hstop, hw', hlong⟩, hwd, hmono]
  refine ⟨_, e, ?_⟩
  beta_reduce
  rw [getPort_recordK, getPort_cnt, getPort_modPort_same, getPort_endStop]
  dsimp only
  exact ⟨kget_kset_same _ _ _ _, kget_kset_same _ _ _ _⟩

end

/-! ## Links (R297, R298) -/

/-- What a port's link has come to: the link, the copy in transmission, the state. -/
def linkSide (s : State) (g : Nat) : Bool × Option Sending × LinkState := ((getPort s g).linkUp, (getPort s g).sending, (getPort s g).link)

theorem linkSide_of_egr {s t : State} (h : t.egr = s.egr) (g : Nat) : linkSide t g = linkSide s g := by
  unfold linkSide
  rw [getPort_of_egr h]

theorem linkSide_recordK (s : State) (d g : Nat) (code : Word) (ws : List Word) : linkSide (recordK s d code ws) g = linkSide s g := by
  unfold linkSide
  rw [getPort_recordK]

/-- A change of a port that leaves what its link has come to. -/
theorem linkSide_modPort {s : State} {g : Nat} {f : PortS → PortS}
    (h : ((f (getPort s g)).linkUp, (f (getPort s g)).sending, (f (getPort s g)).link) = linkSide s g) (k : Nat) :
    linkSide (modPort s g f) k = linkSide s k := by
  by_cases hk : k = g
  · subst hk
    unfold linkSide
    rw [getPort_modPort_same]
    exact h
  · unfold linkSide
    rw [getPort_modPort_ne _ hk]

theorem linkSide_endStop (s : State) (g c k : Nat) : linkSide (endStop s g c) k = linkSide s k := by
  unfold linkSide
  by_cases hk : k = g
  · subst hk
    rw [getPort_endStop]
  · rw [getPort_endStop_ne _ hk]

/-- The end of a share changes frames alone. -/
theorem endShare_eq_path (s : State) (f : Nat) (h : Holder) : ∃ p, endShare s f h = { s with path := p } := by
  unfold endShare
  split
  · exact ⟨s.path, rfl⟩
  · split
    · dsimp only
      split <;> exact ⟨_, rfl⟩
    · exact ⟨s.path, rfl⟩

theorem egr_endShare (s : State) (f : Nat) (h : Holder) : (endShare s f h).egr = s.egr := by
  obtain ⟨p, e⟩ := endShare_eq_path s f h
  rw [e]

theorem linkSide_dropCopy (s : State) (q : Nat) (c : QCopy) (k : Nat) : linkSide (dropCopy s q c) k = linkSide s k :=
  (linkSide_of_egr (egr_endShare _ _ _) k).trans (linkSide_modPort rfl k)

theorem linkSide_endLostXfer (s : State) (xf f k : Nat) : linkSide (endLostXfer s xf f) k = linkSide s k := by
  unfold endLostXfer
  repeat' split
  all_goals rfl

theorem linkSide_discardCopy (code q : Nat) (s : State) (c : QCopy) (k : Nat) : linkSide (discardCopy code q s c) k = linkSide s k :=
  (linkSide_endLostXfer _ _ _ k).trans (linkSide_dropCopy _ q c k)

theorem linkSide_discardAll (s : State) (q code : Nat) (sel : QCopy → Bool) (k : Nat) :
    linkSide (discardAll s q code sel).2 k = linkSide s k :=
  foldl_keeps (linkSide · k) (fun s c => linkSide_discardCopy code q s c k) _ s

/-- The queues of a port, flushed: how many copies, and the state (R298). -/
def flushQueues (s : State) (g : Nat) : Nat × State :=
  ((busyQueues s (gpnDie g)).filter (fun q => qPort s q = gpnPort g)).foldl
    (fun (a : Nat × State) q => let r := discardAll a.2 q 2 (fun _ => true); (a.1 + r.1, r.2)) (0, s)

theorem enterDown_eq (s : State) (g : Nat) : enterDown s g =
    recordK (flushGpn (cnt (modPort (flushQueues s g).2 g fun p => { p with link := .down }) .egrCntFlush (gpnDie g) (gpnPort g)) g)
      (gpnDie g) 0x8003 (nw g :: wordsOf 2 (flushQueues s g).1) := rfl

theorem linkSide_flushQueues (s : State) (g k : Nat) : linkSide (flushQueues s g).2 k = linkSide s k :=
  foldl_keeps (fun a : Nat × State => linkSide a.2 k) (fun a q => by exact linkSide_discardAll a.2 q 2 _ k) _ (0, s)

theorem egr_flushGpn (s : State) (g : Nat) : (flushGpn s g).egr = s.egr := (congrArg State.egr (offTables_flushGpn s g) :)

/-- Entering DOWN changes the state of the port alone. -/
theorem linkSide_enterDown (s : State) (g k : Nat) :
    linkSide (enterDown s g) k = if k = g then ((getPort s g).linkUp, (getPort s g).sending, .down) else linkSide s k := by
  have hq := linkSide_flushQueues s g k
  have hc (v : State) (c : RegName) (d i : Nat) : linkSide (cnt v c d i) k = linkSide v k := rfl
  rw [enterDown_eq, linkSide_recordK, linkSide_of_egr (egr_flushGpn _ _), hc, ← hq]
  split
  · next h =>
    subst h
    obtain ⟨h1, h2⟩ := Prod.mk.inj hq
    obtain ⟨h2, h3⟩ := Prod.mk.inj h2
    unfold linkSide
    rw [getPort_modPort_same, ← h1, ← h2]
  · next h =>
    unfold linkSide
    rw [getPort_modPort_ne _ h]

/-- A copy ends short: the port is free. -/
theorem linkSide_abortCopy (s : State) (g : Nat) (x : Sending) (n : Nat) (lost : Bool) (k : Nat) :
    linkSide (abortCopy s g x n lost) k = if k = g then ((getPort s g).linkUp, none, (getPort s g).link) else linkSide s k := by
  unfold abortCopy
  dsimp only
  rw [linkSide_endLostXfer, linkSide_dropCopy]
  have hh (v : State) (d t m b : Nat) : linkSide (hwCount v d t m b) k = linkSide v k := rfl
  have hc (v : State) (c : RegName) (d i : Nat) : linkSide (cnt v c d i) k = linkSide v k := rfl
  have ho (v : State) (o : List Output) : linkSide { v with out := o } k = linkSide v k := rfl
  rw [hh, linkSide_recordK, hc, ho]
  unfold idlePort linkSide
  split
  · next h => rw [h, getPort_modPort_same]
  · next h => rw [getPort_modPort_ne _ h]

theorem linkSide_setHold (s : State) (g t k : Nat) : linkSide (modPort s g fun p => { p with holdSince := t }) k = linkSide s k :=
  linkSide_modPort rfl k

/-- A port that leaves UP transmits nothing more. -/
theorem linkSide_leaveUp (s : State) (g n k : Nat) :
    linkSide (leaveUp s g n) k = if k = g then ((getPort s g).linkUp, none, (getPort s g).link) else linkSide s k := by
  have stops (l : List Nat) (u : State) : linkSide (forEach l (fun s c => endStop s g c) u) k = linkSide u k :=
    foldl_keeps (linkSide · k) (fun s c => linkSide_endStop s g c k) l u
  unfold leaveUp
  dsimp only
  rw [linkSide_setHold, stops]
  split
  · exact linkSide_abortCopy ..
  · next hn =>
    split
    · next h =>
      unfold linkSide
      rw [h, hn]
    · rfl

theorem linkSide_enterUp (s : State) (g k : Nat) :
    linkSide (enterUp s g) k = if k = g then ((getPort s g).linkUp, (getPort s g).sending, .up) else linkSide s k := by
  unfold enterUp
  rw [linkSide_recordK]
  unfold linkSide
  split
  · next h => rw [h, getPort_modPort_same]
  · next h => rw [getPort_modPort_ne _ h]

theorem linkSide_refreshGroups (s : State) (k : Nat) : linkSide (refreshGroups s) k = linkSide s k :=
  linkSide_of_egr (congrArg State.egr (offGroups_refreshGroups s)) k

/-! ## Registers while a port leaves UP -/

/-- The registers that a port's leaving UP may change: counters of the port, and those of a record. -/
def leaveRegs : List RegName := [.egrCntTxAbort, .egrCntUnderrun, .egrPausedNs, .egrCntLinkLoss] ++ recordRegs

theorem sameRegs_recordK {s : State} (hl : s.pkg.lead < 8) {d : Nat} (hd : d < 8) (code : Word) (ws : List Word) :
    SameRegs recordRegs s (recordK s d code ws) := sameRegs_record hl hd code _ ws

theorem sameRegs_dropCopy (rs : List RegName) (s : State) (q : Nat) (c : QCopy) : SameRegs rs s (dropCopy s q c) := by
  obtain ⟨p, e⟩ := endShare_eq_path (clearDeficits (setQueue s q ((getQueue s q).filter (fun x => x.id ≠ c.id))) q) c.frame (.copy c.id)
  have e' : dropCopy s q c = _ := e
  rw [e']
  exact .of_eq rfl rfl

theorem sameRegs_endLostXfer (rs : List RegName) (s : State) (xf f : Nat) : SameRegs rs s (endLostXfer s xf f) := by
  unfold endLostXfer
  repeat' split
  all_goals exact .of_eq rfl rfl

theorem sameRegs_hwCount (rs : List RegName) (s : State) (d t k b : Nat) : SameRegs rs s (hwCount s d t k b) := .of_eq rfl rfl

theorem sameRegs_modPort (rs : List RegName) (s : State) (g : Nat) (f : PortS → PortS) : SameRegs rs s (modPort s g f) := .of_eq rfl rfl

theorem SameRegs.counted_recorded {rs : List RegName} {s t : State} (h : SameRegs rs s t) (hr : ∀ r ∈ recordRegs, r ∈ rs)
    (hl : s.pkg.lead < 8) {r : RegName} (hmem : r ∈ rs) {d d' i : Nat} (hd : d < 8) (hd' : d' < 8) (hi : i < 1048576)
    (code : Word) (ws : List Word) : SameRegs rs s (recordK (Machine.cnt t r d i) d' code ws) :=
  h.trans ((SameRegs.cnt t hmem hd hi).trans ((sameRegs_recordK (h.1 ▸ hl) hd' code ws).mono hr))

theorem sameRegs_abortCopy {s : State} {g : Nat} (hl : s.pkg.lead < 8) (hd : gpnDie g < 8) (x : Sending) (n : Nat) (lost : Bool) :
    SameRegs leaveRegs s (abortCopy s g x n lost) := by
  unfold abortCopy
  refine SameRegs.trans ?_ (sameRegs_endLostXfer _ _ _ _)
  refine SameRegs.trans ?_ (sameRegs_dropCopy _ _ _ _)
  refine SameRegs.trans ?_ (sameRegs_hwCount _ _ _ _ _ _)
  refine SameRegs.counted_recorded ?_ (by decide) hl (by cases lost <;> decide) hd hd (gpnPort_lt g) _ _
  exact .of_eq rfl rfl

theorem sameRegs_leaveUp {s : State} {g : Nat} (hl : s.pkg.lead < 8) (hd : gpnDie g < 8) (n : Nat) :
    SameRegs leaveRegs s (leaveUp s g n) := by
  unfold leaveUp
  refine SameRegs.trans ?_ (sameRegs_modPort _ _ _ _)
  refine SameRegs.trans ?_ (.forEach fun t _ c hc => (sameRegs_endStop hd (List.mem_range.mp hc)).mono (by decide))
  split
  · exact sameRegs_abortCopy hl hd _ _ _
  · exact .refl _ s

theorem gpnDie_lt_of_exists {s : State} {g : Nat} (h : gpnExists s g = true) (hn : s.pkg.n ≤ 8) : gpnDie g < 8 := by
  unfold gpnExists at h
  unfold gpnDie
  simp only [Bool.or_eq_true, decide_eq_true_eq] at h
  split <;> omega

/-! ## Links lost and raised (R297, R298, R496) -/

section
variable {s : State} {g : Nat}

theorem holdNs_leaving {rs : List RegName} {t : State} (h : SameRegs rs s t) (hr : RegName.egrLinkCfg ∉ rs) (hd : gpnDie g < 8) :
    holdNs t g = holdNs s g :=
  congrArg (fun v => bitsOf v 16 10 * 1000000) (h.2 _ hr _ 7 _ hd (by decide) (gpnPort_lt g))

/-- The state of a port that has lost its link while UP. -/
theorem linkSide_loseLink (hup : (getPort s g).link = .up) (hl : s.pkg.lead < 8) (hd : gpnDie g < 8) :
    linkSide (loseLink s g) g = (false, none, if holdNs s g = 0 then .down else .hold) := by
  have hm : linkSide (modPort s g fun p => { p with linkUp := false }) g = (false, (getPort s g).sending, .up) := by
    unfold linkSide
    rw [getPort_modPort_same]
    exact congrArg (fun l => (false, (getPort s g).sending, l)) hup
  unfold loseLink
  generalize hu : (modPort s g fun p => { p with linkUp := false }) = u at hm ⊢
  have hul : (getPort u g).link = .up := congrArg (fun x => x.2.2) hm
  have hus : SameRegs leaveRegs s { u with free := u.free + 1 } := by
    rw [← hu]
    exact .of_eq rfl rfl
  have hw := hus.trans (sameRegs_leaveUp (s := { u with free := u.free + 1 }) (g := g) (hus.1 ▸ hl) hd (abortBytes u g))
  have hws : linkSide (leaveUp { u with free := u.free + 1 } g (abortBytes u g)) g = (false, none, .up) := by
    rw [linkSide_leaveUp, if_pos rfl]
    exact congrArg₂ (fun a b => (a, none, b)) (congrArg (fun x => x.1) hm) hul
  dsimp only
  rw [if_pos hul]
  generalize leaveUp { u with free := u.free + 1 } g (abortBytes u g) = w at hw hws ⊢
  generalize ([nw g, if holdNs w g = 0 then 0 else 1] : List Word) = ws
  have hr : linkSide (recordK (cnt w .egrCntLinkLoss (gpnDie g) (gpnPort g)) (gpnDie g) 0x8001 ws) g = (false, none, .up) :=
    (linkSide_recordK _ _ _ _ _).trans hws
  have hh : holdNs (recordK (cnt w .egrCntLinkLoss (gpnDie g) (gpnPort g)) (gpnDie g) 0x8001 ws) g = holdNs s g :=
    holdNs_leaving (hw.counted_recorded (by decide) hl (by decide) hd hd (gpnPort_lt g) _ _) (by decide) hd
  generalize recordK (cnt w .egrCntLinkLoss (gpnDie g) (gpnPort g)) (gpnDie g) 0x8001 ws = r at hr hh ⊢
  rw [hh]
  obtain ⟨h1, h2⟩ := Prod.mk.inj hr
  obtain ⟨h2, h3⟩ := Prod.mk.inj h2
  split
  · rw [linkSide_enterDown, if_pos rfl, h1, h2]
  · unfold linkSide
    rw [getPort_modPort_same, ← h1, ← h2]

/-- A port whose link is up again: UP from HOLD, and from DOWN where it is enabled. -/
theorem linkSide_raiseLink (h : (getPort s g).link = .hold ∨ (getPort s g).link = .down ∧ admin s g = true) :
    (linkSide (raiseLink s g) g).1 = true ∧ (linkSide (raiseLink s g) g).2.2 = .up := by
  have hm : linkSide (modPort s g fun p => { p with linkUp := true }) g = (true, (getPort s g).sending, (getPort s g).link) := by
    unfold linkSide
    rw [getPort_modPort_same]
  have ha : admin (modPort s g fun p => { p with linkUp := true }) g = admin s g := rfl
  have hu (u : State) (h : linkSide u g = (true, (getPort s g).sending, (getPort s g).link)) :
      (linkSide (enterUp u g) g).1 = true ∧ (linkSide (enterUp u g) g).2.2 = .up := by
    rw [linkSide_enterUp, if_pos rfl]
    exact ⟨congrArg (fun x => x.1) h, rfl⟩
  unfold raiseLink
  generalize (modPort s g fun p => { p with linkUp := true }) = u at hm ha ⊢
  have hl : (getPort u g).link = (getPort s g).link := congrArg (fun x => x.2.2) hm
  dsimp only
  rw [hl]
  rcases h with h | ⟨h, had⟩
  · rw [h]
    exact hu u hm
  · rw [h, ha, had]
    exact hu u hm

theorem linkSide_raiseLink_down (h : (getPort s g).link = .down) (had : admin s g = false) :
    (linkSide (raiseLink s g) g).1 = true ∧ (linkSide (raiseLink s g) g).2.2 = .down := by
  have hm : linkSide (modPort s g fun p => { p with linkUp := true }) g = (true, (getPort s g).sending, (getPort s g).link) := by
    unfold linkSide
    rw [getPort_modPort_same]
  have ha : admin (modPort s g fun p => { p with linkUp := true }) g = admin s g := rfl
  unfold raiseLink
  generalize (modPort s g fun p => { p with linkUp := true }) = u at hm ha ⊢
  have hl : (getPort u g).link = (getPort s g).link := congrArg (fun x => x.2.2) hm
  dsimp only
  rw [hl, h, ha, had]
  exact ⟨congrArg (fun x => x.1) hm, hl.trans h⟩

end

/-- Settles O27: pauses and their ends class by class, then the states of a link. -/
theorem flowControlAndLinkStates : Obligations.FlowControlAndLinkStates := by
  unfold Obligations.FlowControlAndLinkStates
  refine ⟨fun s die port c b => ?_, fun s g up => ?_⟩
  · intro g p now q pause hd hp hc
    have hg : gpnDie g = die := gpnDie_gpnOf hd hp
    have hg8 : gpnDie g < 8 := hg.symm ▸ hd
    refine ⟨fun hq hr h1 h2 h3 h4 h5 h6 => ?_, fun hq hr h1 h2 h3 h4 h5 h6 => ?_, fun t ht hle => ?_, fun t ht hlt => ?_,
      fun t a ht hlt ha hw hlong => pfcWatchdog_ignores hd hp hc ht hlt ha hw hlong, fun t ht hle => ?_,
      fun hx hl ho ht => pauseRefresh_sends hd hp hx hl ho ht⟩
    · obtain ⟨u, e, hu⟩ := pause_received hr hg8 h1 h2 h3 h4 h5 h6
      refine ⟨u, e, fun k hk => (hu k hk).trans ((if_neg hq).trans ?_)⟩
      rw [hg]
    · obtain ⟨u, e, hu⟩ := pause_received hr hg8 h1 h2 h3 h4 h5 h6
      exact ⟨u, e, fun k hk => (hu k hk).trans (if_pos hq)⟩
    · have hstop : classStopped s g c = false := by
        unfold classStopped
        rw [ht, hg]
        exact decide_eq_false (Nat.not_lt.mpr hle)
      refine ⟨endStop s g c, congrArg Host.Outcome.next (if_pos ⟨Option.isSome_iff_exists.mpr ⟨t, ht⟩, congrArg not hstop⟩), ?_⟩
      beta_reduce
      rw [getPort_endStop]
      dsimp only
      exact ⟨kget_kset_same _ _ _ _, kget_kset_same _ _ _ _⟩
    · have hstop : classStopped s g c = true := by
        unfold classStopped
        rw [ht, hg]
        exact decide_eq_true hlt
      exact congrArg Host.Outcome.next (if_neg fun h => absurd (h.2.symm.trans (congrArg not hstop)) (by decide))
    · have hign : ignores s g c = false := by
        unfold ignores
        rw [ht, hg]
        exact decide_eq_false (Nat.not_lt.mpr hle)
      refine ⟨_, congrArg Host.Outcome.next (if_pos ⟨Option.isSome_iff_exists.mpr ⟨t, ht⟩, congrArg not hign⟩), ?_⟩
      beta_reduce
      rw [getPort_modPort_same]
      exact kget_kset_same (getPort s g).ignoreUntil c none none
  · intro p now
    refine ⟨fun h1 h2 h3 => ?_, fun h1 h2 h3 h4 h5 h6 h7 => ?_, fun h => ?_, fun h1 h2 h3 h4 h5 => ?_, fun h1 h2 h3 h4 h5 h6 => ?_,
      fun h1 h2 => ?_, fun h => ?_⟩
    · refine congrArg Host.Outcome.next (if_neg ?_)
      rw [h1]
      rintro (h | h | ⟨h, h'⟩)
      · exact absurd h (by decide)
      · exact h2 h
      · exact absurd ((h3 h).symm.trans h') (by decide)
    · have e := (linkSide_refreshGroups (loseLink s g) g).trans (linkSide_loseLink h4 h7 (gpnDie_lt_of_exists h5 h6))
      obtain ⟨e1, e2⟩ := Prod.mk.inj e
      obtain ⟨e2, e3⟩ := Prod.mk.inj e2
      exact ⟨_, congrArg Host.Outcome.next (if_pos ⟨h1, congrArg not h2, h3⟩), e1, e2, e3⟩
    · refine congrArg Host.Outcome.next (if_neg fun ⟨h1, h2, h3⟩ => ?_)
      rcases h with h | h | h
      · exact absurd (h.symm.trans h1) (by decide)
      · exact absurd ((congrArg not h).symm.trans h2) (by decide)
      · exact absurd h3 (Nat.not_le.mpr h)
    · have e := linkSide_refreshGroups (raiseLink s g) g
      obtain ⟨e1, e2⟩ := linkSide_raiseLink h5
      exact ⟨_, congrArg Host.Outcome.next (if_pos ⟨congrArg not h1, h2, congrArg not h3, h4⟩),
        (congrArg (fun x => x.1) e).trans e1, (congrArg (fun x => x.2.2) e).trans e2⟩
    · have e := linkSide_refreshGroups (raiseLink s g) g
      obtain ⟨e1, e2⟩ := linkSide_raiseLink_down h5 h6
      exact ⟨_, congrArg Host.Outcome.next (if_pos ⟨congrArg not h1, h2, congrArg not h3, h4⟩),
        (congrArg (fun x => x.1) e).trans e1, (congrArg (fun x => x.2.2) e).trans e2⟩
    · exact ⟨enterDown s g, congrArg Host.Outcome.next (if_pos ⟨h1, h2⟩),
        congrArg (fun x => x.2.2) ((linkSide_enterDown s g g).trans (if_pos rfl))⟩
    · exact congrArg Host.Outcome.next (if_neg fun ⟨h1, h2⟩ => h.elim (fun h => h h1) fun h => absurd h2 (Nat.not_le.mpr h))

end Sys2Proof.Proofs
end

section
/-! PROOF. Parsing and dispatch (R53, R56, R76, R81, R264). -/

namespace Sys2Proof.Proofs

open Sys2Proof.Machine Sys2Proof.Laws Sys2Proof.Safety Sys2Proof.Claims

/-! ## The frames, pipelines, domains and work queues of the path -/

theorem getFrame_of_path {s t : State} (h : t.path = s.path) (f : Nat) : getFrame t f = getFrame s f := by
  unfold getFrame
  rw [h]

theorem getPipe_setPipe (s : State) (k : Nat) (x : Pipe) : getPipe (setPipe s k x) k = x := kget_kset_same ..

theorem noteFree_path (s : State) (d p : Nat) : (noteFree s d p).path = s.path := by
  unfold noteFree
  dsimp only
  repeat' split
  all_goals rfl

/-- The bytes of a new frame: those received, 0 elsewhere. -/
theorem kget_frameBytes (l : List Byte) (n j : Nat) :
    kget ((l.zipIdx n).filterMap (fun e => if e.1 = 0 then none else some (e.2, e.1))) j 0 = if n ≤ j then (l[j - n]?).getD 0 else 0 := by
  induction l generalizing n with
  | nil => split <;> rfl
  | cons b l ih =>
    rw [List.zipIdx_cons, List.filterMap_cons]
    have hrest : (if n + 1 ≤ j then (l[j - (n + 1)]?).getD 0 else 0) =
        if n ≤ j then (if j = n then 0 else ((b :: l)[j - n]?).getD 0) else 0 := by
      rcases Nat.lt_trichotomy j n with h | rfl | h
      · rw [if_neg (by omega), if_neg (by omega)]
      · rw [if_neg (by omega), if_pos (Nat.le_refl _), if_pos rfl]
      · rw [if_pos (by omega), if_pos (by omega), if_neg (by omega), show j - n = (j - (n + 1)) + 1 by omega, List.getElem?_cons_succ]
    by_cases hb : b = 0
    · subst hb
      simp only [if_true]
      rw [ih, hrest]
      split
      · split
        · next h => simp [h]
        · rfl
      · rfl
    · simp only [hb, if_false]
      rw [kget]
      by_cases hj : j = n
      · simp [hj]
      · rw [if_neg hj, ih, hrest, if_neg hj]

/-! ## The parser (R53, R264) -/

section
variable {s : State} {g : Nat} {fr : IngFrame}

/-- A whole frame whose chain is granted is written into buffers. -/
theorem bufferFrame_granted (hw : fr.partial_ = false) (hg : granted s (gpnDie g) (ownerPort (gpnPort g))
      (fitPool s (gpnDie g) (fr.bytes.length + 4)) (chainLen (fitPool s (gpnDie g) (fr.bytes.length + 4)) (fr.bytes.length + 4)) = true) :
    ∃ z u, bufferFrame s g fr = .ok (s.path.nextId, u) ∧ getFrame u s.path.nextId = some z ∧ z.len = fr.bytes.length ∧ z.gpn = g ∧
      z.slot = fr.slot ∧ z.stime = fr.stime ∧ z.recirc = 0 ∧ ∀ j, frameByte z j = (fr.bytes[j]?).getD 0 := by
  have hnew (x : Frame) : getFrame (newFrame s x).2 s.path.nextId = some x :=
    (getFrame_of_path (noteFree_path _ _ _) _).trans (getFrame_setFrame_same _ _ _)
  unfold bufferFrame
  simp only [hw, hg, Bool.false_eq_true, if_false, Bool.not_true]
  exact ⟨_, _, rfl, hnew _, rfl, rfl, rfl, rfl, rfl, fun j => by
    have := kget_frameBytes fr.bytes 0 j
    rw [if_pos (Nat.zero_le j)] at this
    exact this⟩

theorem checkXon_path (s : State) (g : Nat) : (checkXon s g).path = s.path := by
  have hsend : (sendPause s g 0).path = s.path := by
    unfold sendPause
    split <;> rfl
  unfold checkXon
  split
  · exact hsend
  · rfl

end

/-! ## The dispatcher (R76, R81) -/

section
variable (s : State)

theorem countPass_path (x : Frame) : (countPass s x).path = s.path := by
  have half (u v : State) (c : Prop) [Decidable c] (hu : u.path = s.path) (hv : v.path = s.path) : (if c then u else v).path = s.path := by
    split <;> assumption
  have hs : (if (wordAt x.parse 0).getLsbD 12 = true then
      cnt (cnt s .parseCntPass x.die (gpnPort x.gpn)) .parseCntHalf x.die (gpnPort x.gpn)
    else cnt s .parseCntPass x.die (gpnPort x.gpn)).path = s.path := half _ _ _ rfl rfl
  unfold countPass
  generalize (if (wordAt x.parse 3).getLsbD 0 = true then _ else _ : List Word) = at0
  dsimp only
  generalize (if (wordAt x.parse 0).getLsbD 12 = true then _ else _ : State) = u at hs ⊢
  split
  · exact hs
  all_goals exact (record_path ..).trans hs

theorem takeTag_parts (d k : Nat) : (takeTag s d k).path.pipes = s.path.pipes ∧ (takeTag s d k).path.wq = s.path.wq ∧
    (takeTag s d k).path.domains = s.path.domains ∧ (takeTag s d k).path.frames = s.path.frames := by
  unfold takeTag
  dsimp only
  split <;> exact ⟨rfl, rfl, rfl, rfl⟩

theorem modFrame_some {f : Nat} {x : Frame} (h : getFrame s f = some x) (g : Frame → Frame) :
    modFrame s f g = setFrame s f (some (g x)) := by
  unfold modFrame
  rw [h]

/-- A frame takes the next sequence number of its domain; pipelines and work queues stay. -/
theorem assignSeq_parts {d dom f : Nat} {x : Frame} {v : Option Verdict} (hx : getFrame s f = some x) :
    (assignSeq s d dom f v).path.pipes = s.path.pipes ∧ (assignSeq s d dom f v).path.wq = s.path.wq ∧
    getDom (assignSeq s d dom f v) d dom =
      ⟨((getDom s d dom).next + 1) % 65536, (getDom s d dom).outs ++ [⟨(getDom s d dom).next, f, v, none, 0⟩]⟩ ∧
    (getFrame (assignSeq s d dom f v) f).map (·.seq) = some (getDom s d dom).next := by
  generalize hq : (⟨((getDom s d dom).next + 1) % 65536, (getDom s d dom).outs ++ [⟨(getDom s d dom).next, f, v, none, 0⟩]⟩ : Domain) = q
  have hx' : getFrame (setDom s d dom q) f = some x := hx
  have hdom (u : State) (hu : u.path.domains = (setDom s d dom q).path.domains) : getDom u d dom = q := by
    unfold getDom
    rw [hu]
    exact kget_kset_same ..
  unfold assignSeq
  dsimp only
  rw [hq, modFrame_some _ hx']
  generalize hy : ({ x with odom := dom, seq := (getDom s d dom).next } : Frame) = y
  have hseq : y.seq = (getDom s d dom).next := by rw [← hy]
  have hf : getFrame (setFrame (setDom s d dom q) f (some y)) f = some y := getFrame_setFrame_same ..
  rw [hf]
  split
  · exact ⟨rfl, rfl, hdom _ rfl, by rw [hf, ← hseq]; rfl⟩
  · split
    · next k hk =>
      obtain ⟨h1, h2, h3, h4⟩ := takeTag_parts (setFrame (setDom s d dom q) f (some y)) d k
      have hf' : getFrame (takeTag (setFrame (setDom s d dom q) f (some y)) d k) f = some y := by
        unfold getFrame
        rw [h4]
        exact hf
      rw [modFrame_some _ hf']
      exact ⟨h1, h2, hdom _ h3, by rw [getFrame_setFrame_same, ← hseq]; rfl⟩
    · exact ⟨rfl, rfl, hdom _ rfl, by rw [hf, ← hseq]; rfl⟩

theorem noteHwm_path (d q : Nat) : (noteHwm s d q).path = s.path := by
  unfold noteHwm
  dsimp only
  split <;> rfl

theorem getWq_setWq (d q : Nat) (x : WorkQueue) : getWq (setWq s d q x) d q = x := kget_kset_same ..

theorem getWq_noteHold (d q : Nat) : (getWq (noteHold s d q) d q).items = (getWq s d q).items := by
  unfold noteHold
  rw [getWq_setWq]

/-- Keeping a queue's marks changes no item of it. -/
theorem marked_parts (d q : Nat) : (noteHwm (noteHold s d q) d q).path.pipes = s.path.pipes ∧
    (noteHwm (noteHold s d q) d q).path.domains = s.path.domains ∧ (noteHwm (noteHold s d q) d q).path.frames = s.path.frames ∧
    (getWq (noteHwm (noteHold s d q) d q) d q).items = (getWq s d q).items := by
  have h := getWq_noteHold s d q
  unfold getWq at h ⊢
  rw [noteHwm_path]
  exact ⟨rfl, rfl, rfl, h⟩

/-- An item joins its queue; pipelines, domains and frames stay. -/
theorem enqueue_parts (d : Nat) (it : Item) : (enqueue s d it).path.pipes = s.path.pipes ∧ (enqueue s d it).path.domains = s.path.domains ∧
    (enqueue s d it).path.frames = s.path.frames ∧
    (getWq (enqueue s d it) d (wqIndex it.pdom it.level)).items.length = (getWq s d (wqIndex it.pdom it.level)).items.length + 1 := by
  have hw := getWq_noteHold s d (wqIndex it.pdom it.level)
  have hv : (noteHold s d (wqIndex it.pdom it.level)).path.pipes = s.path.pipes ∧
      (noteHold s d (wqIndex it.pdom it.level)).path.domains = s.path.domains ∧
      (noteHold s d (wqIndex it.pdom it.level)).path.frames = s.path.frames := ⟨rfl, rfl, rfl⟩
  unfold enqueue
  dsimp only
  generalize noteHold s d (wqIndex it.pdom it.level) = v at hw hv ⊢
  obtain ⟨v1, v2, v3⟩ := hv
  obtain ⟨m1, m2, m3, m4⟩ := marked_parts (setWq { v with path := { v.path with nextOrder := v.path.nextOrder + 1 } } d
    (wqIndex it.pdom it.level) { getWq v d (wqIndex it.pdom it.level) with
      items := (getWq v d (wqIndex it.pdom it.level)).items ++ [{ it with enq := mono v d, order := v.path.nextOrder }] })
    d (wqIndex it.pdom it.level)
  refine ⟨m1.trans v1, m2.trans v2, m3.trans v3, ?_⟩
  rw [m4, getWq_setWq, List.length_append, hw]
  rfl

end

/-- A packet enters dispatch: its number, its queue (R76, R81). -/
theorem enterDispatch_queued (s : State) (f : Nat) {y : Frame} (hp : parseStatus y.parse = 0) :
    (enterDispatch s f y).path.pipes = s.path.pipes ∧
    getDom (enterDispatch s f y) y.die y.odom =
      ⟨((getDom s y.die y.odom).next + 1) % 65536,
        (getDom s y.die y.odom).outs ++ [⟨(getDom s y.die y.odom).next, f, none, none, 0⟩]⟩ ∧
    (getFrame (enterDispatch s f y) f).map (·.seq) = some (getDom s y.die y.odom).next ∧
    (getWq (enterDispatch s f y) y.die (y.pdom * 8 + y.level)).items.length = (getWq s y.die (y.pdom * 8 + y.level)).items.length + 1 := by
  have hv (u : State) : failVerdict u y = none := if_pos hp
  have hc : (countPass (setFrame s f (some y)) y).path = (setFrame s f (some y)).path := countPass_path _ y
  unfold enterDispatch
  simp only [hv]
  generalize countPass (setFrame s f (some y)) y = u at hc ⊢
  have hf : getFrame u f = some y := (getFrame_of_path hc f).trans (getFrame_setFrame_same ..)
  have hd : getDom u y.die y.odom = getDom s y.die y.odom := by
    unfold getDom
    rw [hc]
    rfl
  obtain ⟨a1, a2, a3, a4⟩ := assignSeq_parts u (d := y.die) (dom := y.odom) (v := none) hf
  generalize assignSeq u y.die y.odom f none = w at a1 a2 a3 a4 ⊢
  obtain ⟨b1, b2, b3, b4⟩ := enqueue_parts w y.die
    { kind := .packet, level := y.level, gslot := y.slot, pdom := y.pdom, late := false, args := [], frame := f, poster := 0, enq := 0,
      order := 0 }
  refine ⟨b1.trans (a1.trans (congrArg PathS.pipes hc :)), ?_, ?_, b4.trans (congrArg (· + 1) ?_)⟩
  · rw [← hd, ← a3]
    unfold getDom
    rw [b2]
  · rw [← hd, ← a4]
    unfold getFrame
    rw [b3]
  · unfold getWq
    rw [a2, hc]
    rfl

/-- Settles O28. -/
theorem parsingAndDispatch : Obligations.ParsingAndDispatch := by
  unfold Obligations.ParsingAndDispatch
  intro s die port pipe f rest x fr more g k p r n room y dom
  refine ⟨fun h1 h2 => ?_, fun h1 h2 h3 h4 h5 => ?_, fun h1 h2 h3 h4 => ?_, fun h1 h2 h3 h4 => ?_, fun h1 h2 h3 h4 h5 => ?_⟩
  · refine congrArg Host.Outcome.next ?_
    dsimp only
    rw [h1]
    exact if_pos h2
  · obtain ⟨z, u, hb, hz⟩ := bufferFrame_granted h4 h5
    refine ⟨checkXon (setPipe (setIngress u g more) k { p with parsing := p.parsing ++ [s.path.nextId] }) g,
      congrArg Host.Outcome.next ?_, ?_, ?_, z, ?_, ?_⟩
    · dsimp only
      rw [h1, h2]
      dsimp only
      rw [if_neg (Nat.not_le.mpr h3), hb]
    · unfold ingressOf
      rw [checkXon_path]
      exact kget_kset_same u.path.ingress g more []
    · unfold getPipe
      rw [checkXon_path]
      exact congrArg Pipe.parsing (kget_kset_same u.path.pipes k { p with parsing := p.parsing ++ [s.path.nextId] } _)
    · exact (getFrame_of_path (checkXon_path _ _) _).trans hz.1
    · exact hz.2
  · refine congrArg Host.Outcome.next ?_
    dsimp only
    rw [h1]
    dsimp only
    rw [h2]
    refine (if_neg (ne_true_of_eq_false h3)).trans ?_
    have hw : (if x.whole = true then (.ok s : Except State State) else takeTail s f x) = .ok s := if_pos h4
    rw [hw]
    exact congrArg (fun u => setPipe u _ _) (modFrame_some s h2 _)
  · refine ⟨endShare (setPipe s (die * 8 + pipe) { r with parsing := rest }) f .packet, congrArg Host.Outcome.next ?_, ?_⟩
    · dsimp only
      rw [h1]
      dsimp only
      rw [h2]
      dsimp only
      rw [h3]
      rfl
    · have hf : getFrame (setPipe s (die * 8 + pipe) { r with parsing := rest }) f = some x := h2
      have e : endShare (setPipe s (die * 8 + pipe) { r with parsing := rest }) f .packet =
          setFrame (setPipe s (die * 8 + pipe) { r with parsing := rest }) f none := by
        unfold endShare
        rw [hf]
        dsimp only
        rw [h4]
        rfl
      rw [e]
      exact ⟨getFrame_setFrame_same .., congrArg Pipe.parsing (getPipe_setPipe s (die * 8 + pipe) { r with parsing := rest })⟩
  · have hh : headEnters s r.fifo = some (f, y) := by
      rw [h2, headEnters, h3]
      exact if_pos h4
    have hl : headEnters s r.lane = none := by
      rw [h1]
      rfl
    have hy : y.die = x.die ∧ parseStatus y.parse = 0 := by
      show (placed s x).die = x.die ∧ parseStatus (placed s x).parse = 0
      unfold placed
      dsimp only
      split <;> exact ⟨rfl, h5⟩
    obtain ⟨e1, e2, e3, e4⟩ := enterDispatch_queued (setPipe s (die * 8 + pipe) { r with fifo := r.fifo.drop 1 }) f hy.2
    rw [hy.1] at e2 e3 e4
    refine ⟨enterDispatch (setPipe s (die * 8 + pipe) { r with fifo := r.fifo.drop 1 }) f y, congrArg Host.Outcome.next ?_, ?_,
      congrArg Domain.next e2, congrArg Domain.outs e2, e3, e4⟩
    · dsimp only
      rw [hl]
      dsimp only
      rw [hh]
    · unfold getPipe
      rw [e1]
      refine (congrArg Pipe.fifo (getPipe_setPipe s (die * 8 + pipe) { r with fifo := r.fifo.drop 1 })).trans ?_
      show r.fifo.drop 1 = rest
      rw [h2]
      rfl

end Sys2Proof.Proofs
end

section
/-! PROOF. The die bridge in operation (R18, R266, R278, R293, R517). -/

namespace Sys2Proof.Proofs

open Sys2Proof.Machine Sys2Proof.Laws Sys2Proof.Safety Sys2Proof.Claims

/-! ## Transfers -/

section
variable {s : State} {k : Nat}

theorem getXfer_setXfer (s : State) (k : Nat) (x : Option Xfer) : getXfer (setXfer s k x) k = x := kget_kset_same ..

theorem getXfer_of_egr {t : State} (h : t.egr = s.egr) (k : Nat) : getXfer t k = getXfer s k := by
  unfold getXfer
  rw [h]

theorem egr_modFrame (s : State) (f : Nat) (g : Frame → Frame) : (modFrame s f g).egr = s.egr := by
  unfold modFrame
  split <;> rfl

theorem egr_wholeXfer (s : State) (x : Xfer) : (wholeXfer s x).egr = s.egr := by
  unfold wholeXfer
  split
  · rfl
  · exact egr_modFrame ..

theorem egr_recordF (s : State) (cls d : Nat) (code src : Word) (ws : List Word) : (recordF s cls d code src ws).egr = s.egr :=
  (congrArg State.egr (unrecorded_recordF s cls d code src ws) :)

/-- A sound flit of a transfer that is not lost. -/
theorem flit_received {die lane : Nat} {x : Xfer} (hx : getXfer s k = some x) (hd : x.dst = die) (hl : x.lost = false) (hg : x.got < x.flits) :
    EndsIn (.bridgeFlitRx die k true lane) s
      (let v := setXfer s k (some { x with got := x.got + 1 })
       let w := if x.got = 0 then offerXfer v k x else v
       if x.got + 1 = x.flits then wholeXfer w x else w) := by
  refine congrArg Host.Outcome.next ?_
  rw [hx]
  refine (if_neg ?_).trans (if_neg (by decide))
  rintro (h | h | h)
  · exact h hd
  · exact absurd (h.symm.trans hl) (by decide)
  · exact absurd h (Nat.not_le.mpr hg)

/-- The first flit of a unicast transfer offers its frame. -/
theorem flit_offers {die lane : Nat} {x : Xfer} (hx : getXfer s k = some x) (hd : x.dst = die) (hl : x.lost = false) (h0 : x.got = 0)
    (hf : 0 < x.flits) (hm : x.mcast = false) : Ends (.bridgeFlitRx die k true lane) s (fun u =>
      getXfer u k = some { x with got := 1 } ∧ ∃ o, offersOf u die = offersOf s die ++ [o] ∧ o.xfer = k ∧ o.qid = x.dest ∧
        o.txLen = x.txLen ∧ o.supply = x.supply ∧ o.stamp.slot = x.stamp.slot ∧ o.stamp.stime = x.stamp.stime) := by
  let v := setXfer s k (some { x with got := x.got + 1 })
  let o : Offer := ⟨0, 0, k, x.dest, none, arriveStamp v x, x.txLen, x.supply, x.verdict, true⟩
  have hw : offerXfer v k x = addOffer v x.dst o := if_neg (ne_true_of_eq_false hm)
  have hegr (c : Prop) [Decidable c] (w : State) : (if c then wholeXfer w x else w).egr = w.egr := by
    split
    · exact egr_wholeXfer w x
    · rfl
  have e := flit_received (lane := lane) hx hd hl (by omega)
  dsimp only at e
  rw [if_pos h0] at e
  have hu := (hegr (x.got + 1 = x.flits) (offerXfer v k x)).trans (congrArg State.egr hw)
  refine ⟨_, e, (getXfer_of_egr hu k).trans ?_, o, ?_, rfl, rfl, rfl, rfl, rfl, rfl⟩
  · show getXfer v k = _
    rw [getXfer_setXfer, h0]
  · refine (congrArg (fun g : EgrS => kget g.offers die []) hu).trans ?_
    rw [← hd]
    exact kget_kset_same ..

/-- A replay on a lane that does not become lasting changes no transfer. -/
theorem flit_replayed {die lane : Nat} {x : Xfer} (hx : getXfer s k = some x) (hd : x.dst = die) (hl : x.lost = false) (hg : x.got < x.flits)
    (h8 : die < 8) (hf : lastHop x < 8)
    (hr : (countReplay s die (linkNo s die (lastHop x) (linkOfXfer s (lastHop x) die k)) (lane % 32)).2.1 = false) :
    Ends (.bridgeFlitRx die k false lane) s (fun u => getXfer u k = some x) := by
  generalize hlink : linkNo s die (lastHop x) (linkOfXfer s (lastHop x) die k) = link at hr
  have hle : link ≤ 47 := by
    have hp : pairLinks s ≤ 6 := by
      unfold pairLinks
      repeat' split
      all_goals omega
    have hj : linkOfXfer s (lastHop x) die k ≤ 5 := by
      have hup : linksUp s (lastHop x) die ≤ 6 := by
        unfold linksUp
        split <;> omega
      have := Nat.mod_lt k (show 0 < max 1 (linksUp s (lastHop x) die) by omega)
      unfold linkOfXfer
      omega
    have hb : (if lastHop x < die then lastHop x else lastHop x - 1) ≤ 6 := by
      split <;> omega
    have := Nat.mul_le_mul hb hp
    unfold linkNo at hlink
    omega
  have hregs : SameRegs [.fltCntReplay] s (cnt s .fltCntReplay die (link * 32 + lane % 32)) := .cnt s (by decide) h8 (by omega)
  have hth : getR (cnt s .fltCntReplay die (link * 32 + lane % 32)) .fltThresh die 2 = getR s .fltThresh die 2 :=
    hregs.2 _ (by decide) die 7 2 h8 (by decide) (by decide)
  have hcount : (countReplay (cnt s .fltCntReplay die (link * 32 + lane % 32)) die link (lane % 32)).2.1 = false := by
    rw [← hr]
    unfold countReplay threshCount fieldR
    rw [hth]
    rfl
  have hegr : (replayFlit s die (lastHop x) k (lane % 32)).egr = s.egr := by
    unfold replayFlit
    dsimp only
    rw [hlink, hcount, if_neg (fun h => absurd h.1 Bool.false_ne_true), egr_recordF]
    rfl
  refine ⟨replayFlit s die (lastHop x) k (lane % 32), congrArg Host.Outcome.next ?_, (getXfer_of_egr hegr k).trans hx⟩
  rw [hx]
  refine (if_neg ?_).trans (if_pos (by decide))
  rintro (h | h | h)
  · exact h hd
  · exact absurd (h.symm.trans hl) (by decide)
  · exact absurd h (Nat.not_le.mpr hg)

/-- An acknowledgement drops the ingress buffers once every offer of the transfer is settled. -/
theorem bridgeAck_cases {die : Nat} {x : Xfer} (hx : getXfer s k = some x) (hd : x.dst = die) (hl : x.lost = false) :
    (x.flits ≤ x.got → (∀ o ∈ offersOf s die, o.xfer ≠ k) →
      EndsIn (.bridgeAck die k) s (endShare (setXfer s k none) x.frame (.switch k))) ∧
    ((x.got < x.flits ∨ ∃ o ∈ offersOf s die, o.xfer = k) → EndsIn (.bridgeAck die k) s s) := by
  refine ⟨fun hg ho => congrArg Host.Outcome.next ?_, fun h => congrArg Host.Outcome.next ?_⟩
  · rw [hx]
    exact if_pos ⟨hd, congrArg not hl, hg, List.all_eq_true.mpr fun o hm => decide_eq_true (ho o hm)⟩
  · rw [hx]
    refine if_neg fun ⟨_, _, h3, h4⟩ => ?_
    rcases h with h | ⟨o, ho, hk⟩
    · exact absurd h3 (Nat.not_le.mpr h)
    · exact of_decide_eq_true (List.all_eq_true.mp h4 o ho) hk

/-! ## Links that fail (R18) -/

theorem links_endShare (s : State) (f : Nat) (h : Holder) : (endShare s f h).egr.links = s.egr.links := by rw [egr_endShare]

theorem links_recordF (s : State) (cls d : Nat) (code src : Word) (ws : List Word) : (recordF s cls d code src ws).egr.links = s.egr.links := by
  rw [egr_recordF]

theorem links_dropCopy (s : State) (q : Nat) (c : QCopy) : (dropCopy s q c).egr.links = s.egr.links :=
  (links_endShare (clearDeficits (setQueue s q ((getQueue s q).filter (fun x => x.id ≠ c.id))) q) c.frame (.copy c.id) :)

theorem links_loseXfer (s : State) (k : Nat) (x : Xfer) : (loseXfer s k x).egr.links = s.egr.links := by
  have h0 : (endShare (cnt s .bridgeLostFrames x.src 0) x.frame (.switch k)).egr.links = s.egr.links :=
    links_endShare _ _ _
  unfold loseXfer
  generalize endShare (cnt s .bridgeLostFrames x.src 0) x.frame (.switch k) = u at h0 ⊢
  dsimp only
  split
  · exact h0
  · have drops (l : List (Nat × QCopy)) (v : State) : (forEach l (fun s e => dropCopy s e.1 e.2) v).egr.links = v.egr.links :=
      forEach_keeps (fun s : State => s.egr.links) (fun e _ s => by exact links_dropCopy s e.1 e.2) v
    exact (drops _ _).trans h0

theorem links_rerouteXfer (s : State) (k : Nat) (x : Xfer) : (rerouteXfer s k x).egr.links = s.egr.links := by
  unfold rerouteXfer
  dsimp only
  split
  · rfl
  · rw [links_endShare]
    exact links_recordF (cnt s .switchDropNodie x.src 0) 0 x.src _ _ _

theorem links_settleHop (n a b : Nat) (s : State) (e : Nat × Xfer) : (settleHop n a b s e).egr.links = s.egr.links := by
  unfold settleHop
  repeat' split
  · rfl
  · exact links_loseXfer ..
  · rfl
  · exact links_rerouteXfer ..
  · rfl

theorem links_resvRecord (s : State) (a b v : Nat) : (resvRecord s a b v).egr.links = s.egr.links := by
  unfold resvRecord
  split
  · exact links_recordF ..
  · rfl

/-- A link withdrawn counts in both directions. -/
theorem links_withdrawLink {a b : Nat} (hab : a ≠ b) (h : kget s.egr.links (a * 8 + b) 0 < pairLinks s) :
    (withdrawLink s a b).egr.links =
      kset (kset s.egr.links (a * 8 + b) (kget s.egr.links (a * 8 + b) 0 + 1) 0) (b * 8 + a) (kget s.egr.links (a * 8 + b) 0 + 1) 0 := by
  have hops (n a b : Nat) (l : List (Nat × Xfer)) (u : State) : (l.foldl (settleHop n a b) u).egr.links = u.egr.links :=
    foldl_keeps (fun s : State => s.egr.links) (links_settleHop n a b) l u
  unfold withdrawLink
  dsimp only
  rw [if_neg (by omega)]
  split
  · rw [links_resvRecord, links_resvRecord, hops, hops, egr_recordF]
  · rw [hops, hops, egr_recordF]

theorem linkFail_withdraws {die far w : Nat} (hw : w = kget s.egr.links (die * 8 + far) 0) (hu : usable s die = true) (hf : far < s.pkg.n)
    (hne : far ≠ die) (h : w < pairLinks s) : Ends (.bridgeLinkFail die far) s (fun u =>
      kget u.egr.links (die * 8 + far) 0 = w + 1 ∧ kget u.egr.links (far * 8 + die) 0 = w + 1) := by
  subst hw
  refine ⟨withdrawLink s die far, congrArg Host.Outcome.next (if_pos ⟨hu, hf⟩), ?_⟩
  beta_reduce
  rw [links_withdrawLink hne.symm h]
  refine ⟨?_, kget_kset_same _ _ _ _⟩
  rw [kget_kset_ne _ _ _ _ _ _ (by omega), kget_kset_same]

end

end Sys2Proof.Proofs
end

section
/-! PROOF. The deal of a comb, and the release of verdicts (R79, R80, R87, R90, R91, R100). -/

namespace Sys2Proof.Proofs

open Sys2Proof.Machine Sys2Proof.Laws Sys2Proof.Safety Sys2Proof.Claims

/-! ## What the switch core leaves alone -/

/-- What a submission leaves: the order domains, the pipelines, the copy engine's requests. -/
def besideSwitch (s : State) : Map Domain × Map (List CopyJob) := (s.path.domains, s.egr.jobs)

section
variable (s : State)

theorem besideSwitch_setFrame (f : Nat) (x : Option Frame) : besideSwitch (setFrame s f x) = besideSwitch s := rfl

theorem besideSwitch_modFrame (f : Nat) (g : Frame → Frame) : besideSwitch (modFrame s f g) = besideSwitch s := by
  unfold modFrame
  split <;> rfl

theorem besideSwitch_endShare (f : Nat) (h : Holder) : besideSwitch (endShare s f h) = besideSwitch s := by
  unfold endShare
  split
  · rfl
  · split
    · dsimp only
      split <;> rfl
    · rfl

theorem besideSwitch_record (d : Nat) (code src : Word) (ws : List Word) : besideSwitch (record s d code src ws) = besideSwitch s :=
  (congrArg besideSwitch (unrecorded_record s d code src ws) :)

theorem besideSwitch_dropNodie (d gpn dest : Nat) (mcast : Bool) (giver : Word) :
    besideSwitch (dropNodie s d gpn dest mcast giver) = besideSwitch s :=
  (besideSwitch_record (cnt s .switchDropNodie d 0) d _ _ _ :)

theorem besideSwitch_countDenied (d row dest : Nat) (mcast : Bool) (giver : Word) :
    besideSwitch (countDenied s d row dest mcast giver) = besideSwitch s :=
  (besideSwitch_record (cnt s .mapCntQdeny d 0) d _ _ _ :)

theorem besideSwitch_offerMembers (d f share xfer g : Nat) (st : Stamp) (txLen supply : Nat) (v : Bool) (l : List Nat) :
    besideSwitch (offerMembers s d f share xfer g st txLen supply v l) = besideSwitch s := by
  induction l generalizing s with
  | nil => rfl
  | cons q l ih => exact ih _

theorem besideSwitch_offerLocal (d f share dest txLen : Nat) (mcast v : Bool) :
    besideSwitch (offerLocal s d f share dest txLen mcast v) = besideSwitch s := by
  unfold offerLocal
  split
  · rfl
  · split
    · split
      · exact besideSwitch_endShare ..
      · exact besideSwitch_offerMembers ..
    · rfl

theorem besideSwitch_startXfer (k f src dst dest txLen : Nat) (mcast v : Bool) (via : Option Nat) (giver : Word) :
    besideSwitch (startXfer s k f src dst dest txLen mcast v via giver) = besideSwitch s := by
  unfold startXfer
  split <;> rfl

theorem besideSwitch_submitToDie (f src g txLen : Nat) (v : Bool) (giver : Word) (d : Nat) :
    besideSwitch (submitToDie f src g txLen v giver s d) = besideSwitch s := by
  have hid : besideSwitch (newId s).2 = besideSwitch s := rfl
  unfold submitToDie
  dsimp only
  generalize (newId s).1 = k
  generalize (newId s).2 = u at hid ⊢
  split
  · exact (besideSwitch_offerLocal ..).trans ((besideSwitch_modFrame ..).trans hid)
  · split
    · exact (besideSwitch_dropNodie ..).trans hid
    · split
      · exact (besideSwitch_dropNodie ..).trans hid
      · exact (besideSwitch_startXfer ..).trans ((besideSwitch_modFrame ..).trans hid)

theorem besideSwitch_submit (f : Nat) (h : Holder) (dest : Nat) (mcast v : Bool) (txLen : Nat) (giver : Word) :
    besideSwitch (submit s f h dest mcast v txLen giver) = besideSwitch s := by
  have dies (src : Nat) (l : List Nat) : besideSwitch (forEach l (submitToDie f src dest txLen v giver) s) = besideSwitch s :=
    foldl_keeps besideSwitch (fun s d => besideSwitch_submitToDie s f src dest txLen v giver d) l s
  unfold submit
  split
  · rfl
  · next x _ =>
    dsimp only
    split
    · split
      · exact besideSwitch_endShare ..
      · exact (besideSwitch_endShare ..).trans (dies _ _)
    · split
      · exact (besideSwitch_endShare ..).trans (besideSwitch_dropNodie ..)
      · have hid : besideSwitch (newId s).2 = besideSwitch s := rfl
        generalize (newId s).1 = k
        generalize (newId s).2 = u at hid ⊢
        split
        · exact (besideSwitch_offerLocal ..).trans ((besideSwitch_modFrame ..).trans hid)
        · split
          · exact (besideSwitch_endShare ..).trans ((besideSwitch_dropNodie ..).trans hid)
          · exact (besideSwitch_startXfer ..).trans ((besideSwitch_modFrame ..).trans hid)

theorem besideSwitch_exception (f : Nat) (h : Holder) (host kind : Nat) (giver : Word) :
    besideSwitch (exception s f h host kind giver) = besideSwitch s := by
  unfold exception
  split
  · rfl
  · exact besideSwitch_submit ..

theorem besideSwitch_toPort (f : Nat) (x : Frame) (g : Nat) (giver : Word) : besideSwitch (toPort s f x g giver) = besideSwitch s := by
  unfold toPort
  split
  · exact (besideSwitch_endShare ..).trans (besideSwitch_dropNodie ..)
  · exact besideSwitch_submit ..

/-! ## Verdicts leave the order domains -/

theorem domains_of_beside {s t : State} (h : besideSwitch t = besideSwitch s) : t.path.domains = s.path.domains := congrArg Prod.fst h

theorem domains_modFrame (f : Nat) (g : Frame → Frame) : (modFrame s f g).path.domains = s.path.domains :=
  domains_of_beside (besideSwitch_modFrame s f g)

theorem domains_mirrorRequest (d i f : Nat) (b : List Byte) : (mirrorRequest s d i f b).path.domains = s.path.domains := by
  unfold mirrorRequest
  split
  · rfl
  · dsimp only
    split
    · rfl
    · exact domains_modFrame ..

theorem domains_mirrorAll (d dir port f : Nat) (b : List Byte) : (mirrorAll s d dir port f b).1.path.domains = s.path.domains := by
  unfold mirrorAll
  split
  · rfl
  · exact foldl_keeps (fun s : State => s.path.domains) (fun s i => domains_mirrorRequest s d i f b) _ s

theorem domains_sampleCandidate (d i f : Nat) (b : List Byte) (mir : Bool) (x : SampleInfo) :
    (sampleCandidate s d i f b mir x).path.domains = s.path.domains := by
  unfold sampleCandidate
  dsimp only
  repeat' split
  any_goals rfl
  exact domains_modFrame ..

theorem domains_sampleAll (d point port vk f : Nat) (b : List Byte) (mir : Bool) (x : SampleInfo) :
    (sampleAll s d point port vk f b mir x).path.domains = s.path.domains := by
  unfold sampleAll
  split
  · rfl
  · exact foldl_keeps (fun s : State => s.path.domains) (fun s i => domains_sampleCandidate s d i f b mir x) _ s

theorem domains_copiesAtRelease (d f kind reason : Nat) : (copiesAtRelease s d f kind reason).path.domains = s.path.domains := by
  unfold copiesAtRelease
  split
  · rfl
  · dsimp only
    rw [domains_sampleAll]
    split
    · rfl
    · exact domains_mirrorAll ..

theorem domains_freeFrameTag (f : Nat) : (freeFrameTag s f).path.domains = s.path.domains := by
  unfold freeFrameTag
  split
  · refine (domains_modFrame ..).trans ?_
    unfold dropTag
    split <;> rfl
  · rfl

/-- The effect of a verdict at its release leaves every order domain. -/
theorem domains_applyVerdict (f : Nat) (x : Frame) (v : Verdict) : (applyVerdict s f x v).path.domains = s.path.domains := by
  have freed (u : State) (h : u.path.domains = s.path.domains) : (freeFrameTag u f).path.domains = s.path.domains :=
    (domains_freeFrameTag u f).trans h
  have copied (k r : Nat) : (copiesAtRelease s x.die f k r).path.domains = s.path.domains := domains_copiesAtRelease s x.die f k r
  unfold applyVerdict
  dsimp only
  split
  · generalize hu : freeFrameTag (copiesAtRelease s x.die f 0 0) f = u
    have h : u.path.domains = s.path.domains := hu ▸ freed _ (copied 0 0)
    split
    · exact h
    · split
      · exact (domains_of_beside ((besideSwitch_endShare ..).trans (besideSwitch_countDenied ..))).trans h
      · exact (domains_of_beside (besideSwitch_submit ..)).trans h
  · split
    · exact copied 2 0
    · exact copied 2 0
  · generalize hu : freeFrameTag (copiesAtRelease s x.die f 3 0) f = u
    have h : u.path.domains = s.path.domains := hu ▸ freed _ (copied 3 0)
    split
    · exact (domains_of_beside (besideSwitch_exception ..)).trans h
    · exact (domains_of_beside (besideSwitch_toPort ..)).trans h
    · exact (domains_of_beside (besideSwitch_endShare ..)).trans h
  · exact (domains_of_beside (besideSwitch_exception ..)).trans (freed _ (copied 0 0))
  · exact (domains_of_beside (besideSwitch_toPort ..)).trans (freed _ (copied 0 0))
  · refine (domains_of_beside (besideSwitch_endShare ..)).trans ((domains_freeFrameTag ..).trans ?_)
    exact domains_copiesAtRelease (cnt s .ordCntDrop x.die x.odom) x.die f 1 v.dest

end

/-! ## The release and the timeout (R87, R90, R91) -/

section
variable {s : State} {die dom : Nat} {o : Outstanding} {rest : List Outstanding} {x : Frame}

theorem getDom_setDom (s : State) (d dom : Nat) (q : Domain) : getDom (setDom s d dom q) d dom = q := kget_kset_same ..

/-- Of one verdict that is present, the second step of a release finds the domain empty. -/
theorem release_last {v : Verdict} (h : (getDom s die dom).outs = [o]) (hv : o.verdict = some v) (hx : getFrame s o.frame = some x) :
    EndsIn (.reorderRelease die dom) s
      (applyVerdict (cnt (setDom s die dom { getDom s die dom with outs := [] }) .ordCntRel die dom) o.frame x v) := by
  have h1 : releaseOne die dom s =
      applyVerdict (cnt (setDom s die dom { getDom s die dom with outs := [] }) .ordCntRel die dom) o.frame x v := by
    unfold releaseOne
    dsimp only
    rw [h]
    dsimp only
    rw [hv, hx]
  have h2 (u : State) (hu : (getDom u die dom).outs = []) : releaseOne die dom u = u := by
    unfold releaseOne
    dsimp only
    rw [hu]
  refine congrArg Host.Outcome.next ?_
  rw [h1, h2]
  unfold getDom
  rw [domains_applyVerdict]
  exact congrArg Domain.outs (getDom_setDom s die dom { getDom s die dom with outs := [] })

theorem release_waits (h : (getDom s die dom).outs = o :: rest) (hv : o.verdict = none) : EndsIn (.reorderRelease die dom) s s := by
  have h1 : releaseOne die dom s = s := by
    unfold releaseOne
    dsimp only
    rw [h]
    dsimp only
    rw [hv]
  refine congrArg Host.Outcome.next ?_
  rw [h1, h1]

/-- A number whose timer has expired is declared LATE. -/
theorem timeout_late {m : Nat} (h : (getDom s die dom).outs = o :: rest) (hx : getFrame s o.frame = some x) (hv : o.verdict = none)
    (hf : frozenFrom s o.frame = none) (hm : o.dealt = some m)
    (ht : m + o.held + bitsOf (getRS s .dispPortOrd x.die x.slot (gpnPort x.gpn)) 16 14 * 100 ≤ mono s die) :
    Ends (.reorderTimeout die dom) s (fun u => (getDom u die dom).outs = rest ∧ getFrame u o.frame = some { x with late := true }) := by
  have hexp : expired s die o x = true := by
    unfold expired
    rw [hv, hm]
    dsimp only
    rw [hf]
    exact decide_eq_true ht
  have hx' : getFrame (cnt (setDom s die dom { getDom s die dom with outs := rest }) .ordCntLate die dom) o.frame = some x := hx
  refine ⟨orderRecord (setFrame (cnt (setDom s die dom { getDom s die dom with outs := rest }) .ordCntLate die dom) o.frame
    (some { x with late := true })) x 0x3001 (keeperId die) [], congrArg Host.Outcome.next ?_, ?_, ?_⟩
  · dsimp only
    rw [h]
    dsimp only
    rw [hx]
    dsimp only
    rw [hexp, if_pos rfl, modFrame_some _ hx']
  · unfold getDom
    refine (congrArg (fun p : PathS => (kget p.domains (domKey die dom) ⟨0, []⟩).outs) (record_path _ _ _ _ _)).trans ?_
    exact congrArg Domain.outs (getDom_setDom s die dom { getDom s die dom with outs := rest })
  · exact (getFrame_of_path (record_path _ _ _ _ _) _).trans (getFrame_setFrame_same _ _ _)

end

/-! ## The deal (R79, R80, R100) -/

/-- The combs and the work queues. -/
def combsWq (s : State) : Map Comb × Map WorkQueue := (s.core.combs, s.path.wq)

section
variable (s : State) (t : Nat)

theorem combsWq_tryWake : combsWq (tryWake s t) = combsWq s := by
  unfold tryWake
  dsimp only
  repeat' split
  all_goals rfl

theorem combsWq_cancelSub : combsWq (cancelSub s t) = combsWq s := 
  forEach_keeps combsWq (fun _ _ _ => by rfl) (modT s t fun x => { x with lockSub := none })

theorem modOut_core (f : Nat) (g : Outstanding → Outstanding) : (modOut s f g).core = s.core := by
  unfold modOut
  split <;> rfl

theorem combsWq_modOut (f : Nat) (g : Outstanding → Outstanding) : combsWq (modOut s f g) = combsWq s := by
  unfold modOut
  split <;> rfl

theorem writeCarry_keeps (ws : List Word) : (writeCarry s t ws).core.threads = s.core.threads ∧ combsWq (writeCarry s t ws) = combsWq s :=
  ⟨forEach_keeps (fun s : State => s.core.threads) (fun _ _ _ => by rfl) s, forEach_keeps combsWq (fun _ _ _ => by rfl) s⟩

theorem getT_of_threads {u v : State} (h : v.core.threads = u.core.threads) (t : Nat) : getT v t = getT u t := by
  unfold getT
  rw [h]

/-- A thread other than the one woken stays. -/
theorem getT_tryWake_ne {w : Nat} (h : t ≠ w) : getT (tryWake s w) t = getT s t := by
  have hst (v : State) (st : ThrState) : getT (setSt v w st) t = getT v t := getT_modT_ne _ _ _ _ h
  have hc (v : State) (r : RegName) (d i : Nat) : getT (cnt v r d i) t = getT v t := rfl
  unfold tryWake
  dsimp only
  split
  · split
    · rw [hc, getT_modT_ne _ _ _ _ h, hst]
    · rfl
  · rfl

/-- An event at a thread: another thread, or one that does not wait, keeps its item, its state and its registers. -/
theorem raiseEvent_thread {w n : Nat} (h : (getT s t).st ≠ .waiting) :
    (getT (raiseEvent s w n) t).item = (getT s t).item ∧ (getT (raiseEvent s w n) t).st = (getT s t).st ∧
      (getT (raiseEvent s w n) t).regs = (getT s t).regs := by
  unfold raiseEvent
  by_cases hw : t = w
  · subst hw
    rw [tryWake_of_not_waiting (by rwa [getT_modT_same]), getT_modT_same]
    exact ⟨rfl, rfl, rfl⟩
  · rw [getT_tryWake_ne _ _ hw, getT_modT_ne _ _ _ _ hw]
    exact ⟨rfl, rfl, rfl⟩

/-- The carry words are written beside the threads, the combs and the work queues. -/
theorem carried_keeps {w v : State} (h : w.core.threads = v.core.threads) (hw : combsWq w = combsWq v) (ws : List Word) :
    getT (writeCarry w t ws) t = getT v t ∧ combsWq (writeCarry w t ws) = combsWq v := by
  obtain ⟨c1, c2⟩ := writeCarry_keeps w t ws
  exact ⟨getT_of_threads (c1.trans h) t, c2.trans hw⟩

/-- What the packet's order number and the carry words leave of the thread, the combs and the work queues. -/
theorem carryItem_keeps (it : Item) {v : State} {m : Option Nat} :
    let a := modOut v it.frame fun o => { o with dealt := m }
    let w := if it.kind = .packet then writeCarry a t (((getFrame a it.frame).map (·.carry)).getD []) else writeCarry v t []
    getT w t = getT v t ∧ combsWq w = combsWq v := by
  dsimp only
  split
  · exact carried_keeps t (congrArg CoreS.threads (modOut_core ..)) (combsWq_modOut ..) _
  · exact carried_keeps t rfl rfl _

/-- A thread that starts on an item at MONO `m`. -/
def startThread (t : Nat) (it : Item) (m : Nat) (x : Thread) : Thread :=
  { x with
    item := some it, saved := saveSup t x, regs := freshRegs (nw (kindCode it.kind)), wait := none, timer := none,
    pend := x.pend &&& 0x3800, cycBase := 0, cycFrom := m }

/-- A thread receives an item: fresh registers, ACTIVE; combs and work queues stay. -/
theorem giveItem_given (it : Item) : (getT (giveItem s t it) t).item = some it ∧ (getT (giveItem s t it) t).st = .active ∧
    regsOf (giveItem s t it) t = freshRegs (nw (kindCode it.kind)) ∧ combsWq (giveItem s t it) = combsWq s := by
  have h0 : combsWq (setSt (cancelSub (clearChan s t) t) t .active) = combsWq s := by
    have hset (v : State) : combsWq (setSt v t .active) = combsWq v := rfl
    have hclear : combsWq (clearChan s t) = combsWq s := rfl
    rw [hset, combsWq_cancelSub, hclear]
  have hst : (getT (setSt (cancelSub (clearChan s t) t) t .active) t).st = .active := st_setSt ..
  have event (v w : State) (h1 : (getT v t).item = some it) (h2 : (getT v t).st = .active)
      (h3 : (getT v t).regs = freshRegs (nw (kindCode it.kind))) (h4 : combsWq v = combsWq s)
      (hw : getT w t = getT v t ∧ combsWq w = combsWq v) :
      (getT (raiseEvent w (t / 8 * 8) 11) t).item = some it ∧ (getT (raiseEvent w (t / 8 * 8) 11) t).st = .active ∧
        regsOf (raiseEvent w (t / 8 * 8) 11) t = freshRegs (nw (kindCode it.kind)) ∧ combsWq (raiseEvent w (t / 8 * 8) 11) = combsWq s := by
    obtain ⟨hT, hC⟩ := hw
    obtain ⟨e1, e2, e3⟩ := raiseEvent_thread w t (w := t / 8 * 8) (n := 11) (by rw [hT, h2]; decide)
    rw [hT] at e1 e2 e3
    exact ⟨e1.trans h1, e2.trans h2, e3.trans h3, (combsWq_tryWake _ _).trans (hC.trans h4)⟩
  unfold giveItem
  dsimp only
  generalize setSt (cancelSub (clearChan s t) t) t .active = u at h0 hst ⊢
  have g : getT (modT u t (startThread t it (mono u (thrDie t)))) t = startThread t it (mono u (thrDie t)) (getT u t) := getT_modT_same ..
  have hm : combsWq (modT u t (startThread t it (mono u (thrDie t)))) = combsWq u := rfl
  refine event (modT u t (startThread t it (mono u (thrDie t)))) _ ?_ ?_ ?_ (hm.trans h0) (carryItem_keeps t it)
  · rw [g]; rfl
  · rw [g]; exact hst
  · rw [g]; rfl

end

section
variable {s : State} {die comb : Nat}

/-- The counters of a deal are registers alone. -/
theorem combsWq_dealCounters (s : State) (d q w : Nat) : combsWq (dealCounters s d q w) = combsWq s := by
  have sample (u : State) : combsWq (histSample u d q w) = combsWq u := by
    unfold histSample
    dsimp only
    split <;> rfl
  have max (u : State) (n : Nat) :
      combsWq (if n > getR u .dispWqWaitMax d q then setR u .dispWqWaitMax d q n else u) = combsWq u := by
    split <;> rfl
  exact (sample _).trans (max _ _)

theorem getComb_of_combsWq {u v : State} (h : combsWq u = combsWq v) (k : Nat) : getComb u k = getComb v k :=
  congrArg (fun p : Map Comb × Map WorkQueue => kget p.1 k freshComb) h

theorem getWq_of_combsWq {u v : State} (h : combsWq u = combsWq v) (d q : Nat) : getWq u d q = getWq v d q :=
  congrArg (fun p : Map Comb × Map WorkQueue => kget p.2 (d * 128 + q) ⟨[], false⟩) h

/-- A comb deals the item that it selects to its next free thread. -/
theorem combDeal_deals {p t q : Nat} {it : Item} (hf : nextFree s (die * 8 + comb) = some (p, t))
    (hi : selectItem s (die * 8 + comb) = some (q, it)) : Ends (.combDeal die comb) s (fun u =>
      (getT u t).item = some it ∧ (getT u t).st = .active ∧ regsOf u t = freshRegs (nw (kindCode it.kind)) ∧
      (getComb u (die * 8 + comb)).next = (p + 1) % 16 ∧ (getWq u die q).items = (getWq s die q).items.drop 1) := by
  let a := noteHold s die q
  let b := noteHold (setWq a die q { getWq a die q with items := (getWq a die q).items.drop 1 }) die q
  let c := dealCounters b die q (mono b die - it.enq)
  let v := modComb c (die * 8 + comb) fun y => { y with next := (p + 1) % 16 }
  have hb : (getWq b die q).items = (getWq s die q).items.drop 1 := by
    refine (getWq_noteHold ..).trans ?_
    rw [getWq_setWq]
    exact congrArg (List.drop 1) (getWq_noteHold ..)
  obtain ⟨g1, g2, g3, g4⟩ := giveItem_given v t it
  refine ⟨giveItem v t it, congrArg Host.Outcome.next ?_, g1, g2, g3, ?_, ?_⟩
  · dsimp only
    rw [hf]
    dsimp only
    rw [hi]
  · rw [getComb_of_combsWq g4]
    exact congrArg Comb.next (getComb_setComb_same ..)
  · rw [getWq_of_combsWq g4]
    refine Eq.trans ?_ hb
    exact congrArg WorkQueue.items (getWq_of_combsWq (combsWq_dealCounters b die q _) die q)

theorem combDeal_idle (h : nextFree s (die * 8 + comb) = none ∨ selectItem s (die * 8 + comb) = none) :
    EndsIn (.combDeal die comb) s s := by
  refine congrArg Host.Outcome.next ?_
  dsimp only
  rcases h with h | h
  · rw [h]
  · cases hf : nextFree s (die * 8 + comb) with
    | none => rfl
    | some pt =>
      dsimp only
      rw [h]

/-- The last flit makes the frame whole. -/
theorem flit_completes {k lane : Nat} {x : Xfer} (hx : getXfer s k = some x) (hd : x.dst = die) (hl : x.lost = false) (h0 : 0 < x.got)
    (hg : x.got + 1 = x.flits) {f : Frame} (hn : x.dstFrame ≠ 0) (hf : getFrame s x.dstFrame = some f) :
    Ends (.bridgeFlitRx die k true lane) s (fun u => getXfer u k = some { x with got := x.flits } ∧
      getFrame u x.dstFrame = some { f with whole := true, xfer := 0 }) := by
  have e := flit_received (lane := lane) hx hd hl (by omega)
  dsimp only at e
  rw [if_neg (Nat.ne_of_gt h0), if_pos hg] at e
  have hw : wholeXfer (setXfer s k (some { x with got := x.got + 1 })) x =
      setFrame (setXfer s k (some { x with got := x.got + 1 })) x.dstFrame (some { f with whole := true, xfer := 0 }) :=
    (if_neg hn).trans (modFrame_some (setXfer s k (some { x with got := x.got + 1 })) hf _)
  refine ⟨_, e, ?_, ?_⟩
  · rw [getXfer_of_egr (egr_wholeXfer ..), getXfer_setXfer, hg]
  · rw [hw, getFrame_setFrame_same]

end

/-- Settles O29: a flit, an acknowledgement and a lost link by the state of their transfer; then the deal of a comb, and the head of an
order domain as it is released, waits, or is declared LATE. -/
theorem dealReorderAndDieBridge : Obligations.DealReorderAndDieBridge := by
  unfold Obligations.DealReorderAndDieBridge
  refine ⟨fun s die far k lane x hx hd hl => ⟨fun h0 hg => ?_, fun h0 hg f hn hf => flit_completes hx hd hl h0 hg hn hf,
    fun h0 hf hm => flit_offers hx hd hl h0 hf hm, fun hg h8 hf hr => flit_replayed hx hd hl hg h8 hf hr,
    (bridgeAck_cases hx hd hl).1, (bridgeAck_cases hx hd hl).2, fun w hw hu hf hne _ _ h => linkFail_withdraws hw hu hf hne h⟩,
    fun s die comb dom p t q it o rest x v => ⟨combDeal_deals, combDeal_idle, release_last, release_waits,
      fun h hx hv hf m hm ht => timeout_late h hx hv hf hm ht⟩⟩
  have e := flit_received (lane := lane) hx hd hl (Nat.lt_of_succ_lt hg)
  dsimp only at e
  rwa [if_neg (Nat.ne_of_gt h0), if_neg (Nat.ne_of_lt hg)] at e

end Sys2Proof.Proofs
end

section
/-! PROOF. Queue admission, the scheduler of a port, transmission, and the copy engine (R278 to R296, R307, R315). -/

namespace Sys2Proof.Proofs

open Sys2Proof.Machine Sys2Proof.Laws Sys2Proof.Safety Sys2Proof.Claims

/-! ## The ports, the queues, the offers and what leaves -/

/-- The ports, the queues, the offers and the outputs. -/
def egress (s : State) : Map PortS × Map (List QCopy) × Map (List Offer) × List Output :=
  (s.egr.ports, s.egr.queues, s.egr.offers, s.out)

theorem getPort_of_egress {s t : State} (h : egress t = egress s) (g : Nat) : getPort t g = getPort s g :=
  congrArg (fun e : Map PortS × Map (List QCopy) × Map (List Offer) × List Output => kget e.1 g freshPort) h

theorem getQueue_of_egress {s t : State} (h : egress t = egress s) (q : Nat) : getQueue t q = getQueue s q :=
  congrArg (fun e : Map PortS × Map (List QCopy) × Map (List Offer) × List Output => kget e.2.1 q []) h

theorem offersOf_of_egress {s t : State} (h : egress t = egress s) (d : Nat) : offersOf t d = offersOf s d :=
  congrArg (fun e : Map PortS × Map (List QCopy) × Map (List Offer) × List Output => kget e.2.2.1 d []) h

theorem out_of_egress {s t : State} (h : egress t = egress s) : t.out = s.out :=
  congrArg (fun e : Map PortS × Map (List QCopy) × Map (List Offer) × List Output => e.2.2.2) h

section
variable (s : State)

theorem egress_modFrame (f : Nat) (g : Frame → Frame) : egress (modFrame s f g) = egress s := by
  unfold modFrame
  split <;> rfl

theorem egress_endShare (f : Nat) (h : Holder) : egress (endShare s f h) = egress s := by
  obtain ⟨p, e⟩ := endShare_eq_path s f h
  rw [e]
  rfl

theorem egress_recordK (d : Nat) (code : Word) (ws : List Word) : egress (recordK s d code ws) = egress s :=
  (congrArg egress (unrecorded_record s d code (keeperId d) ws) :)

theorem egress_addJob (d f : Nat) (mk : Nat → CopyJob) : egress (addJob s d f mk) = egress s := egress_modFrame ..

theorem egress_mirrorRequest (d i f : Nat) (b : List Byte) : egress (mirrorRequest s d i f b) = egress s := by
  unfold mirrorRequest
  split
  · rfl
  · dsimp only
    split
    · rfl
    · exact egress_addJob ..

theorem egress_mirrorAll (d dir port f : Nat) (b : List Byte) : egress (mirrorAll s d dir port f b).1 = egress s := by
  unfold mirrorAll
  split
  · rfl
  · exact foldl_keeps egress (fun s i => egress_mirrorRequest s d i f b) _ s

theorem egress_sampleCandidate (d i f : Nat) (b : List Byte) (mir : Bool) (x : SampleInfo) :
    egress (sampleCandidate s d i f b mir x) = egress s := by
  unfold sampleCandidate
  dsimp only
  repeat' split
  any_goals rfl
  exact egress_addJob ..

theorem egress_sampleAll (d point port vk f : Nat) (b : List Byte) (mir : Bool) (x : SampleInfo) :
    egress (sampleAll s d point port vk f b mir x) = egress s := by
  unfold sampleAll
  split
  · rfl
  · exact foldl_keeps egress (fun s i => egress_sampleCandidate s d i f b mir x) _ s

theorem egress_copiesAtTx (g q : Nat) (c : QCopy) (f : Frame) (b : List Byte) : egress (copiesAtTx s g q c f b) = egress s := by
  unfold copiesAtTx
  dsimp only
  rw [egress_sampleAll, egress_mirrorAll]

theorem egress_countSent (g q : Nat) (c : QCopy) (m : Option Bool) : egress (countSent s g q c m) = egress s := by
  unfold countSent
  rcases m with _ | _ | _ <;> rfl

/-! ## Admission (R278, R285) -/

theorem egress_noteFree (d p : Nat) : egress (noteFree s d p) = egress s := by
  unfold noteFree
  dsimp only
  repeat' split
  all_goals rfl

theorem egress_shareFor (o : Offer) (k : Nat) : egress (shareFor s o k).2 = egress s := by
  unfold shareFor
  split
  · exact (egress_modFrame ..).trans ((egress_modFrame ..).trans (egress_modFrame ..))
  · split
    · split
      · exact egress_noteFree ..
      · rfl
    · rfl

/-- An admitted copy enters its queue at the end. -/
theorem admitCopy_queued (o : Offer) : offersOf (admitCopy s o) = offersOf s ∧
    ∃ e, getQueue (admitCopy s o) o.qid = getQueue s o.qid ++ [e] ∧ e.txLen = o.txLen ∧ e.charge = o.txLen + 4 ∧ e.stamp = o.stamp := by
  have hid : egress (newId s).2 = egress s := rfl
  unfold admitCopy
  dsimp only
  generalize cutThrough s o = ct
  generalize ecnMark s o.qid (o.txLen + 4) = mark
  generalize (newId s).1 = k
  generalize (newId s).2 = u at hid ⊢
  have hs := (egress_shareFor u o k).trans hid
  generalize (shareFor u o k).1 = f
  generalize (shareFor u o k).2 = v at hs ⊢
  refine ⟨?_, ⟨k, f, o.stamp, o.txLen, o.txLen + 4, ct, mark⟩, ?_, rfl, rfl, rfl⟩
  · funext d
    refine Eq.trans ?_ (offersOf_of_egress hs d)
    split <;> rfl
  · rw [← getQueue_of_egress hs o.qid]
    split
    · exact getQueue_setQueue_same ..
    · exact getQueue_setQueue_same ..

theorem egress_endOffer (o : Offer) : egress (endOffer s o) = egress s := by
  unfold endOffer
  split
  · rfl
  · split
    · exact egress_endShare ..
    · rfl

theorem egress_ite (c : Prop) [Decidable c] (u v : State) : egress (if c then u else v) = if c then egress u else egress v := apply_ite ..
theorem egress_cnt (r : RegName) (d i : Nat) : egress (cnt s r d i) = egress s := rfl
theorem egress_countRefused (d w p : Nat) : egress (countRefused s d w p) = egress s := rfl
theorem egress_hwCount (d t k b : Nat) : egress (hwCount s d t k b) = egress s := rfl

theorem egress_refuseCopy (o : Offer) (code : Nat) : egress (refuseCopy s o code) = egress s := by
  unfold refuseCopy
  dsimp only
  split
  · simp only [egress_recordK, egress_cnt, egress_hwCount, egress_ite, egress_countRefused, ite_self]
  · simp only [egress_recordK, egress_cnt, egress_hwCount, egress_ite, egress_countRefused, ite_self]

/-! ## Transmission (R293, R315, R495) -/

/-- A copy that leaves its queue. -/
theorem dropCopy_parts (q : Nat) (c : QCopy) : (dropCopy s q c).out = s.out ∧ ∀ e ∈ getQueue (dropCopy s q c) q, e.id ≠ c.id := by
  have he : egress (dropCopy s q c) = egress (clearDeficits (setQueue s q ((getQueue s q).filter (fun x => x.id ≠ c.id))) q) :=
    egress_endShare ..
  have ho : (clearDeficits (setQueue s q ((getQueue s q).filter (fun x => x.id ≠ c.id))) q).out = s.out := rfl
  refine ⟨(out_of_egress he).trans ho, fun e h => ?_⟩
  rw [getQueue_of_egress he] at h
  have hq : getQueue (clearDeficits (setQueue s q ((getQueue s q).filter (fun x => x.id ≠ c.id))) q) q =
      (getQueue s q).filter (fun x => x.id ≠ c.id) := getQueue_setQueue_same ..
  rw [hq] at h
  exact of_decide_eq_true (List.mem_filter.mp h).2

theorem endLostXfer_parts (xf f : Nat) : egress (endLostXfer s xf f) = egress s := by
  unfold endLostXfer
  repeat' split
  all_goals rfl

/-- A copy that ends short leaves with the bytes that are there and a bad FCS. -/
theorem abortCopy_parts {g n : Nat} {x : Sending} {f : Frame} {lost : Bool} (hf : getFrame s x.copy.frame = some f)
    (hn : n ≤ x.copy.txLen) :
    (getPort (abortCopy s g x n lost) g).sending = none ∧ (∀ e ∈ getQueue (abortCopy s g x n lost) x.queue, e.id ≠ x.copy.id) ∧
      (abortCopy s g x n lost).out = s.out ++ [.frame g (frameBytes f 0 n) true] := by
  have hsend := congrArg (fun y : Bool × Option Sending × LinkState => y.2.1) ((linkSide_abortCopy s g x n lost g).trans (if_pos rfl))
  refine ⟨hsend, ?_⟩
  unfold abortCopy
  dsimp only
  rw [hf, Nat.min_eq_left hn]
  dsimp only
  generalize hu : cnt { idlePort s g with out := s.out ++ [.frame g (frameBytes f 0 n) true] }
    (if lost = true then RegName.egrCntTxAbort else RegName.egrCntUnderrun) (gpnDie g) (gpnPort g) = u
  have ho : u.out = s.out ++ [.frame g (frameBytes f 0 n) true] := by rw [← hu]; rfl
  generalize hv : recordK u (gpnDie g) 0x8004 (nw g :: wordsOf 2 x.queue ++ [nw n, if lost = true then 1 else 0]) = v
  have hv' : v.out = u.out := by rw [← hv]; exact out_of_egress (egress_recordK ..)
  generalize hw : hwCount v (gpnDie g) (qTenant v x.queue) 2 x.copy.charge = w
  have hw' : w.out = v.out := by rw [← hw]; rfl
  obtain ⟨d1, d2⟩ := dropCopy_parts w x.queue x.copy
  have he := endLostXfer_parts (dropCopy w x.queue x.copy) (copyXfer w x.copy) x.copy.frame
  refine ⟨fun e h => d2 e ?_, ?_⟩
  · rwa [getQueue_of_egress he] at h
  · rw [out_of_egress he, d1, hw', hv', ho]

/-- A whole copy leaves, padded. -/
theorem finishCopy_parts {g q : Nat} {c : QCopy} {f : Frame} (hn : f.note = false) (hm : c.mark = false) :
    (getPort (finishCopy s g q c f) g).sending = none ∧ (∀ e ∈ getQueue (finishCopy s g q c f) q, e.id ≠ c.id) ∧
      (finishCopy s g q c f).out = s.out ++ [.frame g (frameBytes f 0 c.txLen ++ List.replicate (60 - c.txLen) 0) false] := by
  let v : State := { idlePort s g with out := s.out ++ [.frame g (padded (frameBytes f 0 c.txLen)) false] }
  have hlen : (frameBytes f 0 c.txLen).length = c.txLen := by
    unfold frameBytes
    rw [List.length_map, List.length_range]
  have hv : (getPort v g).sending = none := congrArg PortS.sending (getPort_modPort_same s g fun p => { p with sending := none })
  have hw : ∃ w, finishCopy s g q c f = dropCopy w q c ∧ egress w = egress v := by
    have hemit : emitCopy (idlePort s g) g f (frameBytes f 0 c.txLen) = (v, true) := if_neg (ne_true_of_eq_false hn)
    unfold finishCopy copyBytes
    dsimp only
    rw [if_neg (ne_true_of_eq_false hm)]
    dsimp only
    rw [hemit]
    dsimp only
    rw [if_pos rfl]
    refine ⟨_, rfl, ?_⟩
    split
    · exact egress_countSent ..
    · exact (egress_copiesAtTx ..).trans (egress_countSent ..)
  obtain ⟨w, e, hw⟩ := hw
  rw [e]
  obtain ⟨d1, d2⟩ := dropCopy_parts w q c
  have hside := congrArg (fun y : Bool × Option Sending × LinkState => y.2.1) (linkSide_dropCopy w q c g)
  refine ⟨hside.trans ?_, d2, ?_⟩
  · exact (congrArg PortS.sending (getPort_of_egress hw g)).trans hv
  · rw [d1, out_of_egress hw]
    show s.out ++ [.frame g (padded (frameBytes f 0 c.txLen)) false] = _
    unfold padded
    rw [hlen]

/-! ## The scheduler's choice (R289, R291) -/

/-- The port transmits the head copy; no queue changes. -/
theorem startCopy_parts (g q : Nat) (c : QCopy) (p : PortS) :
    (getPort (startCopy s g q c p) g).sending = some ⟨c, q, 0⟩ ∧ getQueue (startCopy s g q c p) q = getQueue s q := by
  have hp : (getPort (setPort s g { chargeNodes s g q (c.txLen + 24) p with sending := some ⟨c, q, 0⟩ }) g).sending = some ⟨c, q, 0⟩ :=
    congrArg PortS.sending (getPort_setPort_same ..)
  unfold startCopy
  dsimp only
  split
  · exact ⟨hp, rfl⟩
  · exact ⟨hp, rfl⟩

/-! ## The copy engine (R307) -/

theorem buildFrame_beside {d owner gpn slot st mo f : Nat} {b : List Byte} {h : Holder} {note : Bool} {u : State}
    (e : buildFrame s d owner gpn slot st mo b h note = some (f, u)) : besideSwitch u = besideSwitch s := by
  unfold buildFrame at e
  dsimp only at e
  split at e
  · exact absurd e (Option.some_ne_none _).symm
  · have e2 := congrArg (fun p : Nat × State => besideSwitch p.2) (Option.some.inj e)
    refine e2.symm.trans ?_
    unfold newFrame noteFree
    dsimp only
    repeat' split
    all_goals rfl

/-- The engine's oldest request leaves it. -/
theorem copyDone_jobs {d : Nat} {j : CopyJob} {js : List CopyJob} (h : jobsOf s d = j :: js) : jobsOf (copyDone s d) d = js := by
  have hset : jobsOf (setJobs s d js) d = js := kget_kset_same ..
  have hb : besideSwitch (copyDone s d) = besideSwitch (setJobs s d js) := by
    unfold copyDone
    rw [h]
    dsimp only
    have he := besideSwitch_endShare (setJobs s d js) j.frame (.copier j.id)
    generalize endShare (setJobs s d js) j.frame (.copier j.id) = u at he ⊢
    split
    · split
      · exact he
      · exact he
    · next f v hv =>
      have hf := buildFrame_beside _ hv
      refine (besideSwitch_submit ..).trans ?_
      split
      · exact hf.trans he
      · exact hf.trans he
  unfold jobsOf at hset ⊢
  rw [← hset]
  exact congrArg (fun p : Map Domain × Map (List CopyJob) => kget p.2 d []) hb

end

/-! ## The commands -/

section
variable {s : State} {die port : Nat}

theorem queueAdmission_takes {o : Offer} {rest : List Offer} (h : offersOf s die = o :: rest) {v : State}
    (hv : v = { s with egr := { s.egr with offers := kset s.egr.offers die rest [] } }) :
    EndsIn (.queueAdmission die) s (endOffer (if admitCheck v o = 0 then admitCopy v o else refuseCopy v o (admitCheck v o)) o) := by
  subst hv
  refine congrArg Host.Outcome.next ?_
  rw [h]

/-- The oldest offer, admitted. -/
theorem queueAdmission_admits {o : Offer} {rest : List Offer} (h : offersOf s die = o :: rest)
    (hc : admitCheck { s with egr := { s.egr with offers := kset s.egr.offers die rest [] } } o = 0) :
    Ends (.queueAdmission die) s (fun u => offersOf u die = rest ∧
      ∃ e, getQueue u o.qid = getQueue s o.qid ++ [e] ∧ e.txLen = o.txLen ∧ e.charge = o.txLen + 4 ∧ e.stamp = o.stamp) := by
  have he := queueAdmission_takes h rfl
  have hr : offersOf { s with egr := { s.egr with offers := kset s.egr.offers die rest [] } } die = rest := kget_kset_same ..
  have hq : getQueue { s with egr := { s.egr with offers := kset s.egr.offers die rest [] } } o.qid = getQueue s o.qid := rfl
  generalize ({ s with egr := { s.egr with offers := kset s.egr.offers die rest [] } } : State) = v at hc he hr hq
  rw [if_pos hc] at he
  obtain ⟨ha, e, hb, hp⟩ := admitCopy_queued v o
  refine ⟨_, he, ?_, e, ?_, hp⟩
  · rw [offersOf_of_egress (egress_endOffer ..), ha, hr]
  · rw [getQueue_of_egress (egress_endOffer ..), hb, hq]

/-- The oldest offer, refused. -/
theorem queueAdmission_refuses {o : Offer} {rest : List Offer} (h : offersOf s die = o :: rest)
    (hc : admitCheck { s with egr := { s.egr with offers := kset s.egr.offers die rest [] } } o ≠ 0) :
    Ends (.queueAdmission die) s (fun u => offersOf u die = rest ∧ getQueue u o.qid = getQueue s o.qid) := by
  have he := queueAdmission_takes h rfl
  have hr : offersOf { s with egr := { s.egr with offers := kset s.egr.offers die rest [] } } die = rest := kget_kset_same ..
  have hq : getQueue { s with egr := { s.egr with offers := kset s.egr.offers die rest [] } } o.qid = getQueue s o.qid := rfl
  generalize ({ s with egr := { s.egr with offers := kset s.egr.offers die rest [] } } : State) = v at hc he hr hq
  rw [if_neg hc] at he
  have hv := (egress_endOffer (refuseCopy v o (admitCheck v o)) o).trans (egress_refuseCopy ..)
  exact ⟨_, he, (offersOf_of_egress hv die).trans hr, (getQueue_of_egress hv _).trans hq⟩

/-- A port that may start a copy takes the head of the queue that its scheduler picks. -/
theorem schedulePick_picks {q : Nat} {c : QCopy} {cs : List QCopy} {p : PortS} (hs : (getPort s (gpnOf die port)).sending = none)
    (hu : portIsUp s (gpnOf die port) = true) (hf : egrCountFull s die = false) (hp : pickQueue s (gpnOf die port) = some (q, p))
    (hq : getQueue s q = c :: cs) : EndsIn (.schedulePick die port) s
      (if aged s q c then discardCopy 1 q s c else startCopy s (gpnOf die port) q c p) := by
  refine congrArg Host.Outcome.next ((if_neg ?_).trans ?_)
  · rintro (h | h | h)
    · rw [hs] at h
      cases h
    · rw [hu] at h
      cases h
    · rw [hf] at h
      cases h
  · rw [hp]
    dsimp only
    rw [hq]

theorem schedulePick_idle (h : (getPort s (gpnOf die port)).sending ≠ none ∨ portIsUp s (gpnOf die port) = false ∨
    egrCountFull s die = true ∨ pickQueue s (gpnOf die port) = none) : EndsIn (.schedulePick die port) s s := by
  refine congrArg Host.Outcome.next ?_
  dsimp only
  split
  · rfl
  · next hn =>
    rcases h with h | h | h | h
    · exact absurd (Or.inl (Option.isSome_iff_ne_none.mpr h)) hn
    · exact absurd (Or.inr (Or.inl (congrArg not h))) hn
    · exact absurd (Or.inr (Or.inr h)) hn
    · rw [h]

theorem txComplete_finishes {x : Sending} {f : Frame} (hs : (getPort s (gpnOf die port)).sending = some x)
    (hf : getFrame s x.copy.frame = some f) (hx : f.xfer = 0) (hp : f.poison = []) :
    EndsIn (.txComplete die port) s (finishCopy s (gpnOf die port) x.queue x.copy f) := by
  have hpo : firstPoison f x.copy.txLen = none := by
    unfold firstPoison
    rw [hp]
    rfl
  refine congrArg Host.Outcome.next ?_
  dsimp only
  rw [hs]
  dsimp only
  rw [hf]
  dsimp only
  rw [if_neg (not_not_intro hx), hpo]

theorem txUnderrun_aborts {sent : Nat} {x : Sending} {f : Frame} (hs : (getPort s (gpnOf die port)).sending = some x)
    (hf : getFrame s x.copy.frame = some f) (hc : x.copy.ct = true) (hx : f.xfer ≠ 0) (hp : sent ≤ presentBytes s f) :
    EndsIn (.txUnderrun die port sent) s (abortCopy s (gpnOf die port) x sent false) := by
  refine congrArg Host.Outcome.next ?_
  dsimp only
  rw [hs]
  dsimp only
  rw [hf]
  exact if_pos ⟨hc, hx, hp⟩

end

/-- Settles O30: the oldest offer by the outcome of its checks; the pick of a port by the age of the head copy; the end of a transmission,
whole or short; the head of the copy engine's requests. -/
theorem queuesAndTransmission : Obligations.QueuesAndTransmission := by
  unfold Obligations.QueuesAndTransmission
  intro s die port sent o rest q c cs p x f j js
  refine ⟨queueAdmission_admits, queueAdmission_refuses, fun hs hu hf hp hq => ⟨fun ha => ?_, fun ha => ?_⟩, schedulePick_idle,
    fun hs hf hx hp hn hm _ _ => ⟨_, txComplete_finishes hs hf hx hp, finishCopy_parts s hn hm⟩,
    fun hs hf hc hx hp hn => ⟨_, txUnderrun_aborts hs hf hc hx hp, abortCopy_parts s hf hn⟩, fun h => ⟨_, rfl, copyDone_jobs s h⟩⟩
  · have e := schedulePick_picks hs hu hf hp hq
    have hold : aged s q c = true := decide_eq_true (by omega)
    rwa [if_pos hold] at e
  · have e := schedulePick_picks hs hu hf hp hq
    have hnew : ¬aged s q c = true := ne_true_of_eq_false (decide_eq_false (by omega))
    rw [if_neg hnew] at e
    exact ⟨_, e, startCopy_parts s _ q c p⟩

end Sys2Proof.Proofs
end

section
/-! PROOF. What happens to the clocks (R34 to R38, R40 to R45): sources, corrections, the leap second. -/

namespace Sys2Proof.Proofs

open Sys2Proof.Machine Sys2Proof.Laws Sys2Proof.Safety Sys2Proof.Claims

/-! ## A loop over the dies -/

/-- A loop that treats each die once: what it makes of the value of one die, that value has in the end. -/
theorem foldl_at {β : Type} {f : State → Nat → State} {g : State → Nat → β} {upd : β → β} {l : List Nat} (hl : l.Nodup) {k : Nat}
    (same : ∀ s, g (f s k) k = upd (g s k)) (other : ∀ s, ∀ d ∈ l, k ≠ d → g (f s d) k = g s k) (s : State) :
    g (forEach l f s) k = if k ∈ l then upd (g s k) else g s k := by
  induction l generalizing s with
  | nil => rfl
  | cons d l ih =>
    obtain ⟨hd, hl⟩ := List.nodup_cons.mp hl
    have h := ih hl (fun s e he => other s e (List.mem_cons_of_mem d he)) (f s d)
    refine h.trans ?_
    by_cases hk : k = d
    · subst hk
      rw [if_neg hd, if_pos List.mem_cons_self, same]
    · rw [other s d List.mem_cons_self hk]
      exact if_congr (by rw [List.mem_cons, or_iff_right hk]) rfl rfl

/-! ## Fields of registers -/

theorem testBit_bitsOf (v lo w i : Nat) : (bitsOf v lo w).testBit i = (decide (i < w) && v.testBit (lo + i)) := by
  rw [bitsOf, Nat.testBit_mod_two_pow, Nat.testBit_div_two_pow, Nat.add_comm i lo]

theorem testBit_putBits (v lo w x i : Nat) : (putBits v lo w x).testBit i =
    if i < lo then v.testBit i else if i - lo < w then x.testBit (i - lo) else v.testBit i := by
  have hx : x % 2 ^ w < 2 ^ w := Nat.mod_lt _ (Nat.two_pow_pos _)
  have hv : v % 2 ^ lo < 2 ^ lo := Nat.mod_lt _ (Nat.two_pow_pos _)
  have he : putBits v lo w x = 2 ^ lo * (2 ^ w * (v / 2 ^ (lo + w)) + x % 2 ^ w) + v % 2 ^ lo := by
    rw [putBits, pow_add]
    ring
  rw [he, Nat.testBit_two_pow_mul_add _ hv, Nat.testBit_two_pow_mul_add _ hx]
  by_cases h : i < lo
  · rw [if_pos h, if_pos h, Nat.testBit_mod_two_pow, decide_eq_true h, Bool.true_and]
  · rw [if_neg h, if_neg h]
    by_cases h' : i - lo < w
    · rw [if_pos h', if_pos h', Nat.testBit_mod_two_pow, decide_eq_true h', Bool.true_and]
    · rw [if_neg h', if_neg h', Nat.testBit_div_two_pow, show i - lo - w + (lo + w) = i by omega]

/-- A field that is written reads back, and others stay. -/
theorem bitsOf_putBits {v lo w x W : Nat} (h : lo + w ≤ W) : bitsOf (putBits v lo w x % 2 ^ W) lo w = x % 2 ^ w := by
  refine Nat.eq_of_testBit_eq fun i => ?_
  rw [testBit_bitsOf, Nat.testBit_mod_two_pow, testBit_putBits, Nat.testBit_mod_two_pow, if_neg (by omega), Nat.add_sub_cancel_left]
  by_cases hi : i < w
  · rw [if_pos hi, decide_eq_true (by omega : lo + i < W), Bool.true_and]
  · rw [decide_eq_false hi, Bool.false_and, Bool.false_and]

theorem bitsOf_putBits_other {v lo w x W lo' w' : Nat} (h : lo' + w' ≤ lo ∨ lo + w ≤ lo') (hW : lo' + w' ≤ W) :
    bitsOf (putBits v lo w x % 2 ^ W) lo' w' = bitsOf v lo' w' := by
  refine Nat.eq_of_testBit_eq fun i => ?_
  rw [testBit_bitsOf, testBit_bitsOf, Nat.testBit_mod_two_pow, testBit_putBits]
  by_cases hi : i < w'
  · rw [decide_eq_true (by omega : lo' + i < W), Bool.true_and]
    by_cases hlo : lo' + i < lo
    · rw [if_pos hlo]
    · rw [if_neg hlo, if_neg (by omega)]
  · rw [decide_eq_false hi, Bool.false_and, Bool.false_and]

/-- A register written reads back, cut to its width. -/
theorem getR_setR_same (s : State) (r : RegName) (d i v : Nat) (hw : r.spec.width ≤ 80) : getR (setR s r d i v) r d i = v % 2 ^ r.spec.width := by
  have h : v % 2 ^ r.spec.width < 2 ^ 80 :=
    (Nat.mod_lt _ (Nat.two_pow_pos _)).trans_le (Nat.pow_le_pow_right (by decide) hw)
  refine (congrArg BitVec.toNat (kget_kset_same ..)).trans ?_
  rw [BitVec.toNat_ofNat, Nat.mod_eq_of_lt h]

/-- A field written on every die, as one die reads the register. -/
theorem getR_setFieldAll {s : State} {r : RegName} (hw : r.spec.width ≤ 80) {k : Nat} (hk : k < s.pkg.n) (lo w x : Nat) :
    getR (setFieldAll s r 0 lo w x) r k 0 = putBits (getR s r k 0) lo w x % 2 ^ r.spec.width := by
  refine (foldl_at (g := fun s k => getR s r k 0) (upd := fun v => putBits v lo w x % 2 ^ r.spec.width) List.nodup_range
    (fun s => getR_setR_same s r k 0 _ hw) (fun s d _ hne => ?_) s).trans (if_pos (List.mem_range.mpr hk))
  exact congrArg BitVec.toNat (kget_kset_ne _ _ _ _ _ _ (rkey_ne_of_die hne))

theorem getR_setFieldAll_other {r q : RegName} (hq : q.ctorIdx ≠ r.ctorIdx) {s : State} (hn : s.pkg.n ≤ 8) {d : Nat} (hd : d < 8) (lo w x : Nat) :
    getR (setFieldAll s r 0 lo w x) q d 0 = getR s q d 0 :=
  forEach_keeps (fun u => getR u q d 0) (fun e he u =>
    getR_setR_of_reg hq (by have := List.mem_range.mp he; omega) hd (by decide) (by decide) u _) s

theorem pkg_setFieldAll (s : State) (r : RegName) (lo w x : Nat) : (setFieldAll s r 0 lo w x).pkg = s.pkg :=
  forEach_keeps _ (fun _ _ _ => by rfl) s

theorem time_setFieldAll (s : State) (r : RegName) (lo w x : Nat) : (setFieldAll s r 0 lo w x).time = s.time :=
  forEach_keeps _ (fun _ _ _ => by rfl) s

/-! ## What leaves the time of the package -/

section
variable (s : State)

theorem time_record (d : Nat) (code src : Word) (ws : List Word) : (record s d code src ws).time = s.time :=
  (congrArg State.time (unrecorded_record s d code src ws) :)

theorem time_recordF (cls d : Nat) (code src : Word) (ws : List Word) : (recordF s cls d code src ws).time = s.time :=
  (congrArg State.time (unrecorded_recordF s cls d code src ws) :)

theorem time_guarBit (d now old : Nat) (a : Nat × State) (b : Nat) : (guarBit d now old a b).2.time = a.2.time := by
  unfold guarBit
  repeat' split
  all_goals rfl

theorem time_refreshGuar (d : Nat) : (refreshGuar s d).time = s.time := by
  have h (l : List Nat) (now old : Nat) (a : Nat × State) : (l.foldl (guarBit d now old) a).2.time = a.2.time :=
    foldl_keeps (fun a : Nat × State => a.2.time) (fun a b => time_guarBit d now old a b) l a
  have set (u : State) (v : Nat) : (setGuar u d v).time = u.time := by
    unfold setGuar
    dsimp only
    split
    · rfl
    · exact time_recordF ..
  unfold refreshGuar
  exact (set _ _).trans (h (List.range 14) (guarNow s d) (getR s .fltGuarantee d 0) (0, s))

theorem time_setStatus (lo w x : Nat) : (setStatus s lo w x).time = s.time := time_setFieldAll ..

theorem time_endHoldover : (endHoldover s).time = s.time := by
  unfold endHoldover
  split
  · rfl
  · exact forEach_keeps State.time (fun _ _ _ => by rfl) _

theorem time_enterHoldover (x : TimeSource) : (enterHoldover s x).time = s.time := by
  unfold enterHoldover
  split
  · rfl
  · exact (time_record ..).trans (time_setStatus ..)

/-- Choosing a source writes registers, marks and records. -/
theorem time_selectSource (x : TimeSource) : (selectSource s x).time = s.time := by
  unfold selectSource
  dsimp only
  split
  · rw [time_setStatus, time_setStatus, time_endHoldover]
  · split
    · rw [time_setStatus, time_setStatus, time_endHoldover]
    · rw [time_enterHoldover, time_setStatus]

/-- A source set: its own record alone. -/
theorem time_setSrc_ptp (v : Source) : (setSrc s .ptp v).time = { s.time with ptp := v } := time_refreshGuar ..
theorem time_setSrc_pps (v : Source) : (setSrc s .pps v).time = { s.time with pps := v } := time_refreshGuar ..

end

/-- The state without its schedule. -/
def offSched (s : State) : State := { s with time := { s.time with sched := [] } }

section
variable (s : State)

/-- The moving of the closes changes the schedule alone. -/
theorem offSched_moveCloses : offSched (moveCloses s) = offSched s := by
  refine forEach_keeps offSched (fun d _ u => ?_) s
  split
  · split <;> rfl
  · rfl

theorem ptp_moveCloses : (moveCloses s).time.ptp = s.time.ptp := (congrArg (fun u : State => u.time.ptp) (offSched_moveCloses s) :)

theorem leap_moveCloses : (moveCloses s).time.leap = s.time.leap := (congrArg (fun u : State => u.time.leap) (offSched_moveCloses s) :)

/-- The UTC offset and the leap second leave the PTP source. -/
theorem ptp_setUtc (o : Int) (a b : Bool) : (setUtc s o a b).time.ptp = s.time.ptp := by
  have status (u : State) (lo w x : Nat) : (setStatus u lo w x).time.ptp = u.time.ptp := congrArg TimeS.ptp (time_setStatus u lo w x)
  have leap (u : State) : (setLeap u a b).time.ptp = u.time.ptp := by
    have two (x y : Nat) (n : Int) : ({ setStatus (setStatus u 7 1 x) 8 1 y with
        time := { (setStatus (setStatus u 7 1 x) 8 1 y).time with leap := n } } : State).time.ptp = u.time.ptp :=
      (status _ 8 1 y).trans (status u 7 1 x)
    unfold setLeap
    dsimp only
    split
    · exact (ptp_moveCloses _).trans (two ..)
    · split
      · exact (ptp_moveCloses _).trans (two ..)
      · exact two ..
  have all : (setAll s .timeUtcOffset 0 (encInt 16 o)).time = s.time := forEach_keeps _ (fun _ _ _ => by rfl) s
  have h := (leap (setAll s .timeUtcOffset 0 (encInt 16 o))).trans (congrArg TimeS.ptp all)
  unfold setUtc
  dsimp only
  split
  · exact (ptp_moveCloses _).trans h
  · exact h

end

/-! ## Corrections (R40 to R43) -/

section
variable {s : State} {o : Int}

theorem correction_slews (h : stepSent s = false) (hl : -1000000 ≤ o) (hu : o ≤ 1000000) : Ends (.timeCorrection o) s (fun u =>
    u.time.correction = .slew o (leadMono s) ∧ u.time.offset = o ∧ u.time.clocks = s.time.clocks) := by
  refine ⟨_, congrArg Host.Outcome.next (if_neg (ne_true_of_eq_false h)), ?_, rfl, rfl⟩
  exact if_pos ⟨hl, hu⟩

theorem correction_steps (h : stepSent s = false) (ho : o < -1000000 ∨ 1000000 < o) : Ends (.timeCorrection o) s (fun u =>
    u.time.correction = .step o (leadMono s + 20000) ∧ u.time.clocks = s.time.clocks) := by
  refine ⟨_, congrArg Host.Outcome.next (if_neg (ne_true_of_eq_false h)), ?_, rfl⟩
  exact if_neg (by omega)

/-- The clock of a die after a step of `o`. -/
def stepped (o : Int) (c : Clock) : Clock := { c with tod := (c.tod + o).toNat, stime := max c.stime (c.tod + o).toNat }

/-- A step of the clock of one die, its marks and counters made: forward, or a freeze of STIME. -/
def moveClock (o : Int) (c : Clock) (d : Nat) (s : State) : State :=
  if (c.tod + o).toNat > c.stime then
    let s := setField (setClock s d { c with tod := (c.tod + o).toNat, stime := (c.tod + o).toNat }) .timeStatus d 0 2 1 0
    { s with time := { s.time with jumped := kset s.time.jumped d (c.stime, (c.tod + o).toNat) (0, 0) } }
  else refreshGuar (setField (setClock s d { c with tod := (c.tod + o).toNat }) .timeStatus d 0 2 1 1) d

/-- The marks of the minutes of a step, at the lead. -/
def markStep (a b d : Nat) (s : State) : State :=
  if d = s.pkg.lead then
    let s := setMark s 1 (minuteOf s a)
    if b > a then setMark s 1 (minuteOf s b) else s
  else s

theorem time_setField (s : State) (r : RegName) (d i lo w x : Nat) : (setField s r d i lo w x).time = s.time := rfl

theorem stepDie_eq (o : Int) (s : State) (d : Nat) : stepDie o s d = moveClock o (clock s d) d
    (markStep (clock s d).stime (((clock s d).tod : Int) + o).toNat d
      (setField s .timeStatus d 0 16 16 (satAdd 16 (fieldR s .timeStatus d 0 16 16) 1))) := rfl

theorem time_markStep (a b d : Nat) (s : State) : (markStep a b d s).time = s.time := by
  unfold markStep
  split
  · dsimp only
    split <;> rfl
  · rfl

theorem moveClock_parts (o : Int) (c : Clock) (d : Nat) (s : State) : (moveClock o c d s).time.correction = s.time.correction ∧
    (moveClock o c d s).time.clocks = kset s.time.clocks d (stepped o c) ⟨0, 0, 0⟩ := by
  unfold moveClock
  split
  · next h =>
    have hs : stepped o c = { c with tod := (c.tod + o).toNat, stime := (c.tod + o).toNat } := by
      unfold stepped
      rw [Nat.max_eq_right (Nat.le_of_lt h)]
    rw [hs]
    exact ⟨rfl, rfl⟩
  · next h =>
    have hs : stepped o c = { c with tod := (c.tod + o).toNat } := by
      unfold stepped
      rw [Nat.max_eq_left (Nat.not_lt.mp h)]
    rw [time_refreshGuar, hs]
    exact ⟨rfl, rfl⟩

/-- A step takes effect on one clock. -/
theorem stepDie_parts (o : Int) (s : State) (d : Nat) : (stepDie o s d).time.correction = s.time.correction ∧
    (stepDie o s d).time.clocks = kset s.time.clocks d (stepped o (clock s d)) ⟨0, 0, 0⟩ := by
  have ht (a b x : Nat) : (markStep a b d (setField s .timeStatus d 0 16 16 x)).time = s.time :=
    (time_markStep ..).trans (time_setField ..)
  obtain ⟨h1, h2⟩ := moveClock_parts o (clock s d) d (markStep (clock s d).stime (((clock s d).tod : Int) + o).toNat d
      (setField s .timeStatus d 0 16 16 (satAdd 16 (fieldR s .timeStatus d 0 16 16) 1)))
  rw [stepDie_eq, h1, h2, ht]
  exact ⟨rfl, rfl⟩

/-- A step that is due takes effect on every die. -/
theorem stepApply_steps {due : Nat} (h : s.time.correction = .step o due) (hd : due ≤ leadMono s) : Ends .stepApply s (fun u =>
    u.time.correction = .idle ∧ ∀ d, d < s.pkg.n → clock u d = stepped o (clock s d)) := by
  let v := recordK s s.pkg.lead 0x1001 (wordsOf 4 (encInt 64 o) ++ [if o > 0 then 1 else 2, nw (sourceInUse s)])
  let w : State := { v with time := { v.time with correction := .idle } }
  have hv : w.time.clocks = s.time.clocks := (congrArg TimeS.clocks (time_record s _ _ _ _) :)
  have hp : w.pkg = s.pkg := (congrArg State.pkg (unrecorded_record s _ _ _ _) :)
  refine ⟨forEach (allDies w) (stepDie o) w, congrArg Host.Outcome.next ?_, ?_, fun d hn => ?_⟩
  · rw [h]
    exact if_pos hd
  · exact forEach_keeps (fun u => u.time.correction) (fun d _ u => (stepDie_parts o u d).1) w
  · refine (foldl_at (g := clock) (upd := stepped o) List.nodup_range (fun u => ?_) (fun u e _ hne => ?_) w).trans ?_
    · unfold clock
      rw [(stepDie_parts o u d).2]
      exact kget_kset_same ..
    · unfold clock
      rw [(stepDie_parts o u e).2]
      exact kget_kset_ne _ _ _ _ _ _ hne
    · rw [if_pos (List.mem_range.mpr (hp ▸ hn))]
      unfold clock
      rw [hv]

theorem stepApply_waits {due : Nat} (h : s.time.correction = .step o due) (hd : leadMono s < due) : EndsIn .stepApply s s := by
  refine congrArg Host.Outcome.next ?_
  rw [h]
  exact if_neg (Nat.not_le.mpr hd)

theorem slewDone_idles {a : Nat} (h : s.time.correction = .slew 0 a) :
    EndsIn .slewDone s { s with time := { s.time with correction := .idle } } := by
  refine congrArg Host.Outcome.next ?_
  rw [h]
  rfl

/-- STIME runs on once TOD has passed it. -/
theorem freezeEnd_runs {die : Nat} (h : frozen s die = true) (ht : (clock s die).stime < (clock s die).tod) :
    Ends (.freezeEnd die) s (fun u => (clock u die).stime = (clock s die).tod ∧ (clock u die).tod = (clock s die).tod) := by
  have hc : clock (setField (setClock s die { clock s die with stime := (clock s die).tod }) .timeStatus die 0 2 1 0) die =
      { clock s die with stime := (clock s die).tod } := by
    unfold clock
    rw [time_setField]
    exact kget_kset_same ..
  refine ⟨_, congrArg Host.Outcome.next (if_pos ⟨h, ht⟩), ?_⟩
  beta_reduce
  rw [hc]
  exact ⟨rfl, rfl⟩

end

/-! ## Sources (R34 to R38) -/

section
variable {s : State}

theorem ptp_heard (s : State) : (heard s .ptp).time.ptp.valid = true ∧ (heard s .ptp).time.ptp.last = leadMono s := by
  unfold heard
  rw [time_setSrc_ptp]
  exact ⟨rfl, rfl⟩

theorem pps_heard (s : State) : (heard s .pps).time.pps.valid = true ∧ (heard s .pps).time.pps.last = leadMono s := by
  unfold heard
  rw [time_setSrc_pps]
  exact ⟨rfl, rfl⟩

theorem ptpMessage_hears {m : PtpMsg} (hc : m.clockClass < 187) (hm : m.sync = true) :
    Ends (.ptpMessageRx m) s (fun u => u.time.ptp.valid = true ∧ u.time.ptp.last = leadMono s) := by
  have h := ptp_heard s
  refine ⟨_, congrArg Host.Outcome.next (if_neg (Nat.not_le.mpr hc)), ?_⟩
  dsimp only
  rw [if_pos hm]
  split
  · split
    · rw [ptp_setUtc]
      exact h
    · exact h
  · exact h

theorem ptpMessage_loses {m : PtpMsg} (hc : 187 ≤ m.clockClass) : Ends (.ptpMessageRx m) s (fun u => u.time.ptp.valid = false) := by
  refine ⟨_, congrArg Host.Outcome.next (if_pos hc), ?_⟩
  split
  · rw [time_selectSource, time_setSrc_ptp]
  · next h => exact Bool.eq_false_iff.mpr h

theorem ppsEdge_hears {pin : Nat} (hf : pinFunction s pin = 1) (hp : bitsOf (srcCtl s) 6 1 = pin) :
    Ends (.ppsEdge pin) s (fun u => u.time.pps.valid = true ∧ u.time.pps.last = leadMono s) := by
  have h := pps_heard s
  refine ⟨_, congrArg Host.Outcome.next (if_pos ⟨hf, hp⟩), ?_⟩
  dsimp only
  split
  · split
    · exact h
    · unfold correct
      split <;> exact h
  · exact h

theorem sourceTimeout_ptp (h : s.time.ptp.valid = true) : Ends (.sourceTimeout .ptp) s (fun u => u.time.ptp.valid = false) := by
  refine ⟨_, congrArg Host.Outcome.next (if_pos h), ?_⟩
  beta_reduce
  rw [time_selectSource, time_setSrc_ptp]

theorem sourceTimeout_pps (h : s.time.pps.valid = true) (hl : s.time.pps.last + 1100000000 ≤ leadMono s) :
    Ends (.sourceTimeout .pps) s (fun u => u.time.pps.valid = false) := by
  refine ⟨_, congrArg Host.Outcome.next (if_pos (Bool.and_eq_true_iff.mpr ⟨h, decide_eq_true hl⟩)), ?_⟩
  beta_reduce
  rw [time_selectSource, time_setSrc_pps]

/-- A field of TIME.STATUS written on every die, as the lead shows it. -/
theorem status_setStatus (hk : s.pkg.lead < s.pkg.n) {lo w x : Nat} (h : lo + w ≤ 32) :
    fieldR (setStatus s lo w x) .timeStatus s.pkg.lead 0 lo w = x % 2 ^ w := by
  unfold fieldR setStatus
  rw [getR_setFieldAll (by decide) hk]
  exact bitsOf_putBits (W := 32) h

theorem status_setStatus_other (hk : s.pkg.lead < s.pkg.n) {lo w x lo' w' : Nat} (h : lo' + w' ≤ lo ∨ lo + w ≤ lo') (h' : lo' + w' ≤ 32) :
    fieldR (setStatus s lo w x) .timeStatus s.pkg.lead 0 lo' w' = fieldR s .timeStatus s.pkg.lead 0 lo' w' := by
  unfold fieldR setStatus
  rw [getR_setFieldAll (by decide) hk]
  exact bitsOf_putBits_other (W := 32) h h'

theorem pkg_endHoldover (s : State) : (endHoldover s).pkg = s.pkg := by
  unfold endHoldover
  split
  · rfl
  · exact forEach_keeps State.pkg (fun _ _ _ => by rfl) _

/-- The primary source, once ready, is the source in use, and holdover ends. -/
theorem sourceValid_selects {x : TimeSource} (hk : s.pkg.lead < s.pkg.n) (hx : srcOfCode (bitsOf (srcCtl s) 0 2) = x) (hr : srcReady s x = true) :
    Ends (.sourceValid x) s (fun u => sourceInUse u = srcCode x ∧ fieldR u .timeStatus s.pkg.lead 0 1 1 = 0) := by
  have hsel : selectSource s .none = setStatus (setStatus (endHoldover s) 4 2 (srcCode x)) 1 1 0 := by
    subst hx
    exact if_pos (Bool.or_eq_true_iff.mpr (.inl hr))
  have hp : (endHoldover s).pkg = s.pkg := pkg_endHoldover s
  generalize endHoldover s = e at hsel hp
  have hq : (setStatus e 4 2 (srcCode x)).pkg = s.pkg := (pkg_setFieldAll ..).trans hp
  have hq' : (setStatus (setStatus e 4 2 (srcCode x)) 1 1 0).pkg = s.pkg := (pkg_setFieldAll ..).trans hq
  have hcode : srcCode x % 2 ^ 2 = srcCode x := by cases x <;> rfl
  refine ⟨_, congrArg Host.Outcome.next ((if_pos hr).trans hsel), ?_, ?_⟩
  · have h1 := status_setStatus (s := e) (by rw [hp]; exact hk) (lo := 4) (w := 2) (x := srcCode x) (by decide)
    have h2 := status_setStatus_other (s := setStatus e 4 2 (srcCode x)) (by rw [hq]; exact hk) (lo := 1) (w := 1) (x := 0)
      (lo' := 4) (w' := 2) (by decide) (by decide)
    rw [hp] at h1
    rw [hq] at h2
    unfold sourceInUse
    rw [hq', h2, h1, hcode]
  · have h := status_setStatus (s := setStatus e 4 2 (srcCode x)) (by rw [hq]; exact hk) (lo := 1) (w := 1) (x := 0) (by decide)
    rw [hq] at h
    exact h

/-- Both sources are valid and the comparison is on. -/
theorem xcheck_on (hp : s.time.ptp.valid = true) (hq : s.time.pps.valid = true) (hx : bitsOf (srcCtl s) 8 8 ≠ 0) :
    ¬((!s.time.ptp.valid) = true ∨ (!s.time.pps.valid) = true ∨ bitsOf (srcCtl s) 8 8 = 0) := by
  rw [hp, hq]
  rintro (h | h | h)
  · cases h
  · cases h
  · exact hx h

/-- PTP and PPS that differ by more than the limit. -/
theorem xcheck_fails {o : Int} (hp : s.time.ptp.valid = true) (hq : s.time.pps.valid = true) (hx : bitsOf (srcCtl s) 8 8 ≠ 0)
    (ho : bitsOf (srcCtl s) 8 8 * 10 < o.natAbs) : Ends (.xcheck o) s (fun u => u.time.xfail = s.time.xfail + 1 ∧ u.time.xpass = 0) := by
  refine ⟨_, congrArg Host.Outcome.next ((if_neg (xcheck_on hp hq hx)).trans (if_pos ho)), ?_⟩
  dsimp only
  split
  · rw [time_recordF, time_setStatus]
    exact ⟨rfl, rfl⟩
  · exact ⟨rfl, rfl⟩

theorem xcheck_passes {o : Int} (hp : s.time.ptp.valid = true) (hq : s.time.pps.valid = true) (hx : bitsOf (srcCtl s) 8 8 ≠ 0)
    (ho : o.natAbs ≤ bitsOf (srcCtl s) 8 8 * 10) : Ends (.xcheck o) s (fun u => u.time.xfail = 0 ∧ u.time.xpass = s.time.xpass + 1) := by
  refine ⟨_, congrArg Host.Outcome.next ((if_neg (xcheck_on hp hq hx)).trans (if_neg (Nat.not_lt.mpr ho))), ?_⟩
  dsimp only
  split
  · rw [time_setStatus]
    exact ⟨rfl, rfl⟩
  · exact ⟨rfl, rfl⟩

/-! ## The leap second (R45) -/

theorem getR_setAll (s : State) {r : RegName} (hw : r.spec.width ≤ 80) {k : Nat} (hk : k < s.pkg.n) (v : Nat) :
    getR (setAll s r 0 v) r k 0 = v % 2 ^ r.spec.width := by
  have one (s : State) : getR (setR s r k 0 v) r k 0 = v % 2 ^ r.spec.width := getR_setR_same s r k 0 v hw
  refine (foldl_at (f := fun s d => setR s r d 0 v) (g := fun s k => getR s r k 0) (upd := fun _ => v % 2 ^ r.spec.width) List.nodup_range
    one (fun s d _ hne => ?_) s).trans (if_pos (List.mem_range.mpr hk))
  exact congrArg BitVec.toNat (kget_kset_ne _ _ _ _ _ _ (rkey_ne_of_die hne))

/-- A two's-complement number of 16 bits reads back. -/
theorem toInt_encInt {o : Int} (hl : -32768 ≤ o) (hu : o < 32768) : (BitVec.ofNat 16 (encInt 16 o % 2 ^ 32)).toInt = o := by
  have he : ((encInt 16 o % 2 ^ 32 : Nat) : Int) = o % 65536 := by
    unfold encInt
    have h0 := Int.emod_nonneg o (show (65536 : Int) ≠ 0 by decide)
    have h1 := Int.emod_lt_of_pos o (show (0 : Int) < 65536 by decide)
    rw [show ((2 ^ 16 : Nat) : Int) = 65536 from rfl]
    omega
  rw [BitVec.toInt_ofNat', he, Int.bmod_def]
  split <;> omega

/-- A leap second that is not pending is cleared without moving the closes. -/
theorem setLeap_clear {w : State} (h : w.time.leap = 0) : setLeap w false false =
    { setStatus (setStatus w 7 1 0) 8 1 0 with time := { (setStatus (setStatus w 7 1 0) 8 1 0).time with leap := 0 } } :=
  (if_neg (by decide)).trans (if_neg (not_not_intro h))

/-- The UTC offset set, with no leap second pending. -/
theorem setUtc_offset {v : State} (hk : v.pkg.lead < v.pkg.n) (hn : v.pkg.n ≤ 8) (h0 : v.time.leap = 0) {o : Int} (hl : -32768 ≤ o) (hu : o < 32768) :
    (setUtc v o false false).time.leap = 0 ∧ utcOffset (setUtc v o false false) = o := by
  let a := setAll v .timeUtcOffset 0 (encInt 16 o)
  let b := setStatus (setStatus a 7 1 0) 8 1 0
  let c : State := { b with time := { b.time with leap := 0 } }
  have hpa : a.pkg = v.pkg := pkg_setAll v .timeUtcOffset (encInt 16 o)
  have hpb : b.pkg = v.pkg := (pkg_setFieldAll ..).trans ((pkg_setFieldAll ..).trans hpa)
  have hla : a.time.leap = 0 := (congrArg TimeS.leap (forEach_keeps State.time (fun _ _ _ => by rfl) v)).trans h0
  have hleap : setLeap a false false = c := setLeap_clear hla
  have hoff : utcOffset c = o := by
    have h1 : getR a .timeUtcOffset v.pkg.lead 0 = encInt 16 o % 2 ^ 32 := getR_setAll v (by decide) hk _
    have h2 : getR b .timeUtcOffset v.pkg.lead 0 = getR a .timeUtcOffset v.pkg.lead 0 := by
      have hk8 : v.pkg.lead < 8 := by omega
      have hs : (setStatus a 7 1 0).pkg = v.pkg := (pkg_setFieldAll ..).trans hpa
      exact (getR_setFieldAll_other (by decide) (by rw [hs]; exact hn) hk8 8 1 0).trans
        (getR_setFieldAll_other (by decide) (by rw [hpa]; exact hn) hk8 7 1 0)
    have h3 : utcOffset c = (BitVec.ofNat 16 (getR b .timeUtcOffset b.pkg.lead 0)).toInt := rfl
    rw [h3, hpb, h2, h1, toInt_encInt hl hu]
  have hmoved : utcOffset (moveCloses c) = utcOffset c := (congrArg utcOffset (offSched_moveCloses c) :)
  unfold setUtc
  dsimp only
  rw [show setLeap (setAll v .timeUtcOffset 0 (encInt 16 o)) false false = c from hleap]
  split
  · exact ⟨leap_moveCloses c, hmoved.trans hoff⟩
  · exact ⟨rfl, hoff⟩

/-- A leap second that is due takes effect. -/
theorem leapSecond_applies (hk : s.pkg.lead < s.pkg.n) (hn : s.pkg.n ≤ 8) (h0 : s.time.leap ≠ 0)
    (hl : s.time.leap ≤ (stime s s.pkg.lead / nsPerS : Nat)) (ho : -1000 < utcOffset s) (ho' : utcOffset s < 1000) :
    Ends .leapSecond s (fun u => u.time.leap = 0 ∧
      utcOffset u = utcOffset s + (if fieldR s .timeStatus s.pkg.lead 0 8 1 = 1 then -1 else 1)) := by
  refine ⟨_, congrArg Host.Outcome.next (if_pos ⟨h0, hl⟩), ?_⟩
  refine setUtc_offset (v := { s with time := { s.time with lastLeap := (s.time.leap, utcOffset s), leap := 0 } }) hk hn rfl ?_ ?_
  all_goals
    rw [show utcOffset { s with time := { s.time with lastLeap := (s.time.leap, utcOffset s) } } = utcOffset s from rfl]
    split <;> omega

end

/-! ## The alignment of followers (R37) -/

/-- The registers of the clocks say what TIME.STATUS shows. -/
theorem getR_of_clockRegs {s t : State} (h : clockRegs t.regs = clockRegs s.regs) {r : RegName} (hr : r.ctorIdx < 4) {d : Nat} (hd : d < 8) :
    getR t r d 0 = getR s r d 0 := by
  have hk : rkey r d 7 0 < 4 * 8 * 8 * 1048576 := by
    unfold rkey
    omega
  unfold getR getRS
  rw [← kget_clockRegs t.regs hk, h, kget_clockRegs s.regs hk]

section
variable (s : State)

theorem clockRegs_cnt {r : RegName} (h : 4 ≤ r.ctorIdx) (d i : Nat) : clockRegs (cnt s r d i).regs = clockRegs s.regs :=
  clockRegs_setRS s h d 7 i _

theorem clockRegs_recordK (d : Nat) (code : Word) (ws : List Word) : clockRegs (recordK s d code ws).regs = clockRegs s.regs :=
  (congrArg State.regs (unrecorded_record s d code (keeperId d) ws) :)

theorem clockRegs_flushGpn (g : Nat) : clockRegs (flushGpn s g).regs = clockRegs s.regs := (congrArg State.regs (offTables_flushGpn s g) :)

theorem clockRegs_refreshGroups : clockRegs (refreshGroups s).regs = clockRegs s.regs := (congrArg State.regs (offGroups_refreshGroups s) :)

theorem regs_dropCopy (q : Nat) (c : QCopy) : (dropCopy s q c).regs = s.regs := by
  obtain ⟨p, e⟩ := endShare_eq_path (clearDeficits (setQueue s q ((getQueue s q).filter (fun x => x.id ≠ c.id))) q) c.frame (.copy c.id)
  exact (congrArg State.regs e).trans rfl

theorem regs_endLostXfer (xf f : Nat) : (endLostXfer s xf f).regs = s.regs := by
  unfold endLostXfer
  repeat' split
  all_goals rfl

theorem clockRegs_discardCopy (code q : Nat) (c : QCopy) : clockRegs (discardCopy code q s c).regs = clockRegs s.regs := by
  have hr : 4 ≤ (discReg code).ctorIdx := by
    unfold discReg
    split <;> decide
  have two (d i p : Nat) : clockRegs (cnt (cnt s .qmCntDiscard d i) (discReg code) d p).regs = clockRegs s.regs :=
    (clockRegs_cnt _ hr _ _).trans (clockRegs_cnt s (by decide) _ _)
  unfold discardCopy
  dsimp only
  rw [regs_endLostXfer, regs_dropCopy]
  exact two ..

theorem clockRegs_flushQueues (g : Nat) : clockRegs (flushQueues s g).2.regs = clockRegs s.regs := by
  have all (s : State) (q : Nat) : clockRegs (discardAll s q 2 (fun _ => true)).2.regs = clockRegs s.regs :=
    foldl_keeps (fun s : State => clockRegs s.regs) (fun s c => clockRegs_discardCopy s 2 q c) _ s
  exact foldl_keeps (fun a : Nat × State => clockRegs a.2.regs) (fun a q => by exact all a.2 q) _ (0, s)

theorem clockRegs_enterDown (g : Nat) : clockRegs (enterDown s g).regs = clockRegs s.regs := by
  have port (u : State) : clockRegs (cnt (modPort u g fun p => { p with link := .down }) .egrCntFlush (gpnDie g) (gpnPort g)).regs =
    clockRegs u.regs := clockRegs_cnt _ (by decide) _ _
  rw [enterDown_eq, clockRegs_recordK, clockRegs_flushGpn, port, clockRegs_flushQueues]

theorem clockRegs_abortCopy (g : Nat) (x : Sending) (n : Nat) (lost : Bool) :
    clockRegs (abortCopy s g x n lost).regs = clockRegs s.regs := by
  have hr : 4 ≤ (if lost = true then RegName.egrCntTxAbort else .egrCntUnderrun).ctorIdx := by cases lost <;> decide
  have counted (u : State) : clockRegs (cnt u (if lost = true then .egrCntTxAbort else .egrCntUnderrun) (gpnDie g) (gpnPort g)).regs =
    clockRegs u.regs := clockRegs_cnt u hr _ _
  have tally (u : State) (d t m b : Nat) : (hwCount u d t m b).regs = u.regs := rfl
  unfold abortCopy
  dsimp only
  rw [regs_endLostXfer, regs_dropCopy, tally, clockRegs_recordK, counted]
  rfl

theorem clockRegs_leaveUp (g n : Nat) : clockRegs (leaveUp s g n).regs = clockRegs s.regs := by
  have stop (s : State) (c : Nat) : clockRegs (endStop s g c).regs = clockRegs s.regs := by
    have h : clockRegs (countStopped s g c).regs = clockRegs s.regs := by
      unfold countStopped
      dsimp only
      split
      · exact clockRegs_setRS s (by decide) ..
      · rfl
    exact h
  have stops (u : State) : clockRegs (forEach (List.range 8) (fun s c => endStop s g c) u).regs = clockRegs u.regs :=
    foldl_keeps (fun s : State => clockRegs s.regs) stop _ u
  have hold (u : State) (t : Nat) : clockRegs (modPort u g fun p => { p with holdSince := t }).regs = clockRegs u.regs := rfl
  unfold leaveUp
  dsimp only
  rw [hold, stops]
  split
  · exact clockRegs_abortCopy ..
  · rfl

theorem clockRegs_enterUp (g : Nat) : clockRegs (enterUp s g).regs = clockRegs s.regs := by
  unfold enterUp
  exact clockRegs_recordK ..

/-- A port brought into line with its link writes no register of the clocks. -/
theorem clockRegs_settlePort (g : Nat) : clockRegs (settlePort s g).regs = clockRegs s.regs := by
  have free (u : State) (n : Nat) : clockRegs (leaveUp { u with free := u.free + 1 } g n).regs = clockRegs u.regs := clockRegs_leaveUp ..
  unfold settlePort
  dsimp only
  split
  · split
    · rw [clockRegs_refreshGroups, clockRegs_enterDown, free]
    · exact clockRegs_enterDown ..
    · rfl
  · split
    · rw [clockRegs_refreshGroups, clockRegs_enterUp]
    · rfl

theorem linkSide_settlePort_ne {g k : Nat} (hne : k ≠ g) : linkSide (settlePort s g) k = linkSide s k := by
  have down (u : State) : linkSide (enterDown u g) k = linkSide u k := (linkSide_enterDown u g k).trans (if_neg hne)
  have leave (n : Nat) : linkSide (leaveUp { s with free := s.free + 1 } g n) k = linkSide s k := (linkSide_leaveUp _ g n k).trans (if_neg hne)
  have up : linkSide (enterUp s g) k = linkSide s k := (linkSide_enterUp s g k).trans (if_neg hne)
  unfold settlePort
  dsimp only
  split
  · split
    · rw [linkSide_refreshGroups, down, leave]
    · exact down s
    · rfl
  · split
    · rw [linkSide_refreshGroups, up]
    · rfl

/-- A port that nothing enables is DOWN once it has been brought into line. -/
theorem settlePort_down {g : Nat} (h : admin s g = false) : (getPort (settlePort s g) g).link = .down := by
  have down (u : State) : (linkSide (enterDown u g) g).2.2 = .down :=
    congrArg (fun y : Bool × Option Sending × LinkState => y.2.2) ((linkSide_enterDown u g g).trans (if_pos rfl))
  have key : (linkSide (settlePort s g) g).2.2 = .down := by
    unfold settlePort
    dsimp only
    rw [if_pos (by rw [h]; rfl)]
    split
    · rw [linkSide_refreshGroups]
      exact down _
    · exact down s
    · next hl => exact hl
  exact key

/-- Every front port of a die that is held for its alignment is DOWN once the die's ports have been brought into line. -/
theorem settlePorts_down {die : Nat} (hd : die < 8) (h : fieldR s .timeStatus die 0 9 1 = 1) {p : Nat} (hp : p < 32) :
    (getPort (settlePorts s die) (gpnOf die p)).link = .down := by
  have hin (u : State) (hu : clockRegs u.regs = clockRegs s.regs) : admin u (gpnOf die p) = false := by
    have hf : fieldR u .timeStatus die 0 9 1 = 1 := by
      unfold fieldR at h ⊢
      rw [getR_of_clockRegs hu (by decide) hd, h]
    have hg : isHostPort (gpnOf die p) = false := by
      unfold isHostPort gpnOf
      rw [if_pos hp]
      exact decide_eq_false (by omega)
    have hheld : held u (gpnOf die p) = true := by
      unfold held
      dsimp only
      rw [hg, if_neg Bool.false_ne_true, gpnDie_gpnOf hd (Nat.le_of_lt hp), hf]
      simp
    unfold admin
    rw [hheld]
    exact Bool.and_false _
  have key (l : List Nat) (u : State) (hl : ∀ q ∈ l, q ≤ 32) (hu : clockRegs u.regs = clockRegs s.regs)
      (hm : p ∈ l ∨ (getPort u (gpnOf die p)).link = .down) :
      (getPort (forEach l (fun s p => settlePort s (gpnOf die p)) u) (gpnOf die p)).link = .down := by
    induction l generalizing u with
    | nil => exact hm.resolve_left List.not_mem_nil
    | cons q l ih =>
      refine ih (settlePort u (gpnOf die q)) (fun r hr => hl r (List.mem_cons_of_mem q hr)) ((clockRegs_settlePort ..).trans hu) ?_
      by_cases hpq : p = q
      · exact .inr (hpq ▸ settlePort_down u (hin u hu))
      · refine hm.imp (fun h => (List.mem_cons.mp h).resolve_left hpq) (Eq.trans ?_)
        have hne : gpnOf die p ≠ gpnOf die q := fun e => hpq (by
          rw [← gpnPort_gpnOf hd (Nat.le_of_lt hp), e, gpnPort_gpnOf hd (hl q List.mem_cons_self)])
        exact congrArg (fun y : Bool × Option Sending × LinkState => y.2.2) (linkSide_settlePort_ne u hne)
  have hports : ∀ q ∈ portsOf die, q ≤ 32 := fun q hq => by
    unfold portsOf at hq
    have := List.mem_range.mp hq
    split at this <;> omega
  refine key (portsOf die) s hports rfl (.inl ?_)
  unfold portsOf
  exact List.mem_range.mpr (by split <;> omega)

end

/-- A follower's error above 1 µs holds its front ports down. -/
theorem alignFault_holds {s : State} {die : Nat} {err : Int} (he : 1000 < err.natAbs) (hd : die ≠ s.pkg.lead) (hu : usable s die = true)
    (hf : fieldR s .timeStatus die 0 9 1 = 0) : Ends (.alignFault die err) s (fun u => ∀ p, p < 32 → (getPort u (gpnOf die p)).link = .down) := by
  refine ⟨_, congrArg Host.Outcome.next (if_pos ⟨he, hd, hu, hf⟩), fun p hp => ?_⟩
  have hset : fieldR (setField s .timeStatus die 0 9 1 1) .timeStatus die 0 9 1 = 1 := by
    unfold fieldR setField
    rw [getR_setR_same _ _ _ _ _ (by decide)]
    exact bitsOf_putBits (W := 32) (by decide)
  rw [getPort_recordK]
  exact settlePorts_down _ (lt_of_usable hu) hset hp

/-- Settles O31: each source, correction and leap by what it writes of the package's time, of TIME.STATUS and of TIME.UTC_OFFSET; an alignment
fault by the port that it holds. -/
theorem timeHappenings : Obligations.TimeHappenings := by
  unfold Obligations.TimeHappenings
  intro s die pin o err m x
  refine ⟨correction_slews, correction_steps, fun h => congrArg Host.Outcome.next (if_pos h), fun _ => slewDone_idles, fun due h hd _ _ => ?_,
    fun _ => stepApply_waits, freezeEnd_runs, ptpMessage_hears, ptpMessage_loses, ppsEdge_hears,
    fun h => congrArg Host.Outcome.next (if_neg fun h' => h h'.1), fun hr hf hz ht hl => ⟨_, congrArg Host.Outcome.next (if_pos ?_), rfl⟩,
    sourceTimeout_ptp, sourceTimeout_pps, fun hs => sourceValid_selects hs.1, fun hp hq hx => ⟨xcheck_fails hp hq hx, xcheck_passes hp hq hx⟩,
    fun hs => leapSecond_applies hs.1 hs.2, fun he hd hu => congrArg Host.Outcome.next (if_pos ⟨he, hd, hu⟩),
    fun he hd hu hf _ _ => alignFault_holds he hd hu hf, fun hu hf => congrArg Host.Outcome.next (if_pos ⟨hu, hf⟩)⟩
  · obtain ⟨u, e, hi, hc⟩ := stepApply_steps h hd
    refine ⟨u, e, hi, fun d hn => ?_⟩
    rw [hc d hn]
    exact ⟨rfl, rfl, rfl⟩
  · exact ⟨hr, hf, congrArg not hz, ht, hl⟩

end Sys2Proof.Proofs
end

section
/-! PROOF. Firings of the schedule, and alarms (R46 to R50). -/

namespace Sys2Proof.Proofs

open Sys2Proof.Machine Sys2Proof.Laws Sys2Proof.Safety Sys2Proof.Claims

section
variable {s s1 : State} {die : Nat}

theorem firedOf_setFired (s : State) (d : Nat) (l : List Fired) : firedOf (setFired s d l) d = l := kget_kset_same ..

theorem getSched_setSched (s : State) (d i : Nat) (x : Option SchedEntry) : getSched (setSched s d i x) d i = x := kget_kset_same ..

/-- A leap second moves the closes alone. -/
theorem leapMoved_of_ne (s : State) (e : SchedEntry) (h : e.action ≠ 2) : leapMoved s e = e := by
  have hs : leapShift s e = 0 := if_neg fun h' => h h'.1
  unfold leapMoved
  rw [hs, Int.add_zero, Int.toNat_natCast]

/-- An entry that no step jumped over fires once, in time. -/
theorem fireEntry_parts {i : Nat} {e : SchedEntry} (h : ¬((jumped s die).1 < e.t ∧ e.t ≤ (jumped s die).2)) :
    firedOf (fireEntry s die i e) die = firedOf s die ++ [⟨e.action, e.t, stime s die, false, 1, e⟩] ∧
    (e.periodic = false → getSched (fireEntry s die i e) die i = none) ∧
    (e.periodic = true → e.action ≠ 2 →
      getSched (fireEntry s die i e) die i = some { e with t := e.t + e.period * 1000, late := false }) := by
  have hl : (decide ((jumped s die).1 < e.t) && decide (e.t ≤ (jumped s die).2)) = false := by
    rw [← Bool.decide_and]
    exact decide_eq_false h
  have hn (p m : Nat) : (if false = true ∧ e.periodic = true then p / m + 1 else 1) = 1 := if_neg fun h => Bool.false_ne_true h.1
  unfold fireEntry
  dsimp only
  rw [hl, hn]
  refine ⟨?_, fun hp => ?_, fun hp ha => ?_⟩
  · split <;> exact firedOf_setFired ..
  · rw [if_neg (ne_true_of_eq_false hp)]
    exact getSched_setSched ..
  · rw [if_pos hp, getSched_setSched, leapMoved_of_ne _ { e with t := e.t + 1 * (e.period * 1000), late := false } ha, Nat.one_mul]

theorem schedFire_fires {i : Nat} {e : SchedEntry}
    (h : firstEntry ((entriesOf s die).filter (fun e => decide (e.2.t ≤ stime s die))) = some (i, e)) :
    EndsIn (.schedFire die) s (fireEntry s die i e) := by
  refine congrArg Host.Outcome.next ?_
  rw [h]

theorem schedFire_idle (h : firstEntry ((entriesOf s die).filter (fun e => decide (e.2.t ≤ stime s die))) = none) :
    EndsIn (.schedFire die) s s := by
  refine congrArg Host.Outcome.next ?_
  rw [h]

/-- A firing that its act takes leaves the others. -/
theorem takeFired_eq {a : Nat} {f : Fired} (h : takeFired s die a = some (f, s1)) : s1 = setFired s die ((firedOf s die).erase f) := by
  unfold takeFired at h
  split at h
  · next g hg =>
    obtain ⟨rfl, rfl⟩ := Prod.mk.inj (Option.some.inj h)
    rfl
  · cases h

/-- The alarm that a firing posts. -/
def alarmItem (s : State) (d : Nat) (f : Fired) : Item := plainItem s d .alarm f.entry.domain f.entry.prio f.late (alarmArgs f) 0

theorem programAlarm_idle (h : takeFired s die 0x10 = none) : EndsIn (.programAlarm die) s s := by
  refine congrArg Host.Outcome.next ?_
  rw [h]

theorem programAlarm_posts {f : Fired} {aq : Nat} (haq : aq = f.entry.domain * 8 + f.entry.prio) (h : takeFired s die 0x10 = some (f, s1)) :
    EndsIn (.programAlarm die) s (if alarmsAt s die aq = [] ∧ (!heldBack s die aq) = true then enterAlarm s1 die (alarmItem s1 die f)
      else setAlarms s1 die aq (alarmsAt s die aq ++ [alarmItem s1 die f])) := by
  obtain rfl := takeFired_eq h
  subst haq
  refine congrArg Host.Outcome.next ?_
  rw [h]
  rfl

theorem time_enqueue (s : State) (d : Nat) (it : Item) : (enqueue s d it).time = s.time := by
  have hwm (u : State) (q : Nat) : (noteHwm u d q).time = u.time := by
    unfold noteHwm
    dsimp only
    split <;> rfl
  exact (hwm _ _).trans rfl

/-- A queue that accepts items takes the alarm at once. -/
theorem programAlarm_enters {f : Fired} {aq : Nat} (haq : aq = f.entry.domain * 8 + f.entry.prio) (h : takeFired s die 0x10 = some (f, s1))
    (ha : alarmsAt s die aq = []) (hb : heldBack s die aq = false) : Ends (.programAlarm die) s (fun u =>
      firedOf u die = (firedOf s die).erase f ∧ (getWq u die aq).items.length = (getWq s die aq).items.length + 1) := by
  have e := programAlarm_posts haq h
  rw [if_pos ⟨ha, congrArg not hb⟩] at e
  refine ⟨_, e, ?_, ?_⟩
  · unfold enterAlarm firedOf
    rw [time_enqueue, takeFired_eq h]
    exact firedOf_setFired ..
  · subst haq
    rw [takeFired_eq h]
    exact (enqueue_parts (setFired s die ((firedOf s die).erase f)) die _).2.2.2

/-- While its queue holds back, the alarm waits at the schedule. -/
theorem programAlarm_waits {f : Fired} {aq : Nat} (haq : aq = f.entry.domain * 8 + f.entry.prio) (h : takeFired s die 0x10 = some (f, s1))
    (hb : heldBack s die aq = true) : Ends (.programAlarm die) s (fun u =>
      (alarmsAt u die aq).length = (alarmsAt s die aq).length + 1 ∧ getWq u die aq = getWq s die aq) := by
  have e := programAlarm_posts haq h
  rw [if_neg fun h' => by rw [hb] at h'; cases h'.2] at e
  have hset (l : List Item) : alarmsAt (setAlarms s1 die aq l) die aq = l := kget_kset_same ..
  refine ⟨_, e, ?_, ?_⟩
  · rw [hset, List.length_append]
    rfl
  · rw [takeFired_eq h]
    rfl

theorem alarmDeliver_enters {q : Nat} {it : Item} {rest : List Item}
    (h : (List.range 128).find? (fun q => decide (alarmsAt s die q ≠ []) && !heldBack s die q) = some q)
    (hq : alarmsAt s die q = it :: rest) : EndsIn (.alarmDeliver die) s
      (enqueue (setAlarms s die q rest) die { it with gslot := (slotAt s die (stime s die)).getD 0 }) := by
  refine congrArg Host.Outcome.next ?_
  rw [h]
  dsimp only
  rw [hq]
  rfl

end

/-- Settles O32: a firing by whether its entry recurs; a fired alarm by whether its queue holds back. -/
theorem scheduleAndAlarms : Obligations.ScheduleAndAlarms := by
  unfold Obligations.ScheduleAndAlarms
  intro s s1 die i q e f it rest
  refine ⟨schedFire_idle, fun h hj => ⟨fun hp => ?_, fun hp ha => ?_⟩, programAlarm_idle, programAlarm_enters rfl, programAlarm_waits rfl,
    alarmDeliver_enters⟩
  · obtain ⟨hf, h1, -⟩ := fireEntry_parts hj
    exact ⟨_, schedFire_fires h, h1 hp, hf⟩
  · obtain ⟨hf, -, h2⟩ := fireEntry_parts hj
    exact ⟨_, schedFire_fires h, h2 hp ha, hf⟩

end Sys2Proof.Proofs
end

section
/-! PROOF. Learning: the counterexample of a table number that is no table's (R220, R221). -/

namespace Sys2Proof.Proofs

open Sys2Proof.Machine Sys2Proof.Laws Sys2Proof.Safety Sys2Proof.Claims

/-- A number far above those of the 64 tables: in slot 0 of die 0, the cell of its TBL.DESC0 is that of LRN.CNT_LEARN. -/
def strayTable : Nat := rkey .lrnCntLearn 0 7 0 - rkey .tblDesc0 0 0 0

/-- A learn for that number: its key and action fit a table with a key of two words. -/
def strayLearn : LearnReq := ⟨true, 9, 0, strayTable, false, [1, 2], [3, 0, 0, 1]⟩

/-- The learned entry that holds its key and port. -/
def strayEntry : Entry := ⟨15, false, true, true, false, false, 0, 0, strayTable, [1, 2], [3, 0, 0, 0], false⟩

/-- Die 0 with slot 0 CURRENT, the number described and enabled as a table, its entry, and the learn at the head of the FIFO. -/
def strayState : State :=
  let s := setField State.reset .genSlot0 0 0 0 3 4
  let s := setRS (setRS s .tblDesc0 0 0 strayTable (1 + 2 * 32 + 1024)) .lrnTblCfg 0 0 strayTable 1
  setLearnFifo (setEntry s 0 (some strayEntry)) 0 [strayLearn]

set_option maxRecDepth 4000 in
/-- The number reads as an enabled table, whose search finds the entry of the learn's key. -/
theorem strayLearn_finds : (curDesc strayState 0 strayTable).en = true ∧ lrnOn (lrnCfg strayState 0 strayTable) = true ∧
    strayLearn.key.length = (curDesc strayState 0 strayTable).keyWords ∧ strayLearn.action.length = descA (curDesc strayState 0 strayTable) ∧
    metUncorr strayState 0 (curDesc strayState 0 strayTable) (maskKey (curDesc strayState 0 strayTable) strayLearn.key) = none ∧
    foundAt strayState 0 (curDesc strayState 0 strayTable) (maskKey (curDesc strayState 0 strayTable) strayLearn.key) = [(0, strayEntry)] := by
  refine ⟨by decide, by decide, by decide, by decide, by decide, by decide⟩

set_option maxRecDepth 4000 in
/-- Counting the learn turns the number's descriptor off before the engine reads it, so that the entry keeps its action. -/
theorem strayLearn_unwritten : getEntry (performLearn (setLearnFifo strayState 0 []) 0 strayLearn) 0 = some strayEntry := by decide

/-- Refutes O34: a learn whose table number lies so far above 63 that the cell of its descriptor is that of LRN.CNT_LEARN. The model counts the
learn first, which clears the descriptor's EN, and then refuses the learn. -/
theorem not_learning : ¬ Obligations.Learning := by
  unfold Obligations.Learning
  intro h
  obtain ⟨-, hlearn, -⟩ := h strayState strayState 0 0 0 0 strayLearn [] strayEntry [] [] ⟨0, [], 0, 0, none⟩ 0
    ⟨0, 0, 0, false, 0, sysEntry 0 false 0 0 0⟩ (plainItem State.reset 0 .assist 0 0 false [] 0) []
  obtain ⟨hen, hon, hkey, haction, hsound, hfound⟩ := strayLearn_finds
  obtain ⟨u, e, -, hu⟩ := hlearn (by decide) (by decide) hen hon (.inl rfl) hkey haction hsound hfound rfl rfl (by decide) (by decide) (by decide)
  have hstep : exec (.learnPerform 0) strayState = .next (performLearn (setLearnFifo strayState 0 []) 0 strayLearn) := rfl
  obtain rfl := Host.Outcome.next.inj (hstep.symm.trans e)
  rw [strayLearn_unwritten] at hu
  exact absurd hu (by decide)

end Sys2Proof.Proofs
end

section
/-! PROOF. Commits, drains and audits of generations (R254 to R259, R396). -/

namespace Sys2Proof.Proofs

open Sys2Proof.Machine Sys2Proof.Laws Sys2Proof.Safety Sys2Proof.Claims

/-! ## The registers of the slots -/

theorem slotReg_ctorIdx_ne {p n : Nat} (hp : p < 4) (hn : n < 4) (h : p ≠ n) : (slotReg p).ctorIdx ≠ (slotReg n).ctorIdx := by
  have all : ∀ p < 4, ∀ n < 4, p ≠ n → (slotReg p).ctorIdx ≠ (slotReg n).ctorIdx := by decide
  exact all p hp n hn h

theorem slotReg_width (n : Nat) : (slotReg n).spec.width = 32 := by
  unfold slotReg
  split <;> rfl

section
variable (s : State) {d n p : Nat}

theorem slotState_setField_same (n d x : Nat) : slotState (setField s (slotReg n) d 0 0 3 x) d n = x % 8 := by
  have hw := slotReg_width n
  unfold slotState fieldR setField
  rw [getR_setR_same _ _ _ _ _ (by rw [hw]; decide), hw]
  exact bitsOf_putBits (W := 32) (by decide)

theorem slotState_setR_ne {r : RegName} (h : (slotReg n).ctorIdx ≠ r.ctorIdx) (d v : Nat) : slotState (setR s r d 0 v) d n = slotState s d n :=
  congrArg (bitsOf · 0 3) (getR_setR_ne s h d 0 v)

theorem slotState_setField_ne (hp : p < 4) (hn : n < 4) (h : n ≠ p) (d lo w x : Nat) :
    slotState (setField s (slotReg p) d 0 lo w x) d n = slotState s d n := slotState_setR_ne s (slotReg_ctorIdx_ne hn hp h) d _

theorem slotState_of_regs {u v : State} (h : u.regs = v.regs) (d n : Nat) : slotState u d n = slotState v d n := by
  unfold slotState fieldR getR getRS
  rw [h]

theorem commitT_of_regs {u v : State} (h : u.regs = v.regs) (d : Nat) : commitT u d = commitT v d := by
  unfold commitT getR getRS
  rw [h]

theorem genCommitT_ne_slotReg (n : Nat) : (slotReg n).ctorIdx ≠ RegName.genCommitT.ctorIdx := by
  unfold slotReg
  split <;> decide

end

/-- The slot that a search by state finds. -/
theorem slotIn_spec {s : State} {d st n : Nat} (h : slotIn s d st = some n) : n < 4 ∧ slotState s d n = st :=
  ⟨slotIn_lt h, of_decide_eq_true (List.find?_some (p := fun n => decide (slotState s d n = st)) h)⟩

/-! ## The commit (R254) -/

theorem commitDie_waits {s : State} {d : Nat} (h : slotIn s d 3 = none ∨ stime s d < commitT s d) : commitDie s d = s := by
  unfold commitDie
  rcases h with h | h
  · rw [h]
  · cases hp : slotIn s d 3 with
    | none => rfl
    | some p =>
      dsimp only
      rw [if_pos h]

theorem commitTime_waits {s : State} (h : ∀ d ∈ usableDies s, slotIn s d 3 = none ∨ stime s d < commitT s d) :
    EndsIn .commitTimeReached s s := by
  have key (l : List Nat) (h : ∀ d ∈ l, slotIn s d 3 = none ∨ stime s d < commitT s d) : forEach l commitDie s = s := by
    induction l with
    | nil => rfl
    | cons d l ih =>
      unfold forEach
      rw [List.foldl_cons, commitDie_waits (h d List.mem_cons_self)]
      exact ih fun e he => h e (List.mem_cons_of_mem d he)
  exact congrArg Host.Outcome.next (key _ h)

/-- The registers and the generations' marks. -/
def slotSide (s : State) : Map (BitVec 80) × GenS := (s.regs, s.gen)

/-- A commit that STIME has reached, of a die with a CURRENT slot: what it writes of the slots. -/
theorem slotSide_commitDie {s : State} {d p n : Nat} (hp : slotIn s d 3 = some p) (hn : curSlot s d = some n) (ht : commitT s d ≤ stime s d) :
    slotSide (commitDie s d) = slotSide (let a := setField s (slotReg n) d 0 0 3 5
      let b : State := { a with gen := { a.gen with drainSince := kset a.gen.drainSince (dieSlot d n) (some (mono a d)) none } }
      let c := setR (setField b (slotReg p) d 0 0 3 4) .genCommitT d 0 0
      { c with gen := { c.gen with lastGen := slotGen s d p, openOwner := none } }) := by
  have tables (c : Nat → State → Prop) [∀ t s, Decidable (c t s)] (u : State) :
      slotSide (forEach (List.range 64) (fun s t => if c t s then setRehash s d t ⟨false, 0, 0, 0⟩ else s) u) = slotSide u :=
    forEach_keeps slotSide (fun t _ s => by split <;> rfl) u
  have queues (u : State) : slotSide (forEach (List.range 128) (fun s q => if (getWq s d q).items = [] then s else noteHold s d q) u) =
      slotSide u := forEach_keeps slotSide (fun q _ s => by split <;> rfl) u
  unfold commitDie
  rw [hp]
  dsimp only
  rw [if_neg (Nat.not_lt.mpr ht), hn]
  dsimp only
  rw [if_pos (by rfl), queues]
  exact tables _ _

/-- The commit of the one usable die. -/
theorem commitDie_parts {s : State} {d p n : Nat} (hp : slotIn s d 3 = some p) (hn : curSlot s d = some n) (ht : commitT s d ≤ stime s d) :
    slotState (commitDie s d) d p = 4 ∧ slotState (commitDie s d) d n = 5 ∧ commitT (commitDie s d) d = 0 ∧
      kget (commitDie s d).gen.drainSince (dieSlot d n) none = some (mono s d) := by
  obtain ⟨hp4, hps⟩ := slotIn_spec hp
  obtain ⟨hn4, hns⟩ := slotIn_spec hn
  have hne : n ≠ p := fun e => by
    rw [e, hps] at hns
    cases hns
  have hside := slotSide_commitDie hp hn ht
  dsimp only at hside
  generalize commitDie s d = u at hside ⊢
  let a := setField s (slotReg n) d 0 0 3 5
  let b : State := { a with gen := { a.gen with drainSince := kset a.gen.drainSince (dieSlot d n) (some (mono a d)) none } }
  let e := setField b (slotReg p) d 0 0 3 4
  have hregs : u.regs = (setR e .genCommitT d 0 0).regs := congrArg Prod.fst hside
  have hgen : u.gen.drainSince = kset s.gen.drainSince (dieSlot d n) (some (mono s d)) none :=
    congrArg (fun x : Map (BitVec 80) × GenS => x.2.drainSince) hside
  have hset (k : Nat) : slotState u d k = slotState e d k :=
    (slotState_of_regs hregs d k).trans (slotState_setR_ne e (genCommitT_ne_slotReg k) d 0)
  refine ⟨?_, ?_, ?_, ?_⟩
  · rw [hset]
    exact slotState_setField_same b p d 4
  · rw [hset]
    refine (slotState_setField_ne b hp4 hn4 hne d 0 3 4).trans ?_
    exact slotState_setField_same s n d 5
  · rw [commitT_of_regs hregs]
    unfold commitT
    rw [getR_setR_zero, Nat.zero_div, Nat.zero_mul, Nat.zero_mod]
  · rw [hgen]
    exact kget_kset_same _ _ _ _

theorem commitTime_commits {s : State} {die p n : Nat} (h : usableDies s = [die]) (hp : slotIn s die 3 = some p) (hn : curSlot s die = some n)
    (ht : commitT s die ≤ stime s die) : Ends .commitTimeReached s (fun u => slotState u die p = 4 ∧ slotState u die n = 5 ∧ commitT u die = 0 ∧
      kget u.gen.drainSince (dieSlot die n) none = some (mono s die)) := by
  have hall : forEach (usableDies s) commitDie s = commitDie s die := by
    rw [h]
    rfl
  exact ⟨commitDie s die, congrArg Host.Outcome.next hall, commitDie_parts hp hn ht⟩

section
variable {s s1 : State} {die slot : Nat} {f : Fired}

theorem genCommitFire_idle (h : takeFired s die 1 = none) : EndsIn (.genCommitFire die) s s := by
  refine congrArg Host.Outcome.next ?_
  rw [h]

/-- The entry of a commit that has fired: the commit is recorded, and its check starts. -/
theorem genCommitFire_records {k : Nat} {v : State} (hk : k = f.entry.arg.toNat % 4) (hv : v = recordK (commitDie s1 die) die 0x6001
      ([nw (slotGen (commitDie s1 die) die k), nw k] ++ timeWords f.t ++ [if f.late then 1 else 0]))
    (h : takeFired s die 1 = some (f, s1)) (ha : k ∉ auditOf v die) : EndsIn (.genCommitFire die) s (setAudit v die (auditOf v die ++ [k])) := by
  subst hk hv
  refine congrArg Host.Outcome.next ?_
  rw [h]
  exact if_neg ha

/-! ## Audits (R259, R396) -/

theorem auditStart_waits (h : keeperDown s die = true) : EndsIn (.auditStart die) s s := by
  refine congrArg Host.Outcome.next ?_
  rw [if_pos h]

theorem auditStart_starts (h : keeperDown s die = false) (hf : takeFired s die 4 = some (f, s1)) :
    EndsIn (.auditStart die) s (startAudit (mapAudit s1 die) die) := by
  refine congrArg Host.Outcome.next ?_
  rw [if_neg (ne_true_of_eq_false h), hf]

/-- A recomputation on a die that does not speak for the package to its partner. -/
theorem digestRecomputeDone_compares {uncorr : Bool} (hu : usable s die = true) (hs : slot < 4) (hr : die ≠ refDie s) :
    EndsIn (.digestRecomputeDone die slot uncorr) s (recomputed s die slot uncorr).2 := by
  refine congrArg Host.Outcome.next ((if_neg ?_).trans (if_neg fun h => hr h.2.1))
  rintro (h | h)
  · rw [hu] at h
    cases h
  · exact absurd h (Nat.not_le.mpr hs)

theorem digestRecomputeDone_idle {uncorr : Bool} (h : ∀ k ∈ auditOf s die, k % 4 ≠ slot) :
    EndsIn (.digestRecomputeDone die slot uncorr) s s := by
  have hm : recomputed s die slot uncorr = (false, s) := by
    unfold recomputed
    rw [List.find?_eq_none.mpr fun k hk => by rw [decide_eq_true_eq]; exact h k hk]
  refine congrArg Host.Outcome.next ?_
  dsimp only
  split
  · rfl
  · rw [hm]
    exact if_neg fun h => Bool.false_ne_true h.1

/-! ## Drains (R257, R258) -/

theorem slotRetire_retires (hs : slot < 4) (hd : slotState s (refDie s) slot = 5) (h : ∀ d ∈ usableDies s, holdersOf s d slot = 0) :
    EndsIn (.slotRetire slot) s (recordK (slotStates s slot 6) s.pkg.lead 0x6002 [nw (slotGen s (refDie s) slot), nw slot]) :=
  congrArg Host.Outcome.next (if_pos ⟨hs, hd, List.all_eq_true.mpr fun d hm => decide_eq_true (h d hm)⟩)

theorem slotRetire_waits (h : ∃ d ∈ usableDies s, holdersOf s d slot ≠ 0) : EndsIn (.slotRetire slot) s s := by
  obtain ⟨d, hm, hne⟩ := h
  exact congrArg Host.Outcome.next (if_neg fun ⟨_, _, hall⟩ => hne (of_decide_eq_true (List.all_eq_true.mp hall d hm)))

theorem retireForced_off (h : fieldR s .genPolicy s.pkg.lead 0 16 16 * 100000000 = 0) : EndsIn (.retireForced slot) s s :=
  congrArg Host.Outcome.next (if_neg fun ⟨_, _, hl, _⟩ => hl h)

theorem retireForced_waits {since : Nat} (hs : kget s.gen.drainSince (dieSlot (refDie s) slot) none = some since)
    (ht : mono s (refDie s) < since + fieldR s .genPolicy s.pkg.lead 0 16 16 * 100000000) : EndsIn (.retireForced slot) s s := by
  refine congrArg Host.Outcome.next (if_neg fun ⟨_, _, _, hdue, _⟩ => ?_)
  rw [hs] at hdue
  exact absurd (of_decide_eq_true hdue) (Nat.not_le.mpr ht)

/-- The copies of a slot in the queues of the usable dies, discarded: how many, and the state. -/
def discardSlot (s : State) (slot : Nat) : Nat × State :=
  (usableDies s).foldl (fun (a : Nat × State) d =>
    (busyQueues a.2 d).foldl (fun (b : Nat × State) q =>
      let x := discardAll b.2 q 3 (fun c => decide (c.stamp.slot = slot))
      (b.1 + x.1, x.2)) a) (0, s)

theorem retireForced_discards {since : Nat} (h4 : slot < 4) (hd : slotState s (refDie s) slot = 5)
    (hl : fieldR s .genPolicy s.pkg.lead 0 16 16 * 100000000 ≠ 0)
    (hs : kget s.gen.drainSince (dieSlot (refDie s) slot) none = some since)
    (ht : since + fieldR s .genPolicy s.pkg.lead 0 16 16 * 100000000 ≤ mono s (refDie s))
    (hq : ∀ d ∈ usableDies s, holdersOf s d slot = queuedOf s d slot) (hne : ∃ d ∈ usableDies s, queuedOf s d slot ≠ 0) :
    EndsIn (.retireForced slot) s (recordK (discardSlot s slot).2 (discardSlot s slot).2.pkg.lead 0x6003
      ([nw (slotGen (discardSlot s slot).2 (refDie s) slot), nw slot] ++ wordsOf 2 (discardSlot s slot).1)) := by
  obtain ⟨d, hm, hne⟩ := hne
  refine congrArg Host.Outcome.next ((if_pos ⟨h4, hd, hl, ?_, List.all_eq_true.mpr fun d hm => decide_eq_true (hq d hm),
    List.any_eq_true.mpr ⟨d, hm, decide_eq_true hne⟩⟩).trans rfl)
  rw [hs]
  exact decide_eq_true ht

/-! ## The end of a slot (R257) -/

/-- What a cleared slot shows on a die. -/
def slotShows (slot : Nat) (s : State) (d : Nat) : Nat × SlotDigest × Option Nat :=
  (getR s (slotReg slot) d 0, slotDigest s d slot, kget s.gen.drainSince (dieSlot d slot) none)

/-- One die writes its slot FREE. -/
def freeSlot (slot : Nat) (s : State) (d : Nat) : State :=
  setDigest (setR { s with gen := { s.gen with drainSince := kset s.gen.drainSince (dieSlot d slot) none none } } (slotReg slot) d 0 0) d slot noDigest

theorem gen_freeSlot (s : State) (d : Nat) : (freeSlot slot s d).gen = { s.gen with
    drainSince := kset s.gen.drainSince (dieSlot d slot) none none, digests := kset s.gen.digests (dieSlot d slot) noDigest noDigest } := rfl

theorem slotShows_freeSlot (s : State) (d : Nat) : slotShows slot (freeSlot slot s d) d = (0, noDigest, none) := by
  have hr : getR (freeSlot slot s d) (slotReg slot) d 0 = 0 := getR_setR_zero ..
  unfold slotShows slotDigest
  rw [hr, gen_freeSlot]
  dsimp only
  rw [kget_kset_same, kget_kset_same]

theorem slotShows_freeSlot_ne (s : State) {d k : Nat} (h : k ≠ d) : slotShows slot (freeSlot slot s d) k = slotShows slot s k := by
  have hkey : dieSlot k slot ≠ dieSlot d slot := by
    unfold dieSlot
    omega
  have hr : getR (freeSlot slot s d) (slotReg slot) k 0 = getR s (slotReg slot) k 0 :=
    congrArg BitVec.toNat (kget_kset_ne _ _ _ _ _ _ (rkey_ne_of_die h))
  unfold slotShows slotDigest
  rw [hr, gen_freeSlot]
  dsimp only
  rw [kget_kset_ne _ _ _ _ _ _ hkey, kget_kset_ne _ _ _ _ _ _ hkey]

theorem offTables_freeRegions (s : State) (n d : Nat) : offTables (freeRegions s n d) = offTables s := by
  unfold freeRegions
  exact offTables_forEach (by simp) _ _

theorem offTables_clearStatics (s : State) (n d : Nat) : offTables (clearStatics s n d) = offTables s := by
  have engines (u : State) : offTables (forEach (List.range 4) (fun s e => flushEngine s d e) u) = offTables u := offTables_forEach (by simp) _ _
  unfold clearStatics
  exact (offTables_forEach (by simp) _ _).trans (engines s)

theorem slotClearDone_clears (h4 : slot < 4) (hd : slotState s (refDie s) slot = 6) : Ends (.slotClearDone slot) s (fun u => ∀ d ∈ usableDies s,
    slotState u d slot = 0 ∧ slotDigest u d slot = noDigest ∧ kget u.gen.drainSince (dieSlot d slot) none = none) := by
  let v := forEach (usableDies s) (fun s d => freeRegions (clearStatics s slot d) slot d) s
  have hv : offTables v = offTables s := offTables_forEach (fun s d => (offTables_freeRegions ..).trans (offTables_clearStatics ..)) _ _
  have hu : usableDies v = usableDies s := (congrArg usableDies hv :)
  refine ⟨forEach (usableDies v) (freeSlot slot) v, congrArg Host.Outcome.next (if_pos ⟨h4, hd⟩), fun d hm => ?_⟩
  have hnodup : (usableDies v).Nodup := List.nodup_range.filter _
  have h := (foldl_at (g := slotShows slot) (upd := fun _ => (0, noDigest, none)) hnodup (fun u => slotShows_freeSlot u d)
    (fun u e _ hne => slotShows_freeSlot_ne u hne) v).trans (if_pos (hu.symm ▸ hm))
  obtain ⟨h1, h2⟩ := Prod.mk.inj h
  obtain ⟨h2, h3⟩ := Prod.mk.inj h2
  refine ⟨?_, h2, h3⟩
  unfold slotState fieldR
  rw [h1]
  rfl

end

/-- Settles O46: commits by whether STIME has reached their time, drains by what still holds the slot, audits by whether they run. -/
theorem generationHappenings : Obligations.GenerationHappenings := by
  unfold Obligations.GenerationHappenings
  intro s s1 die slot n p since f uncorr
  exact ⟨commitTime_waits, commitTime_commits, genCommitFire_idle, genCommitFire_records rfl rfl, auditStart_waits, auditStart_starts,
    fun h4 hd => ⟨slotRetire_retires h4 hd, slotRetire_waits, retireForced_off, fun _ => retireForced_waits,
      retireForced_discards h4 hd⟩, slotClearDone_clears, fun _ h => congrArg Host.Outcome.next (if_neg fun h' => h h'.2),
    digestRecomputeDone_compares, digestRecomputeDone_idle⟩

end Sys2Proof.Proofs
end

section
/-! PROOF. External DRAM, scrubs and power states (R334, R342 to R351, R395, R401). -/

namespace Sys2Proof.Proofs

open Sys2Proof.Machine Sys2Proof.Laws Sys2Proof.Safety Sys2Proof.Claims

/-! ## What happens on a die that runs -/

/-- A die that is alive in a running package. -/
theorem not_idle {s : State} {die : Nat} (h : s.pkg.running = true ∧ dieAlive s die = true) :
    ¬((!s.pkg.running) = true ∨ (!dieAlive s die) = true) := by
  rw [h.1, h.2]
  decide

section
variable {s : State} {die : Nat}

/-! ## Reads of external DRAM (R343, R349) -/

/-- A read counts its share of the window beside the poisoned blocks. -/
theorem dramPoison_useShare (s : State) (d p n : Nat) : (useShare s d p n).memo.dramPoison = s.memo.dramPoison := by
  unfold useShare
  dsimp only
  split <;> rfl

theorem useShare_keeps (rs : List RegName) (s : State) (d p n : Nat) :
    SameRegs rs s (useShare s d p n) ∧ (useShare s d p n).memo.scrubPos = s.memo.scrubPos := by
  unfold useShare
  dsimp only
  split <;> exact ⟨.of_eq rfl rfl, rfl⟩

theorem blockPoison_of_memo {s t : State} (h : t.memo.dramPoison = s.memo.dramPoison) (d b n : Nat) :
    blockPoison t d b n = blockPoison s d b n := by
  unfold blockPoison
  rw [h]

/-- A read whose block is poisoned as `v` says. -/
theorem readBlock_cases {v : Bool} {d p b flips retryFlips : Nat} (hv : blockPoison s d b 1 = v) :
    (v = false → flips = 0 → readBlock s d p b flips retryFlips = (true, s)) ∧
    (v = false → flips = 1 → (readBlock s d p b flips retryFlips).1 = true) ∧
    (v = false → 2 ≤ flips → 2 ≤ retryFlips → (readBlock s d p b flips retryFlips).1 = false) ∧
    (v = true → (readBlock s d p b flips retryFlips).1 = false) := by
  subst hv
  refine ⟨fun h hf => ?_, fun h hf => ?_, fun h hf hr => ?_, fun h => ?_⟩
  · exact if_pos ⟨congrArg not h, .inl hf⟩
  · refine congrArg Prod.fst ((if_neg ?_).trans (if_pos ⟨congrArg not h, .inl hf⟩))
    rintro ⟨-, h0 | h2, -⟩ <;> omega
  · refine congrArg Prod.fst ((if_neg ?_).trans (if_neg ?_))
    · rintro ⟨-, h0 | ⟨-, h0⟩⟩ <;> omega
    · rintro ⟨-, h0 | h0⟩ <;> omega
  · have hs : ¬(!blockPoison s d b 1) = true := by rw [h]; decide
    exact congrArg Prod.fst ((if_neg fun h' => hs h'.1).trans (if_neg fun h' => hs h'.1))

theorem dramRequest_serves {r : DramReq} {flips retryFlips : Nat} (ha : dieAlive s die = true) (hc : choose s die (dramReqs s die) = some r) :
    let off : State := setDramReqs s die ((dramReqs s die).erase r)
    let awake : State := { off with memo := { off.memo with idleSince := kset off.memo.idleSince (rankKey off die r.block) (mono off die) 0 } }
    let used := useShare awake die r.port r.blocks
    let counted := if mono used die - r.at_ > portTarget r.port then cnt used .memCntDramLate die r.port else used
    let got := readBlock counted die r.port r.block flips retryFlips
    EndsIn (.dramRequest die flips retryFlips) s (dramData got.2 die r got.1) := by
  refine congrArg Host.Outcome.next ?_
  dsimp only
  rw [if_pos ha, hc]

/-- Counting a late request and its share leaves the poisoned blocks as they were before it. -/
theorem blockPoison_counted {s awake : State} (h : awake.memo.dramPoison = s.memo.dramPoison) (r : DramReq) (die : Nat) :
    let used := useShare awake die r.port r.blocks
    blockPoison (if mono used die - r.at_ > portTarget r.port then cnt used .memCntDramLate die r.port else used) die r.block 1 =
      blockPoison s die r.block 1 := by
  have hu := (dramPoison_useShare awake die r.port r.blocks).trans h
  dsimp only
  split
  · exact blockPoison_of_memo hu ..
  · exact blockPoison_of_memo hu ..

theorem dramRequest_idle {flips retryFlips : Nat} (h : choose s die (dramReqs s die) = none ∨ dieAlive s die = false) :
    EndsIn (.dramRequest die flips retryFlips) s s := by
  have hn : (if dieAlive s die then choose s die (dramReqs s die) else none) = none := by
    rcases h with h | h
    · rw [h, ite_self]
    · exact if_neg (ne_true_of_eq_false h)
  refine congrArg Host.Outcome.next ?_
  rw [hn]

/-! ## Alerts (R348) -/

theorem dramAlert_on {channel commands : Nat} (h : s.pkg.running = true ∧ dieAlive s die = true) (hc : channel < 2) (hm : commands ≤ 64) :
    ¬((!s.pkg.running) = true ∨ (!dieAlive s die) = true ∨ channel ≥ 2 ∨ commands > 64) := by
  rintro (h' | h' | h' | h')
  · exact not_idle h (.inl h')
  · exact not_idle h (.inr h')
  · omega
  · omega

/-! ## The patrol scrub (R350) -/

/-- The registers that a read of a block may change. -/
def readRegs : List RegName := [.memCntDramCe, .memCntDramUe] ++ recordRegs

theorem scrubPos_recordF (s : State) (cls d : Nat) (code src : Word) (ws : List Word) :
    (recordF s cls d code src ws).memo.scrubPos = s.memo.scrubPos :=
  (congrArg (fun s : State => s.memo.scrubPos) (unrecorded_recordF s cls d code src ws) :)

theorem blockChan_lt (b : Nat) : blockChan b < 1048576 := (Nat.mod_lt _ (by decide)).trans (by decide)

/-- A read of a block counts and records; the place of the scrub and the organisation of the die stay. -/
theorem readBlock_keeps (hl : s.pkg.lead < 8) (hd : die < 8) (p b flips retryFlips : Nat) :
    SameRegs readRegs s (readBlock s die p b flips retryFlips).2 ∧
      (readBlock s die p b flips retryFlips).2.memo.scrubPos = s.memo.scrubPos := by
  have counted {t : State} (hp : t.pkg = s.pkg) (hr : t.regs = s.regs) (hm : t.memo.scrubPos = s.memo.scrubPos)
      {r : RegName} (hmem : r ∈ readRegs) (cls : Nat) (code : Word) (ws : List Word) :
      SameRegs readRegs s (recordF (cnt t r die (blockChan b)) cls die code (keeperId die) ws) ∧
        (recordF (cnt t r die (blockChan b)) cls die code (keeperId die) ws).memo.scrubPos = s.memo.scrubPos :=
    ⟨(SameRegs.of_eq hp hr).trans ((SameRegs.cnt t hmem hd (blockChan_lt b)).trans
      ((sameRegs_recordF (s := cnt t r die (blockChan b)) (by rw [← hp] at hl; exact hl) hd cls code _ ws).mono (by decide))),
      (scrubPos_recordF ..).trans hm⟩
  unfold readBlock
  dsimp only
  split
  · exact ⟨.refl _ s, rfl⟩
  · split
    · exact counted (t := (drawWord s).2) rfl rfl rfl (by decide) 0 _ _
    · exact counted (t := { s with memo := { s.memo with dramPoison := addNew (poisonKey die b) s.memo.dramPoison } }) rfl rfl rfl (by decide) 7 _ _

theorem dieBlocks_of_sameRegs {rs : List RegName} {t : State} (h : SameRegs rs s t) (hr : RegName.memDramCfg ∉ rs) (hd : die < 8) :
    dieBlocks t die = dieBlocks s die := by
  have hg : getR t .memDramCfg die 0 = getR s .memDramCfg die 0 := h.2 _ hr die 7 0 hd (by decide) (by decide)
  unfold dieBlocks rankGib fieldR
  rw [hg]

theorem sameRegs_pushResult (rs : List RegName) (s : State) (d : Nat) (ws : List Word) : SameRegs rs s (pushResult s d ws) := by
  unfold pushResult
  exact .of_eq rfl rfl

/-- The scrub reads the next block, and begins anew behind the last one. -/
theorem patrolScrub_advances {flips retryFlips : Nat} (h : s.pkg.running = true ∧ dieAlive s die = true) (hd : die < 8) (hl : s.pkg.lead < 8) :
    Ends (.patrolScrub die flips retryFlips) s (fun u => kget u.memo.scrubPos die 0 =
      if dieBlocks s die ≤ kget s.memo.scrubPos die 0 + 1 then 0 else kget s.memo.scrubPos die 0 + 1) := by
  obtain ⟨hw, hm⟩ := useShare_keeps readRegs s die 5 1
  refine ⟨_, congrArg Host.Outcome.next (if_neg (not_idle h)), ?_⟩
  dsimp only
  generalize useShare s die 5 1 = w at hw hm ⊢
  obtain ⟨hr, hq⟩ := readBlock_keeps (s := w) (hw.1.symm ▸ hl) hd 5 (kget s.memo.scrubPos die 0) flips retryFlips
  have hv := hw.trans hr
  have hp := hq.trans hm
  generalize readBlock w die 5 (kget s.memo.scrubPos die 0) flips retryFlips = g at hv hp ⊢
  split
  · rw [dieBlocks_of_sameRegs hv (by decide) hd]
    exact kget_kset_same ..
  · rw [dieBlocks_of_sameRegs (hv.trans (sameRegs_pushResult ..)) (by decide) hd]
    exact kget_kset_same ..

/-! ## Power-down (R351) -/

theorem rankPowerDown_cases {channel rank : Nat} (h : s.pkg.running = true ∧ dieAlive s die = true) (hc : channel < 2)
    (hr : rank ≤ fieldR s .memDramCfg die 0 21 1) (hq : ∀ q ∈ dramReqs s die, rankKey s die q.block ≠ (die * 2 + channel) * 2 + rank)
    (ht : kget s.memo.idleSince ((die * 2 + channel) * 2 + rank) 0 + fieldR s .memDramCfg die 0 8 8 * 100 ≤ mono s die) :
    (fieldR s .memDramCfg die 0 0 1 = 1 → EndsIn (.rankPowerDown die channel rank) s
      { s with memo := { s.memo with down := kset s.memo.down ((die * 2 + channel) * 2 + rank) true false } }) ∧
    (fieldR s .memDramCfg die 0 0 1 = 0 → EndsIn (.rankPowerDown die channel rank) s s) := by
  refine ⟨fun hp => congrArg Host.Outcome.next (if_pos ⟨h.1, h.2, hc, hr, hp, decide_eq_true ht,
    List.all_eq_true.mpr fun q hm => decide_eq_true (hq q hm)⟩), fun hp => congrArg Host.Outcome.next (if_neg ?_)⟩
  rintro ⟨-, -, -, -, h1, -⟩
  rw [hp] at h1
  cases h1

/-! ## Scrubs of on-chip memory, and power states (R334, R335, R395, R401) -/

section
variable {unit row word flips : Nat}

theorem sramScrub_on (h : s.pkg.running = true ∧ dieAlive s die = true) (hf : flips ≠ 0) :
    ¬((!s.pkg.running) = true ∨ (!dieAlive s die) = true ∨ flips = 0) := by
  rintro (h' | h' | h')
  · exact not_idle h (.inl h')
  · exact not_idle h (.inr h')
  · exact hf h'

/-- The scrub of a unit that holds data. -/
theorem sramScrub_unit (h : s.pkg.running = true ∧ dieAlive s die = true) (hu : unit < 339) (hh : unitHeld s die unit = true)
    (hr : die * 512 + unit ∉ s.flt.retiredUnits) : EndsIn (.sramScrub die unit row word 1) s (sramCe s die unit row word) ∧
      (2 ≤ flips → EndsIn (.sramScrub die unit row word flips) s (sramUe s die unit row word)) := by
  have hon : ¬((!unitHeld s die unit) = true ∨ die * 512 + unit ∈ s.flt.retiredUnits) := by
    rintro (h' | h')
    · rw [hh] at h'
      cases h'
    · exact hr h'
  exact ⟨congrArg Host.Outcome.next ((if_neg (sramScrub_on h (by decide))).trans ((if_pos hu).trans ((if_neg hon).trans (if_pos rfl)))),
    fun hf => congrArg Host.Outcome.next
      ((if_neg (sramScrub_on h (by omega))).trans ((if_pos hu).trans ((if_neg hon).trans (if_neg (by omega)))))⟩

/-- The scrub of a memory that is no power unit. -/
theorem sramScrub_other (h : s.pkg.running = true ∧ dieAlive s die = true) (hu : 339 ≤ unit) (hp : unit ≤ unitPrivate) :
    EndsIn (.sramScrub die unit row word 1) s
      (recordK (cnt (drawWord s).2 .fltCntSramCe die 0) die 0xA010 [nw unit, nw row, nw word, nw ((drawWord s).1 % 72)]) ∧
    (2 ≤ flips → EndsIn (.sramScrub die unit row word flips) s (otherUe s die unit row word)) :=
  ⟨congrArg Host.Outcome.next
      ((if_neg (sramScrub_on h (by decide))).trans ((if_neg (Nat.not_lt.mpr hu)).trans ((if_pos hp).trans (if_pos rfl)))),
    fun hf => congrArg Host.Outcome.next
      ((if_neg (sramScrub_on h (by omega))).trans ((if_neg (Nat.not_lt.mpr hu)).trans ((if_pos hp).trans (if_neg (by omega)))))⟩

theorem bankPwrDone_idle (h : spareUnit s die unit = true) : EndsIn (.bankPwrDone die unit) s s := by
  refine congrArg Host.Outcome.next (if_neg fun h' => ?_)
  rw [h] at h'
  cases h'.2.2

end

end

/-- Settles O47: a read of DRAM by its bits in error, an alert by its replays, a scrub by the unit that it reads. -/
theorem memoryHappenings : Obligations.MemoryHappenings := by
  unfold Obligations.MemoryHappenings
  intro s die channel rank flips retryFlips commands unit row word r
  refine ⟨fun ha hc => ⟨dramRequest_serves ha hc, ?_⟩, dramRequest_idle, rfl, fun h hc hm => ⟨?_, fun hn => ?_, fun hn => ?_⟩,
    patrolScrub_advances, fun h hc hr hq ht => rankPowerDown_cases h hc hr hq ht, sramScrub_unit, sramScrub_other,
    congrArg Host.Outcome.next (if_pos (.inr (.inr rfl))),
    fun hu h3 hs => congrArg Host.Outcome.next (if_pos ⟨hu, h3, congrArg not hs⟩), bankPwrDone_idle⟩
  · exact readBlock_cases (blockPoison_counted rfl r die)
  · exact congrArg Host.Outcome.next ((if_neg (dramAlert_on h hc hm)).trans (if_pos rfl))
  · exact congrArg Host.Outcome.next ((if_neg (dramAlert_on h hc hm)).trans ((if_neg (by decide)).trans (if_neg (Nat.not_le.mpr hn))))
  · exact congrArg Host.Outcome.next ((if_neg (dramAlert_on h hc hm)).trans ((if_neg (by decide)).trans (if_pos hn)))

end Sys2Proof.Proofs
end

section
/-! PROOF. Faults of Keepers, cells, clocks, supplies and temperatures, heartbeats between dies (R25, R402 to R408, R417, R470, R503, R510,
R511). -/

namespace Sys2Proof.Proofs

open Sys2Proof.Machine Sys2Proof.Laws Sys2Proof.Safety Sys2Proof.Claims

section
variable {s : State} {die : Nat}

/-! ## Keepers (R403, R470) -/

theorem restarting_idle {α : Type} {o : Option α} (h : o ≠ none) : ¬o.isNone = true := fun h' => h (Option.isNone_iff_eq_none.mp h')

theorem keeperMismatch_stops (h : s.pkg.running = true ∧ dieAlive s die = true) (hn : kget s.kpr.restarting die none = none) :
    EndsIn (.keeperMismatch die) s (keeperFault s die) ∧
      ((trackEvent (cnt s .fltCntKprMismatch die 0) die .keeper 3 false).1.lasting = false →
        Ends (.keeperMismatch die) s (fun u => (kget u.kpr.restarting die none).isSome = true)) := by
  have he : EndsIn (.keeperMismatch die) s (keeperFault s die) :=
    congrArg Host.Outcome.next (if_pos ⟨h.1, h.2, Option.isNone_iff_eq_none.mpr hn⟩)
  refine ⟨he, fun hl => ⟨_, he, ?_⟩⟩
  unfold keeperFault
  dsimp only
  rw [if_neg (ne_true_of_eq_false hl)]
  dsimp only
  rw [kget_kset_same]
  rfl

theorem keeperRestartDone_reports {a : Activation} (h : s.boot.activating = some a) :
    let back : State := { s with kpr := { s.kpr with restarting := kset s.kpr.restarting die none none } }
    let a' := { a with ready := a.ready ||| BitVec.ofNat 8 (2 ^ die) }
    ((∀ d ∈ allDies s, dieAlive s d = true → a'.ready.getLsbD d = true) → EndsIn (.keeperRestartDone die) s (endActivation back a')) ∧
    ((∃ d ∈ allDies s, dieAlive s d = true ∧ a'.ready.getLsbD d = false) → EndsIn (.keeperRestartDone die) s
      { back with boot := { back.boot with activating := some a' } }) := by
  refine ⟨fun hr => congrArg Host.Outcome.next ?_, fun ⟨d, hm, hd, hr⟩ => congrArg Host.Outcome.next ?_⟩
  · dsimp only
    rw [h]
    refine if_pos (List.all_eq_true.mpr fun d hm => ?_)
    cases hd : dieAlive s d with
    | false => exact Bool.or_eq_true_iff.mpr (.inl (congrArg not hd))
    | true => exact Bool.or_eq_true_iff.mpr (.inr (hr d hm hd))
  · dsimp only
    rw [h]
    refine if_neg fun hall => ?_
    rcases Bool.or_eq_true_iff.mp (List.all_eq_true.mp hall d hm) with h' | h'
    · exact absurd (h'.symm.trans (congrArg not hd)) (by decide)
    · exact absurd (h'.symm.trans hr) (by decide)

theorem fwActivateTimeout_undoes {a : Activation} (h : s.boot.activating = some a) :
    (a.old = false → a.ready.getLsbD die = false → dieAlive s die = true → EndsIn (.fwActivateTimeout die) s
      (let old := bothSlots s (spareSlot s) (fun z => { z with state := 0xFFF0 })
       { old with boot := { old.boot with activating := some { a with old := true, ready := 0, at_ := leadMono old } } })) ∧
    (a.ready.getLsbD die = true → EndsIn (.fwActivateTimeout die) s s) := by
  refine ⟨fun ho hr hd => congrArg Host.Outcome.next ?_, fun hr => congrArg Host.Outcome.next ?_⟩
  · dsimp only
    rw [h]
    refine if_neg ?_
    rw [ho, hr, hd]
    decide
  · rw [h]
    exact if_pos (.inr (.inl hr))

/-! ## Temperatures (R417, R511) -/

/-- All readings are below a limit where the hottest is. -/
theorem hottest_lt_iff (m : Int) (l : List (Int × Nat)) (a : Int × Nat) :
    (l.foldl (fun a b => if b.1 > a.1 then b else a) a).1 < m ↔ a.1 < m ∧ ∀ b ∈ l, b.1 < m := by
  induction l generalizing a with
  | nil => simp
  | cons b l ih =>
    rw [List.foldl_cons, ih, List.forall_mem_cons]
    by_cases h : b.1 > a.1
    · rw [if_pos h]
      exact ⟨fun ⟨h1, h2⟩ => ⟨h.trans h1, h1, h2⟩, fun ⟨_, h1, h2⟩ => ⟨h1, h2⟩⟩
    · rw [if_neg h]
      exact ⟨fun ⟨h1, h2⟩ => ⟨h1, (not_lt.mp h).trans_lt h1, h2⟩, fun ⟨h1, _, h2⟩ => ⟨h1, h2⟩⟩

theorem hottest_four_lt_iff (m t0 t1 t2 t3 : Int) : (hottest [t0, t1, t2, t3]).1 < m ↔ t0 < m ∧ t1 < m ∧ t2 < m ∧ t3 < m := by
  refine (hottest_lt_iff m _ _).trans ?_
  simp [List.zipIdx]

/-- The registers that hold the four readings. -/
def putTemps (s : State) (die : Nat) (t0 t1 t2 t3 : Int) : State :=
  let reg (s : State) (r : RegName) (v : Int) : State := setR s r die 0 (encInt 16 (clampInt 16 v))
  reg (reg (reg (reg s .pwrTemp0 t0) .pwrTemp1 t1) .pwrTemp2 t2) .pwrTemp3 t3

/-- What a reading enters and records, before a die that is too hot trips. -/
def noteTemps (s w : State) (die : Nat) (temps : List Int) : State :=
  let (hot, sensor) := hottest temps
  let x := thermal s die
  let old := if x.temps = [] then 0 else (hottest x.temps).1
  let y := agedThermal x (mono s die) temps hot
  let s := thermalCross die 105 old hot sensor (thermalCross die 95 old hot sensor (setThermal w die y))
  if lifePassed y ∧ !x.lifeGone then
    recordF (setThermal s die { y with lifeGone := true }) 12 die 0x0017 (keeperId die)
      (nw die :: wordsOf 2 (y.above95 / 3600000) ++ intWords 1 y.peak)
  else s

theorem thermalRead_eq (t0 t1 t2 t3 : Int) (hr : s.pkg.running = true) (hd : die < s.pkg.n) :
    EndsIn (.thermalRead die t0 t1 t2 t3) s
      (let u := noteTemps s (putTemps s die t0 t1 t2 t3) die [t0, t1, t2, t3]
       if (hottest [t0, t1, t2, t3]).1 ≥ 1150 ∧ dieAlive u die then thermTrip u die else u) := by
  refine congrArg Host.Outcome.next (if_neg ?_)
  rw [hr]
  rintro (h | h)
  · cases h
  · omega

theorem encInt_lt (v : Int) : encInt 16 v < 2 ^ 32 := by
  unfold encInt
  omega

theorem getR_putTemps (t0 t1 t2 t3 : Int) :
    getR (putTemps s die t0 t1 t2 t3) .pwrTemp0 die 0 = encInt 16 (clampInt 16 t0) ∧
    getR (putTemps s die t0 t1 t2 t3) .pwrTemp1 die 0 = encInt 16 (clampInt 16 t1) ∧
    getR (putTemps s die t0 t1 t2 t3) .pwrTemp2 die 0 = encInt 16 (clampInt 16 t2) ∧
    getR (putTemps s die t0 t1 t2 t3) .pwrTemp3 die 0 = encInt 16 (clampInt 16 t3) := by
  have read (s : State) (r : RegName) (v : Int) (hw : r.spec.width = 32) :
      getR (setR s r die 0 (encInt 16 (clampInt 16 v))) r die 0 = encInt 16 (clampInt 16 v) := by
    rw [getR_setR_same _ _ _ _ _ (by omega), hw, Nat.mod_eq_of_lt (encInt_lt _)]
  have skip {r r' : RegName} (s : State) (v : Int) (h : r'.ctorIdx ≠ r.ctorIdx) :
      getR (setR s r die 0 (encInt 16 (clampInt 16 v))) r' die 0 = getR s r' die 0 := getR_setR_ne s h die 0 _
  unfold putTemps
  dsimp only
  refine ⟨?_, ?_, ?_, read _ .pwrTemp3 t3 rfl⟩
  · rw [skip _ t3 (by decide), skip _ t2 (by decide), skip _ t1 (by decide), read _ .pwrTemp0 t0 rfl]
  · rw [skip _ t3 (by decide), skip _ t2 (by decide), read _ .pwrTemp1 t1 rfl]
  · rw [skip _ t3 (by decide), read _ .pwrTemp2 t2 rfl]

theorem flt_recordF (s : State) (cls d : Nat) (code src : Word) (ws : List Word) : (recordF s cls d code src ws).flt = s.flt :=
  (congrArg State.flt (unrecorded_recordF s cls d code src ws) :)

/-- A crossed limit is recorded, no more. -/
theorem thermalCross_keeps (hl : s.pkg.lead < 8) (hd : die < 8) (limit : Nat) (old new : Int) (sensor : Nat) :
    SameRegs recordRegs s (thermalCross die limit old new sensor s) ∧ (thermalCross die limit old new sensor s).flt = s.flt := by
  unfold thermalCross
  split
  · exact ⟨.refl _ s, rfl⟩
  · exact ⟨sameRegs_recordF hl hd .., flt_recordF ..⟩

theorem thermal_setThermal (s : State) (d : Nat) (x : Thermal) : thermal (setThermal s d x) d = x := kget_kset_same _ _ _ _

theorem thermal_of_flt {s t : State} (h : t.flt = s.flt) (d : Nat) : thermal t d = thermal s d := by
  unfold thermal
  rw [h]

/-- A reading is entered, and but for the records no register is written. -/
theorem noteTemps_enters {w : State} (hl : w.pkg.lead < 8) (hd : die < 8) (temps : List Int) :
    (thermal (noteTemps s w die temps) die).temps = temps ∧ SameRegs recordRegs w (noteTemps s w die temps) := by
  unfold noteTemps
  dsimp only
  have hy : (agedThermal (thermal s die) (mono s die) temps (hottest temps).1).temps = temps := rfl
  generalize agedThermal (thermal s die) (mono s die) temps (hottest temps).1 = y at hy ⊢
  have hs : SameRegs recordRegs w (setThermal w die y) := .of_eq rfl rfl
  have ht := thermal_setThermal w die y
  generalize setThermal w die y = u0 at hs ht ⊢
  obtain ⟨h1, f1⟩ := thermalCross_keeps (hs.1.symm ▸ hl) hd 95 (if (thermal s die).temps = [] then 0 else (hottest (thermal s die).temps).1)
    (hottest temps).1 (hottest temps).2
  replace h1 := hs.trans h1
  generalize thermalCross die 95 _ _ _ u0 = u1 at h1 f1 ⊢
  obtain ⟨h2, f2⟩ := thermalCross_keeps (h1.1.symm ▸ hl) hd 105 (if (thermal s die).temps = [] then 0 else (hottest (thermal s die).temps).1)
    (hottest temps).1 (hottest temps).2
  replace h2 := h1.trans h2
  generalize thermalCross die 105 _ _ _ u1 = u2 at h2 f2 ⊢
  split
  · refine ⟨?_, h2.trans ((SameRegs.of_eq (t := setThermal u2 die { y with lifeGone := true }) rfl rfl).trans
      (sameRegs_recordF (s := setThermal u2 die _) (h2.1.symm ▸ hl) hd ..))⟩
    rw [thermal_of_flt (flt_recordF ..), thermal_setThermal]
    exact hy
  · refine ⟨?_, h2⟩
    rw [thermal_of_flt (f2.trans f1), ht, hy]

theorem pkg_putTemps (s : State) (die : Nat) (t0 t1 t2 t3 : Int) : (putTemps s die t0 t1 t2 t3).pkg = s.pkg := by
  unfold putTemps
  rfl

theorem thermalRead_enters {t0 t1 t2 t3 : Int} (hr : s.pkg.running = true) (hn : die < s.pkg.n) (hd : die < 8) (hl : s.pkg.lead < 8)
    (h0 : t0 < 1150) (h1 : t1 < 1150) (h2 : t2 < 1150) (h3 : t3 < 1150) : Ends (.thermalRead die t0 t1 t2 t3) s (fun u =>
      (thermal u die).temps = [t0, t1, t2, t3] ∧ getR u .pwrTemp0 die 0 = encInt 16 (clampInt 16 t0) ∧
      getR u .pwrTemp1 die 0 = encInt 16 (clampInt 16 t1) ∧ getR u .pwrTemp2 die 0 = encInt 16 (clampInt 16 t2) ∧
      getR u .pwrTemp3 die 0 = encInt 16 (clampInt 16 t3)) := by
  have hot : ¬(hottest [t0, t1, t2, t3]).1 ≥ 1150 := not_le.mpr ((hottest_four_lt_iff ..).mpr ⟨h0, h1, h2, h3⟩)
  refine ⟨_, thermalRead_eq t0 t1 t2 t3 hr hn, ?_⟩
  dsimp only
  rw [if_neg fun h => hot h.1]
  obtain ⟨r0, r1, r2, r3⟩ := getR_putTemps (s := s) (die := die) t0 t1 t2 t3
  obtain ⟨ht, hk⟩ := noteTemps_enters (s := s) (w := putTemps s die t0 t1 t2 t3) (by rw [pkg_putTemps]; exact hl) hd [t0, t1, t2, t3]
  have same {r : RegName} (h : r ∉ recordRegs) := hk.2 r h die 7 0 hd (by decide) (by decide)
  exact ⟨ht, (same (by decide)).trans r0, (same (by decide)).trans r1, (same (by decide)).trans r2, (same (by decide)).trans r3⟩

theorem thermTrip_marks (s : State) (hd : die < 8) :
    (thermTrip s die).flt.thermTrip = true ∧ (thermTrip s die).flt.tripped.getLsbD die = true := by
  refine ⟨rfl, ?_⟩
  show (_ ||| BitVec.ofNat 8 (2 ^ die)).getLsbD die = true
  rw [BitVec.getLsbD_or, BitVec.getLsbD_ofNat]
  simp [hd]

theorem thermalRead_trips {t0 t1 t2 t3 : Int} (hr : s.pkg.running = true) (hn : die < s.pkg.n) (hd : die < 8) (hl : s.pkg.lead < 8)
    (ha : dieAlive s die = true) (ht : 1150 ≤ t0 ∨ 1150 ≤ t1 ∨ 1150 ≤ t2 ∨ 1150 ≤ t3) :
    Ends (.thermalRead die t0 t1 t2 t3) s (fun u => u.flt.thermTrip = true ∧ u.flt.tripped.getLsbD die = true) := by
  have hot : (hottest [t0, t1, t2, t3]).1 ≥ 1150 := by
    refine not_lt.mp fun h => ?_
    obtain ⟨h0, h1, h2, h3⟩ := (hottest_four_lt_iff ..).mp h
    omega
  obtain ⟨-, hk⟩ := noteTemps_enters (s := s) (w := putTemps s die t0 t1 t2 t3) (by rw [pkg_putTemps]; exact hl) hd [t0, t1, t2, t3]
  have alive : dieAlive (noteTemps s (putTemps s die t0 t1 t2 t3) die [t0, t1, t2, t3]) die = true := by
    unfold dieAlive usable at ha ⊢
    rw [hk.1, pkg_putTemps]
    exact ha
  refine ⟨_, thermalRead_eq t0 t1 t2 t3 hr hn, ?_⟩
  dsimp only
  rw [if_pos ⟨hot, alive⟩]
  exact thermTrip_marks _ hd

/-! ## Cells, clocks and supplies (R402, R405, R503) -/

theorem illegalState_counts {cell check stage : Nat} (hr : s.pkg.running = true) (hu : usable s (cellDie cell) = true)
    (ht : (getCell s cell).retired = false) (hp : placeOf s cell ≠ none) (h1 : 1 ≤ check) (h4 : check ≤ 4) :
    let cd := cellDie cell
    let ill := recordF (cnt s .fltCntIllegal cd 0) 4 cd 0x4020 (keeperId cd) [nw (cell * 8), nw check, nw stage]
    let x := trackEvent ill cd (.cell cell) 1 false
    (x.1.lasting = true → EndsIn (.illegalState cell check stage) s (retireCell x.2 cell x.1.count)) ∧
    (x.1.lasting = false → EndsIn (.illegalState cell check stage) s (cellReset x.2 cell)) := by
  have on : ¬((!s.pkg.running) = true ∨ (!usable s (cellDie cell)) = true ∨ (getCell s cell).retired = true ∨
      (placeOf s cell).isNone = true ∨ check = 0 ∨ check > 4) := by
    rw [hr, hu, ht]
    rintro (h | h | h | h | h | h)
    · cases h
    · cases h
    · cases h
    · exact hp (Option.isNone_iff_eq_none.mp h)
    · omega
    · omega
  exact ⟨fun h => congrArg Host.Outcome.next ((if_neg on).trans (if_pos h)),
    fun h => congrArg Host.Outcome.next ((if_neg on).trans (if_neg (ne_true_of_eq_false h)))⟩

theorem clockFault_retires (h : s.pkg.running = true ∧ dieAlive s die = true) :
    let note (k : Nat) (s : State) : State := recordF s 8 die 0x0013 (keeperId die) [nw die, nw k]
    EndsIn (.clockFault die .coreRef) s (retireDie (note 0 s) die 8 true) ∧
    EndsIn (.clockFault die .pll) s (retireDie (note 3 s) die 8 true) ∧
    EndsIn (.clockFault die .timeClk) s (note 2 { s with time := { s.time with tenMHz := { s.time.tenMHz with valid := false } } }) ∧
    (kget s.phy.noRef die false = false → EndsIn (.clockFault die .serdesRef) s (loseSerdes (note 1 s) die)) ∧
    (kget s.phy.noRef die false = true → EndsIn (.clockFault die .serdesRef) s s) :=
  ⟨congrArg Host.Outcome.next (if_neg (not_idle h)), congrArg Host.Outcome.next (if_neg (not_idle h)),
    congrArg Host.Outcome.next (if_neg (not_idle h)),
    fun hn => congrArg Host.Outcome.next ((if_neg (not_idle h)).trans (if_neg (ne_true_of_eq_false hn))),
    fun hn => congrArg Host.Outcome.next ((if_neg (not_idle h)).trans (if_pos hn))⟩

theorem supplyFault_retires {supply : Supply} {mV : Nat} (h : s.pkg.running = true ∧ dieAlive s die = true)
    (ho : 6 * supplyMv supply < 100 * (mV - supplyMv supply + (supplyMv supply - mV))) :
    EndsIn (.supplyFault die supply mV) s
      (retireDie (recordF s 10 die 0x0014 (keeperId die) [nw die, nw (supplyNo supply), nw mV]) die 10 true) := by
  refine congrArg Host.Outcome.next (if_neg ?_)
  rintro (h' | h' | h')
  · exact not_idle h (.inl h')
  · exact not_idle h (.inr h')
  · omega

/-! ## Heartbeats between dies (R25) -/

/-- A die heard in time, and without a fault of its own, is not lost. -/
theorem dieLost_heard (h : mono s (hearer s die) < kget s.pkg.heard die 0 + 400000) : EndsIn (.dieLost die false) s s := by
  refine congrArg Host.Outcome.next (if_neg ?_)
  rintro ⟨-, -, -, hf | hs⟩
  · cases hf
  · have hs := of_decide_eq_true (Bool.and_eq_true_iff.mp hs).2
    omega

theorem dieLost_retires {fatal : Bool} (hr : s.pkg.running = true)
    (hm : die < s.pkg.n ∧ (usable s die = true ∨ s.pkg.fenced.getLsbD die = true))
    (hl : fatal = true ∨ (usable s (hearer s die) = true ∧ kget s.pkg.heard die 0 + 400000 ≤ mono s (hearer s die))) :
    EndsIn (.dieLost die fatal) s (retireDie s die 5 fatal) :=
  congrArg Host.Outcome.next (if_pos ⟨hr, hm.1, hm.2, hl.imp_right fun h => Bool.and_eq_true_iff.mpr ⟨h.1, decide_eq_true h.2⟩⟩)

end

/-- Settles O48: each happening by what its guard asks; a reading enters its four sensors, and trips where one is at 115 °C. -/
theorem faultHappenings : Obligations.FaultHappenings := by
  unfold Obligations.FaultHappenings
  intro s die cell check stage mV t0 t1 t2 t3 supply a fatal
  refine ⟨keeperMismatch_stops, fun h => congrArg Host.Outcome.next (if_neg fun h' => restarting_idle h h'.2.2), fun h => ?_, fun h => ?_,
    illegalState_counts, fun h => ?_, fun h => congrArg Host.Outcome.next (if_pos (.inr (.inr h))),
    fun h => congrArg Host.Outcome.next (if_pos h),
    fun hr hn hd hl => ⟨thermalRead_enters hr hn hd hl, thermalRead_trips hr hn hd hl⟩,
    fun h => congrArg Host.Outcome.next (if_pos h), dieLost_retires, dieLost_heard⟩
  · refine congrArg Host.Outcome.next ?_
    dsimp only
    rw [h]
  · exact ⟨(keeperRestartDone_reports h).1, (keeperRestartDone_reports h).2, (fwActivateTimeout_undoes h).1, (fwActivateTimeout_undoes h).2⟩
  · obtain ⟨hc, hp, ht, hs, hi⟩ := clockFault_retires h
    exact ⟨hc, hp, ht, hs, hi, supplyFault_retires h⟩

end Sys2Proof.Proofs
end

section
/-! PROOF. Inspection slices and bank steps (R424 to R433). -/

namespace Sys2Proof.Proofs

open Sys2Proof.Machine Sys2Proof.Laws Sys2Proof.Safety Sys2Proof.Claims

section
variable {s : State} {die lane : Nat}

/-! ## Firings (R426) -/

theorem inspectSlice_fires {s1 : State} {f : Fired} (ha : dieAlive s die = true) (hf : takeFired s die 5 = some (f, s1)) :
    let fired : State := { s1 with insp := { s1.insp with firedAt := kset s1.insp.firedAt die (mono s1 die) 0 } }
    (keeperDown fired die = false → EndsIn (.inspectSlice die) s (fireBank (lanes.foldl (fireLane die) fired) die)) ∧
    (keeperDown fired die = true → EndsIn (.inspectSlice die) s fired) := by
  refine ⟨fun hk => congrArg Host.Outcome.next ?_, fun hk => congrArg Host.Outcome.next ?_⟩
  · dsimp only
    rw [hf, ha]
    exact if_neg (ne_true_of_eq_false hk)
  · dsimp only
    rw [hf, ha]
    exact if_pos hk

/-- Without a firing, and while STIME runs, nothing starts. -/
theorem inspectSlice_idle (hf : takeFired s die 5 = none) (hz : frozen s die = false) : EndsIn (.inspectSlice die) s s := by
  refine congrArg Host.Outcome.next ?_
  dsimp only
  rw [hf, hz, Bool.false_and]
  cases dieAlive s die <;> rfl

/-! ## Slices (R424, R425, R427) -/

section
variable {x : Slice}

theorem getSlice_setSlice (s : State) (key : Nat) (x : Option Slice) : getSlice (setSlice s key x) key = x := kget_kset_same _ _ _ _

/-- A drain that is over: the slice goes on to its test. -/
theorem sliceDrainDone_tests (hl : lane < 2) (hx : getSlice s (sliceKey die lane) = some x) (h2 : x.step = 2)
    (hd : cellItems s (x.comb * 32 + x.cell) = 0 ∨ x.since + fieldR s .inspCfg die 0 10 11 * 1000 ≤ mono s die) :
    Ends (.sliceDrainDone die lane) s (fun u => ∃ y, getSlice u (sliceKey die lane) = some y ∧
      y.comb = x.comb ∧ y.cell = x.cell ∧ y.spare = x.spare ∧ y.step = 5) := by
  have on : ¬(lane ≥ 2 ∨ x.step ≠ 2 ∨ (cellItems s (x.comb * 32 + x.cell) ≠ 0 ∧
      (!decide (mono s die ≥ x.since + fieldR s .inspCfg die 0 10 11 * 1000)) = true)) := by
    rintro (h | h | ⟨h, hn⟩)
    · omega
    · exact h h2
    · rcases hd with hd | hd
      · exact h hd
      · rw [decide_eq_true hd] at hn
        cases hn
  refine ⟨_, rfl, ?_⟩
  beta_reduce
  rw [hx]
  dsimp only
  rw [if_neg on]
  split
  · exact ⟨_, getSlice_setSlice .., rfl, rfl, rfl, rfl⟩
  · exact ⟨_, getSlice_setSlice .., rfl, rfl, rfl, rfl⟩

theorem sliceDrainDone_waits (hx : getSlice s (sliceKey die lane) = some x)
    (h : lane ≥ 2 ∨ x.step ≠ 2 ∨ (cellItems s (x.comb * 32 + x.cell) ≠ 0 ∧
      ¬x.since + fieldR s .inspCfg die 0 10 11 * 1000 ≤ mono s die)) : EndsIn (.sliceDrainDone die lane) s s := by
  refine congrArg Host.Outcome.next ?_
  rw [hx]
  exact if_pos (h.imp_right (Or.imp_right (And.imp_right fun hn => congrArg not (decide_eq_false hn))))

/-- The end of a test at its time, by its result. -/
theorem sliceTestDone_ends (hl : lane < 2) (hx : getSlice s (sliceKey die lane) = some x) (h5 : x.step = 5) (rows : List Nat) :
    let key := sliceKey die lane
    let c := x.comb * 32 + x.cell
    let drawn := drawWord s
    let failed := trackEvent (cnt drawn.2 .inspCntCellFail die 0) die (.cell c) 1 false
    let told := recordF failed.2 4 die 0xB001 (keeperId die) [nw (c * 8), nw (drawn.1 % 16384), nw failed.1.count]
    let res := sliceResult told c (drawn.1 % 16384) (if failed.1.lasting then 3 else 2)
    (mono s die < x.since + 2000000 → EndsIn (.sliceTestDone die lane .pass) s s) ∧
    (x.since + 2000000 ≤ mono s die →
      EndsIn (.sliceTestDone die lane .pass) s (closeSlice (cnt s .inspCntCellPass die 0) key x)) ∧
    (x.since + 4000000 ≤ mono s die →
      EndsIn (.sliceTestDone die lane .retestPass) s
        (closeSlice (cnt (sliceResult drawn.2 c (drawn.1 % 16384) 0) .inspCntCellPass die 0) key x) ∧
      (failed.1.lasting = true → EndsIn (.sliceTestDone die lane (.fail rows)) s (retireTested res key x failed.1.count)) ∧
      (failed.1.lasting = false → EndsIn (.sliceTestDone die lane (.fail rows)) s (closeSlice (setNextCell res x.comb x.cell) key x))) := by
  have on {ran : Nat} (hr : x.since + ran ≤ mono s die) : ¬(lane ≥ 2 ∨ x.step ≠ 5 ∨ mono s die < x.since + ran) := by
    rintro (h | h | h)
    · omega
    · exact h h5
    · omega
  refine ⟨fun h => congrArg Host.Outcome.next ?_, fun h => congrArg Host.Outcome.next ?_, fun h => ⟨congrArg Host.Outcome.next ?_,
    fun hl => congrArg Host.Outcome.next ?_, fun hl => congrArg Host.Outcome.next ?_⟩⟩
  · rw [hx]
    exact if_pos (.inr (.inr h))
  · rw [hx]
    exact if_neg (on h)
  · rw [hx]
    exact if_neg (on h)
  · rw [hx]
    exact (if_neg (on h)).trans (if_pos hl)
  · rw [hx]
    exact (if_neg (on h)).trans (if_neg (ne_true_of_eq_false hl))

end

/-! ## Bank steps (R431 to R433) -/

section
variable {b : BankStep}

theorem bankStep_none (h : bankStep s die = none) :
    EndsIn (.bankCopyDone die) s s ∧ EndsIn (.bankTestDone die .pass) s s ∧ EndsIn (.bankReloadDone die) s s := by
  refine ⟨congrArg Host.Outcome.next ?_, congrArg Host.Outcome.next ?_, congrArg Host.Outcome.next ?_⟩ <;> rw [h]

theorem bankCopyDone_cases (h : bankStep s die = some b) :
    (b.step = 2 → EndsIn (.bankCopyDone die) s (setBankStep s die (some { b with step := 4, since := mono s die }))) ∧
    (b.step ≠ 2 → EndsIn (.bankCopyDone die) s s) := by
  refine ⟨fun h2 => congrArg Host.Outcome.next ?_, fun h2 => congrArg Host.Outcome.next ?_⟩
  · rw [h]
    exact if_pos h2
  · rw [h]
    exact if_neg h2

theorem bankTestDone_ends (h : bankStep s die = some b) (h4 : b.step = 4) (hw : b.waiter = none) (rows : List Nat) :
    let rep := repairRows s die b.unit rows
    let bad := trackEvent rep.2 die (.unit b.unit) 4 false
    let said := recordF (cnt bad.2 .inspCntBankFail die 0) 14 die 0xB002 (keeperId die) [nw b.unit, nw rows.length, nw rep.1]
    let marched := marchResult said 3 die b.unit rows (if bad.1.lasting then 3 else 2)
    EndsIn (.bankTestDone die .pass) s (afterTest s die b) ∧
    EndsIn (.bankTestDone die .retestPass) s (afterTest (marchResult s 3 die b.unit [0] 0) die b) ∧
    (rep.1 = rows.length → EndsIn (.bankTestDone die (.fail rows)) s (afterTest (marchResult rep.2 3 die b.unit rows 1) die b)) ∧
    (rep.1 ≠ rows.length → bad.1.lasting = false →
      EndsIn (.bankTestDone die (.fail rows)) s (afterTest marched die { b with bad := true })) ∧
    (rep.1 ≠ rows.length → bad.1.lasting = true → EndsIn (.bankTestDone die (.fail rows)) s (retireTestedBank marched die b)) := by
  have on : ¬(b.step ≠ 4 ∨ b.waiter.isSome = true) := by
    rw [h4, hw]
    decide
  refine ⟨congrArg Host.Outcome.next ?_, congrArg Host.Outcome.next ?_, fun hr => congrArg Host.Outcome.next ?_,
    fun hr hl => congrArg Host.Outcome.next ?_, fun hr hl => congrArg Host.Outcome.next ?_⟩
  · rw [h]
    exact if_neg on
  · rw [h]
    exact if_neg on
  · rw [h]
    exact (if_neg on).trans (if_pos hr)
  · rw [h]
    exact (if_neg on).trans ((if_neg hr).trans (if_neg (ne_true_of_eq_false hl)))
  · rw [h]
    exact (if_neg on).trans ((if_neg hr).trans (if_pos hl))

theorem bankReloadDone_cases (h : bankStep s die = some b) :
    (b.step = 5 ∨ (b.step = 4 ∧ b.waiter ≠ none) → EndsIn (.bankReloadDone die) s (endBank s die b)) ∧
    (b.step = 4 → b.waiter = none → EndsIn (.bankReloadDone die) s s) := by
  refine ⟨fun hs => congrArg Host.Outcome.next ?_, fun h4 hw => congrArg Host.Outcome.next ?_⟩
  · rw [h]
    exact if_pos (hs.imp_right (And.imp_right Option.isSome_iff_ne_none.mpr))
  · rw [h]
    refine if_neg ?_
    rw [h4, hw]
    decide

end

end

/-- Settles O49: each step of a slice and of a bank by the step it stands at. -/
theorem inspectionSteps : Obligations.InspectionSteps := by
  unfold Obligations.InspectionSteps
  intro s s1 die lane f x b rows
  refine ⟨inspectSlice_fires, inspectSlice_idle, fun h => ⟨?_, ?_⟩,
    fun hl hx => ⟨fun h2 hi hn => sliceDrainDone_waits hx (.inr (.inr ⟨hi, hn⟩)),
    sliceDrainDone_tests hl hx, fun h2 => sliceDrainDone_waits hx (.inr (.inl h2)), fun h5 => (sliceTestDone_ends hl hx h5 rows).1,
    fun h5 => (sliceTestDone_ends hl hx h5 rows).2.1, fun h5 => (sliceTestDone_ends hl hx h5 rows).2.2⟩, bankStep_none,
    fun h => ⟨(bankCopyDone_cases h).1, (bankCopyDone_cases h).2, fun h4 hw => bankTestDone_ends h h4 hw rows, (bankReloadDone_cases h).1,
      (bankReloadDone_cases h).2⟩⟩
  · refine congrArg Host.Outcome.next ?_
    rw [h]
  · refine congrArg Host.Outcome.next ?_
    rw [h]

end Sys2Proof.Proofs
end

section
/-! PROOF. The package through a start-up: it runs from then on, with the dies that it has, whatever retires on the way (R24, R27, R408,
R409, R458). -/

namespace Sys2Proof.Proofs

open Sys2Proof.Machine Sys2Proof.Laws Sys2Proof.Safety Sys2Proof.Claims

/-- How many dies the package has, and whether it runs. -/
def started (s : State) : Nat × Bool := (s.pkg.n, s.pkg.running)

theorem started_of_pkg {s t : State} (h : t.pkg = s.pkg) : started t = started s := by
  unfold started
  rw [h]

theorem started_of_pkgClaims {s t : State} (h : pkgClaims t = pkgClaims s) : started t = started s := started_of_pkg (pkg_of_pkgClaims h)

/-! ## A die retires (R409) -/

theorem pkgClaims_forwardOne (s : State) (d : Nat) : pkgClaims (forwardOne s d) = pkgClaims s := by
  unfold forwardOne
  split
  · rfl
  · exact pkgClaims_logRecord ..

theorem pkgClaims_forwardAll (s : State) (d : Nat) : pkgClaims (forwardAll s d) = pkgClaims s :=
  foldl_keeps pkgClaims (fun s _ => pkgClaims_forwardOne s d) _ s

theorem pkgClaims_dropOffers (s : State) (k d : Nat) : pkgClaims (dropOffers s k d) = pkgClaims s := by
  unfold dropOffers
  rfl

theorem pkgClaims_setXfer (s : State) (k : Nat) (x : Option Xfer) : pkgClaims (setXfer s k x) = pkgClaims s := rfl

theorem pkgClaims_loseXfer (s : State) (k : Nat) (x : Xfer) : pkgClaims (loseXfer s k x) = pkgClaims s := by
  have base : pkgClaims (dropOffers (endShare (cnt s .bridgeLostFrames x.src 0) x.frame (.switch k)) k x.dst) = pkgClaims s := by
    rw [pkgClaims_dropOffers, pkgClaims_endShare, pkgClaims_cnt]
  unfold loseXfer
  dsimp only
  split
  · rw [pkgClaims_setXfer, base]
  · exact (pkgClaims_forEach (fun s (e : Nat × QCopy) => pkgClaims_dropCopy s e.1 e.2) _ _).trans ((pkgClaims_setXfer ..).trans base)

theorem pkgClaims_dropNodie (s : State) (d g dest : Nat) (mcast : Bool) (giver : Word) :
    pkgClaims (dropNodie s d g dest mcast giver) = pkgClaims s := by
  unfold dropNodie
  exact pkgClaims_record ..

theorem pkgClaims_rerouteXfer (s : State) (k : Nat) (x : Xfer) : pkgClaims (rerouteXfer s k x) = pkgClaims s := by
  unfold rerouteXfer
  dsimp only
  split
  · rw [pkgClaims_setXfer]
  · rw [pkgClaims_endShare, pkgClaims_setXfer, pkgClaims_dropNodie]

theorem pkgClaims_settleHop (n a b : Nat) (s : State) (e : Nat × Xfer) : pkgClaims (settleHop n a b s e) = pkgClaims s := by
  unfold settleHop
  repeat' split
  · rfl
  · exact pkgClaims_loseXfer ..
  · rfl
  · exact pkgClaims_rerouteXfer ..
  · rfl

theorem pkgClaims_resvRecord (s : State) (a b v : Nat) : pkgClaims (resvRecord s a b v) = pkgClaims s := by
  unfold resvRecord
  split
  · exact pkgClaims_recordK ..
  · rfl

theorem pkgClaims_withdrawLink (s : State) (a b : Nat) : pkgClaims (withdrawLink s a b) = pkgClaims s := by
  have hops (n a b : Nat) (l : List (Nat × Xfer)) (s : State) : pkgClaims (l.foldl (settleHop n a b) s) = pkgClaims s :=
    foldl_keeps pkgClaims (fun s e => pkgClaims_settleHop n a b s e) l s
  unfold withdrawLink
  dsimp only
  split
  · rfl
  · split
    · rw [pkgClaims_resvRecord, pkgClaims_resvRecord, hops, hops]
      exact pkgClaims_recordF ..
    · rw [hops, hops]
      exact pkgClaims_recordF ..

theorem pkgClaims_withdrawDie (s : State) (d : Nat) : pkgClaims (withdrawDie s d) = pkgClaims s :=
  pkgClaims_forEach (fun s e => foldl_keeps pkgClaims (fun s _ => pkgClaims_withdrawLink s e d) _ s) _ s

theorem pkgClaims_dropDieLocks (s : State) (d : Nat) : pkgClaims (dropDieLocks s d) = pkgClaims s := by
  unfold dropDieLocks
  exact pkgClaims_forEach (fun s (x : Nat × Word) => pkgClaims_abandonLock s d x.1 x.2) _ s

theorem pkg_wipeDie (s : State) (d : Nat) : (wipeDie s d).pkg = s.pkg := by
  refine Eq.trans ?_ (pkg_of_pkgClaims (pkgClaims_dropDieLocks s d))
  rw [wipeDie]

theorem pkgClaims_abortGen (s : State) (n why : Nat) : pkgClaims (abortGen s n why) = pkgClaims s := by
  have slots (s : State) : pkgClaims (slotStates s n 6) = pkgClaims s := 
    pkgClaims_forEach (fun s d => pkgClaims_setField s (slotReg n) d 0 0 3 6) _ s
  unfold abortGen
  refine (slots _).trans ?_
  exact pkgClaims_recordK ..

theorem pkgClaims_fatalImage (s : State) : pkgClaims (fatalImage s) = pkgClaims s := by
  unfold fatalImage
  rfl

/-- The deputy as the lead: the package of a die's retirement, but for its lead. -/
def passLead (s : State) (new : Nat) : State :=
  { s with
    pkg := { s.pkg with lead := new, leadMoved := true },
    log := { s.log with log := [], stopped := false, nvFail := false, flush := none },
    time := { s.time with correction := .idle, pendingSet := none },
    pair := { s.pair with joint := none, withdraw := none } }

theorem started_passLead (s : State) (new : Nat) : started (passLead s new) = started s := rfl

theorem started_takeLead (s : State) (old new : Nat) : started (takeLead s old new) = started s := by
  refine Eq.trans ?_ (started_passLead s new)
  unfold takeLead
  dsimp only
  generalize h1 : forEach (allDies _) _ _ = s1
  generalize h2 : forEach (range' 1 41) _ s1 = s2
  generalize h3 : logRecord s2 _ = s3
  have heard : started s1 = started (passLead s new) := by
    rw [← h1]
    exact foldl_keeps started (fun _ _ => by rfl) _ _
  have sessions : started s2 = started s1 := by
    rw [← h2]
    refine foldl_keeps started (fun s i => ?_) _ _
    split
    · rfl
    · rfl
  have told : started s3 = started s2 := started_of_pkgClaims (h3 ▸ pkgClaims_logRecord ..)
  refine Eq.trans ?_ (told.trans (sessions.trans heard))
  refine Eq.trans (b := started _) (by rfl) ?_
  split
  · split
    · rfl
    · exact started_of_pkgClaims (pkgClaims_abortGen ..)
  · rfl

theorem started_loseLead (s : State) : started (loseLead s) = started s :=
  started_of_pkgClaims (s := { s with pkg := { s.pkg with noLead := true } }) (pkgClaims_forEach pkgClaims_settlePorts _ _)

theorem pkgClaims_requestFlush (s : State) (n : Nat) : pkgClaims (requestFlush s n) = pkgClaims s := by
  unfold requestFlush
  repeat' split
  all_goals rfl

/-- What a failing die still says. -/
def lastWords (s : State) (d : Nat) (lead flush : Bool) : State :=
  let s := if flush ∧ !lead ∧ !s.pkg.noLead then forwardAll s d else s
  if flush ∧ lead ∧ !s.pkg.noLead then fatalImage s else s

/-- The die is out of the package, its data path empty. -/
def outOfService (s : State) (d : Nat) : State :=
  let bit := BitVec.ofNat 8 (2 ^ d)
  wipeDie (settlePorts { s with pkg := { s.pkg with
    usable := s.pkg.usable &&& ~~~bit, retired := s.pkg.retired ||| bit, fenced := s.pkg.fenced &&& ~~~bit } } d) d

/-- The deputy takes the lead, or none has it. -/
def settleLead (s : State) (d : Nat) (lead : Bool) : State :=
  if lead ∧ !s.pkg.noLead then (if usable s (deputy s) then takeLead s d (deputy s) else loseLead s) else s

/-- The retirement is recorded, and flushed. -/
def noteRetired (s : State) (d cls : Nat) (lead flush : Bool) : State :=
  if s.pkg.noLead then s
  else
    let s := recordF s cls s.pkg.lead 0x0011 (keeperId s.pkg.lead) [nw d, nw cls, if flush then 1 else 0]
    let s := if lead then s else requestFlush s 1
    let s := forEach (portsOf d) (fun s p => flushGpn s (gpnOf d p)) s
    refreshGroups s

theorem retireDie_eq (s : State) (d cls : Nat) (flush : Bool) : retireDie s d cls flush =
    if s.pkg.retired.getLsbD d ∨ d ≥ s.pkg.n then s
    else
      let lead := decide (d = s.pkg.lead)
      noteRetired (settleLead (outOfService (withdrawDie (lastWords s d lead flush) d) d) d lead) d cls lead flush := rfl

theorem started_ite {c : Prop} [Decidable c] {s t u : State} (ht : started t = started s) (hu : started u = started s) :
    started (if c then t else u) = started s := by
  split
  · exact ht
  · exact hu

theorem started_fatalImage (s : State) : started (fatalImage s) = started s := started_of_pkgClaims (pkgClaims_fatalImage s)

theorem started_forwardAll (s : State) (d : Nat) : started (forwardAll s d) = started s := started_of_pkgClaims (pkgClaims_forwardAll s d)

theorem started_lastWords (s : State) (d : Nat) (lead flush : Bool) : started (lastWords s d lead flush) = started s := by
  have told := started_ite (c := flush ∧ !lead ∧ !s.pkg.noLead) (started_forwardAll s d) rfl
  unfold lastWords
  dsimp only
  generalize (if flush = true ∧ (!lead) = true ∧ (!s.pkg.noLead) = true then forwardAll s d else s) = u at told ⊢
  exact started_ite ((started_fatalImage u).trans told) told

theorem started_outOfService (s : State) (d : Nat) : started (outOfService s d) = started s := by
  unfold outOfService
  refine (started_of_pkg (pkg_wipeDie ..)).trans ((started_of_pkgClaims (pkgClaims_settlePorts ..)).trans ?_)
  rfl

theorem started_settleLead (s : State) (d : Nat) (lead : Bool) : started (settleLead s d lead) = started s := by
  unfold settleLead
  repeat' split
  · exact started_takeLead ..
  · exact started_loseLead ..
  · rfl

theorem started_noteRetired (s : State) (d cls : Nat) (lead flush : Bool) : started (noteRetired s d cls lead flush) = started s := by
  unfold noteRetired
  split
  · rfl
  · refine started_of_pkgClaims ?_
    rw [pkgClaims_refreshGroups, pkgClaims_forEach (fun s p => pkgClaims_flushGpn s (gpnOf d p)), pkgClaims_ite,
      pkgClaims_requestFlush, ite_self, pkgClaims_recordF]

/-- A die that retires leaves the package running, with as many dies. -/
theorem started_retireDie (s : State) (d cls : Nat) (flush : Bool) : started (retireDie s d cls flush) = started s := by
  rw [retireDie_eq]
  split
  · rfl
  · exact (started_noteRetired ..).trans ((started_settleLead ..).trans ((started_outOfService ..).trans
      ((started_of_pkgClaims (pkgClaims_withdrawDie ..)).trans (started_lastWords ..))))

/-! ## What fails at start-up (R408, R459) -/

theorem started_raiseClaim (s : State) (c i v : Nat) (h : Word) : started (raiseClaim s c i v h) = started s :=
  started_of_pkg (raiseClaim_keeps (but := fun _ => True) s c i v h (fun _ _ hn => absurd trivial hn)).pkg

theorem started_bankWithoutSpare (s : State) (d u : Nat) : started (bankWithoutSpare s d u) = started s := by
  by_cases hu : 64 < u
  · exact started_of_pkgClaims (pkgClaims_bankWithoutSpare_buffer s d hu)
  · unfold bankWithoutSpare
    dsimp only
    rw [if_pos (by omega)]
    exact (started_retireDie ..).trans (started_of_pkgClaims (pkgClaims_recordF ..))

theorem started_bootBank (s : State) (d u : Nat) : started (bootBank s d u) = started s := by
  have told : started (degraded d 4 u 3 s) = started s := started_of_pkgClaims (pkgClaims_degraded ..)
  unfold bootBank
  dsimp only
  repeat' split
  · exact told
  · exact (started_bankWithoutSpare ..).trans told
  · exact (started_raiseClaim ..).trans told
  · exact (started_raiseClaim ..).trans ((started_of_pkgClaims (pkgClaims_powerSpare ..)).trans told)

theorem started_degraded (s : State) (d kind id step : Nat) : started (degraded d kind id step s) = started s :=
  started_of_pkgClaims (pkgClaims_degraded ..)

theorem started_bootComb (s : State) (k : Nat) (bad : List Nat) : started (bootComb s k bad) = started s := by
  unfold bootComb
  dsimp only
  generalize hu : forEach bad _ _ = u
  have told : started u = started s := by
    rw [← hu]
    exact foldl_keeps started (fun s c => started_degraded s ..) _ _
  cases bad with
  | nil => exact told
  | cons c cs =>
    dsimp only
    split
    · exact (started_raiseClaim ..).trans told
    · refine Eq.trans ?_ ((started_raiseClaim u 2 k (c % 32) (keeperId (k / 8))).trans told)
      split
      · exact started_of_pkgClaims (pkgClaims_placeCell ..)
      · rfl

theorem started_bootUnits (s : State) (d : Nat) (r : BootResult) : started (bootUnits s d r) = started s := by
  unfold bootUnits
  dsimp only
  generalize h1 : forEach r.soft _ s = s1
  generalize h2 : forEach (badCombs d r) _ s1 = s2
  generalize h3 : forEach (dieCombs d) _ s2 = s3
  have repairs : started s1 = started s := by
    rw [← h1]
    refine foldl_keeps started (fun s e => ?_) _ _
    exact (started_of_pkgClaims (pkgClaims_applyRepair ..)).trans rfl
  have combs : started s2 = started s1 := by
    rw [← h2]
    refine started_of_pkgClaims (pkgClaims_forEach (fun s k => ?_) (badCombs d r) s1)
    rw [pkgClaims_degraded, pkgClaims_boot]
  have cells : started s3 = started s2 := by
    rw [← h3]
    refine foldl_keeps started (fun s k => ?_) _ _
    exact started_bootComb ..
  exact (foldl_keeps started (fun s u => started_bootBank s d u) _ _).trans (cells.trans (combs.trans repairs))

/-- A start-up leaves the package running, with the dies that it has. -/
theorem powerOnStart_runs {s : State} (h : s.pkg.running = false) (results : List BootResult) :
    Ends (.powerOnStart results) s (fun u => u.pkg.running = true ∧ u.pkg.n = s.pkg.n) := by
  refine ⟨_, congrArg Host.Outcome.next (if_neg (by rw [h]; decide)), ?_⟩
  dsimp only
  generalize h1 : bcrRegisters _ = s1
  generalize h2 : forEach _ _ s1 = s2
  generalize h3 : forEach _ _ s2 = s3
  generalize h4 : forEach _ placeEntries _ = s4
  have image : started s1 = started (enumerateDies s results) := by
    rw [← h1]
    exact started_of_pkgClaims ((pkgClaims_bcrRegisters _).trans (pkgClaims_bootImage ..))
  have stats : started s2 = started s1 := by
    rw [← h2]
    refine foldl_keeps started (fun s e => ?_) _ _
    exact started_of_pkgClaims (pkgClaims_setR ..)
  have dies : started s3 = started s2 := by
    rw [← h3]
    refine foldl_keeps started (fun s e => ?_) _ _
    split
    · exact started_bootUnits ..
    · exact started_degraded ..
  have entries : started s4 = started s3 := by
    rw [← h4]
    exact started_of_pkgClaims ((pkgClaims_forEach pkgClaims_placeEntries _ _).trans (pkgClaims_resumeTally _))
  have up := entries.trans (dies.trans (stats.trans image))
  suffices hs : ∀ u, started u = started s4 → u.pkg.running = true ∧ u.pkg.n = s.pkg.n by
    refine hs _ (started_of_pkgClaims ?_)
    rw [pkgClaims_refreshAllGuar, pkgClaims_forEach pkgClaims_settlePorts]
    split
    · rw [pkgClaims_recordK, pkgClaims_boot, pkgClaims_ite, pkgClaims_resyncFirmware, ite_self]
    · rw [pkgClaims_ite, pkgClaims_resyncFirmware, ite_self]
  intro u hu
  have hu := hu.trans up
  exact ⟨congrArg Prod.snd hu, congrArg Prod.fst hu⟩

end Sys2Proof.Proofs
end

section
/-! PROOF. Records and images, resets, an idle session, the instructions of the TAP (R9, R368, R440 to R449, R454, R463, R465, R466, R507,
R509). -/

namespace Sys2Proof.Proofs

open Sys2Proof.Machine Sys2Proof.Laws Sys2Proof.Safety Sys2Proof.Claims

section
variable {s : State} {die : Nat}

/-! ## The recorder (R440 to R449) -/

theorem recordForward_oldest {r : Rec} {rest : List Rec} (hf : forwards s die = true) (hb : dieBuf s die = r :: rest) :
    EndsIn (.recordForward die) s (logRecord { s with log := { s.log with
      buf := kset s.log.buf die rest [], dumpAt := kset s.log.dumpAt die (kget s.log.dumpAt die 0 - 1) 0 } } r) := by
  refine congrArg Host.Outcome.next ((if_pos hf).trans ?_)
  unfold forwardOne
  rw [hb]

theorem recordForward_idle (h : forwards s die = false ∨ dieBuf s die = []) : EndsIn (.recordForward die) s s := by
  rcases h with h | h
  · exact congrArg Host.Outcome.next (if_neg (ne_true_of_eq_false h))
  · have he : forwardOne s die = s := by
      unfold forwardOne
      rw [h]
    refine congrArg Host.Outcome.next ?_
    rw [he, ite_self]

theorem recTokenRefill_cases {code : Nat} (hd : die < s.pkg.n) (hc : code < 65536) :
    let b := rateBucket s die (nw code)
    0 < b.rate → b.rate < 0xFFFF → b.tokens < b.burst →
      (b.below + nsPerS / b.rate ≤ mono s die → EndsIn (.recTokenRefill die code) s
        (setRateBucket s die (nw code) { b with tokens := b.tokens + 1, below := b.below + nsPerS / b.rate })) ∧
      (mono s die < b.below + nsPerS / b.rate → EndsIn (.recTokenRefill die code) s s) := by
  intro b h0 hr ht
  have hm : max 1 (rateBucket s die (nw code)).rate = (rateBucket s die (nw code)).rate := max_eq_right h0
  refine ⟨fun h => congrArg Host.Outcome.next ?_, fun h => congrArg Host.Outcome.next ?_⟩
  · dsimp only
    rw [hm]
    exact if_pos ⟨hd, hc, h0, hr, ht, h⟩
  · dsimp only
    rw [hm]
    exact if_neg fun h' => absurd h'.2.2.2.2.2 (Nat.not_le.mpr h)

theorem flushDone_idle (ok : Bool) (h : s.log.flush = none) : EndsIn (.flushDone ok) s s := by
  refine congrArg Host.Outcome.next ?_
  rw [h]

theorem flushDone_written {f : Flush} (h : s.log.flush = some f) :
    let lead := s.pkg.lead
    let slot := flushSlot s lead
    let idle : State := { s with log := { s.log with flush := none } }
    let image : NvImage := ⟨s.log.lastImage + 1, lead, f.reason, f.stime, s.log.log.take f.count, f.notrec, stateBlock idle⟩
    let kept := setNvImage (setNvImage idle lead slot (some image)) lead (1 - slot) none
    let good := cntWrap { kept with log := { kept.log with lastImage := s.log.lastImage + 1, nvFail := false } } .recCntFlush lead 0
    let poor := setNvImage { idle with log := { idle.log with nvFail := true } } lead slot none
    EndsIn (.flushDone true) s (flushRecord (followFlush good f) f 0 (s.log.lastImage + 1)) ∧
    EndsIn (.flushDone false) s (flushRecord (followFlush poor f) f 1 s.log.lastImage) := by
  refine ⟨congrArg Host.Outcome.next ?_, congrArg Host.Outcome.next ?_⟩
  · rw [h]
    exact if_pos rfl
  · rw [h]
    exact if_neg (by decide)

theorem recCheckpoint_fires {f : Fired} {s1 : State} (h : takeFired s die 7 = some (f, s1)) :
    EndsIn (.recCheckpoint die) s (requestFlush s1 4) := by
  refine congrArg Host.Outcome.next ?_
  rw [h]

theorem recCheckpoint_idle (h : takeFired s die 7 = none) : EndsIn (.recCheckpoint die) s s := by
  refine congrArg Host.Outcome.next ?_
  rw [h]

theorem pfail_flushes (hr : s.pkg.running = true) (hp : s.log.pfail = none) (hl : s.pkg.noLead = false) :
    let edge : State := { s with log := { s.log with pfail := some (leadMono s) } }
    EndsIn .pfail s (beginFlush (sendDown (forEach (allDies edge) (fun s d => if forwards s d then forwardAll s d else s) edge)) 2) := by
  refine congrArg Host.Outcome.next ((if_neg ?_).trans (if_neg (ne_true_of_eq_false hl)))
  rw [hr, hp]
  decide

theorem pfail_again (h : s.log.pfail ≠ none) : EndsIn .pfail s s :=
  congrArg Host.Outcome.next (if_pos (.inr (Option.isSome_iff_ne_none.mpr h)))

/-! ## Resets (R9, R465, R466) -/

/-- All but the registers. -/
def besideRegs (s : State) : State := { s with regs := [] }

theorem besideRegs_setField (s : State) (r : RegName) (d i lo w x : Nat) : besideRegs (setField s r d i lo w x) = besideRegs s := rfl

theorem besideRegs_applyRepair (s : State) (d u row : Nat) (fused : Bool) : besideRegs (applyRepair s d u row fused) = besideRegs s := by
  unfold applyRepair
  dsimp only
  repeat' split
  all_goals simp only [besideRegs_setField]

/-- What a cold reset leaves beside the registers. -/
theorem besideRegs_coldBase (s : State) : ∃ images, besideRegs (coldBase s) = besideRegs { State.reset with
    pkg := { State.reset.pkg with n := s.pkg.n }, kpr := { State.reset.kpr with keys := s.kpr.keys },
    pair := { State.reset.pair with key := s.pair.key }, boot := { State.reset.boot with bcr := s.boot.bcr, slots := s.boot.slots },
    log := { State.reset.log with images := images, stateBlocks := s.log.stateBlocks, lastImage := s.log.lastImage },
    insp := { State.reset.insp with fused := s.insp.fused, fuses := s.insp.fuses }, out := s.out, free := s.free, pending := s.pending } :=
  ⟨_, foldl_keeps besideRegs (fun t (e : Nat × Nat × Nat) => besideRegs_applyRepair t e.1 e.2.1 e.2.2 true) _ _⟩

/-- Reset, but for what is nonvolatile (R9). -/
def ColdLeft (s u : State) : Prop :=
  u.core = State.reset.core ∧ u.log.log = [] ∧ u.kpr.sessions = [] ∧ u.kpr.keys = s.kpr.keys ∧ u.insp.fused = s.insp.fused ∧
    u.boot.slots = s.boot.slots ∧ u.pkg.n = s.pkg.n ∧ u.pkg.running = false

theorem coldLeft_besideRegs {s u : State} : ColdLeft s (besideRegs u) ↔ ColdLeft s u := Iff.rfl

theorem coldBase_coldLeft (s : State) : ColdLeft s (coldBase s) := by
  obtain ⟨images, h⟩ := besideRegs_coldBase s
  rw [← coldLeft_besideRegs, h]
  exact ⟨rfl, rfl, rfl, rfl, rfl, rfl, rfl, rfl⟩

theorem coldReset_leaves : Ends .coldReset s (ColdLeft s) := by
  refine ⟨_, rfl, ?_⟩
  dsimp only
  split
  · exact coldBase_coldLeft s
  · exact coldBase_coldLeft s

/-! ## Sessions (R368) -/

theorem sessionIdle_cases {index : Nat} {x : Session} (h : session s index = some x) :
    (x.idleSince + idleNs s ≤ leadMono s → EndsIn (.sessionIdle index) s (endSession s index 4)) ∧
    (leadMono s < x.idleSince + idleNs s → EndsIn (.sessionIdle index) s s) := by
  refine ⟨fun ht => congrArg Host.Outcome.next ?_, fun ht => congrArg Host.Outcome.next ?_⟩
  · rw [h]
    exact if_pos ht
  · rw [h]
    exact if_neg (Nat.not_le.mpr ht)

/-! ## The TAP (R463, R509) -/

theorem boundaryScan_shifts (s : State) (code : Nat) (shift : List Bool) :
    (boundaryScan s code shift).boot.scan = shift ∧ (boundaryScan s code shift).boot.jtag = code ∧
      ∃ bits, (boundaryScan s code shift).out = s.out ++ [.scan bits] ∧ bits.length = shift.length :=
  ⟨rfl, rfl, _, rfl, (List.length_map _).trans List.length_range⟩

theorem scanBits_length (n v : Nat) : (scanBits n v).length = n := (List.length_map _).trans List.length_range

theorem idcode_testBit (s : State) {k : Nat} (hk : k < 16) : (idcode s).testBit (12 + k) = (partNumber s).testBit k := by
  have h : idcode s = (Config.siliconRevision.toNat * 2 ^ 16 + partNumber s) * 2 ^ 12 + 1491 := by
    unfold idcode
    omega
  rw [h, Nat.mul_comm, Nat.testBit_two_pow_mul_add _ (by decide), if_neg (by omega), Nat.add_sub_cancel_left, Nat.mul_comm,
    Nat.testBit_two_pow_mul_add _ (by unfold partNumber; split <;> decide), if_pos hk]

/-- The first bit of IDCODE is 1. -/
theorem idcode_odd (s : State) : (idcode s).testBit 0 = true := by
  unfold idcode
  rw [Nat.testBit_zero]
  exact decide_eq_true (by omega)

theorem scanBits_getD (n v k : Nat) (h : k < n) : (scanBits n v).getD k false = v.testBit k := by
  unfold scanBits
  simp [h]

theorem keyClaim_enters {key : BitVec 256} {crc : Word} (hl : leadStands s = true) :
    let asked : State := { s with out := s.out ++ [.scan (scanBits 272 s.boot.keyCap)], boot := { s.boot with jtag := 0x10 } }
    ((kget s.kpr.keys 0 ⟨0, 0⟩).priv = 0 → keyCrc key = crc → EndsIn (.keyClaim key crc) s
      (let u : State := { asked with kpr := { asked.kpr with keys := kset asked.kpr.keys 0 ⟨owner, key⟩ ⟨0, 0⟩ } }
       let v := record u s.pkg.lead 0x0006 0xC000 [0, nw owner, 0]
       { v with boot := { v.boot with keyCap := 1 } })) ∧
    ((kget s.kpr.keys 0 ⟨0, 0⟩).priv ≠ 0 → EndsIn (.keyClaim key crc) s { asked with boot := { asked.boot with keyCap := 2 } }) ∧
    ((kget s.kpr.keys 0 ⟨0, 0⟩).priv = 0 → keyCrc key ≠ crc →
      EndsIn (.keyClaim key crc) s { asked with boot := { asked.boot with keyCap := 3 } }) := by
  have on : ¬(!leadStands s) = true := by rw [hl]; decide
  exact ⟨fun hk hc => congrArg Host.Outcome.next ((if_neg on).trans ((if_neg (not_not.mpr hk)).trans (if_neg (not_not.mpr hc)))),
    fun hk => congrArg Host.Outcome.next ((if_neg on).trans (if_pos hk)),
    fun hk hc => congrArg Host.Outcome.next ((if_neg on).trans ((if_neg (not_not.mpr hk)).trans (if_pos hc)))⟩

theorem keyErase_unclaims (hl : leadStands s = true) : Ends (.keyErase true) s (fun u => u.kpr.keys = []) :=
  ⟨_, congrArg Host.Outcome.next (if_pos ⟨rfl, hl⟩), rfl⟩

theorem log_scanOut (s : State) (code : Nat) (bits : List Bool) : (scanOut s code bits).log = s.log := rfl

theorem recDump_shifts {d : BitVec 3} {r : Rec} (h : (dieBuf s d.toNat)[kget s.log.dumpAt d.toNat 0]? = some r) :
    Ends (.recDump d) s (fun u => kget u.log.dumpAt d.toNat 0 = kget s.log.dumpAt d.toNat 0 + 1 ∧
      u.out = s.out ++ [.scan (scanBits 264 (valOf (recWords r) * 256))]) := by
  refine ⟨_, rfl, ?_⟩
  dsimp only
  rw [h]
  dsimp only
  rw [log_scanOut]
  dsimp only
  exact ⟨kget_kset_same s.log.dumpAt d.toNat _ 0, rfl⟩

theorem recDump_empty {d : BitVec 3} (h : (dieBuf s d.toNat)[kget s.log.dumpAt d.toNat 0]? = none) :
    EndsIn (.recDump d) s { s with out := s.out ++ [.scan (scanBits 264 0xFF)], boot := { s.boot with jtag := 0x12 } } := by
  refine congrArg Host.Outcome.next ?_
  dsimp only
  rw [h]
  rfl

end

/-- Settles O50: each happening by its guard; a start-up by what every step of it keeps (`powerOnStart_runs`). -/
theorem recorderResetsAndTap : Obligations.RecorderResetsAndTap := by
  unfold Obligations.RecorderResetsAndTap
  intro s s1 die code index k f fi r rest x results shift instr key crc d3 ok
  refine ⟨recordForward_oldest, recordForward_idle, recTokenRefill_cases, flushDone_idle ok, flushDone_written,
    fun hr hl => congrArg Host.Outcome.next (if_pos ⟨hr, hl⟩), recCheckpoint_fires, recCheckpoint_idle, pfail_flushes, pfail_again, rfl,
    coldReset_leaves, fun hr => congrArg Host.Outcome.next (if_pos hr), fun hr => powerOnStart_runs hr results, sessionIdle_cases,
    ⟨_, rfl, boundaryScan_shifts ..⟩, ⟨_, rfl, boundaryScan_shifts ..⟩,
    ⟨_, rfl, scanBits_length .., congrArg some (idcode_odd s),
      fun hk => (scanBits_getD _ _ _ (by omega)).trans (idcode_testBit s hk)⟩, rfl, rfl, fun hi => congrArg Host.Outcome.next (if_neg hi),
    fun hl => ⟨(keyClaim_enters hl).1, (keyClaim_enters hl).2.1, (keyClaim_enters hl).2.2, keyErase_unclaims hl⟩,
    congrArg Host.Outcome.next (if_neg fun h => Bool.noConfusion h.1), recDump_shifts, recDump_empty,
    fun hr => congrArg Host.Outcome.next (if_pos ⟨rfl, hr⟩), congrArg Host.Outcome.next (if_neg fun h => Bool.noConfusion h.1)⟩

end Sys2Proof.Proofs
end

section
/-! PROOF. What a pair knows of its partner through a change of its state (R475, R476, R479 to R481). -/

namespace Sys2Proof.Proofs

open Sys2Proof.Machine Sys2Proof.Laws Sys2Proof.Safety Sys2Proof.Claims

/-- The partner as its HELLO named it, and the times of the last heartbeat. -/
def talk (s : State) : Option (BitVec 48 × Bool × Word) × (Nat × Nat) := (s.pair.partner, s.pair.lastHb)

theorem talk_of_pair {s t : State} (h : t.pair = s.pair) : talk t = talk s := by
  unfold talk
  rw [h]

theorem talk_of_unrecorded {s t : State} (h : unrecorded t = unrecorded s) : talk t = talk s := talk_of_pair (congrArg State.pair h :)

theorem talk_of_offTables {s t : State} (h : offTables t = offTables s) : talk t = talk s := talk_of_pair (congrArg State.pair h :)

section
variable (s : State)

theorem talk_setField (r : RegName) (d i lo w x : Nat) : talk (setField s r d i lo w x) = talk s := rfl

theorem talk_setFieldAll (r : RegName) (i lo w x : Nat) : talk (setFieldAll s r i lo w x) = talk s :=
  foldl_keeps talk (fun s d => talk_setField s r d i lo w x) _ s

theorem talk_cnt (r : RegName) (d i : Nat) : talk (cnt s r d i) = talk s := rfl

theorem talk_recordF (cls d : Nat) (code src : Word) (ws : List Word) : talk (recordF s cls d code src ws) = talk s :=
  talk_of_unrecorded (unrecorded_recordF ..)

theorem talk_recordK (d : Nat) (code : Word) (ws : List Word) : talk (recordK s d code ws) = talk s :=
  talk_of_unrecorded (unrecorded_record ..)

theorem talk_ite (c : Prop) [Decidable c] (t : State) : talk (if c then s else t) = if c then talk s else talk t := apply_ite ..

/-! ## Bounds and groups (R411, R481) -/

theorem talk_refreshGuar (d : Nat) : talk (refreshGuar s d) = talk s := by
  have bit (now old : Nat) (a : Nat × State) (b : Nat) : talk (guarBit d now old a b).2 = talk a.2 := by
    unfold guarBit
    repeat' split
    all_goals rfl
  have bits (l : List Nat) (now old : Nat) (a : Nat × State) : talk (l.foldl (guarBit d now old) a).2 = talk a.2 :=
    foldl_keeps (fun a : Nat × State => talk a.2) (fun a b => bit now old a b) l a
  have set (u : State) (v : Nat) : talk (setGuar u d v) = talk u := by
    unfold setGuar
    dsimp only
    split
    · rfl
    · exact talk_recordF ..
  unfold refreshGuar
  exact (set _ _).trans (bits (List.range 14) (guarNow s d) (getR s .fltGuarantee d 0) (0, s))

theorem talk_refreshAllGuar : talk (refreshAllGuar s) = talk s := foldl_keeps talk (fun s d => talk_refreshGuar s d) _ s

theorem talk_putGroup (g : Nat) : talk (putGroup s g) = talk s := by
  have dies (l : List Nat) (a : Bool × State) :
      talk (l.foldl (fun (a : Bool × State) d => let r := writeGroup a.2 d g; (a.1 || r.1, r.2)) a).2 = talk a.2 :=
    foldl_keeps (fun a : Bool × State => talk a.2) (fun a d => by exact talk_of_offTables (offTables_writeGroup a.2 d g)) l a
  unfold putGroup
  dsimp only
  split
  · exact (talk_recordK ..).trans (dies (usableDies s) (false, s))
  · exact dies (usableDies s) (false, s)

theorem talk_refreshGroups : talk (refreshGroups s) = talk s := by
  unfold refreshGroups
  split
  · rfl
  · exact foldl_keeps talk (fun s g => talk_putGroup s g) _ s

/-! ## Ports (R297, R481) -/

theorem talk_dropCopy (q : Nat) (c : QCopy) : talk (dropCopy s q c) = talk s := by
  obtain ⟨p, e⟩ := endShare_eq_path (clearDeficits (setQueue s q ((getQueue s q).filter (fun x => x.id ≠ c.id))) q) c.frame (.copy c.id)
  exact (congrArg talk e).trans rfl

theorem talk_endLostXfer (x f : Nat) : talk (endLostXfer s x f) = talk s := by
  unfold endLostXfer
  repeat' split
  all_goals rfl

theorem talk_discardCopy (code q : Nat) (c : QCopy) : talk (discardCopy code q s c) = talk s := by
  unfold discardCopy
  dsimp only
  rw [talk_endLostXfer, talk_dropCopy]
  rfl

theorem talk_enterDown (g : Nat) : talk (enterDown s g) = talk s := by
  have all (s : State) (q : Nat) : talk (discardAll s q 2 (fun _ => true)).2 = talk s :=
    foldl_keeps talk (fun s c => talk_discardCopy s 2 q c) _ s
  have queues : talk (flushQueues s g).2 = talk s :=
    foldl_keeps (fun a : Nat × State => talk a.2) (fun a q => by exact all a.2 q) _ (0, s)
  have port (u : State) : talk (cnt (modPort u g fun p => { p with link := .down }) .egrCntFlush (gpnDie g) (gpnPort g)) = talk u := rfl
  rw [enterDown_eq, talk_recordK, talk_of_offTables (offTables_flushGpn _ g), port, queues]

theorem talk_abortCopy (g : Nat) (x : Sending) (n : Nat) (lost : Bool) : talk (abortCopy s g x n lost) = talk s := by
  have tally (u : State) (d t m b : Nat) : talk (hwCount u d t m b) = talk u := rfl
  unfold abortCopy
  dsimp only
  rw [talk_endLostXfer, talk_dropCopy, tally, talk_recordK, talk_cnt]
  rfl

theorem talk_leaveUp (g n : Nat) : talk (leaveUp s g n) = talk s := by
  have stop (s : State) (c : Nat) : talk (endStop s g c) = talk s := by
    unfold endStop countStopped
    dsimp only
    split <;> rfl
  have stops (u : State) : talk (forEach (List.range 8) (fun s c => endStop s g c) u) = talk u := foldl_keeps talk stop _ u
  have hold (u : State) (t : Nat) : talk (modPort u g fun p => { p with holdSince := t }) = talk u := rfl
  unfold leaveUp
  dsimp only
  rw [hold, stops]
  split
  · exact talk_abortCopy ..
  · rfl

theorem talk_enterUp (g : Nat) : talk (enterUp s g) = talk s := by
  unfold enterUp
  exact talk_recordK ..

theorem talk_settlePort (g : Nat) : talk (settlePort s g) = talk s := by
  have free (u : State) (n : Nat) : talk (leaveUp { u with free := u.free + 1 } g n) = talk u := talk_leaveUp ..
  unfold settlePort
  dsimp only
  split
  · split
    · rw [talk_refreshGroups, talk_enterDown, free]
    · exact talk_enterDown ..
    · rfl
  · split
    · rw [talk_refreshGroups, talk_enterUp]
    · rfl

theorem talk_settlePorts (d : Nat) : talk (settlePorts s d) = talk s := foldl_keeps talk (fun s p => talk_settlePort s (gpnOf d p)) _ s

/-! ## Batches on behalf of the partner (R330, R485) -/

theorem talk_makeRoom (fuel : Nat) : talk (makeRoom fuel s) = talk s := by
  have lose (s : State) : talk (loseBatch s) = talk s := by
    unfold loseBatch
    split
    · rfl
    · exact talk_recordK ..
  induction fuel generalizing s with
  | zero => rfl
  | succ f ih =>
    unfold makeRoom
    split
    · exact (ih _).trans (lose s)
    · rfl

theorem talk_emitBatch (minute span flags dies : Nat) (recs : List ClosedLine) :
    talk (emitBatch s minute span flags dies recs) = talk s := by
  have send (u : State) (b : Batch) : talk (sendBatch u b) = talk u :=
    foldl_keeps talk (fun u p => by exact talk_of_unrecorded (unrecorded_notifyWhere ..)) _ u
  unfold emitBatch
  dsimp only
  rw [talk_makeRoom, send]
  rfl

theorem talk_emitHeld (m : Nat) : talk (emitHeld s m) = talk s := by
  unfold emitHeld
  dsimp only
  rw [talk_recordK]
  exact talk_emitBatch ..

theorem talk_emitBehalf : talk (emitBehalf s) = talk s := by
  unfold emitBehalf
  split
  · rfl
  · exact foldl_keeps talk (fun s m => talk_emitHeld s m) _ s

/-! ## States (R475) -/

/-- A change of state leaves what the pair knows of its partner. -/
theorem talk_setPairState (new cause : Nat) : talk (setPairState s new cause) = talk s := by
  have flush (s : State) : talk (flushGpn (flushGpn s (portA s)) (portB s)) = talk s :=
    (talk_of_offTables (offTables_flushGpn ..)).trans (talk_of_offTables (offTables_flushGpn ..))
  have settle (s : State) : talk (forEach (usableDies s) settlePorts s) = talk s := foldl_keeps talk (fun s d => talk_settlePorts s d) _ s
  have window (s : State) : talk { s with pair := { s.pair with hi := 0, seen := 0 } } = talk s := rfl
  have beats (s : State) : talk { s with pair := { s.pair with hbRun := [], probeStart := none, probeAcked := none } } = talk s := rfl
  have entered (old : Nat) : talk (pairEvent (setFieldAll s .pairStatus 0 0 3 new) old new cause) = talk s :=
    (talk_recordK ..).trans (talk_setFieldAll ..)
  unfold setPairState
  dsimp only
  split
  · rfl
  · rw [talk_emitBehalf, talk_refreshGroups, talk_refreshAllGuar, talk_ite, settle, ite_self, talk_ite, flush, ite_self, talk_ite, beats,
      ite_self, talk_ite, window, ite_self, entered]

theorem talk_formPair : talk (formPair s) = talk s := by
  unfold formPair
  dsimp only
  rw [talk_ite, talk_setPairState, ite_self]

theorem talk_sendPair (g kind : Nat) (dst : BitVec 48) (ws : List Word) : talk (sendPair s g kind dst ws) = talk s := by
  unfold sendPair
  split
  · rfl
  · rfl

end

end Sys2Proof.Proofs
end

section
/-! PROOF. Pair-control frames, and what a pair does of its own (R474 to R485). -/

namespace Sys2Proof.Proofs

open Sys2Proof.Machine Sys2Proof.Laws Sys2Proof.Safety Sys2Proof.Claims

section
variable {s : State} {m : PairMsg} {kind : Nat}

/-! ## The checks of a frame (R474) -/

theorem pairRx_port (h : pairArrives s m kind) :
    ¬(!s.pkg.running || s.pkg.noLead || !pairPort s m.gpn || !portServes s m.gpn || !(getPort s m.gpn).pcsUp) = true ∧
      ¬(m.w0.toNat / 4096 ≠ 1 ∨ m.w0.toNat % 256 ≠ kind ∨ m.len > 4480 ∨ m.len > m.payload.length) := by
  obtain ⟨hr, hl, hp, hs, hu, hv, hk, h1, h2⟩ := h
  rw [hr, hl, hp, hs, hu]
  exact ⟨by decide, by omega⟩

theorem pairRx_deaf (h : ¬pairArrives s m kind) : pairRx s m kind = (false, s) := by
  unfold pairRx
  split
  · rfl
  · next h1 =>
    refine if_pos ?_
    by_contra h2
    refine h ?_
    simp only [Bool.not_eq_true, Bool.or_eq_false_iff, Bool.not_eq_false'] at h1
    obtain ⟨⟨⟨⟨hr, hl⟩, hp⟩, hs⟩, hu⟩ := h1
    exact ⟨hr, hl, hp, hs, hu, by omega, by omega, by omega, by omega⟩

theorem pairRx_otherPair (h : pairArrives s m kind) (hi : m.pairId.toNat ≠ bitsOf (pairCfg s) 64 16) :
    pairRx s m kind = (false, pairAuthFail s m kind 1) :=
  (if_neg (pairRx_port h).1).trans ((if_neg (pairRx_port h).2).trans (if_pos hi))

theorem pairRx_badTag (h : pairArrives s m kind) (hi : m.pairId.toNat = bitsOf (pairCfg s) 64 16) (ht : ¬pairTagOk s m) :
    pairRx s m kind = (false, pairAuthFail s m kind 2) :=
  (if_neg (pairRx_port h).1).trans ((if_neg (pairRx_port h).2).trans ((if_neg (not_not.mpr hi)).trans (if_pos ht)))

section
variable (h : pairArrives s m kind) (hi : m.pairId.toNat = bitsOf (pairCfg s) 64 16) (ht : pairTagOk s m)
include h hi ht

theorem pairRx_first (h0 : s.pair.seen = 0) : pairRx s m kind = (true, { s with pair := { s.pair with hi := m.seq, seen := 1 } }) :=
  (if_neg (pairRx_port h).1).trans ((if_neg (pairRx_port h).2).trans ((if_neg (not_not.mpr hi)).trans ((if_neg (not_not.mpr ht)).trans
    (if_pos h0))))

/-- What the window says of a frame of the pair. -/
theorem pairRx_window (h0 : s.pair.seen ≠ 0) :
    (seqKind s.pair.hi s.pair.seen m.seq = .refused → pairRx s m kind = (false, pairAuthFail s m kind 3)) ∧
    (seqKind s.pair.hi s.pair.seen m.seq = .seen → pairRx s m kind = (false, s)) ∧
    (seqKind s.pair.hi s.pair.seen m.seq = .new ∨ seqKind s.pair.hi s.pair.seen m.seq = .late →
      pairRx s m kind = (true, { s with pair := { s.pair with
        hi := (seqAccept s.pair.hi s.pair.seen m.seq).1, seen := (seqAccept s.pair.hi s.pair.seen m.seq).2 } })) := by
  unfold pairTagOk at ht
  unfold pairRx
  rw [if_neg (pairRx_port h).1, if_neg (pairRx_port h).2, if_neg (not_not.mpr hi), if_neg (not_not.mpr ht), if_neg h0]
  refine ⟨fun hk => by rw [hk], fun hk => by rw [hk], fun hk => ?_⟩
  rcases hk with hk | hk
  · rw [hk]
  · rw [hk]

end

/-- An accepted frame moves the window. -/
theorem pairRx_accepts (h : pairAccepts s m kind) : pairRx s m kind = (true, pairTook s m) := by
  obtain ⟨ha, hi, ht, hw⟩ := h
  unfold pairTook
  by_cases h0 : s.pair.seen = 0
  · rw [if_pos h0]
    exact pairRx_first ha hi ht h0
  · rw [if_neg h0]
    exact (pairRx_window ha hi ht h0).2.2 (hw.resolve_left h0)

/-- A command by which a frame arrives does what `onPair` says. -/
theorem pairFrame_exec {c : Instr} (h : pairFrame m c kind) : ∃ body, ∀ s, exec c s = .next (onPair s m kind body) := by
  rcases h with ⟨rfl, rfl⟩ | ⟨rfl, rfl⟩ | ⟨rfl, rfl⟩ | ⟨rfl, rfl⟩ | ⟨rfl, rfl⟩ |
    ⟨rfl, rfl⟩ | ⟨rfl, rfl⟩ | ⟨rfl, rfl⟩ | ⟨rfl, rfl⟩ | ⟨rfl, rfl⟩
  all_goals exact ⟨_, fun _ => rfl⟩

theorem onPair_stops {u : State} (h : pairRx s m kind = (false, u)) (body : State → State) : onPair s m kind body = u := by
  unfold onPair
  rw [h]
  rfl

theorem onPair_goesOn (h : pairAccepts s m kind) (body : State → State) : onPair s m kind body = body (pairTook s m) := by
  unfold onPair
  rw [pairRx_accepts h]
  rfl

theorem pairFrame_stops {c : Instr} {u : State} (hc : pairFrame m c kind) (h : pairRx s m kind = (false, u)) : EndsIn c s u := by
  obtain ⟨body, he⟩ := pairFrame_exec hc
  exact (he s).trans (congrArg Host.Outcome.next (onPair_stops h body))

/-- A frame that is refused, or has been seen. -/
theorem pairFrame_refused {c : Instr} (hc : pairFrame m c kind) :
    (pairArrives s m kind → m.pairId.toNat ≠ bitsOf (pairCfg s) 64 16 → EndsIn c s (pairAuthFail s m kind 1)) ∧
    (pairArrives s m kind → m.pairId.toNat = bitsOf (pairCfg s) 64 16 → ¬pairTagOk s m → EndsIn c s (pairAuthFail s m kind 2)) ∧
    (pairArrives s m kind → m.pairId.toNat = bitsOf (pairCfg s) 64 16 → pairTagOk s m → s.pair.seen ≠ 0 →
      (seqKind s.pair.hi s.pair.seen m.seq = .refused → EndsIn c s (pairAuthFail s m kind 3)) ∧
      (seqKind s.pair.hi s.pair.seen m.seq = .seen → EndsIn c s s)) ∧
    (¬pairArrives s m kind → EndsIn c s s) :=
  ⟨fun h hi => pairFrame_stops hc (pairRx_otherPair h hi), fun h hi ht => pairFrame_stops hc (pairRx_badTag h hi ht),
    fun h hi ht h0 => ⟨fun hk => pairFrame_stops hc ((pairRx_window h hi ht h0).1 hk),
      fun hk => pairFrame_stops hc ((pairRx_window h hi ht h0).2.1 hk)⟩,
    fun h => pairFrame_stops hc (pairRx_deaf h)⟩

/-! ## An accepted frame changes the window alone -/

theorem pkg_pairTook (s : State) (m : PairMsg) : (pairTook s m).pkg = s.pkg := by
  unfold pairTook
  split <;> rfl

theorem leadMono_pairTook (s : State) (m : PairMsg) : leadMono (pairTook s m) = leadMono s := by
  unfold pairTook
  split <;> rfl

theorem stime_pairTook (s : State) (m : PairMsg) (d : Nat) : stime (pairTook s m) d = stime s d := by
  unfold pairTook
  split <;> rfl

theorem minuteOfSec_pairTook (s : State) (m : PairMsg) (t : Int) : minuteOfSec (pairTook s m) t = minuteOfSec s t := by
  unfold pairTook
  split <;> rfl

/-! ## HELLO (R475, R480) -/

/-- A frame that has been accepted leaves in `body` of the state with its window. -/
theorem ends_onPair {body : State → State} {u : State} (h : pairAccepts s m kind) (hb : body (pairTook s m) = u) :
    (.next (onPair s m kind body) : Host.Outcome State Fault Refusal) = .next u :=
  congrArg Host.Outcome.next ((onPair_goesOn h body).trans hb)

/-- A HELLO of another variant, of the same role or of another release. -/
def unfit (u : State) (m : PairMsg) : Prop :=
  pairWord m 3 ≠ variantCode u.pkg.n ∨ decide (pairWord m 4 % 2 = 1) = secondary u ∨ pairWord m 5 / 256 ≠ (runningRelease u).toNat / 256

theorem hello_unfit {u : State} (h : unfit u m) : hello u m = pairEvent u (pairState u) (pairState u) 1 := if_pos h

theorem hello_partner {u : State} (h : ¬unfit u m) : (hello u m).pair.partner =
    some (BitVec.ofNat 48 (valOf (pairWords m 0 3)), decide (pairWord m 4 % 2 = 1), nw (pairWord m 5)) := by
  have answered (v : State) : talk (if pairState v = pairForming then formPair v else sendHello v m.gpn) = talk v := by
    unfold sendHello
    rw [talk_ite, talk_formPair, talk_sendPair, ite_self]
  unfold unfit at h
  unfold hello
  dsimp only
  rw [if_neg h]
  exact (congrArg Prod.fst (answered _) :)

/-! ## Heartbeats (R476) -/

theorem talk_formed (v : State) (k : Nat) : talk (refreshGroups (formPair (noteHeartbeat v k))) = talk v := by
  rw [talk_refreshGroups, talk_formPair]
  exact talk_setFieldAll ..

theorem heartbeat_times (u : State) (k : Nat) : (heartbeat u m k).pair.lastHb = (pairTime m 1, stime u (gpnDie m.gpn)) := by
  have h : (talk (heartbeat u m k)).2 = (pairTime m 1, stime u (gpnDie m.gpn)) := by
    unfold heartbeat
    dsimp only
    rw [talk_formed, talk_ite, talk_setPairState, ite_self, talk_setFieldAll, talk_cnt]
    rfl
  exact h

/-! ## Checkpoints (R484) -/

theorem checkpoint_holds (u : State) :
    (checkpoint u m).pair.theirs = (valOf (pairWords m 0 2), minuteOfSec u (valOf (pairWords m 2 3) : Nat)) ∧
      ∀ e ∈ (checkpoint u m).pair.held, minuteOfSec u (valOf (pairWords m 2 3) : Nat) < e.1 / 65536 :=
  ⟨rfl, fun _ he => of_decide_eq_true (List.mem_filter.mp he).2⟩

/-! ## What each kind of frame does -/

theorem pairHelloRx_cases (h : pairAccepts s m kHello) (h6 : 6 ≤ m.len) :
    let u := pairTook s m
    (unfit u m → EndsIn (.pairHelloRx m) s (pairEvent u (pairState u) (pairState u) 1)) ∧
    (¬unfit u m → Ends (.pairHelloRx m) s (fun v =>
      v.pair.partner = some (BitVec.ofNat 48 (valOf (pairWords m 0 3)), decide (pairWord m 4 % 2 = 1), nw (pairWord m 5)))) :=
  ⟨fun hf => ends_onPair h ((if_neg (Nat.not_lt.mpr h6)).trans (hello_unfit hf)),
    fun hf => ⟨_, ends_onPair h (if_neg (Nat.not_lt.mpr h6)), hello_partner hf⟩⟩

theorem pairHeartbeatRx_cases (h : pairAccepts s m kHeartbeat) (hs : pairState (pairTook s m) ≠ pairOff) :
    let u := pairTook s m
    (m.gpn = portA u → EndsIn (.pairHeartbeatRx m) s (heartbeat u m 0)) ∧
    (m.gpn ≠ portA u → m.gpn = portB u → EndsIn (.pairHeartbeatRx m) s (heartbeat u m 1)) ∧
    (m.gpn = portA u ∨ m.gpn = portB u →
      Ends (.pairHeartbeatRx m) s (fun v => v.pair.lastHb = (pairTime m 1, stime s (gpnDie m.gpn)))) := by
  rw [← stime_pairTook s m]
  intro u
  have a (ha : m.gpn = portA u) : EndsIn (.pairHeartbeatRx m) s (heartbeat u m 0) := ends_onPair h ((if_neg hs).trans (if_pos ha))
  have b (ha : m.gpn ≠ portA u) (hb : m.gpn = portB u) : EndsIn (.pairHeartbeatRx m) s (heartbeat u m 1) :=
    ends_onPair h ((if_neg hs).trans ((if_neg ha).trans (if_pos hb)))
  refine ⟨a, b, fun hg => ?_⟩
  by_cases ha : m.gpn = portA u
  · exact ⟨_, a ha, heartbeat_times ..⟩
  · exact ⟨_, b ha (hg.resolve_left ha), heartbeat_times ..⟩

theorem pairCheckpointRx_holds (h : pairAccepts s m kCheckpoint) (hs : pairState (pairTook s m) ≠ pairOff) (h5 : 5 ≤ m.len) :
    Ends (.pairCheckpointRx m) s (fun v =>
      v.pair.theirs = (valOf (pairWords m 0 2), minuteOfSec s (valOf (pairWords m 2 3) : Nat)) ∧
      ∀ e ∈ v.pair.held, minuteOfSec s (valOf (pairWords m 2 3) : Nat) < e.1 / 65536) := by
  rw [← minuteOfSec_pairTook s m]
  refine ⟨_, ends_onPair h (if_neg ?_), checkpoint_holds _⟩
  rintro (h' | h')
  · exact hs h'
  · omega

theorem pairDigestRx_cases {n : Nat} (h : pairAccepts s m kDigest) :
    let u := pairTook s m
    pairState u = pairPaired ∨ pairState u = pairDrifted → curSlot u (refDie u) = some n →
      (recomputing u n = true → EndsIn (.pairDigestRx m) s { u with pair := { u.pair with theirDigest := some (pairWords m 0 8) } }) ∧
      (recomputing u n = false → EndsIn (.pairDigestRx m) s (compareDigest u (pairWords m 0 8))) := by
  intro u hs hc
  have on : ¬(pairState u ≠ pairPaired ∧ pairState u ≠ pairDrifted) := fun h' => hs.elim h'.1 h'.2
  refine ⟨fun hr => ends_onPair h ((if_neg on).trans ?_), fun hr => ends_onPair h ((if_neg on).trans ?_)⟩
  · rw [hc]
    exact if_pos hr
  · rw [hc]
    exact if_neg (ne_true_of_eq_false hr)

theorem pairProposeRx_idle (h : pairAccepts s m kPropose) (hs : pairState (pairTook s m) ≠ pairPaired ∨ secondary (pairTook s m) = false) :
    EndsIn (.pairProposeRx m) s (pairTook s m) :=
  ends_onPair h (if_pos (hs.imp_right (congrArg not)))

theorem pairAckRx_cases (h : pairAccepts s m kAck) :
    let u := pairTook s m
    (u.pair.joint = none → EndsIn (.pairAckRx m) s u) ∧
    (∀ j, u.pair.joint = some j → pairTime m 1 = j.t →
      (pairWord m 0 = stsOk → slotState u (refDie u) j.slot = 2 → EndsIn (.pairAckRx m) s 
        (answerJoint (armCommit u j.slot j.t) j stsOk [])) ∧
      (pairWord m 0 ≠ stsOk → EndsIn (.pairAckRx m) s (answerJoint u j (pairWord m 0 % 256) [0x8000]))) := by
  intro u
  refine ⟨fun hj => ends_onPair h ?_, fun j hj ht => ⟨fun hw h2 => ends_onPair h ?_, fun hw => ends_onPair h ?_⟩⟩
  · rw [hj]
  · rw [hj]
    dsimp only
    rw [if_neg (not_not.mpr ht), if_pos hw, if_pos h2]
  · rw [hj]
    exact (if_neg (not_not.mpr ht)).trans (if_neg hw)

theorem pairWithdrawRx_cases (h : pairAccepts s m kWithdraw) :
    let u := pairTook s m
    (∀ n, slotIn u (refDie u) 3 = some n → secondary u = true → commitT u (refDie u) = pairTime m 0 → stime u (refDie u) < pairTime m 0 →
      EndsIn (.pairWithdrawRx m) s (disarmCommit u n)) ∧
    (slotIn u (refDie u) 3 = none → EndsIn (.pairWithdrawRx m) s u) := by
  intro u
  refine ⟨fun n hn h2 hc ht => ends_onPair h ?_, fun hn => ends_onPair h ?_⟩
  · rw [hn]
    exact if_pos ⟨h2, hc, ht⟩
  · rw [hn]

theorem pairProbeAckRx_cases (h : pairAccepts s m kProbeAck) :
    let u := pairTook s m
    (u.pair.probeStart ≠ none → EndsIn (.pairProbeAckRx m) s
      (setPairState { u with pair := { u.pair with probeAcked := some (leadMono s) } } pairLinkLost 3)) ∧
    (u.pair.probeStart = none → EndsIn (.pairProbeAckRx m) s u) := by
  rw [← leadMono_pairTook s m]
  exact ⟨fun hp => ends_onPair h (if_pos (Option.isSome_iff_ne_none.mpr hp)),
    fun hp => ends_onPair h (if_neg fun h' => Option.isSome_iff_ne_none.mp h' hp)⟩

theorem pairDownRx_cases (h : pairAccepts s m kDown) :
    let u := pairTook s m
    (u.pair.probeStart = none → EndsIn (.pairDownRx m) s { u with pair := { u.pair with downAt := some (leadMono s) } }) ∧
    (u.pair.probeStart ≠ none → EndsIn (.pairDownRx m) s
      (setPairState { u with pair := { u.pair with downAt := some (leadMono s), probeStart := none, probeAcked := none } } pairFailed 4)) := by
  rw [← leadMono_pairTook s m]
  exact ⟨fun hp => ends_onPair h (if_neg fun h' => Option.isSome_iff_ne_none.mp h' hp),
    fun hp => ends_onPair h (if_pos (Option.isSome_iff_ne_none.mpr hp))⟩

/-! ## What a pair does of its own (R475 to R482) -/

theorem pairHeartbeat_beats {s1 : State} {f : Fired} {die : Nat} (hf : takeFired s die 6 = some (f, s1)) :
    let g := if f.entry.arg = 0 then portA s1 else portB s1
    let beat := cnt (sendPartner s1 g kHeartbeat (heartbeatWords s1 die)) .pairCntHbTx die 0
    pairOn s1 = true → s1.pkg.noLead = false → gpnDie g = die → portIsUp s1 g = true → s1.pair.partner ≠ none →
      (ckptDie beat ≠ die → EndsIn (.pairHeartbeat die) s beat) ∧
      (ckptDie beat = die → beat.pair.ckpts < 99 → EndsIn (.pairHeartbeat die) s
        { beat with pair := { beat.pair with ckpts := beat.pair.ckpts + 1 } }) := by
  intro g beat ho hl hd hu hp
  have on : ¬(!pairOn s1 || s1.pkg.noLead || decide (gpnDie g ≠ die)) = true := by
    rw [ho, hl, hd]
    simp
  have sent : portIsUp s1 g = true ∧ s1.pair.partner.isSome = true := ⟨hu, Option.isSome_iff_ne_none.mpr hp⟩
  refine ⟨fun hc => congrArg Host.Outcome.next ?_, fun hc hk => congrArg Host.Outcome.next ?_⟩
  · rw [hf]
    refine (if_neg on).trans ?_
    dsimp only
    rw [if_pos sent]
    exact if_pos hc.symm
  · rw [hf]
    refine (if_neg on).trans ?_
    dsimp only
    rw [if_pos sent]
    exact (if_neg (not_not.mpr hc.symm)).trans (if_pos hk)

theorem pairHbLoss_cases (hl : s.pkg.noLead = false) (hs : pairState s = pairPaired ∨ pairState s = pairDrifted)
    (hp : s.pair.probeStart = none) :
    let lost := recordF s 11 s.pkg.lead 0xD002 (keeperId s.pkg.lead) [nw (getR s .pairStatus s.pkg.lead 0)]
    (lastHeartbeat s + 3000000 ≤ leadMono s →
      (downHeard lost = true → EndsIn .pairHbLoss s (setPairState lost pairFailed 4)) ∧
      (downHeard lost = false → EndsIn .pairHbLoss s
        (sendProbes { lost with pair := { lost.pair with probeStart := some (leadMono lost), probeAcked := none } }))) ∧
    (leadMono s < lastHeartbeat s + 3000000 → EndsIn .pairHbLoss s s) :=
  ⟨fun ht => ⟨fun hd => congrArg Host.Outcome.next ((if_pos ⟨hl, hs, hp, ht⟩).trans (if_pos hd)),
    fun hd => congrArg Host.Outcome.next ((if_pos ⟨hl, hs, hp, ht⟩).trans (if_neg (ne_true_of_eq_false hd)))⟩,
    fun ht => congrArg Host.Outcome.next (if_neg fun h => absurd h.2.2.2 (Nat.not_le.mpr ht))⟩

theorem pairProbes_cases {at_ : Nat} (hl : s.pkg.noLead = false) (hp : s.pair.probeStart = some at_) :
    (s.pair.probeSent + 5000000 ≤ leadMono s → EndsIn .pairProbeSend s (sendProbes s)) ∧
    (leadMono s < s.pair.probeSent + 5000000 → EndsIn .pairProbeSend s s) ∧
    (s.pair.probeAcked.getD at_ + 50000000 ≤ leadMono s → EndsIn .pairProbeTimeout s
      (setPairState { s with pair := { s.pair with probeStart := none, probeAcked := none } }
        (if secondary s then pairIsolated else pairFailed) 3)) ∧
    (leadMono s < s.pair.probeAcked.getD at_ + 50000000 → EndsIn .pairProbeTimeout s s) := by
  refine ⟨fun ht => congrArg Host.Outcome.next (if_pos ⟨hl, by rw [hp]; rfl, ht⟩),
    fun ht => congrArg Host.Outcome.next (if_neg fun h => absurd h.2.2 (Nat.not_le.mpr ht)),
    fun ht => congrArg Host.Outcome.next ?_, fun ht => congrArg Host.Outcome.next ?_⟩
  · rw [hp]
    exact if_pos ⟨hl, ht⟩
  · rw [hp]
    exact if_neg fun h => absurd h.2 (Nat.not_le.mpr ht)

theorem pairAckTimeout_cases {j : Joint} (hl : s.pkg.noLead = false) (hj : s.pair.joint = some j) :
    (j.at_ + 10000000 ≤ leadMono s →
      let v := answerJoint s j stsBusy []
      EndsIn .pairAckTimeout s (if withdrawable v j.t then sendWithdraw v j.t else v)) ∧
    (leadMono s < j.at_ + 10000000 → EndsIn .pairAckTimeout s s) := by
  refine ⟨fun ht => congrArg Host.Outcome.next ?_, fun ht => congrArg Host.Outcome.next ?_⟩
  · rw [hj]
    exact if_pos ⟨hl, ht⟩
  · rw [hj]
    exact if_neg fun h => absurd h.2 (Nat.not_le.mpr ht)

theorem pairWithdrawSend_cases {tw : Nat × Nat} (hl : s.pkg.noLead = false) (hw : s.pair.withdraw = some tw) :
    (leadMono s < tw.2 + 1000000 → EndsIn .pairWithdrawSend s s) ∧
    (tw.2 + 1000000 ≤ leadMono s → withdrawable s tw.1 = true → EndsIn .pairWithdrawSend s (sendWithdraw s tw.1)) ∧
    (tw.2 + 1000000 ≤ leadMono s → withdrawable s tw.1 = false →
      EndsIn .pairWithdrawSend s { s with pair := { s.pair with withdraw := none } }) := by
  have due (ht : tw.2 + 1000000 ≤ leadMono s) : ¬(s.pkg.noLead = true ∨ leadMono s < tw.2 + 1000000) := by
    rw [hl]
    rintro (h | h)
    · cases h
    · omega
  refine ⟨fun ht => congrArg Host.Outcome.next ?_, fun ht h => congrArg Host.Outcome.next ?_, fun ht h => congrArg Host.Outcome.next ?_⟩
  · rw [hw]
    exact if_pos (.inr ht)
  · rw [hw]
    exact (if_neg (due ht)).trans (if_pos h)
  · rw [hw]
    exact (if_neg (due ht)).trans (if_neg (ne_true_of_eq_false h))

theorem groupEntryRetry_cases (hl : s.pkg.noLead = false) :
    (s.pair.retryAt + 1000000 ≤ leadMono s → EndsIn .groupEntryRetry s (forEach s.pair.retry putGroup s)) ∧
    (leadMono s < s.pair.retryAt + 1000000 → EndsIn .groupEntryRetry s s) := by
  refine ⟨fun ht => congrArg Host.Outcome.next (if_neg ?_), fun ht => congrArg Host.Outcome.next (if_pos (.inr ht))⟩
  rw [hl]
  rintro (h | h)
  · cases h
  · exact absurd h (Nat.not_lt.mpr ht)

theorem pairHelloSend_sends (hr : s.pkg.running = true) (hl : s.pkg.noLead = false) (hs : pairState s = pairForming)
    (ht : s.pair.helloAt + 10000000 ≤ leadMono s) : Ends .pairHelloSend s (fun v => v.pair.helloAt = leadMono s) :=
  ⟨_, congrArg Host.Outcome.next (if_pos ⟨hr, hl, hs, ht⟩), rfl⟩

end

/-- Settles O51: a frame by the checks of its arrival and by its kind; the pair's own happenings by their times. -/
theorem pairFrames : Obligations.PairFrames := by
  unfold Obligations.PairFrames
  intro s s1 m c kind n die at_ f j tw
  have unfit_iff : unfit (pairTook s m) m ↔ ¬(pairWord m 3 = variantCode s.pkg.n ∧
      decide (pairWord m 4 % 2 = 1) ≠ secondary (pairTook s m) ∧
      pairWord m 5 / 256 = (runningRelease (pairTook s m)).toNat / 256) := by
    unfold unfit
    rw [pkg_pairTook]
    tauto
  refine ⟨pairFrame_refused, fun h h6 => ⟨fun hf => (pairHelloRx_cases h h6).1 (unfit_iff.mpr hf),
      fun hf => (pairHelloRx_cases h h6).2 fun hu => unfit_iff.mp hu hf⟩,
    fun h hs => pairHeartbeatRx_cases h hs, pairCheckpointRx_holds, pairDigestRx_cases,
    fun h => ⟨fun hs h2 => ends_onPair h ?_, pairProposeRx_idle h⟩, fun h => ⟨(pairAckRx_cases h).1, (pairAckRx_cases h).2 j⟩,
    fun h => (pairWithdrawRx_cases h).1 n, fun h => (pairWithdrawRx_cases h).2, fun h => ends_onPair h rfl, pairProbeAckRx_cases,
    pairDownRx_cases, pairHelloSend_sends, fun hs => congrArg Host.Outcome.next (if_neg fun h => hs h.2.2.1), fun hf => ?_,
    pairHeartbeat_beats, pairHbLoss_cases, pairProbes_cases, pairAckTimeout_cases, pairWithdrawSend_cases, groupEntryRetry_cases⟩
  · refine (if_neg ?_).trans ?_
    · rw [hs, h2]
      decide
    · rfl
  · refine congrArg Host.Outcome.next ?_
    rw [hf]

end Sys2Proof.Proofs
end
